-- ==== Sys2Proof/Word.lean ====
section
/-! DEFINITION. The byte and the byte string: the only two word types the FM768's interfaces share (R12, R13). -/

namespace Sys2Proof

/-- One byte, as registers, mailbox areas, frames and memories hold it. -/
abbrev Byte := BitVec 8

/-- A byte string, byte 0 first. -/
abbrev Bytes := List Byte

end Sys2Proof
end

