-- ==== Sys2Proof/Syntax.lean ====
section
/-! DEFINITION. The commands of the FM768: one constructor per row of spec/opcode_table.json, with its operands.
The table gives its rows no bits, so the operands are chosen here (log entry 5): what names the thing acted on, what
comes from outside the device with the happening, and what a measurement of the happening found. -/

namespace Sys2Proof

/-- What host memory answers when the device reads it for a command (R410, R416): the bytes, a UR or CA completion,
or no completion within the completion timeout. -/
inductive HostAnswer where
  | data (bytes : Bytes)
  | urca
  | timeout
  deriving DecidableEq, Repr

/-- A Clause 73 page with what its next pages add (Table 2.6). -/
structure AnPage where
  /-- Technology abilities, bit `i` for row `i` of the table's list of thirteen. -/
  tech : Nat := 0
  /-- FEC ability: bit 0 BASE-R FEC, bit 1 RS(528,514). -/
  fecAble : Nat := 0
  /-- FEC request, same bits. -/
  fecWant : Nat := 0
  /-- EEE ability. -/
  eee : Bool := false
  /-- Pause ability: bit 0 the sender receives PAUSE, bit 1 it sends PAUSE. -/
  pause : Nat := 0
  deriving DecidableEq, Repr

/-- What LPI signalling a direction carries (Table 2.11a). -/
inductive Lpi where
  | off
  | fastWake
  | deepSleep
  deriving DecidableEq, Repr

/-- A partner's request or behaviour in link training (Table 2.8). -/
inductive TrainReq where
  /-- A step of tap `tap` (0 for c(-3) to 4 for c(+1)), up or down by one. -/
  | step (tap : Nat) (up : Bool)
  /-- A preset that the protocol defines, with the taps it asks for. -/
  | preset (taps : List Int)
  /-- A preset that the protocol does not define. -/
  | undefinedPreset
  /-- A new request before the partner has seen the status of the one before. -/
  | overlapping
  /-- The partner's return to hold, which ends a handshake. -/
  | hold
  /-- A training frame with a failed check. -/
  | badFrame
  deriving DecidableEq, Repr

/-- What the capability check of CAPEX found (Table 2.8). -/
inductive CapexResult where
  | matched
  | modeMismatch
  | deskew
  deriving DecidableEq, Repr

/-- A Directional Quiet sequence of the partner's transmitter (R73, R74). -/
inductive QuietSignal where
  | sleep
  | refresh
  | wake
  deriving DecidableEq, Repr

/-- What the enumeration of a module found (R299). -/
structure MemIdent where
  type3 : Bool
  mld : Bool
  capacity : Nat
  mediaReady : Bool
  answered : Bool
  deriving DecidableEq, Repr

/-- Who made a read that a module answered with poison (Table 10.3). -/
inductive PoisonReader where
  /-- The ledger front end, for the flush request at the front of a quadrant's released requests. -/
  | ledger (quad : Nat)
  /-- A mover channel. -/
  | mover (ch : Nat)
  /-- LEDGER.SEAL_GET, which meets the poison when it reads the seal there (R304). -/
  | sealGet
  deriving DecidableEq, Repr

/-- A PMBus command of Table 17.1. -/
inductive PmbusCmd where
  | readPout
  | statusWord
  | readVout
  | readIout
  | readTemp
  | voutMode
  deriving DecidableEq, Repr

/-- What a unit's event was worth in one beat (R343): the sum of its values over the cycles, and the number of cycles
whose value is non-zero after a cycle of value 0. -/
structure PmcSample where
  unit : Nat
  code : Nat
  qual : Nat
  sum : Nat
  edges : Nat
  deriving DecidableEq, Repr

/-- Bytes of a copy being sent whose cells a failed plane has not resent when the egress half needs them (R227). -/
structure LateCell where
  copy : Nat
  start : Nat
  count : Nat
  deriving DecidableEq, Repr

/-- What the MAC merge sublayer makes of a received frame: a whole frame, a reassembly error, or a partner's verify
mPacket (R101). -/
inductive MmKind where
  | whole | badAssembly | verify
  deriving DecidableEq, Repr

/-- What comes to a beat boundary from outside the phases: the sample of the FLOW_OK pin (R482) and the counts of the
unit events in the beat that ends (R343). -/
structure BeatInput where
  flowOk : Bool
  events : List PmcSample
  deriving DecidableEq, Repr

/-- The commands of the FM768, one per row of the opcode table. -/
inductive Instr where
  /-- BEAT_BOUNDARY. At the end of each 1 μs beat the device runs phases P1 to P11 in order. (R41) -/
  | beatBoundary (inp : BeatInput)
  /-- FRAME_RECEIVE. A lane die receives a frame, checks it at the MAC and places it in its octet FIFO. (R44) -/
  | frameReceive (port : Nat) (frame : Bytes) (arrived : Nat) (codeErr : Bool) (mm : MmKind) (ns : Nat)
  /-- PFC_FRAME_RECEIVE. A received PFC frame pauses the priorities enabled both in the frame and in the port's mask. (R96) -/
  | pfcFrameReceive (port vec : Nat) (times : List Nat) (ns : Nat)
  /-- PAUSE_FRAME_RECEIVE. A received Annex 31B PAUSE frame pauses a port that runs PAUSE. (R96) -/
  | pauseFrameReceive (port time ns : Nat)
  /-- PAUSE_TIMER_EXPIRE. A received pause time counts down at the port rate to zero and the priority becomes eligible again. (R98) -/
  | pauseTimerExpire (port prio ns : Nat)
  /-- PFC_FRAME_SEND. A change in the XOFF set sends a PFC or PAUSE frame after the frame on the wire. (R98) -/
  | pfcFrameSend (port : Nat)
  /-- PFC_RESEND. While XOFF holds, the PFC or PAUSE frame is resent every 8 beats. (R98) -/
  | pfcResend (port : Nat)
  /-- PFC_WATCHDOG_TRIP. After WD_BEATS of continuous received pause the watchdog trips and drops the priority's frames. (R100) -/
  | pfcWatchdogTrip (port prio : Nat)
  /-- PFC_WATCHDOG_RESTORE. After RESTORE_BEATS without non-zero pause the watchdog restores pause handling. (R100) -/
  | pfcWatchdogRestore (port prio : Nat)
  /-- MM_VERIFY_RESPONSE. A verify response received from the partner makes preemption verification succeed. (R101) -/
  | mmVerifyResponse (port : Nat)
  /-- MM_VERIFY_TIMEOUT. The verify time expires, and after 3 attempts the verify status becomes FAILED. (R101) -/
  | mmVerifyTimeout (port : Nat)
  /-- INGRESS_SLOT. A waiting frame or injection takes an ingress slot and runs the ingress pipeline up to admission. (R29) -/
  | ingressSlot (slice ns : Nat)
  /-- PARSE_RESUME. A packet waiting in the parse buffer resumes when the bytes it needs arrive. (R115) -/
  | parseResume (pkt arrived ns : Nat)
  /-- CELL_ARRIVE_RESEQUENCER. A frame's first cell reaches the egress resequencer and is released, held or dropped. (R230) -/
  | cellArriveResequencer (pkt slice ns : Nat)
  /-- RESEQ_SKIP_TIMEOUT. When EXPECTED has not arrived 32 beats after the oldest waiting frame, the stream skips to the lowest waiting number. (R231) -/
  | reseqSkipTimeout (slice stream : Nat)
  /-- CROSSING_CELL_CRC_FAIL. A cell that fails its CRC is replayed from the replay buffer. (R227) -/
  | crossingCellCrcFail (plane quad pkt cell : Nat)
  /-- XBAR_PLANE_FAIL. A plane fails after 16 failed replays or lost link training, and its cells are resent on the other planes. (R227) -/
  | xbarPlaneFail (plane quad : Nat) (late : List LateCell)
  /-- EGRESS_CUT_THROUGH_START. A sprayed cut-through frame starts 128 cycles after its first cell arrives, or when all its cells are present. (R226) -/
  | egressCutThroughStart (copy ns : Nat)
  /-- SCHEDULER_DECISION. When a port can start a frame, the scheduler picks an eligible queue and the egress half starts the frame. (R242) -/
  | schedulerDecision (port ns : Nat)
  /-- TRANSMIT_COMPLETE. The last byte of a frame leaves the egress ball: counts, cell free and end of life. (R268) -/
  | transmitComplete (port ns : Nat)
  /-- SOJOURN_DISCARD. At P7 of boundary b + S the frames slotted in beat b that have not started are discarded. (R248) -/
  | sojournDiscard
  /-- HOLD_SOJOURN_DROP. A held frame is dropped when it reaches the maximum sojourn. (R103) -/
  | holdSojournDrop (port : Nat)
  /-- HOLD_WINDOW_EXPIRE. At boundary d + HOLD with the port still down, the held frames are flushed and the window ends. (R104) -/
  | holdWindowExpire (port : Nat)
  /-- GATE_EVENT. At a gate-list instant of the hardware clock the port's gate states change. (R255) -/
  | gateEvent (port ns : Nat)
  /-- GATE_CONFIG_CHANGE. At ConfigChangeTime a new admin gate list becomes operational. (R255) -/
  | gateConfigChange (port ns : Nat)
  /-- LANE_ENERGY_DETECT. Partner energy present for 10 μs moves the lane to AN or TRAIN. (R60) -/
  | laneEnergyDetect (lane : Nat)
  /-- AN_RESOLVED. Clause 73 auto-negotiation resolves a common ability, or ends with no common ability. (R63) -/
  | anResolved (lane : Nat) (page : AnPage)
  /-- PARTNER_TRAINING_REQUEST. A partner training request is answered as Table 2.8 gives. (R65) -/
  | partnerTrainingRequest (lane : Nat) (req : TrainReq)
  /-- TRAIN_RECEIVER_READY. Both sides signal receiver ready and the lane moves to LOCK. (R60) -/
  | trainReceiverReady (lane : Nat)
  /-- LANE_LOCK_ACHIEVED. Symbol, FEC and alignment-marker lock on all lanes moves the port to CAPEX. (R60) -/
  | laneLockAchieved (lane : Nat)
  /-- CAPEX_COMPLETE. The mode, FEC and deskew check moves the lane to ACTIVE or back to RX_DETECT. (R60) -/
  | capexComplete (lane : Nat) (check : CapexResult)
  /-- TRAINING_LIMIT_EXPIRE. The training limit expires in TRAIN. (R61) -/
  | trainingLimitExpire (lane : Nat)
  /-- LOCK_LIMIT_EXPIRE. The lock limit expires in LOCK. (R61) -/
  | lockLimitExpire (lane : Nat)
  /-- CAPABILITY_LIMIT_EXPIRE. The capability limit expires in CAPEX. (R61) -/
  | capabilityLimitExpire (lane : Nat) (deskew : Bool)
  /-- BLIND_LIMIT_EXPIRE. The blind limit expires in BLIND. (R61) -/
  | blindLimitExpire (lane : Nat)
  /-- RELINK_WINDOW_EXPIRE. The relink window expires without energy. (R61) -/
  | relinkWindowExpire (lane : Nat)
  /-- RELINK_LIMIT_EXPIRE. The relink limit expires after energy is seen. (R61) -/
  | relinkLimitExpire (lane : Nat)
  /-- RETRY_BACKOFF_EXPIRE. The retry backoff after a failed bring-up ends and the lane starts again in RX_DETECT. (R66) -/
  | retryBackoffExpire (lane : Nat)
  /-- LOS_DETECT. Signal energy below threshold for 1 μs takes the lane out of ACTIVE. (R71) -/
  | losDetect (lane : Nat)
  /-- CDR_LOCK_LOSS. Loss of clock or symbol lock takes the lane out of ACTIVE. (R71) -/
  | cdrLockLoss (lane : Nat)
  /-- FEC_ALIGN_LOSS. Loss of FEC codeword or alignment-marker lock takes the lane out of ACTIVE. (R71) -/
  | fecAlignLoss (lane : Nat)
  /-- HI_SER. The high-symbol-error condition takes the lane down when enabled. (R71) -/
  | hiSer (lane : Nat)
  /-- RS_FAULT_RECEIVE. The reconciliation sublayer receives Local Fault or Remote Fault, or stops receiving it. (R89) -/
  | rsFaultReceive (port : Nat) (lf rf : Bool)
  /-- PARTNER_TRAINING_SEEN. Partner training frames recognised for 100 μs move the lane to TRAIN. (R68) -/
  | partnerTrainingSeen (lane : Nat)
  /-- KNOWN_GOOD_STORE. After each second of ACTIVE without an uncorrectable codeword the known-good set is stored. (R69) -/
  | knownGoodStore (lane : Nat) (dsp : Bytes)
  /-- QUIET_IDLE_THRESHOLD. When the idle threshold passes with every condition met, the transmitter enters Directional Quiet. (R73) -/
  | quietIdleThreshold (port : Nat)
  /-- QUIET_WAKE. A frame queued for a quiet port starts the wake sequence. (R74) -/
  | quietWake (port : Nat)
  /-- QUIET_WAKE_COMPLETE. After the wake time the transmitter sends data again. (R74) -/
  | quietWakeComplete (port : Nat)
  /-- QUIET_REFRESH. A quiet transmitter sends a 1 μs refresh every 50 μs. (R74) -/
  | quietRefresh (port : Nat)
  /-- PARTNER_QUIET_SIGNAL. The receiver follows the partner's sleep, refresh or wake sequence. (R73) -/
  | partnerQuietSignal (port : Nat) (signal : QuietSignal)
  /-- QUIET_REFRESH_MISS. No refresh or wake for 150 μs declares LOS with QUIET_REFRESH. (R76) -/
  | quietRefreshMiss (port : Nat)
  /-- EEE_LPI_RECEIVE. EEE LPI signalling from the partner is followed on mode-2 ports. (R78) -/
  | eeeLpiReceive (port : Nat) (lpi : Lpi)
  /-- AGEING_VISIT. Every AGE_STEP-th boundary the sweep visits one bucket and removes idle entries at P4. (R172) -/
  | ageingVisit (quad : Nat)
  /-- FLAP_RELEASE. DAMP_HOLD beats after a freeze, FROZEN is cleared at P2. (R170) -/
  | flapRelease (quad key : Nat)
  /-- FLAP_WINDOW_END. A key's damping window ends and its tracker slot is freed. (R170) -/
  | flapWindowEnd (quad key : Nat)
  /-- NH_QUARANTINE_END. At boundary d + S + 16 a deleted next hop is cleared and can be written again. (R165) -/
  | nhQuarantineEnd (index : Nat)
  /-- TDC_LOCK_TIMEOUT. A bucket lock held for TDC_LOCK_BEATS stops its channel with CODE 5. (R175) -/
  | tdcLockTimeout (ch : Nat)
  /-- TDC_DONE. A table DMA operation completes all its records. (R174) -/
  | tdcDone (ch : Nat)
  /-- TDC_HOST_ERROR. A host completion timeout or unsupported request stops the channel with CODE 4. (R176) -/
  | tdcHostError (ch : Nat)
  /-- DEFERRED_LEARN_RELEASE. After a lock is released, the deferred events are released at the next boundary. (R175) -/
  | deferredLearnRelease (quad : Nat)
  /-- TERN_BLOCK_MOVE_DONE. The last step of a block move writes the hole, releases the lock and raises EV_TABLE_TERN_MOVED. (R194) -/
  | ternBlockMoveDone (quad : Nat)
  /-- RULE_DRAIN_COMPLETE. At P5 of the first boundary at which the draining bank's counter reads zero, the bank becomes RETIRED. (R129) -/
  | ruleDrainComplete
  /-- RULE_DRAIN_STUCK. At the drain bound with packets still counted, the bank is forced RETIRED and its stragglers are dropped. (R131) -/
  | ruleDrainStuck
  /-- BUF_AUDIT_COMPLETE. The background HELD count finishes and a mismatch raises BUF_LEAK. (R237) -/
  | bufAuditComplete
  /-- MINUTE_END. The hardware clock reaches the end of the open minute. (R282) -/
  | minuteEnd
  /-- ROLL_START. At P8 of boundary e + S_max + 16 the roll of the minute begins with FLUSH. (R282) -/
  | rollStart
  /-- ROLL_FLUSH_DONE. No request of the minute remains in any flush queue, and SCAN begins. (R283) -/
  | rollFlushDone
  /-- ROLL_SCAN_DONE. The record scan completes, the deferred ring is applied and TENANT begins. (R283) -/
  | rollScanDone
  /-- ROLL_TENANT_DONE. Tenant-minute records and the Merkle root are written and SIGN begins. (R283) -/
  | rollTenantDone
  /-- ROLL_SIGN_DONE. Ittas completes the seal signature and the seal is published. (R293) -/
  | rollSignDone
  /-- FLUSH_REQUEST_APPLY. The ledger front end applies one flush request to its record by read-modify-write. (R276) -/
  | flushRequestApply (quad : Nat)
  /-- MEM_PRESENCE_STABLE. MEMp_PRSNT_N asserted for 100 ms moves an EMPTY port to TRAINING. (R300) -/
  | memPresenceStable (port : Nat)
  /-- MEM_PERST_RELEASE. After 100 ms of TRAINING, MEMp_PERST_N is released. (R300) -/
  | memPerstRelease (port : Nat)
  /-- MEM_LINK_L0. The CXL link reaches L0 in CXL mode and the port enters ENUMERATING. (R300) -/
  | memLinkL0 (port rate width : Nat) (cxl : Bool)
  /-- MEM_TRAINING_TIMEOUT. No L0 within 200 ms of PERST release leaves the port FAILED. (R300) -/
  | memTrainingTimeout (port : Nat)
  /-- MEM_ENUMERATION_DONE. Ittas accepts or refuses the module and the port becomes READY or FAILED. (R299) -/
  | memEnumerationDone (port : Nat) (ident : MemIdent)
  /-- MEM_LINK_DOWN. The module's link leaves L0 and the module becomes LOST. (R309) -/
  | memLinkDown (port : Nat)
  /-- MEM_PRESENCE_LOST. MEMp_PRSNT_N deasserted for 100 μs makes the module LOST or the port EMPTY. (R309) -/
  | memPresenceLost (port : Nat)
  /-- MEM_REQUEST_TIMEOUT. A request unanswered for MEM_TIMEOUT makes the module LOST. (R309) -/
  | memRequestTimeout (port : Nat)
  /-- MEM_POISON_READ. A read returns poison and is repaired from the mirror or treated as lost. (R301) -/
  | memPoisonRead (port addr : Nat) (reader : PoisonReader)
  /-- MEM_BAD_COMPLETION. An unexpected or malformed completion or unsupported message is discarded and logged. (R301) -/
  | memBadCompletion (port code : Nat)
  /-- MEM_HEALTH_RECORD. A module event record is read and raised as EV_MEM_HEALTH. (R301) -/
  | memHealthRecord (port : Nat) (record : Bytes)
  /-- MEM_OFFLINE_REACHED. The outstanding requests of an offlined module complete and it becomes OFFLINE. (R310) -/
  | memOfflineReached (port : Nat)
  /-- RESILVER_COMPLETE. The mirror copy completes and the module becomes ONLINE at the next boundary. (R312) -/
  | resilverComplete (port : Nat)
  /-- ZEROING_COMPLETE. Zeroing and the seal-area copy complete, and the unit waits for the next roll. (R313) -/
  | zeroingComplete (port : Nat)
  /-- MOVER_CHAIN_DONE. A host descriptor chain completes its last descriptor. (R320) -/
  | moverChainDone (ch : Nat)
  /-- MOVER_DESCRIPTOR. The mover fetches and runs one host descriptor. (R320) -/
  | moverDescriptor (ch : Nat) (desc table data : HostAnswer)
  /-- MOVER_CHANNEL_STOP. A channel stops with a non-zero CODE, halts and raises its fault. (R321) -/
  | moverChannelStop (ch code addr : Nat)
  /-- CAPTURE_RECORD_WRITE. The mover writes a queued capture record to its region, or discards it in STOP mode. (R308) -/
  | captureRecordWrite (quad : Nat)
  /-- LANTERN_RING_WRITE. The mover writes a queued Lantern record to its ring stream. (R337) -/
  | lanternRingWrite
  /-- IPFIX_FLUSH_TIMEOUT. FLUSH beats after its first record, a partial IPFIX message is sent. (R339) -/
  | ipfixFlushTimeout (stream slice : Nat)
  /-- IPFIX_TEMPLATE_REFRESH. Every REFRESH seconds the IPFIX templates are sent again. (R341) -/
  | ipfixTemplateRefresh (stream slice : Nat)
  /-- PPS_IN_EDGE. A selected PPS_IN edge latches the hardware clock. (R362) -/
  | ppsInEdge (falling : Bool) (ns : Nat)
  /-- PPS_OUT_SECOND. PPS_OUT rises when the clock reaches a whole second plus the offset. (R363) -/
  | ppsOutSecond
  /-- PPS_OUT_WIDTH_END. PPS_OUT falls after WIDTH ms. (R363) -/
  | ppsOutWidthEnd
  /-- REFCLK_LOSS. A reference clock shows no edge for 100 ns and REFCLK_LOSS is raised. (R514) -/
  | refclkLoss (inst : Nat)
  /-- PLL_UNLOCK. A PLL loses lock and PLL_UNLOCK is raised. (R514) -/
  | pllUnlock (pll : Nat)
  /-- COLLECTOR_RUN_STOPPED_BEAT. While the beat is stopped, the collector runs F1 to F7 every 1 μs on the service-die oscillator. (R522) -/
  | collectorRunStoppedBeat (flowOk : Bool)
  /-- FAULT_DETECT. A fault source detects an event or the onset of a level condition, to be handled at the next P9. (R451) -/
  | faultDetect (src inst cls : Nat) (detail : Bytes)
  /-- FAULT_CAUSE_END. The condition of a level source ends. (R460) -/
  | faultCauseEnd (src inst : Nat)
  /-- GRACE_TIMER_EXPIRE. At F4 a grace timer ends and applies or drops the held escalation or Snuffer action. (R459) -/
  | graceTimerExpire (src : Nat)
  /-- ITTAS_WDOG_EXPIRE. WICK_WDOG beats without a restart raise ITTAS_WDOG. (R466) -/
  | ittasWdogExpire
  /-- ITTAS_WDOG_RESTART. Ittas restarts its watchdog. (R466) -/
  | ittasWdogRestart
  /-- WICK_TOGGLE. At P11 of a boundary where k + 1 is a multiple of 500, WICK toggles, stays low or resumes. (R465) -/
  | wickToggle
  /-- POLL_CYCLE_END. Every 250 beats M is recomputed, the steering power P is set and disagreement is tested. (R474) -/
  | pollCycleEnd
  /-- PMBUS_TRANSACTION. A 62.5 μs PMBus slot reads one regulator value, or counts a failed transaction. (R471) -/
  | pmbusTransaction (reg : Nat) (cmd : PmbusCmd) (ok : Bool) (value : Nat)
  /-- PMB_ALERT. PMB_ALERT_N assertion takes the next two slot-3 turns to find and read the alerting regulator. (R471) -/
  | pmbAlert (reg status : Nat)
  /-- MISMATCH_STEER_BEGIN. A disagreement above 15 % for 100 ms begins mismatch steering and raises MODEL_MISMATCH. (R474) -/
  | mismatchSteerBegin
  /-- MISMATCH_CONTAINED. A disagreement lasting beyond 10 s raises MODEL_MISMATCH again as CONTAINED. (R474) -/
  | mismatchContained
  /-- SENSOR_CONVERSION. Each thermal sensor converts every 16 beats and is excluded when out of range. (R480) -/
  | sensorConversion (sensor : Nat) (reading : Int)
  /-- SENSOR_STALE. A sensor that has not converted for 1,000 beats is excluded. (R480) -/
  | sensorStale (sensor : Nat)
  /-- DROOP_EPISODE. A supply excursion stretches the core clock and is counted. (R479) -/
  | droopEpisode (cycles ns : Nat)
  /-- COOLANT_LOW. 10,000 consecutive low FLOW_OK samples raise COOLANT_LOW and impose D4. (R482) -/
  | coolantLow
  /-- COOLANT_STOP. 500,000 consecutive low samples raise the FATAL COOLANT_STOP and stop the device. (R482) -/
  | coolantStop
  /-- COOLANT_RESTORE. FLOW_OK high for 100,000 beats ends the COOLANT_LOW cause. (R482) -/
  | coolantRestore
  /-- IDLE_UNIT_GATE. A unit with no work for 100 beats has its clock gated. (R478) -/
  | idleUnitGate (unit : Nat)
  /-- UNIT_UNGATE. A gated unit is ungated when work or a lane state change arrives. (R478) -/
  | unitUngate (unit : Nat)
  /-- HP_VERSION. The health port returns its version byte. (R483) -/
  | hpVersion
  /-- HP_SUMMARY. The health port returns the summary word. (R483) -/
  | hpSummary
  /-- HP_TMAX. The health port returns T_max. (R483) -/
  | hpTmax
  /-- HP_TMAX_SENSOR. The health port returns the number of the hottest sensor. (R483) -/
  | hpTmaxSensor
  /-- HP_POWER. The health port returns P. (R483) -/
  | hpPower
  /-- HP_MEAS. The health port returns M. (R483) -/
  | hpMeas
  /-- HP_EST. The health port returns E_c. (R483) -/
  | hpEst
  /-- HP_FLOW. The health port returns the coolant flags. (R483) -/
  | hpFlow
  /-- HP_FAULTS. The health port returns FLT_STATUS and the lowest FATAL source. (R483) -/
  | hpFaults
  /-- HP_SENSOR. The health port returns one sensor reading. (R483) -/
  | hpSensor (sensor : Nat)
  /-- HP_EXT_LEVEL_READ. The health port returns the board's requested minimum level. (R483) -/
  | hpExtLevelRead
  /-- HP_EXT_LEVEL_WRITE. The board writes a minimum Dimmer level of 0 to 4. (R483) -/
  | hpExtLevelWrite (level : Nat)
  /-- PWRGOOD_RISE. PWRGOOD rises, the straps are sampled and boot begins. (R491) -/
  | pwrgoodRise (straps : Nat)
  /-- PWRGOOD_FALL. PWRGOOD low starts a cold start and the pins take their reset states. (R512) -/
  | pwrgoodFall
  /-- PERST_N_ASSERT. PERST_N resets the host interface, or the core when STRAP[1] is set. (R489) -/
  | perstNAssert
  /-- PERST_N_DEASSERT. PERST_N release lets the PCIe endpoint train. (R492) -/
  | perstNDeassert
  /-- BOOT_STAGE_COMPLETE. A boot stage completes and the next begins, up to READY or RECOVERY. (R491) -/
  | bootStageComplete (ms : Nat)
  /-- OTHER_SLOT_CHECK. After core reset Ittas checks the other slot and marks it WRITTEN or EMPTY. (R438) -/
  | otherSlotCheck
  /-- FW_FLASH_WRITE_DONE. A VERIFIED image is written to flash and read back, and becomes WRITTEN or EMPTY. (R438) -/
  | fwFlashWriteDone (ok : Bool) (offset : Nat)
  /-- IDENTITY_CERT_WRITE. Ittas writes the installed identity certificate to the boot flash. (R430) -/
  | identityCertWrite
  /-- HANDOVER_STEP_DONE. A handover step H1 to H5 completes and the next begins; H5 ends the window. (R441) -/
  | handoverStepDone (ok : Bool) (us : Nat)
  /-- HANDOVER_TIMER_EXPIRE. H5 not done within 180 ms rolls back to the outgoing image. (R441) -/
  | handoverTimerExpire
  /-- ITTAS_RESTART_START. 100 ms after a halt, or 10 ms after SYS.RESET ITTAS, the security block restarts Ittas. (R495) -/
  | ittasRestartStart (measured : Bool)
  /-- ITTAS_RESTART_DONE. The restarted Ittas imports its state, clears its latches and sets ITTAS_RUN. (R495) -/
  | ittasRestartDone (imported : Bool)
  /-- CORE_RESET_START. 10 ms after a SYS.RESET CORE response, the core reset begins. (R504) -/
  | coreResetStart
  /-- EMBER_CONFIG_LOADED. T3 completes loading the slice's configuration shadow into the Ember. (R499) -/
  | emberConfigLoaded
  /-- EMBER_SWITCH. At P3 the octet selectors switch and the streams change epoch, or the resequencer state passes in a planned move. (R499) -/
  | emberSwitch
  /-- SELF_CHECK_DONE. A slice self-check completes and raises EV_SLICE_CHECKED. (R502) -/
  | selfCheckDone (slice code : Nat)
  /-- RETURN_PENDING_EXPIRE. A pending return lapses 60 s after TRUST.RETURN. (R445) -/
  | returnPendingExpire
  /-- DEBUG_TOKEN_SHIFT. A DEBUG token shifted in through the TAP opens Ittas core debug in PROVISIONED. (R444) -/
  | debugTokenShift (token : Bytes)
  /-- REGISTER_WRITE. A write to a register without its own row sets its fields, or is discarded for bad size; `host` is what host memory answers a table DMA operation that the write starts. (R371) -/
  | registerWrite (pf offset size value : Nat) (host : HostAnswer)
  /-- MAILBOX_AREA_WRITE. A BAR2 write stores request bytes, or is discarded under the mailbox rules. (R400) -/
  | mailboxAreaWrite (offset : Nat) (bytes : Bytes)
  /-- MBX_DOORBELL. A doorbell makes the mailbox BUSY and copies the header, or is ignored while BUSY. (R405) -/
  | mbxDoorbell (m value : Nat)
  /-- COMMAND_ACCEPT. An eligible command is accepted or refused by Ittas. (R406) -/
  | commandAccept (m : Nat) (h : HostAnswer)
  /-- RESPONSE_POST. Ittas posts a response, sets DONE and the mailbox cause. (R408) -/
  | responsePost (m : Nat)
  /-- MBX_GUARD_EXPIRE. The guard timer reaches MBX_GUARD and the hardware posts ST_TIMEOUT. (R412) -/
  | mbxGuardExpire (m : Nat)
  /-- EVENT_RING_WRITE. The event engine writes a waiting event to the ring when there is room. (R419) -/
  | eventRingWrite
  /-- MBX_EVT_TAIL_WRITE. Software advances the event ring TAIL, freeing room, or the write is ignored. (R419) -/
  | mbxEvtTailWrite (value : Nat)
  /-- MSIX_MESSAGE. A pending vector sends its MSI-X message once enabled and its moderation interval has passed. (R376) -/
  | msixMessage (pf vector : Nat)
  /-- IRQ_TEST_WRITE. Writing IRQ_TEST sets cause status bits as hardware sets. (R375) -/
  | irqTestWrite (hi value : Nat)
  /-- HRQ_TAIL_WRITE. Software advances a ring's TAIL, or stops the ring with CODE 1 on overflow. (R382) -/
  | hrqTailWrite (ring value : Nat)
  /-- HRQ_RESET. RESET drops the frame in progress and resets HEAD, TAIL and the stop state. (R384) -/
  | hrqReset (ring : Nat)
  /-- HRQ_ENABLE. Setting ENABLE starts the ring, or sets CODE 1 on bad settings. (R383) -/
  | hrqEnable (ring value : Nat)
  /-- RX_FRAME_DELIVER. A frame for port 800 is steered to an RX ring and written into host buffers. (R386) -/
  | rxFrameDeliver (ns : Nat) (descs : HostAnswer)
  /-- TX_FRAME_FETCH. The MAC fetches a whole frame from the highest ready TX ring and hands it to its slice. (R390) -/
  | txFrameFetch (descs : List HostAnswer) (data : HostAnswer)
  /-- HRQ_INTERRUPT_INTERVAL. INTERVAL beats after an unsignalled completion the ring's vector becomes pending. (R392) -/
  | hrqInterruptInterval (ring : Nat)
  /-- HOST_READ_FAIL. A ring read completes with UR or CA, or times out, and the ring stops. (R393) -/
  | hostReadFail (ring : Nat) (timeout : Bool)
  /-- FILTER_COMMIT_WRITE. A write to a filter's last word commits the filter at the next boundary. (R380) -/
  | filterCommitWrite (offset value : Nat)
  /-- QUEUE_STAT_FOLD_WRITE. Writing 1 to bit 31 of a queue statistic clears its half-range bit. (R391) -/
  | queueStatFoldWrite (ring counter : Nat)
  /-- FLR_PF0. An FLR of PF0 aborts mailbox commands, stops host channels and resets PF0 registers. (R397) -/
  | flrPf0
  /-- FLR_PF1. An FLR of PF1 stops the rings and resets the PF1 registers, filters and statistics. (R396) -/
  | flrPf1
  /-- BME_CLEAR_PF0. Clearing Bus Master Enable of PF0 stops every host access made for PF0. (R395) -/
  | bmeClearPf0
  /-- BME_CLEAR_PF1. Clearing Bus Master Enable of PF1 freezes every enabled ring. (R394) -/
  | bmeClearPf1
  /-- BME_SET. Setting Bus Master Enable again resumes event writing and pending messages. (R416) -/
  | bmeSet (pf : Nat) (msix : Bool)
  /-- PCIE_HOT_RESET. A hot reset or loss of the PCIe link acts as an FLR of both functions. (R397) -/
  | pcieHotReset
  /-- GLB_BEAT_LO_READ. A read of GLB_BEAT_LO latches the upper half into GLB_BEAT_HI. (R37) -/
  | glbBeatLoRead
  /-- HCK_NS_READ. A read of HCK_NS latches seconds, fraction and beat. (R365) -/
  | hckNsRead
  /-- HCK_TXTS_INFO_READ. A read of HCK_TXTS_INFO latches the head timestamp entry. (R365) -/
  | hckTxtsInfoRead
  /-- HCK_TXTS_POP. A write removes the head transmit timestamp entry. (R365) -/
  | hckTxtsPop
  /-- HCK_STEP. Setting HCK_CTRL.STEP latches the offset and requests a step. (R353) -/
  | hckStep (value : Nat)
  /-- HCK_LOCK. HCK_CTRL.LOCK requests the LOCKED state. (R352) -/
  | hckLock (value : Nat)
  /-- HCK_RELEASE. HCK_CTRL.RELEASE requests the FREE state. (R352) -/
  | hckRelease (value : Nat)
  /-- HCK_RATE_WRITE. A write to HCK_RATE is held until HCK_RATE_HI is written. (R354) -/
  | hckRateWrite (value : Nat)
  /-- HCK_RATE_HI_WRITE. A write to HCK_RATE_HI applies the 48-bit RATE, saturated, at the next boundary. (R354) -/
  | hckRateHiWrite (value : Nat)
  /-- HCK_TXTS_OVF_CNT_READ. Reading HCK_TXTS_OVF_CNT returns and clears it. (R365) -/
  | hckTxtsOvfCntRead
  /-- PMC_SNAP. PMC_GCTRL.SNAP copies every counter into its snapshot at the next boundary. (R345) -/
  | pmcSnap (value : Nat)
  /-- PMC_CLEAR. PMC_GCTRL.CLEAR zeroes the programmable counters and PMC_OVF at the next boundary. (R345) -/
  | pmcClear (value : Nat)
  /-- PMC_RUN. PMC_GCTRL.RUN starts or stops the programmable counters at the next boundary. (R345) -/
  | pmcRun (value : Nat)
  /-- PMC_COUNTER_WRITE. A write to PMC_EVTn or PMC_CNTn is accepted only while RUN is clear and not pending. (R346) -/
  | pmcCounterWrite (offset value : Nat)
  /-- PMC_CYC_LO_READ. A read of PMC_CYC_LO latches PMC_CYC_HI. (R347) -/
  | pmcCycLoRead
  /-- PMC_SNAP_BEAT_LO_READ. A read of PMC_SNAP_BEAT_LO latches its HI half. (R347) -/
  | pmcSnapBeatLoRead
  /-- PMC_COUNTER_WRAP. A counter wrap sets its PMC_OVF bit and may raise the PMC cause. (R344) -/
  | pmcCounterWrap (unit counter : Nat)
  /-- PWR_REASON_BEATS_LO_READ. A read of PWR_REASON_BEATS_LO latches its HI half. (R485) -/
  | pwrReasonBeatsLoRead
  /-- PWR_DROOP_CNT_READ. Reading PWR_DROOP_CNT returns and clears it. (R485) -/
  | pwrDroopCntRead
  /-- TDC_GO. Setting TDC_CTRL.GO starts a table DMA operation. (R174) -/
  | tdcGo (ch value : Nat) (h : HostAnswer)
  /-- TDC_ABORT. TDC_CTRL.ABORT stops the channel at the end of the beat with CODE 6. (R176) -/
  | tdcAbort (ch : Nat)
  /-- TDC_LOCK_CLEAR. Clearing TDC_CTRL.LOCK releases the channel's bucket lock. (R175) -/
  | tdcLockClear (ch : Nat)
  /-- XDC_GO. Setting XDC_CTRL.GO starts a descriptor chain on channel 6 or 7. (R320) -/
  | xdcGo (ch value : Nat)
  /-- XDC_ABORT. XDC_CTRL.ABORT stops the chain after the current burst with CODE 6. (R322) -/
  | xdcAbort (ch : Nat)
  /-- MBX_OVERRUN_CNT_READ. Reading MBX_OVERRUN_CNT returns and clears it. (R403) -/
  | mbxOverrunCntRead (m : Nat)
  /-- MBX_LATE_CNT_READ. Reading MBX_LATE_CNT returns and clears it. (R403) -/
  | mbxLateCntRead (m : Nat)
  /-- MBX_EVT_LOST_READ. Reading MBX_EVT_LOST returns and clears it. (R418) -/
  | mbxEvtLostRead
  /-- FLT_ACK_WRITE. A write to FLT_ACK acknowledges the named latches at F2. (R454) -/
  | fltAckWrite (value : Nat)
  /-- FLT_CLEAR_WRITE. A write to FLT_CLEAR clears the named latches at F2. (R460) -/
  | fltClearWrite (value : Nat)
  /-- FLT_FORCE_WRITE. Setting or clearing a force bit raises or removes a forced event at F1. (R461) -/
  | fltForceWrite (n value : Nat)
  /-- FLT_LOG_LOST_READ. Reading FLT_LOG_LOST returns and clears it. (R467) -/
  | fltLogLostRead
  /-- FLT_PARTNER_CNT_READ. Reading FLT_PARTNER_CNT returns and clears it. (R467) -/
  | fltPartnerCntRead
  /-- WICK_STOPS_READ. Reading WICK_STOPS returns and clears it. (R467) -/
  | wickStopsRead
  /-- SYS_EVENT_RING. Sets up or disables the event ring. (R423) -/
  | sysEventRing (m : Nat) (h : HostAnswer)
  /-- SYS_EVENT_MASK. Masks events by service. (R421) -/
  | sysEventMask (m : Nat) (h : HostAnswer)
  /-- SYS_INFO. Returns identity, version, straps and reset cause. (R504) -/
  | sysInfo (m : Nat) (h : HostAnswer)
  /-- SYS_STATUS. Returns boot stage, state, restarts and Ember state. (R504) -/
  | sysStatus (m : Nat) (h : HostAnswer)
  /-- SYS_RESET. Requests an Ittas restart or a confirmed core reset. (R504) -/
  | sysReset (m : Nat) (h : HostAnswer)
  /-- SYS_BOOT_LOG. Writes the boot log to host memory. (R504) -/
  | sysBootLog (m : Nat) (h : HostAnswer)
  /-- FW_STATUS. Returns slot states, floor and measurements. (R448) -/
  | fwStatus (m : Nat) (h : HostAnswer)
  /-- FW_STAGE. Loads an image chunk into the idle code region. (R439) -/
  | fwStage (m : Nat) (h : HostAnswer)
  /-- FW_VERIFY. Runs checks 1 to 8 on the staged image. (R435) -/
  | fwVerify (m : Nat) (h : HostAnswer)
  /-- FW_ACTIVATE. Starts a live handover to the WRITTEN slot, or only sets the boot preference. (R440) -/
  | fwActivate (m : Nat) (h : HostAnswer)
  /-- FW_ABORT. Discards the other slot's image and stops its flash write. (R439) -/
  | fwAbort (m : Nat) (h : HostAnswer)
  /-- TRUST_IDENTITY. Returns the identity record and optionally writes the certificate. (R448) -/
  | trustIdentity (m : Nat) (h : HostAnswer)
  /-- TRUST_PROVISION. Generates the identity key or installs its certificate and enters PROVISIONED. (R430) -/
  | trustProvision (m : Nat) (h : HostAnswer)
  /-- TRUST_ATTEST. Writes a signed attestation report taken at one boundary. (R431) -/
  | trustAttest (m : Nat) (h : HostAnswer)
  /-- TRUST_LC_STATUS. Returns life-cycle and debug state. (R448) -/
  | trustLcStatus (m : Nat) (h : HostAnswer)
  /-- TRUST_LC_ADVANCE. Advances PROVISIONED to FIELD. (R446) -/
  | trustLcAdvance (m : Nat) (h : HostAnswer)
  /-- TRUST_RETURN. Accepts a RETURN token and makes a return pending. (R445) -/
  | trustReturn (m : Nat) (h : HostAnswer)
  /-- TRUST_CONSENT. Zeroises customer secrets and enters RETURNED. (R445) -/
  | trustConsent (m : Nat) (h : HostAnswer)
  /-- PORT_CREATE. Creates a port on free lanes. (R87) -/
  | portCreate (m : Nat) (h : HostAnswer)
  /-- PORT_DELETE. Deletes an administratively down port. (R88) -/
  | portDelete (m : Nat) (h : HostAnswer)
  /-- PORT_ADMIN. Sets a port administratively up or down. (R109) -/
  | portAdmin (m : Nat) (h : HostAnswer)
  /-- PORT_CONFIG. Sets cut-through, PAUSE, hold mask, MAX and HOLD. (R110) -/
  | portConfig (m : Nat) (h : HostAnswer)
  /-- PORT_STATUS. Returns port link, PFC, preemption and hold state. (R111) -/
  | portStatus (m : Nat) (h : HostAnswer)
  /-- PORT_STATS. Returns the port counters as a snapshot at one boundary. (R108) -/
  | portStats (m : Nat) (h : HostAnswer)
  /-- PORT_PFC_CONFIG. Sets the PFC enable mask, thresholds and watchdog. (R96) -/
  | portPfcConfig (m : Nat) (h : HostAnswer)
  /-- PORT_PREEMPT_CONFIG. Sets frame preemption and verification. (R101) -/
  | portPreemptConfig (m : Nat) (h : HostAnswer)
  /-- PORT_FLUSH. Flushes the queues of the given classes of a down port. (R109) -/
  | portFlush (m : Nat) (h : HostAnswer)
  /-- LANE_CONFIG. Sets the lane mode, FEC, method and timers. (R83) -/
  | laneConfig (m : Nat) (h : HostAnswer)
  /-- LANE_ENABLE. Enables a DISABLED lane or port. (R82) -/
  | laneEnable (m : Nat) (h : HostAnswer)
  /-- LANE_DISABLE. Disables a lane or port. (R82) -/
  | laneDisable (m : Nat) (h : HostAnswer)
  /-- LANE_STATUS. Returns the lane state and link figures. (R84) -/
  | laneStatus (m : Nat) (h : HostAnswer)
  /-- LANE_GET_COEFF. Returns the current and known-good coefficient sets. (R82) -/
  | laneGetCoeff (m : Nat) (h : HostAnswer)
  /-- LANE_SET_COEFF. Loads a coefficient set and marks it known-good. (R69) -/
  | laneSetCoeff (m : Nat) (h : HostAnswer)
  /-- LANE_RETRAIN. Takes an ACTIVE port down and restarts it in RX_DETECT. (R82) -/
  | laneRetrain (m : Nat) (h : HostAnswer)
  /-- LANE_LOOPBACK. Enters or leaves a loopback. (R79) -/
  | laneLoopback (m : Nat) (h : HostAnswer)
  /-- LANE_PRBS. Controls the PRBS generator and checker and returns counts. (R80) -/
  | lanePrbs (m : Nat) (h : HostAnswer)
  /-- LANE_EYE. Returns the receiver's eye estimate. (R81) -/
  | laneEye (m : Nat) (h : HostAnswer)
  /-- LANE_COUNTERS. Returns the lane counters. (R82) -/
  | laneCounters (m : Nat) (h : HostAnswer)
  /-- LANE_TRAIN_LOG. Returns the last 8 training sessions. (R82) -/
  | laneTrainLog (m : Nat) (h : HostAnswer)
  /-- LANE_QUIET_TLV. Returns the port's Directional Quiet TLV. (R77) -/
  | laneQuietTlv (m : Nat) (h : HostAnswer)
  /-- LANE_QUIET_PEER. Passes the partner's TLV, or ends agreement. (R77) -/
  | laneQuietPeer (m : Nat) (h : HostAnswer)
  /-- LANE_QUIET_CONFIG. Permits quiet and sets the idle threshold. (R73) -/
  | laneQuietConfig (m : Nat) (h : HostAnswer)
  /-- RULE_OPEN. Opens the other bank for loading a version. (R126) -/
  | ruleOpen (m : Nat) (h : HostAnswer)
  /-- RULE_LOAD. Loads an image chunk and checks the image on the final chunk. (R142) -/
  | ruleLoad (m : Nat) (h : HostAnswer)
  /-- RULE_COMMIT. Switches to the READY bank at the next P5. (R127) -/
  | ruleCommit (m : Nat) (h : HostAnswer)
  /-- RULE_ABORT. Returns a LOADING or READY bank to FREE. (R124) -/
  | ruleAbort (m : Nat) (h : HostAnswer)
  /-- RULE_REVERT. Reactivates a DRAINING or RETIRED bank under a new version. (R128) -/
  | ruleRevert (m : Nat) (h : HostAnswer)
  /-- RULE_STATUS. Returns bank states and versions. (R144) -/
  | ruleStatus (m : Nat) (h : HostAnswer)
  /-- RULE_HASH_PROBE. Returns the three hashes of a given frame. (R137) -/
  | ruleHashProbe (m : Nat) (h : HostAnswer)
  /-- RULE_PARSE_STATS. Returns parse exception counts of a port. (R116) -/
  | ruleParseStats (m : Nat) (h : HostAnswer)
  /-- TABLE_CONFIG. Sets EMT seeds, ageing, eviction and damping. (R155) -/
  | tableConfig (m : Nat) (h : HostAnswer)
  /-- TABLE_INSERT. Inserts a table record. (R179) -/
  | tableInsert (m : Nat) (h : HostAnswer)
  /-- TABLE_DELETE. Deletes a table record. (R179) -/
  | tableDelete (m : Nat) (h : HostAnswer)
  /-- TABLE_READ. Reads a table record from committed state. (R179) -/
  | tableRead (m : Nat) (h : HostAnswer)
  /-- TABLE_FLUSH. Removes dynamic MAC entries by BD or destination. (R179) -/
  | tableFlush (m : Nat) (h : HostAnswer)
  /-- TABLE_LEARN_CONFIG. Sets learning, limit and excess action of a port or LAG. (R171) -/
  | tableLearnConfig (m : Nat) (h : HostAnswer)
  /-- TABLE_LEARN_STATUS. Returns learned counts per quadrant. (R179) -/
  | tableLearnStatus (m : Nat) (h : HostAnswer)
  /-- TABLE_NOTIFY_RING. Sets the notification ring. (R180) -/
  | tableNotifyRing (m : Nat) (h : HostAnswer)
  /-- TABLE_STATS. Returns table counters of a quadrant. (R181) -/
  | tableStats (m : Nat) (h : HostAnswer)
  /-- TABLE_NH_STATUS. Returns a next hop's state and quarantine end. (R179) -/
  | tableNhStatus (m : Nat) (h : HostAnswer)
  /-- TABLE_TERN_GROUP. Defines or deletes a ternary lookup group. (R183) -/
  | tableTernGroup (m : Nat) (h : HostAnswer)
  /-- TABLE_TERN_WRITE. Writes ternary records at one boundary. (R189) -/
  | tableTernWrite (m : Nat) (h : HostAnswer)
  /-- TABLE_TERN_MOVE. Permutes ternary positions at one boundary. (R190) -/
  | tableTernMove (m : Nat) (h : HostAnswer)
  /-- TABLE_TERN_BLOCK_MOVE. Starts a block move that shifts positions by one place. (R193) -/
  | tableTernBlockMove (m : Nat) (h : HostAnswer)
  /-- TABLE_TERN_READ. Writes ternary records from committed state to host memory. (R208) -/
  | tableTernRead (m : Nat) (h : HostAnswer)
  /-- TABLE_TERN_STATUS. Returns group counts and block-move progress. (R196) -/
  | tableTernStatus (m : Nat) (h : HostAnswer)
  /-- TABLE_TERN_STATS. Returns group hits and misses. (R208) -/
  | tableTernStats (m : Nat) (h : HostAnswer)
  /-- TABLE_AUTO_LOAD. Loads an automaton image into a slot. (R205) -/
  | tableAutoLoad (m : Nat) (h : HostAnswer)
  /-- TABLE_AUTO_STATUS. Returns automaton slot states. (R208) -/
  | tableAutoStatus (m : Nat) (h : HostAnswer)
  /-- TABLE_AUTO_STATS. Writes pattern counters to host memory. (R208) -/
  | tableAutoStats (m : Nat) (h : HostAnswer)
  /-- TABLE_AUTO_REPAIR. Reloads a slot's own image in place. (R206) -/
  | tableAutoRepair (m : Nat) (h : HostAnswer)
  /-- TM_CONFIG. Sets EXPRESS_TC and the maximum sojourn. (R248) -/
  | tmConfig (m : Nat) (h : HostAnswer)
  /-- TM_SCHED. Sets the EXPRESS bit and WFQ weights of a port. (R263) -/
  | tmSched (m : Nat) (h : HostAnswer)
  /-- TM_SHAPER. Sets a shaper. (R246) -/
  | tmShaper (m : Nat) (h : HostAnswer)
  /-- TM_POLICER_WRITE. Writes a policer. (R251) -/
  | tmPolicerWrite (m : Nat) (h : HostAnswer)
  /-- TM_POLICER_READ. Returns a policer's settings, buckets and counts. (R263) -/
  | tmPolicerRead (m : Nat) (h : HostAnswer)
  /-- TM_GATE_LIST. Sets a port's admin gate control list. (R254) -/
  | tmGateList (m : Nat) (h : HostAnswer)
  /-- TM_GATE_STATUS. Returns gate list state and overrun counts. (R263) -/
  | tmGateStatus (m : Nat) (h : HostAnswer)
  /-- TM_MAX_SDU. Sets queueMaxSDU per class. (R256) -/
  | tmMaxSdu (m : Nat) (h : HostAnswer)
  /-- TM_QUEUE_STATS. Returns queue counts and high-water marks. (R261) -/
  | tmQueueStats (m : Nat) (h : HostAnswer)
  /-- TM_SAMPLE_RING. Sets the queue sample ring. (R260) -/
  | tmSampleRing (m : Nat) (h : HostAnswer)
  /-- BUF_POOL_CONFIG. Sets a pool's size and thresholds. (R213) -/
  | bufPoolConfig (m : Nat) (h : HostAnswer)
  /-- BUF_POOL_MAP. Maps traffic classes to pools. (R236) -/
  | bufPoolMap (m : Nat) (h : HostAnswer)
  /-- BUF_HEADROOM. Sets HR_CELLS of a port. (R218) -/
  | bufHeadroom (m : Nat) (h : HostAnswer)
  /-- BUF_STATUS. Returns pool occupancy and states. (R236) -/
  | bufStatus (m : Nat) (h : HostAnswer)
  /-- BUF_STATS. Returns pool and buffer counters. (R236) -/
  | bufStats (m : Nat) (h : HostAnswer)
  /-- BUF_MC_WRITE. Writes a multicast group's member list. (R219) -/
  | bufMcWrite (m : Nat) (h : HostAnswer)
  /-- BUF_MC_READ. Reads a multicast group. (R236) -/
  | bufMcRead (m : Nat) (h : HostAnswer)
  /-- BUF_FABRIC_STATUS. Returns crossing plane states and counts. (R236) -/
  | bufFabricStatus (m : Nat) (h : HostAnswer)
  /-- BUF_PLANE_ADMIN. Takes a crossing plane into or out of service. (R228) -/
  | bufPlaneAdmin (m : Nat) (h : HostAnswer)
  /-- BUF_RESEQ_STATS. Returns resequencer counts of an egress slice. (R236) -/
  | bufReseqStats (m : Nat) (h : HostAnswer)
  /-- BUF_AUDIT. Starts a cell audit and returns its result. (R237) -/
  | bufAudit (m : Nat) (h : HostAnswer)
  /-- BUF_MIRROR. Sets or reads a mirror session. (R233) -/
  | bufMirror (m : Nat) (h : HostAnswer)
  /-- LEDGER_CONFIG. Sets the FLOW_HASH seed, IDLE_MINUTES and eviction policy. (R296) -/
  | ledgerConfig (m : Nat) (h : HostAnswer)
  /-- LEDGER_POLICY. Sets a ledger policy. (R265) -/
  | ledgerPolicy (m : Nat) (h : HostAnswer)
  /-- LEDGER_RINGS. Sets the ledger ring sizes. (R288) -/
  | ledgerRings (m : Nat) (h : HostAnswer)
  /-- LEDGER_KEY_CREATE. Creates the seal key and its certificate. (R293) -/
  | ledgerKeyCreate (m : Nat) (h : HostAnswer)
  /-- LEDGER_START. Starts counting at the next boundary. (R281) -/
  | ledgerStart (m : Nat) (h : HostAnswer)
  /-- LEDGER_STOP. Stops counting and seals the open minute. (R295) -/
  | ledgerStop (m : Nat) (h : HostAnswer)
  /-- LEDGER_STATUS. Returns ledger state, minutes and losses. (R296) -/
  | ledgerStatus (m : Nat) (h : HostAnswer)
  /-- LEDGER_SEAL_GET. Writes a minute's seal to host memory. (R304) -/
  | ledgerSealGet (m : Nat) (h : HostAnswer)
  /-- LEDGER_TENANT_GET. Writes a tenant record and its inclusion proof. (R291) -/
  | ledgerTenantGet (m : Nat) (h : HostAnswer)
  /-- LEDGER_FLOW_GET. Returns a flow's ledger record. (R296) -/
  | ledgerFlowGet (m : Nat) (h : HostAnswer)
  /-- LEDGER_STATS. Returns ledger counters. (R296) -/
  | ledgerStats (m : Nat) (h : HostAnswer)
  /-- MEM_STATUS. Returns a memory port's state. (R324) -/
  | memStatus (m : Nat) (h : HostAnswer)
  /-- MEM_LAYOUT. Sets the ledger address space layout. (R302) -/
  | memLayout (m : Nat) (h : HostAnswer)
  /-- MEM_REGION. Sets or deletes a region. (R306) -/
  | memRegion (m : Nat) (h : HostAnswer)
  /-- MEM_ONLINE. Brings a module into service, or restarts its bring-up. (R311) -/
  | memOnline (m : Nat) (h : HostAnswer)
  /-- MEM_OFFLINE. Takes a module out of service. (R310) -/
  | memOffline (m : Nat) (h : HostAnswer)
  /-- MEM_REBUILD_RATE. Sets RESILVER_RATE. (R312) -/
  | memRebuildRate (m : Nat) (h : HostAnswer)
  /-- MEM_CAPTURE. Binds or unbinds a capture id. (R308) -/
  | memCapture (m : Nat) (h : HostAnswer)
  /-- MEM_CAPTURE_ACK. Gives a capture ring's read position. (R308) -/
  | memCaptureAck (m : Nat) (h : HostAnswer)
  /-- MEM_STATS. Returns memory counters. (R324) -/
  | memStats (m : Nat) (h : HostAnswer)
  /-- LANTERN_STREAM. Sets a Lantern stream. (R336) -/
  | lanternStream (m : Nat) (h : HostAnswer)
  /-- LANTERN_PORT. Sets sampling, tracing and sojourn threshold of a port. (R327) -/
  | lanternPort (m : Nat) (h : HostAnswer)
  /-- LANTERN_TRIGGER. Maps triggers to streams and sets the drop mask. (R330) -/
  | lanternTrigger (m : Nat) (h : HostAnswer)
  /-- LANTERN_TENANT. Sets or clears tenant flag bits. (R328) -/
  | lanternTenant (m : Nat) (h : HostAnswer)
  /-- LANTERN_IPFIX. Sets IPFIX export of a stream. (R339) -/
  | lanternIpfix (m : Nat) (h : HostAnswer)
  /-- LANTERN_ACK. Gives a ring stream's read position. (R337) -/
  | lanternAck (m : Nat) (h : HostAnswer)
  /-- LANTERN_STATS. Returns Lantern counts. (R349) -/
  | lanternStats (m : Nat) (h : HostAnswer)
  /-- LANTERN_PMC_DUMP. Writes every unit's counters to host memory. (R349) -/
  | lanternPmcDump (m : Nat) (h : HostAnswer)
  /-- TIME_STATUS. Returns hardware clock state. (R367) -/
  | timeStatus (m : Nat) (h : HostAnswer)
  /-- TIME_STEP. Requests a clock step. (R353) -/
  | timeStep (m : Nat) (h : HostAnswer)
  /-- TIME_RATE. Sets RATE. (R354) -/
  | timeRate (m : Nat) (h : HostAnswer)
  /-- TIME_STATE. Requests lock or release. (R352) -/
  | timeState (m : Nat) (h : HostAnswer)
  /-- TIME_PORT_DELAY. Sets timestamp compensation of a port and mode. (R356) -/
  | timePortDelay (m : Nat) (h : HostAnswer)
  /-- TIME_PORT_PTP. Sets transparent clock and one-step Sync. (R360) -/
  | timePortPtp (m : Nat) (h : HostAnswer)
  /-- TIME_PPS. Sets PPS_IN and PPS_OUT. (R363) -/
  | timePps (m : Nat) (h : HostAnswer)
  /-- TIME_SYNCE. Sets a SyncE output. (R364) -/
  | timeSynce (m : Nat) (h : HostAnswer)
  /-- TIME_TXTS_READ. Drains the transmit timestamp queue to host memory. (R361) -/
  | timeTxtsRead (m : Nat) (h : HostAnswer)
  /-- FAULT_STATUS. Returns source or global fault status. (R468) -/
  | faultStatus (m : Nat) (h : HostAnswer)
  /-- FAULT_ACK. Acknowledges latches at F2. (R454) -/
  | faultAck (m : Nat) (h : HostAnswer)
  /-- FAULT_CLEAR. Clears latches at F2. (R460) -/
  | faultClear (m : Nat) (h : HostAnswer)
  /-- FAULT_FORCE. Sets or clears a force bit with class and instance. (R461) -/
  | faultForce (m : Nat) (h : HostAnswer)
  /-- FAULT_LOG. Writes the fault or partner log to host memory. (R463) -/
  | faultLog (m : Nat) (h : HostAnswer)
  /-- FAULT_CONFIG. Sets source configuration and global fault controls. (R468) -/
  | faultConfig (m : Nat) (h : HostAnswer)
  /-- POWER_STATUS. Returns Dimmer status. (R486) -/
  | powerStatus (m : Nat) (h : HostAnswer)
  /-- POWER_CAP. Sets CAP. (R486) -/
  | powerCap (m : Nat) (h : HostAnswer)
  /-- POWER_CONFIG. Sets Dimmer settings and regulator addresses. (R486) -/
  | powerConfig (m : Nat) (h : HostAnswer)
  /-- POWER_REASONS. Returns throttle reason counts. (R476) -/
  | powerReasons (m : Nat) (h : HostAnswer)
  /-- POWER_SENSORS. Returns all sensor readings. (R486) -/
  | powerSensors (m : Nat) (h : HostAnswer)
  /-- SLICE_STATUS. Returns slice and Ember states. (R504) -/
  | sliceStatus (m : Nat) (h : HostAnswer)
  /-- SLICE_TAKEOVER. Starts a planned move of a slice onto the Ember. (R501) -/
  | sliceTakeover (m : Nat) (h : HostAnswer)
  /-- SLICE_RELEASE. Returns a slice home. (R502) -/
  | sliceRelease (m : Nat) (h : HostAnswer)
  /-- SLICE_SELF_CHECK. Starts a self-check of an isolated slice or the Ember. (R502) -/
  | sliceSelfCheck (m : Nat) (h : HostAnswer)
  /-- DIAG_ECHO. Returns the request bytes. (R423) -/
  | diagEcho (m : Nat) (h : HostAnswer)
  /-- DIAG_DELAY. Keeps the mailbox BUSY for a delay. (R423) -/
  | diagDelay (m : Nat) (h : HostAnswer)
  /-- DIAG_PROTO_LOG. Returns the protocol violation log. (R413) -/
  | diagProtoLog (m : Nat) (h : HostAnswer)
  /-- DEEP_DEBUG_OPEN. A deep-debug session is opened through the TAP private instructions, setting DEBUG_OPENED and raising EV_TRUST_DEBUG. (R444) -/
  | deepDebugOpen (kind : Nat)
  /-- MEM_VIRAL_INDICATION. A viral indication from a CXL module is logged and makes every later read of that module count as poison. (R298) -/
  | memViralIndication (port : Nat)
  /-- PCIE_PARTNER_VIOLATION. A malformed TLP, unexpected completion, unsupported request or poisoned TLP from the host is answered as PCIe requires and written to the partner log. (R464) -/
  | pciePartnerViolation (pf code : Nat)
  /-- XBAR_PLANE_RETRAINED. The links of a failed crossing plane retrain, so BUF.PLANE_ADMIN may return it to service. (R227) -/
  | xbarPlaneRetrained (plane : Nat)
  /-- PCIE_LINK_TRAINED. The PCIe link reaches L0 at its trained rate and width, reported in GLB_LINK. (R368) -/
  | pcieLinkTrained (rate width : Nat)
  /-- MBX_RESP_VALID_CLEAR. Software writes 1 to MBX_STATUS.RESP_VALID, which moves the mailbox from DONE to IDLE. (R404) -/
  | mbxRespValidClear (m value : Nat)
  /-- XDC_ERROR_CLEAR. Software clears XDC_STATUS.ERROR, which releases HALTED on the mover channel. (R321) -/
  | xdcErrorClear (ch : Nat)
  /-- HALF_RANGE_FOLD. Ittas adds 2^47 to a port counter's 64-bit accumulator and clears bit 47 in one atomic operation. (R107) -/
  | halfRangeFold (port counter : Nat)
  /-- EEE_LPI_TRANSMIT. The transmitter of a mode-2 EEE port enters or leaves LPI per direction as Clause 78 specifies. (R78) -/
  | eeeLpiTransmit (port : Nat) (lpi : Lpi)
  deriving DecidableEq, Repr

end Sys2Proof
end

