-- ==== Sys2Proof/WellFormed.lean ====
section
/-! DEFINITION. Well-formed commands: every operand names a thing the device has. -/

namespace Sys2Proof

/-- Whether every operand that numbers a thing of the device is in that thing's range: lanes and front-panel ports 0 to
767 (R5), egress ports 0 to 801 (R241), mailboxes 0 to 15 (R399), slices 0 to 31 and the Ember as 32 (R498),
quadrants 0 to 3 (R147), table DMA channels 0 to 3 (R174), mover channels 0 to 7 (R314), rings 0 to 31 (R382), and so
on; an offset inside
the beat below 1,000 ns (R34). -/
def WellFormed : Instr → Bool
  | .beatBoundary _ => true
  | .frameReceive port _ _ _ _ ns => decide (port < 768) && decide (ns < 1000)
  | .pfcFrameReceive port vec times ns => decide (port < 768) && decide (vec < 256) && decide (times.length = 8) && decide (ns < 1000)
  | .pauseFrameReceive port _ ns => decide (port < 768) && decide (ns < 1000)
  | .pauseTimerExpire port prio ns => decide (port < 768) && decide (prio < 8) && decide (ns < 1000)
  | .pfcFrameSend port => decide (port < 768)
  | .pfcResend port => decide (port < 768)
  | .pfcWatchdogTrip port prio => decide (port < 768) && decide (prio < 8)
  | .pfcWatchdogRestore port prio => decide (port < 768) && decide (prio < 8)
  | .mmVerifyResponse port => decide (port < 768)
  | .mmVerifyTimeout port => decide (port < 768)
  | .ingressSlot slice ns => decide (slice < 32) && decide (ns < 1000)
  | .parseResume _ _ ns => decide (ns < 1000)
  | .cellArriveResequencer _ slice ns => decide (slice < 32) && decide (ns < 1000)
  | .reseqSkipTimeout slice stream => decide (slice < 32) && decide (stream < 256)
  | .crossingCellCrcFail plane quad _ _ => decide (plane < 4) && decide (quad < 4)
  | .xbarPlaneFail plane quad _ => decide (plane < 4) && decide (quad < 4)
  | .egressCutThroughStart _ ns => decide (ns < 1000)
  | .schedulerDecision port ns => decide (port < 802) && decide (ns < 1000)
  | .transmitComplete port ns => decide (port < 802) && decide (ns < 1000)
  | .sojournDiscard => true
  | .holdSojournDrop port => decide (port < 768)
  | .holdWindowExpire port => decide (port < 768)
  | .gateEvent port ns => decide (port < 768) && decide (ns < 1000)
  | .gateConfigChange port ns => decide (port < 768) && decide (ns < 1000)
  | .laneEnergyDetect lane => decide (lane < 768)
  | .anResolved lane _ => decide (lane < 768)
  | .partnerTrainingRequest lane _ => decide (lane < 768)
  | .trainReceiverReady lane => decide (lane < 768)
  | .laneLockAchieved lane => decide (lane < 768)
  | .capexComplete lane _ => decide (lane < 768)
  | .trainingLimitExpire lane => decide (lane < 768)
  | .lockLimitExpire lane => decide (lane < 768)
  | .capabilityLimitExpire lane _ => decide (lane < 768)
  | .blindLimitExpire lane => decide (lane < 768)
  | .relinkWindowExpire lane => decide (lane < 768)
  | .relinkLimitExpire lane => decide (lane < 768)
  | .retryBackoffExpire lane => decide (lane < 768)
  | .losDetect lane => decide (lane < 768)
  | .cdrLockLoss lane => decide (lane < 768)
  | .fecAlignLoss lane => decide (lane < 768)
  | .hiSer lane => decide (lane < 768)
  | .rsFaultReceive port _ _ => decide (port < 768)
  | .partnerTrainingSeen lane => decide (lane < 768)
  | .knownGoodStore lane _ => decide (lane < 768)
  | .quietIdleThreshold port => decide (port < 768)
  | .quietWake port => decide (port < 768)
  | .quietWakeComplete port => decide (port < 768)
  | .quietRefresh port => decide (port < 768)
  | .partnerQuietSignal port _ => decide (port < 768)
  | .quietRefreshMiss port => decide (port < 768)
  | .eeeLpiReceive port _ => decide (port < 768)
  | .ageingVisit quad => decide (quad < 4)
  | .flapRelease quad _ => decide (quad < 4)
  | .flapWindowEnd quad _ => decide (quad < 4)
  | .nhQuarantineEnd index => decide (index < 131072)
  | .tdcLockTimeout ch => decide (ch < 4)
  | .tdcDone ch => decide (ch < 4)
  | .tdcHostError ch => decide (ch < 4)
  | .deferredLearnRelease quad => decide (quad < 4)
  | .ternBlockMoveDone quad => decide (quad < 4)
  | .ruleDrainComplete => true
  | .ruleDrainStuck => true
  | .bufAuditComplete => true
  | .minuteEnd => true
  | .rollStart => true
  | .rollFlushDone => true
  | .rollScanDone => true
  | .rollTenantDone => true
  | .rollSignDone => true
  | .flushRequestApply quad => decide (quad < 4)
  | .memPresenceStable port => decide (port < 4)
  | .memPerstRelease port => decide (port < 4)
  | .memLinkL0 port _ _ _ => decide (port < 4)
  | .memTrainingTimeout port => decide (port < 4)
  | .memEnumerationDone port _ => decide (port < 4)
  | .memLinkDown port => decide (port < 4)
  | .memPresenceLost port => decide (port < 4)
  | .memRequestTimeout port => decide (port < 4)
  | .memPoisonRead port _ reader => decide (port < 4) && decide ((match reader with | .ledger q => decide (q < 4) | .mover c => decide (c < 8) | .sealGet => true) = true)
  | .memBadCompletion port _ => decide (port < 4)
  | .memHealthRecord port _ => decide (port < 4)
  | .memOfflineReached port => decide (port < 4)
  | .resilverComplete port => decide (port < 4)
  | .zeroingComplete port => decide (port < 4)
  | .moverChainDone ch => decide (ch < 8)
  | .moverDescriptor ch _ _ _ => decide (ch < 8)
  | .moverChannelStop ch _ _ => decide (ch < 8)
  | .captureRecordWrite quad => decide (quad < 4)
  | .lanternRingWrite => true
  | .ipfixFlushTimeout stream slice => decide (stream < 16) && decide (slice < 32)
  | .ipfixTemplateRefresh stream slice => decide (stream < 16) && decide (slice < 32)
  | .ppsInEdge _ ns => decide (ns < 1000)
  | .ppsOutSecond => true
  | .ppsOutWidthEnd => true
  | .refclkLoss inst => decide (inst < 2)
  | .pllUnlock pll => decide (pll < 6)
  | .collectorRunStoppedBeat _ => true
  | .faultDetect src _ cls _ => decide (src < 448) && decide (cls ≤ 3)
  | .faultCauseEnd src _ => decide (src < 448)
  | .graceTimerExpire src => decide (src < 448)
  | .ittasWdogExpire => true
  | .ittasWdogRestart => true
  | .wickToggle => true
  | .pollCycleEnd => true
  | .pmbusTransaction reg _ _ _ => decide (reg < 8)
  | .pmbAlert reg _ => decide (reg < 8)
  | .mismatchSteerBegin => true
  | .mismatchContained => true
  | .sensorConversion sensor _ => decide (sensor < 64)
  | .sensorStale sensor => decide (sensor < 64)
  | .droopEpisode cycles ns => decide (cycles < 10) && decide (ns < 1000)
  | .coolantLow => true
  | .coolantStop => true
  | .coolantRestore => true
  | .idleUnitGate unit => decide (unit < 32 ∨ (64 ≤ unit ∧ unit < 68) ∨ unit = 86 ∨ unit = 87 ∨ (96 ≤ unit ∧ unit < 128))
  | .unitUngate _ => true
  | .hpVersion => true
  | .hpSummary => true
  | .hpTmax => true
  | .hpTmaxSensor => true
  | .hpPower => true
  | .hpMeas => true
  | .hpEst => true
  | .hpFlow => true
  | .hpFaults => true
  | .hpSensor sensor => decide (sensor < 64)
  | .hpExtLevelRead => true
  | .hpExtLevelWrite _ => true
  | .pwrgoodRise straps => decide (straps < 16)
  | .pwrgoodFall => true
  | .perstNAssert => true
  | .perstNDeassert => true
  | .bootStageComplete _ => true
  | .otherSlotCheck => true
  | .fwFlashWriteDone _ _ => true
  | .identityCertWrite => true
  | .handoverStepDone _ _ => true
  | .handoverTimerExpire => true
  | .ittasRestartStart _ => true
  | .ittasRestartDone _ => true
  | .coreResetStart => true
  | .emberConfigLoaded => true
  | .emberSwitch => true
  | .selfCheckDone slice _ => decide (slice < 33)
  | .returnPendingExpire => true
  | .debugTokenShift _ => true
  | .registerWrite pf offset _ _ _ => decide (pf = 0 ∨ pf = 1) && decide (offset < (if pf = 0 then 65536 else 16384))
  | .mailboxAreaWrite offset bytes => decide (offset + bytes.length ≤ 0x20000)
  | .mbxDoorbell m value => decide (m < 16) && decide (value < 2 ^ 32)
  | .commandAccept m _ => decide (m < 16)
  | .responsePost m => decide (m < 16)
  | .mbxGuardExpire m => decide (m < 16)
  | .eventRingWrite => true
  | .mbxEvtTailWrite _ => true
  | .msixMessage pf vector => decide (pf < 2) && decide (vector < 64)
  | .irqTestWrite _ _ => true
  | .hrqTailWrite ring _ => decide (ring < 32)
  | .hrqReset ring => decide (ring < 32)
  | .hrqEnable ring _ => decide (ring < 32)
  | .rxFrameDeliver ns _ => decide (ns < 1000)
  | .txFrameFetch _ _ => true
  | .hrqInterruptInterval ring => decide (ring < 32)
  | .hostReadFail ring _ => decide (ring < 32)
  | .filterCommitWrite _ _ => true
  | .queueStatFoldWrite ring counter => decide (ring < 32) && decide (counter < 5)
  | .flrPf0 => true
  | .flrPf1 => true
  | .bmeClearPf0 => true
  | .bmeClearPf1 => true
  | .bmeSet pf _ => decide (pf < 2)
  | .pcieHotReset => true
  | .glbBeatLoRead => true
  | .hckNsRead => true
  | .hckTxtsInfoRead => true
  | .hckTxtsPop => true
  | .hckStep _ => true
  | .hckLock _ => true
  | .hckRelease _ => true
  | .hckRateWrite _ => true
  | .hckRateHiWrite _ => true
  | .hckTxtsOvfCntRead => true
  | .pmcSnap _ => true
  | .pmcClear _ => true
  | .pmcRun _ => true
  | .pmcCounterWrite _ _ => true
  | .pmcCycLoRead => true
  | .pmcSnapBeatLoRead => true
  | .pmcCounterWrap unit counter => decide (unit < 40) && decide (counter < 8)
  | .pwrReasonBeatsLoRead => true
  | .pwrDroopCntRead => true
  | .tdcGo ch _ _ => decide (ch < 4)
  | .tdcAbort ch => decide (ch < 4)
  | .tdcLockClear ch => decide (ch < 4)
  | .xdcGo ch _ => decide (ch < 8)
  | .xdcAbort ch => decide (ch < 8)
  | .mbxOverrunCntRead m => decide (m < 16)
  | .mbxLateCntRead m => decide (m < 16)
  | .mbxEvtLostRead => true
  | .fltAckWrite _ => true
  | .fltClearWrite _ => true
  | .fltForceWrite n _ => decide (n < 14)
  | .fltLogLostRead => true
  | .fltPartnerCntRead => true
  | .wickStopsRead => true
  | .sysEventRing m _ => decide (m < 16)
  | .sysEventMask m _ => decide (m < 16)
  | .sysInfo m _ => decide (m < 16)
  | .sysStatus m _ => decide (m < 16)
  | .sysReset m _ => decide (m < 16)
  | .sysBootLog m _ => decide (m < 16)
  | .fwStatus m _ => decide (m < 16)
  | .fwStage m _ => decide (m < 16)
  | .fwVerify m _ => decide (m < 16)
  | .fwActivate m _ => decide (m < 16)
  | .fwAbort m _ => decide (m < 16)
  | .trustIdentity m _ => decide (m < 16)
  | .trustProvision m _ => decide (m < 16)
  | .trustAttest m _ => decide (m < 16)
  | .trustLcStatus m _ => decide (m < 16)
  | .trustLcAdvance m _ => decide (m < 16)
  | .trustReturn m _ => decide (m < 16)
  | .trustConsent m _ => decide (m < 16)
  | .portCreate m _ => decide (m < 16)
  | .portDelete m _ => decide (m < 16)
  | .portAdmin m _ => decide (m < 16)
  | .portConfig m _ => decide (m < 16)
  | .portStatus m _ => decide (m < 16)
  | .portStats m _ => decide (m < 16)
  | .portPfcConfig m _ => decide (m < 16)
  | .portPreemptConfig m _ => decide (m < 16)
  | .portFlush m _ => decide (m < 16)
  | .laneConfig m _ => decide (m < 16)
  | .laneEnable m _ => decide (m < 16)
  | .laneDisable m _ => decide (m < 16)
  | .laneStatus m _ => decide (m < 16)
  | .laneGetCoeff m _ => decide (m < 16)
  | .laneSetCoeff m _ => decide (m < 16)
  | .laneRetrain m _ => decide (m < 16)
  | .laneLoopback m _ => decide (m < 16)
  | .lanePrbs m _ => decide (m < 16)
  | .laneEye m _ => decide (m < 16)
  | .laneCounters m _ => decide (m < 16)
  | .laneTrainLog m _ => decide (m < 16)
  | .laneQuietTlv m _ => decide (m < 16)
  | .laneQuietPeer m _ => decide (m < 16)
  | .laneQuietConfig m _ => decide (m < 16)
  | .ruleOpen m _ => decide (m < 16)
  | .ruleLoad m _ => decide (m < 16)
  | .ruleCommit m _ => decide (m < 16)
  | .ruleAbort m _ => decide (m < 16)
  | .ruleRevert m _ => decide (m < 16)
  | .ruleStatus m _ => decide (m < 16)
  | .ruleHashProbe m _ => decide (m < 16)
  | .ruleParseStats m _ => decide (m < 16)
  | .tableConfig m _ => decide (m < 16)
  | .tableInsert m _ => decide (m < 16)
  | .tableDelete m _ => decide (m < 16)
  | .tableRead m _ => decide (m < 16)
  | .tableFlush m _ => decide (m < 16)
  | .tableLearnConfig m _ => decide (m < 16)
  | .tableLearnStatus m _ => decide (m < 16)
  | .tableNotifyRing m _ => decide (m < 16)
  | .tableStats m _ => decide (m < 16)
  | .tableNhStatus m _ => decide (m < 16)
  | .tableTernGroup m _ => decide (m < 16)
  | .tableTernWrite m _ => decide (m < 16)
  | .tableTernMove m _ => decide (m < 16)
  | .tableTernBlockMove m _ => decide (m < 16)
  | .tableTernRead m _ => decide (m < 16)
  | .tableTernStatus m _ => decide (m < 16)
  | .tableTernStats m _ => decide (m < 16)
  | .tableAutoLoad m _ => decide (m < 16)
  | .tableAutoStatus m _ => decide (m < 16)
  | .tableAutoStats m _ => decide (m < 16)
  | .tableAutoRepair m _ => decide (m < 16)
  | .tmConfig m _ => decide (m < 16)
  | .tmSched m _ => decide (m < 16)
  | .tmShaper m _ => decide (m < 16)
  | .tmPolicerWrite m _ => decide (m < 16)
  | .tmPolicerRead m _ => decide (m < 16)
  | .tmGateList m _ => decide (m < 16)
  | .tmGateStatus m _ => decide (m < 16)
  | .tmMaxSdu m _ => decide (m < 16)
  | .tmQueueStats m _ => decide (m < 16)
  | .tmSampleRing m _ => decide (m < 16)
  | .bufPoolConfig m _ => decide (m < 16)
  | .bufPoolMap m _ => decide (m < 16)
  | .bufHeadroom m _ => decide (m < 16)
  | .bufStatus m _ => decide (m < 16)
  | .bufStats m _ => decide (m < 16)
  | .bufMcWrite m _ => decide (m < 16)
  | .bufMcRead m _ => decide (m < 16)
  | .bufFabricStatus m _ => decide (m < 16)
  | .bufPlaneAdmin m _ => decide (m < 16)
  | .bufReseqStats m _ => decide (m < 16)
  | .bufAudit m _ => decide (m < 16)
  | .bufMirror m _ => decide (m < 16)
  | .ledgerConfig m _ => decide (m < 16)
  | .ledgerPolicy m _ => decide (m < 16)
  | .ledgerRings m _ => decide (m < 16)
  | .ledgerKeyCreate m _ => decide (m < 16)
  | .ledgerStart m _ => decide (m < 16)
  | .ledgerStop m _ => decide (m < 16)
  | .ledgerStatus m _ => decide (m < 16)
  | .ledgerSealGet m _ => decide (m < 16)
  | .ledgerTenantGet m _ => decide (m < 16)
  | .ledgerFlowGet m _ => decide (m < 16)
  | .ledgerStats m _ => decide (m < 16)
  | .memStatus m _ => decide (m < 16)
  | .memLayout m _ => decide (m < 16)
  | .memRegion m _ => decide (m < 16)
  | .memOnline m _ => decide (m < 16)
  | .memOffline m _ => decide (m < 16)
  | .memRebuildRate m _ => decide (m < 16)
  | .memCapture m _ => decide (m < 16)
  | .memCaptureAck m _ => decide (m < 16)
  | .memStats m _ => decide (m < 16)
  | .lanternStream m _ => decide (m < 16)
  | .lanternPort m _ => decide (m < 16)
  | .lanternTrigger m _ => decide (m < 16)
  | .lanternTenant m _ => decide (m < 16)
  | .lanternIpfix m _ => decide (m < 16)
  | .lanternAck m _ => decide (m < 16)
  | .lanternStats m _ => decide (m < 16)
  | .lanternPmcDump m _ => decide (m < 16)
  | .timeStatus m _ => decide (m < 16)
  | .timeStep m _ => decide (m < 16)
  | .timeRate m _ => decide (m < 16)
  | .timeState m _ => decide (m < 16)
  | .timePortDelay m _ => decide (m < 16)
  | .timePortPtp m _ => decide (m < 16)
  | .timePps m _ => decide (m < 16)
  | .timeSynce m _ => decide (m < 16)
  | .timeTxtsRead m _ => decide (m < 16)
  | .faultStatus m _ => decide (m < 16)
  | .faultAck m _ => decide (m < 16)
  | .faultClear m _ => decide (m < 16)
  | .faultForce m _ => decide (m < 16)
  | .faultLog m _ => decide (m < 16)
  | .faultConfig m _ => decide (m < 16)
  | .powerStatus m _ => decide (m < 16)
  | .powerCap m _ => decide (m < 16)
  | .powerConfig m _ => decide (m < 16)
  | .powerReasons m _ => decide (m < 16)
  | .powerSensors m _ => decide (m < 16)
  | .sliceStatus m _ => decide (m < 16)
  | .sliceTakeover m _ => decide (m < 16)
  | .sliceRelease m _ => decide (m < 16)
  | .sliceSelfCheck m _ => decide (m < 16)
  | .diagEcho m _ => decide (m < 16)
  | .diagDelay m _ => decide (m < 16)
  | .diagProtoLog m _ => decide (m < 16)
  | .deepDebugOpen kind => decide (kind = 1 ∨ kind = 2)
  | .memViralIndication port => decide (port < 4)
  | .pciePartnerViolation pf _ => decide (pf < 2)
  | .xbarPlaneRetrained plane => decide (plane < 4)
  | .pcieLinkTrained _ _ => true
  | .mbxRespValidClear m _ => decide (m < 16)
  | .xdcErrorClear ch => decide (ch < 8)
  | .halfRangeFold port counter => decide (port < 768) && decide (counter < 64)
  | .eeeLpiTransmit port _ => decide (port < 768)

end Sys2Proof
end

