-- ==== Sys2Proof/Decode.lean ====
section
/-! DEFINITION. The command that a word spells: the opcode table gives no row bits, so no word spells one. -/

namespace Sys2Proof

/-- The table's rows carry no bits (log entry 5): a command of a block comes as an operation of an interface or an
event, not as a word. -/
def decodeTableWord (_nbits _w : Nat) : Option Instr := none

end Sys2Proof
end

