-- ==== Sys2Proof/Machine/Bits.lean ====
section
/-! DEFINITION. Bit fields, byte order and signed readings of plain numbers (R12, R13), and the Galois LFSR of R521. -/

namespace Sys2Proof

/-- Bits [hi:lo] of a number (R12). -/
def fld (w hi lo : Nat) : Nat := (w / 2 ^ lo) % 2 ^ (hi - lo + 1)

/-- Bit `i` of a number. -/
def bit (w i : Nat) : Bool := (w / 2 ^ i) % 2 == 1

/-- A Boolean as a bit. -/
def b2n (b : Bool) : Nat := if b then 1 else 0

/-- A number with bits [hi:lo] replaced by `v`. -/
def setFld (w hi lo v : Nat) : Nat := w - fld w hi lo * 2 ^ lo + (v % 2 ^ (hi - lo + 1)) * 2 ^ lo

/-- A mask with bit `i` set to `b`. -/
def setBit (w i : Nat) (b : Bool) : Nat := setFld w i i (b2n b)

/-- `w` with every bit that `m` has cleared: the RW1C write of R15. -/
def clearBits (w m : Nat) : Nat := w - Nat.land w m

/-- Bit mask of a list of bit numbers. -/
def maskOf (l : List Nat) : Nat := l.foldl (fun w i => Nat.lor w (2 ^ i)) 0

/-- The bit numbers set in the low `n` bits. -/
def bitsOf (w n : Nat) : List Nat := (List.range n).filter (bit w)

/-- Little-endian bytes of a number, `n` of them (R13). -/
def le (n v : Nat) : Bytes :=
  match n with
  | 0 => []
  | k + 1 => BitVec.ofNat 8 v :: le k (v / 256)

/-- Network-order bytes of a number, `n` of them. -/
def be (n v : Nat) : Bytes := (le n v).reverse

/-- The number that little-endian bytes hold. -/
def leOf : Bytes → Nat
  | [] => 0
  | b :: r => b.toNat + 256 * leOf r

/-- The number that network-order bytes hold. -/
def beOf (bs : Bytes) : Nat := leOf bs.reverse

/-- `n` bytes from offset `o`, zeros past the end. -/
def part (bs : Bytes) (o n : Nat) : Bytes :=
  let p := (bs.drop o).take n
  p ++ List.replicate (n - p.length) 0

/-- The little-endian field of `n` bytes at offset `o`. -/
def rd (bs : Bytes) (o n : Nat) : Nat := leOf (part bs o n)

/-- The network-order field of `n` bytes at offset `o`. -/
def rdBe (bs : Bytes) (o n : Nat) : Nat := beOf (part bs o n)

/-- Zero bytes. -/
def zeros (n : Nat) : Bytes := List.replicate n 0

/-- An `n`-bit number read as two's complement. -/
def toInt (n v : Nat) : Int := if v % 2 ^ n < 2 ^ (n - 1) then (v % 2 ^ n : Nat) else ((v % 2 ^ n : Nat) : Int) - (2 ^ n : Nat)

/-- The `n`-bit two's complement form of an integer. -/
def ofInt (n : Nat) (i : Int) : Nat := (i % ((2 ^ n : Nat) : Int)).toNat

/-- Saturating sum below `2 ^ n`. -/
def satAdd (n a b : Nat) : Nat := min (a + b) (2 ^ n - 1)

/-- A value held within `lo` and `hi` (saturated, as the registers that say so do). -/
def clampTo (lo hi v : Nat) : Nat := max lo (min hi v)

/-- One advance of a Galois LFSR that shifts right, with tap mask `m` (R521). -/
def lfsrStep (m x : Nat) : Nat := if x % 2 == 1 then Nat.xor (x / 2) m else x / 2

/-- The tap mask of x^16 + x^14 + x^13 + x^11 + 1 (R521). -/
def lfsr16 (x : Nat) : Nat := lfsrStep 0xB400 x

/-- The tap mask of x^32 + x^22 + x^2 + x + 1 (R521). -/
def lfsr32 (x : Nat) : Nat := lfsrStep 0x80200003 x

/-- `l` with position `i` replaced. -/
def setAt {α : Type} (l : List α) (i : Nat) (v : α) : List α := l.set i v

/-- Position `i` of a list of numbers, 0 past the end. -/
def nth (l : List Nat) (i : Nat) : Nat := l.getD i 0

/-- A list of numbers with `n` added at position `i`. -/
def addAt (l : List Nat) (i n : Nat) : List Nat := l.set i (nth l i + n)

/-- The ceiling of a quotient. -/
def ceilDiv (a b : Nat) : Nat := (a + b - 1) / b

/-- Insertion into a list sorted by `key`, after equals. -/
def insertBy {α : Type} (key : α → Nat) (x : α) : List α → List α
  | [] => [x]
  | y :: r => if key x < key y then x :: y :: r else y :: insertBy key x r

/-- A stable sort by `key`, rising. -/
def sortBy {α : Type} (key : α → Nat) (l : List α) : List α := l.foldl (fun acc x => insertBy key x acc) []

end Sys2Proof
end

