-- ==== Sys2Proof/Machine/PartsRules.lean ====
section
/-! DEFINITION. State of the rule banks: the contents of a rule image as the classification stages read them, and
the two banks with their switch, drain and load. The layouts of the image's sections are not in the spec; a section
table and header are (R141), and Config.ruleBody stands for the decoding of the sections (log 7). -/

namespace Sys2Proof.Machine

/-- Header types of Table 4.3; `custom` for the types a graph adds. -/
inductive HdrType where
  | ethernet | ctag | stag | ipv4 | ipv6 | hopByHop | routing | fragment | dstOpts | ah
  | tcp | udp | icmp | icmp6 | vxlan | geneve | arp | ptp
  | custom (code : Nat)
  deriving DecidableEq, Repr

/-- The header length of a parse state (R114): fixed, or (field × scale) + addend. -/
inductive LenSpec where
  | fixed (bytes : Nat)
  | computed (bitOff bits scale : Nat) (addend : Int)
  deriving DecidableEq, Repr

/-- A transition entry: the masked key names a successor (R114). -/
structure Transition where
  /-- Value compared, 32 bits (R114). -/
  value : Nat := 0
  /-- Mask of the comparison, 32 bits (R114). -/
  mask : Nat := 0
  /-- Successor state, 0xFFFF ACCEPT, 0xFFFE ACCEPT_PAYLOAD (R114). -/
  next : Nat := 0xFFFF
  deriving DecidableEq, Repr

/-- A parse state (R114). -/
structure ParseState where
  /-- Header type (R114). -/
  hdr : HdrType := .ethernet
  /-- Header length (R114). -/
  len : LenSpec := .fixed 14
  /-- MIN_LEN, 10 bits (R114). -/
  minLen : Nat := 14
  /-- MAX_LEN, 10 bits (R114). -/
  maxLen : Nat := 14
  /-- Select key: at most two (bit offset, bits) fields (R114). -/
  key : List (Nat × Nat) := []
  /-- Transition entries in order (R114). -/
  trans : List Transition := []
  /-- Default successor (R114). -/
  dflt : Nat := 0xFFFF
  deriving DecidableEq, Repr

/-- An action set (Table 4.6): what one stage sets. -/
structure ActionSet where
  /-- SET_TENANT (R120). -/
  tenant : Option Nat := none
  /-- SET_VRF (R120). -/
  vrf : Option Nat := none
  /-- SET_BD (R120). -/
  bd : Option Nat := none
  /-- SET_TC (R120). -/
  tc : Option Nat := none
  /-- SET_QUEUE (R120). -/
  queue : Option Nat := none
  /-- SET_COLOUR (R120). -/
  colour : Option Nat := none
  /-- REDIRECT: DEST_TYPE and DEST_INDEX (R120). -/
  redirect : Option (Nat × Nat) := none
  /-- DROP with its reason (R120). -/
  drop : Option Nat := none
  /-- TRAP code (R120). -/
  trap : Option Nat := none
  /-- MIRROR sessions (R120). -/
  mirror : List Nat := []
  /-- CAPTURE ring (R120). -/
  capture : Option Nat := none
  /-- POLICER (R120). -/
  policer : Option Nat := none
  /-- LEDGER_POLICY (R120). -/
  policy : Option Nat := none
  /-- LANTERN (R120). -/
  lantern : Bool := false
  /-- EGRESS action entry (R120). -/
  egress : Option Nat := none
  deriving DecidableEq, Repr

/-- An egress action entry (R123). -/
structure EgressAct where
  /-- DROP with reason EGRESS_RULE_DROP (R123). -/
  drop : Bool := false
  /-- MIRROR session (R123). -/
  mirror : Option Nat := none
  /-- LANTERN (R123). -/
  lantern : Bool := false
  deriving DecidableEq, Repr

/-- A C4 lookup (R185). -/
structure C4Lookup where
  /-- Key builder, 5 bits (R185). -/
  builder : Nat := 0
  /-- Lookup group, 4 bits (R185). -/
  group : Nat := 0
  /-- Miss action entry, 0xFFFF for none (R185). -/
  miss : Nat := 0xFFFF
  deriving DecidableEq, Repr

/-- Hash settings (R136). -/
structure HashSet where
  /-- Seed, 32 bits (R136). -/
  seed : Nat := 0
  /-- Innermost parsed layer rather than the outer, 1 bit (R136). -/
  inner : Bool := true
  /-- Field mask, 4 bits (R136). -/
  mask : Nat := 15
  deriving DecidableEq, Repr

/-- An automaton selection of one quadrant (R200). -/
structure AutoSel where
  /-- Slot 0 or 1, 0xFF for none (R200). -/
  slot : Nat := 0xFF
  /-- Expected image SHA-256 (R200). -/
  hash : Bytes := []
  /-- Scan start code (R201). -/
  start : Nat := 0
  /-- ON_ERROR: 0 NO_MATCH, 1 DROP (R200). -/
  onError : Nat := 0
  /-- Map from pattern ID to ingress action entry; unlisted 0xFFFF (R200). -/
  map : Tab Nat := []
  deriving DecidableEq, Repr

/-- A ternary entry as the banks hold it. -/
structure TernEntry where
  /-- VALUE, 320 bits (R186). -/
  value : Nat := 0
  /-- MASK, 320 bits (R186). -/
  mask : Nat := 0
  /-- ACTION, 16 bits (R186). -/
  action : Nat := 0xFFFF
  /-- BANK_MASK, 2 bits (R113, R186). -/
  banks : Nat := 0
  /-- PRIORITY, 4 bits (R186). -/
  prio : Nat := 0
  deriving DecidableEq, Repr

/-- An entry of a TERNARY section: position, quadrant mask, entry (R191). -/
structure TernPlace where
  /-- Position, 17 bits (R191). -/
  pos : Nat := 0
  /-- Quadrant mask, 4 bits (R141, R191). -/
  quads : Nat := 0
  /-- Entry (R191). -/
  entry : TernEntry := {}
  deriving DecidableEq, Repr

/-- The contents of a rule bank. -/
structure RuleBody where
  /-- Parse states by number (R112, R114). -/
  parse : List ParseState := []
  /-- Selected Geneve options: (class, type), up to 4 (R117). -/
  geneve : List (Nat × Nat) := []
  /-- Length in bits of each key builder's key (R112, R185). -/
  builders : List Nat := []
  /-- Ingress action entries (R112). -/
  actions : Tab ActionSet := []
  /-- Number of ingress action entries, at most 65,536 (R112). -/
  nActions : Nat := 0
  /-- Egress action entries (R112). -/
  egress : Tab EgressAct := []
  /-- Number of egress action entries, at most 16,384 (R112). -/
  nEgress : Nat := 0
  /-- Growth in bytes each rewrite template declares (R257). -/
  growth : Tab Nat := []
  /-- Number of rewrite templates, at most 4,096 (R112). -/
  nTemplates : Nat := 0
  /-- Port default entries by port ID (R112, R120). -/
  portDef : Tab ActionSet := []
  /-- The four C4 lookups (R185). -/
  c4 : List (Option C4Lookup) := [none, none, none, none]
  /-- ECMP hash settings (R136). -/
  ecmp : HashSet := {}
  /-- LAG hash settings (R136). -/
  lag : HashSet := {}
  /-- Disposition of the exception codes 0 to 5: 0 FORWARD, 1 DROP, 2 TRAP (R116). -/
  disp : List Nat := [0, 0, 0, 0, 0, 0]
  /-- Automaton selection per quadrant (R200). -/
  autos : List AutoSel := [{}, {}, {}, {}]
  /-- Entries of the TERNARY sections (R191). -/
  tern : List TernPlace := []
  deriving DecidableEq, Repr

/-- A physical rule bank (R124). -/
structure Bank where
  /-- State code of Table 4.7 as committed at the last P5, 3 bits (R124, R127). -/
  st : Nat := 0
  /-- State code the commands of the beat in progress have set and the next P5 will show, 3 bits (R127; log 8). -/
  pst : Nat := 0
  /-- Logical version, 16 bits (R126). -/
  ver : Nat := 0
  /-- SHA-256 of the image as loaded; empty for version 0 (R142). -/
  hash : Bytes := []
  /-- Version 0's built-in contents are those of the bank, 1 bit (R125). -/
  builtin : Bool := false
  /-- Contents of the image (R112). -/
  body : RuleBody := {}
  deriving DecidableEq, Repr

/-- The rule banks with what the commands have posted. -/
structure Rules where
  /-- Bank 0 (R124). -/
  b0 : Bank := { st := 3, pst := 3, builtin := true }
  /-- Bank 1 (R124). -/
  b1 : Bank := {}
  /-- The active physical bank, 1 bit (R145). -/
  active : Nat := 0
  /-- Switch pending until P5: 0 none, 1 commit, 2 revert (R127). -/
  sw : Nat := 0
  /-- Next image offset of RULE.LOAD, 26 bits (R142). -/
  loadOff : Nat := 0
  /-- Image bytes loaded (R142). -/
  loaded : Bytes := []
  /-- A final RULE.LOAD whose placement waits for a block move, or for P3: its command's order (R207). -/
  placing : Option Nat := none
  /-- Beat in which that RULE.LOAD was accepted, 64 bits (R207). -/
  placeBeat : Nat := 0
  /-- Bank whose bit RULE.OPEN clears at the next P3 (R191). -/
  clear : Option Nat := none
  /-- Beat number of the last switch, 64 bits (R144). -/
  swBeat : Nat := 0
  /-- GLB_RULE, 32 bits (R145). -/
  reg : Nat := 0
  /-- GLB_RULE_INFLIGHT, 32 bits (R145). -/
  inflReg : Nat := 0
  /-- Boundary at which the draining bank began to drain, 64 bits (R130). -/
  drainStart : Nat := 0
  /-- Largest maximum sojourn since then (R130). -/
  drainSmax : Nat := 0
  /-- Version that became active when the draining bank left it, 16 bits (R131). -/
  vNew : Nat := 0
  /-- Retired by force: (bank, V_new) whose stragglers are dropped (R131). -/
  expired : List (Nat × Nat) := []
  deriving DecidableEq, Repr

end Sys2Proof.Machine
end

