-- ==== Sys2Proof/Config.lean ====
section
/-! DEFINITION. What an implementation fixes and what the spec leaves open: constants without a body, so that
nothing can be proved of their values. A fresh free value is a constant applied to State.freeCtr, which the step that
uses it advances. -/

namespace Sys2Proof.Config

/-- The contents that the bytes of a rule image stand for, or none where a section cannot be read: R141 fixes the
image's header and section table and no layout inside a section (log entry 7). -/
opaque ruleBody : Bytes → Option Machine.RuleBody

/-- The key of `bits` bits that key builder `builder` of the image whose contents hash to the first operand makes from
the packet's fields, given as the field bytes (R139; log entry 7). -/
opaque keyOf : Bytes → (builder : Nat) → (fields : Bytes) → Nat

/-- The header rewrite of a rule image: image hash, template number, operands (the next hop's addresses, VID and
encapsulation, as bytes), frame without FCS → rewritten frame without FCS (R123; log entry 7). -/
opaque rewrite : Bytes → (template : Nat) → (operands : Bytes) → (frame : Bytes) → Bytes

/-- The IDs of the patterns of an automaton image that match anywhere in a scan window (R203, R204; log entry 7). -/
opaque autoMatch : (image : Bytes) → (window : Bytes) → List Nat

/-- What a parse state reads past the last byte of a frame, from the frame: no rule states it (log entry 72). -/
opaque pastEnd : Bytes → Bytes

/-- GLB_ID [15:0], the part's revision, 16 bits where it is used (R373; log entry 73). -/
opaque partRev : Nat

/-- Whether the scan of a window reads one of the words of the image at the given offsets (R206; log entry 7). -/
opaque autoReads : (image : Bytes) → (words : List Nat) → (window : Bytes) → Bool

/-- Words that TABLE.AUTO_REPAIR rewrites at one P3, less one: R206 has them rewritten at successive P3s and gives no number
(log entry 221). -/
opaque repairWords : Nat

/-- The two image slots of the board's boot flash at power-up (R434; log entry 43). -/
opaque flashSlots : List Bytes

/-- The two boot descriptor copies of the boot flash at power-up (R437; log entry 43). -/
opaque flashDesc : List Bytes

/-- The board configuration area of the boot flash at power-up (R490; log entry 43). -/
opaque flashBoard : Bytes

/-- A value the spec leaves open, one for each use (log entry 44). -/
opaque free : Nat → Nat

/-- A byte string the spec leaves open, one for each use, of the length asked for where the user pads it (log
entry 44). -/
opaque freeBytes : Nat → Bytes

/-- Cells that the queue of a source slice toward a quadrant holds on one plane: the spec gives full queues an effect and
no size (R228; log entry 193). -/
opaque crossingCells : Nat

/-- Microseconds the receivers of this part need after a wake sequence, less one and modulo 50: R77 gives the range 1 to
50 and no value (log entry 60). -/
opaque ownWake : Nat

/-- PACKAGE_SERIAL of the identity record, 16 bytes where it is used (R426; log entry 151). -/
opaque serial : Bytes

/-- The six die entries of the identity record, 96 bytes where they are used (R426; log entry 151). -/
opaque dies : Bytes

/-- SHA-256 of the boot ROM, 32 bytes where it is used (R431; log entry 151). -/
opaque romHash : Bytes

/-- KEY_IDs of the firmware signing keys in the boot ROM, the first four of them (R429; log entry 151). -/
opaque signers : List Nat

/-- KEY_IDs of the provisioning authority keys in the boot ROM, the first four of them (R429; log entry 151). -/
opaque authorities : List Nat

/-- Whether a signature over a message verifies under the boot ROM's key of a KEY_ID (R428, R435; log entry 151). -/
opaque verify : (keyId : Nat) → (msg sig : Bytes) → Bool

/-- What follows the 16-byte randomiser in the SLH-DSA-SHA2-128f signature of a message under the key pair of a public key:
17,072 bytes where it is used (R293, R428; log entry 151). -/
opaque signRest : (publicKey msg randomiser : Bytes) → Bytes

/-- SLH-DSA public key that 48 bytes of seeds give, 32 bytes where it is used (R427; log entry 151). -/
opaque publicKey : Bytes → Bytes

/-- The static term of the power estimate in μW, from the hottest sensor of each die in 1/16 °C and the regulators' supply
voltages (R473; log entry 176). -/
opaque staticPower : List (Option Int) → List Nat → Nat

/-- The coefficient of a unit activity count of R473 in μW, in the order of Power.act (log entry 176). -/
opaque actWeight : Nat → Nat

/-- The coefficient in μW of a lane of a mode whose transmitter, and whose receiver, is quiet (R473; log entry 176). -/
opaque laneWeight : (mode : Nat) → (txQuiet rxQuiet : Bool) → Nat

/-- The disagreement of R474 in 0.1 % while M is 0, from E_c in mW: a division the spec gives no result for (log
entry 170). -/
opaque disagreeZero : Nat → Nat

end Sys2Proof.Config
end

