-- ==== Sys2Proof/Machine/Crypto.lean ====
section
/-! DEFINITION. The checksums and hashes the device computes: CRC-32 of the Ethernet FCS, CRC-32C, CRC-16 of the
pattern filters, and SHA-256. All are written over plain numbers by structural recursion. -/

namespace Sys2Proof.Machine

/-- One right shift of a reflected CRC register with feedback mask `m`. -/
def crcBit (m x : Nat) : Nat := if x % 2 == 1 then Nat.xor (x / 2) m else x / 2

/-- `n` shifts. -/
def crcBits (m : Nat) : Nat → Nat → Nat
  | 0, x => x
  | n + 1, x => crcBits m n (crcBit m x)

/-- A reflected CRC of 32 bits over bytes, register in and out. -/
def crcRun (m : Nat) (x : Nat) (bs : Bytes) : Nat := bs.foldl (fun x b => crcBits m 8 (Nat.xor x b.toNat)) x

/-- CRC-32 of IEEE 802.3, as the FCS carries it (R47, R92). -/
def crc32 (bs : Bytes) : Nat := Nat.xor (crcRun 0xEDB88320 0xFFFFFFFF bs) 0xFFFFFFFF

/-- CRC-32C, the checksum of images and of the flow hashes (R138, R141). -/
def crc32c (bs : Bytes) : Nat := Nat.xor (crcRun 0x82F63B78 0xFFFFFFFF bs) 0xFFFFFFFF

/-- One left shift of the CRC-16 register of polynomial 0x1021. -/
def crc16Bit (x : Nat) : Nat := if bit x 15 then Nat.xor (x * 2 % 65536) 0x1021 else x * 2

/-- Eight shifts. -/
def crc16Byte (x : Nat) (b : Byte) : Nat :=
  crc16Bit (crc16Bit (crc16Bit (crc16Bit (crc16Bit (crc16Bit (crc16Bit (crc16Bit (Nat.xor x (b.toNat * 256)))))))))

/-- The CRC-16 of R378: polynomial 0x1021, initial value 0xFFFF, no reflection, no final XOR. -/
def crc16 (bs : Bytes) : Nat := bs.foldl crc16Byte 0xFFFF

/-- A frame with its FCS appended, least significant byte first. -/
def withFcs (bs : Bytes) : Bytes := bs ++ le 4 (crc32 bs)

/-- Whether the last four bytes of a frame are the FCS of the rest. -/
def fcsOk (bs : Bytes) : Bool := rd bs (bs.length - 4) 4 == crc32 (bs.take (bs.length - 4))

/-- Bytes ended with the bitwise complement of their CRC-32 (R47). -/
def withStomp (bs : Bytes) : Bytes := bs ++ le 4 (Nat.xor (crc32 bs) 0xFFFFFFFF)

/-- The `n` 32-bit words that a number writes out, the first in its highest bits. -/
def wordsOf (n x : Nat) : List Nat := (List.range n).map fun i => x / 2 ^ (32 * (n - 1 - i)) % 2 ^ 32

/-- The constants of rounds 16i to 16i + 15 of SHA-256, one after the other: 32 bits each of the fractional parts of the
cube roots of the first 64 primes. -/
def roundBits : List Nat :=
  [0x428A2F9871374491B5C0FBCFE9B5DBA53956C25B59F111F1923F82A4AB1C5ED5D807AA9812835B01243185BE550C7DC372BE5D7480DEB1FE9BDC06A7C19BF174,
    0xE49B69C1EFBE47860FC19DC6240CA1CC2DE92C6F4A7484AA5CB0A9DC76F988DA983E5152A831C66DB00327C8BF597FC7C6E00BF3D5A7914706CA635114292967,
    0x27B70A852E1B21384D2C6DFC53380D13650A7354766A0ABB81C2C92E92722C85A2BFE8A1A81A664BC24B8B70C76C51A3D192E819D6990624F40E3585106AA070,
    0x19A4C1161E376C082748774C34B0BCB5391C0CB34ED8AA4A5B9CCA4F682E6FF3748F82EE78A5636F84C878148CC7020890BEFFFAA4506CEBBEF9A3F7C67178F2]

/-- The 64 round constants. -/
def roundWords : List Nat := roundBits.flatMap (wordsOf 16)

/-- Rotation of a 32-bit word to the right. -/
def rotr (n x : Nat) : Nat := x / 2 ^ n + (x % 2 ^ n) * 2 ^ (32 - n)

/-- The message schedule, newest word first: one more word from the sixteen before it. -/
def shaExpand (w : List Nat) : List Nat :=
  let a := nth w 14
  let b := nth w 1
  let s0 := Nat.xor (Nat.xor (rotr 7 a) (rotr 18 a)) (a / 8)
  let s1 := Nat.xor (Nat.xor (rotr 17 b) (rotr 19 b)) (b / 1024)
  ((nth w 15 + s0 + nth w 6 + s1) % 2 ^ 32) :: w

/-- `n` more words. -/
def shaSchedule : Nat → List Nat → List Nat
  | 0, w => w
  | n + 1, w => shaSchedule n (shaExpand w)

/-- One round on the eight working words. -/
def shaRound (v : List Nat) (kw : Nat × Nat) : List Nat :=
  match v with
  | [a, b, c, d, e, f, g, h] =>
    let s1 := Nat.xor (Nat.xor (rotr 6 e) (rotr 11 e)) (rotr 25 e)
    let ch := Nat.xor (Nat.land e f) (Nat.land (Nat.xor e 0xFFFFFFFF) g)
    let t1 := h + s1 + ch + kw.1 + kw.2
    let s0 := Nat.xor (Nat.xor (rotr 2 a) (rotr 13 a)) (rotr 22 a)
    let mj := Nat.xor (Nat.xor (Nat.land a b) (Nat.land a c)) (Nat.land b c)
    [(t1 + s0 + mj) % 2 ^ 32, a, b, c, (d + t1) % 2 ^ 32, e, f, g]
  | _ => v

/-- The big-endian words of a block. -/
def wordsBe (n : Nat) (bs : Bytes) : List Nat := (List.range n).map fun i => rdBe bs (4 * i) 4

/-- The compression of one 64-byte block. -/
def shaBlock (h : List Nat) (blk : Bytes) : List Nat :=
  let w := (shaSchedule 48 (wordsBe 16 blk).reverse).reverse
  let v := (roundWords.zip w).foldl shaRound h
  (h.zip v).map fun p => (p.1 + p.2) % 2 ^ 32

/-- All blocks of a padded message. -/
def shaBlocks : Nat → List Nat → Bytes → List Nat
  | 0, h, _ => h
  | n + 1, h, bs => shaBlocks n (shaBlock h (bs.take 64)) (bs.drop 64)

/-- The initial hash value of SHA-256: 32 bits each of the fractional parts of the square roots of the first 8 primes. -/
def shaStart : Nat := 0x6A09E667BB67AE853C6EF372A54FF53A510E527F9B05688C1F83D9AB5BE0CD19

/-- SHA-256: 32 bytes. -/
def sha256 (bs : Bytes) : Bytes :=
  let z := (119 - bs.length % 64) % 64
  let m := bs ++ (0x80 : Byte) :: zeros z ++ be 8 (8 * bs.length)
  (shaBlocks (m.length / 64) (wordsOf 8 shaStart) m).flatMap (be 4)

/-- The pure SLH-DSA-SHA2-128f signature of a message, 17,088 bytes: the randomiser of 16 bytes, then what key pair, message
and randomiser give (R293, R428, R431; log entry 151). -/
def slhSign (pk msg r : Bytes) : Bytes := part r 0 16 ++ part (Config.signRest pk msg (part r 0 16)) 0 17072

/-- Whether bytes are such a signature (R292, R293; log entry 151). -/
def slhVerify (pk msg sig : Bytes) : Bool := part sig 0 17088 == slhSign pk msg sig

end Sys2Proof.Machine
end

