-- ==== Sys2Proof/Machine/PartsBuffer.lean ====
section
/-! DEFINITION. State of frames in the device: octet FIFOs, ingress halves, cell buffer, pools, crossing fabric,
resequencers, multicast, mirror sessions, queues, schedulers, shapers and gates. -/

namespace Sys2Proof.Machine

/-- The metadata of a packet (Table 4.4). -/
structure Md where
  /-- INGRESS_PORT, 10 bits (R118). -/
  port : Nat := 0
  /-- INGRESS_SLICE, 5 bits (R118). -/
  slice : Nat := 0
  /-- RULE_VERSION, 16 bits (R118). -/
  ver : Nat := 0
  /-- BANK, 1 bit (R118). -/
  bank : Nat := 0
  /-- TRACER (R118). -/
  tracer : Bool := false
  /-- LANTERN (R118). -/
  lantern : Bool := false
  /-- MIRROR_COPY (R118). -/
  mirrorCopy : Bool := false
  /-- RECIRCULATED (R118). -/
  recirc : Bool := false
  /-- FRAGMENT (R118). -/
  fragment : Bool := false
  /-- COLOUR, 2 bits (R118). -/
  colour : Nat := 0
  /-- QUEUE, 6 bits (R118). -/
  queue : Nat := 0
  /-- TC, 3 bits (R118). -/
  tc : Nat := 0
  /-- DROP (R118). -/
  drop : Bool := false
  /-- IP_CSUM_BAD (R118). -/
  csumBad : Bool := false
  /-- GENEVE_VER (R118). -/
  geneveVer : Bool := false
  /-- GENEVE_CRIT (R118). -/
  geneveCrit : Bool := false
  /-- PARSE_EXC, 3 bits (R118). -/
  exc : Nat := 0
  /-- INGRESS_TS, 32 bits (R118). -/
  ts : Nat := 0
  /-- MINUTE, 32 bits (R118). -/
  minute : Nat := 0
  /-- TENANT, 20 bits (R118). -/
  tenant : Nat := 0
  /-- LEDGER_POLICY, 8 bits (R118). -/
  policy : Nat := 0
  /-- VRF, 12 bits (R118). -/
  vrf : Nat := 0
  /-- BD, 16 bits (R118). -/
  bd : Nat := 0
  /-- FLOW_HASH, 32 bits (R118). -/
  flowHash : Nat := 0
  /-- ECMP_HASH, 32 bits (R118). -/
  ecmpHash : Nat := 0
  /-- LAG_HASH, 32 bits (R118). -/
  lagHash : Nat := 0
  /-- DEST_TYPE, 2 bits (R118). -/
  dtype : Nat := 0
  /-- DEST_INDEX, 24 bits (R118). -/
  dindex : Nat := 0
  /-- POLICER, 16 bits (R118). -/
  policer : Nat := 0xFFFF
  /-- MIRROR_A, 4 bits (R118). -/
  mirrorA : Nat := 0
  /-- MIRROR_B, 4 bits (R118). -/
  mirrorB : Nat := 0
  /-- TRAP_CODE, 8 bits (R118). -/
  trap : Nat := 0
  /-- DROP_REASON, 8 bits (R118). -/
  reason : Nat := 0
  /-- CAPTURE, 8 bits (R118). -/
  capture : Nat := 0
  /-- L3_OFFSET, 10 bits (R118). -/
  l3 : Nat := 0x3FF
  /-- L4_OFFSET, 10 bits (R118). -/
  l4 : Nat := 0x3FF
  /-- INNER_L3_OFFSET, 10 bits (R118). -/
  innerL3 : Nat := 0x3FF
  /-- LENGTH, 15 bits (R118). -/
  len : Nat := 0
  /-- EGRESS_ACTION, 16 bits (R118). -/
  egress : Nat := 0xFFFF
  deriving DecidableEq, Repr

/-- Where a packet in an ingress queue comes from (R29). -/
inductive Origin where
  | front | recirc | cpuDirect | cpuPipe | ittas | mirror | exported
  deriving DecidableEq, Repr

/-- A packet in the device: one frame with what travels with it. -/
structure Packet where
  /-- Metadata (R118). -/
  md : Md := {}
  /-- Frame bytes with FCS (R44). -/
  bytes : Bytes := []
  /-- Bytes that have reached the slice (R115). -/
  arrived : Nat := 0
  /-- Instant at which its last byte reaches the slice, in ns from the first beat (R92; log entry 118). -/
  endAt : Nat := 0
  /-- The frame ends bad: FCS, codeword, or length over MAX (R47). -/
  bad : Bool := false
  /-- Drop reason the bad frame gets under store-and-forward (R92, R94). -/
  badReason : Nat := 0
  /-- Source of the packet's slot (R29). -/
  origin : Origin := .front
  /-- It has its slot and its stamp (R119). -/
  stamped : Bool := false
  /-- Beat of the ingress slot it took last: its lookups see the state of this beat (R39, Table 4.8). -/
  slotBeat : Nat := 0
  /-- Beat of the ingress slot that stamped it, from which its age counts through recirculation and into mirror copies
  (R119, R130, R248). -/
  born : Nat := 0
  /-- Slot time in ns within that beat (R41). -/
  slotNs : Nat := 0
  /-- Receive timestamp: seconds, nanoseconds and internal time base in 1/65,536 ns (R356, R360). -/
  rxTs : Nat × Nat × Nat := (0, 0, 0)
  /-- Sampled by the ingress port's draw (R327). -/
  sampled : Bool := false
  /-- Tenant flag of the final tenant (R326). -/
  flagged : Bool := false
  /-- T0 to T2 of a tracer (R334). -/
  stages : List Nat := []
  /-- The ledger counts the packet (R265, R295). -/
  counted : Bool := false
  /-- MODE of its ledger policy at the stamp, 2 bits (R265). -/
  mode : Nat := 0
  /-- Flow hash input block, 40 bytes (R264). -/
  block : Bytes := []
  /-- The source endpoint is the lower one, or the endpoints are equal (R266). -/
  lh : Bool := true
  /-- Stored cells and the pool charged (R212, R215). -/
  charge : Option (Nat × Nat) := none
  /-- The frame's cells in their order in link memory, 21 bits each (R209). -/
  cells : List Nat := []
  /-- Cells queued toward each destination quadrant, on each of the four planes (R223, R224). -/
  queued : Tab (List Nat) := []
  /-- Times each crossing cell has failed its CRC, by 512 × plane + cell of the frame (R227). -/
  failed : Tab Nat := []
  /-- Port and priority whose admitted-cell count holds the charge (R97). -/
  chargePort : Nat × Nat := (0, 0)
  /-- Reference count of the stored copy, 10 bits (R222). -/
  refs : Nat := 0
  /-- Its bank's in-flight counter counts it (R129). -/
  inflight : Bool := false
  /-- Transmit timestamp requested: TS_ID (R361). -/
  tsId : Option Nat := none
  /-- Lantern records that an IPFIX packet carries: stream (R340). -/
  exportOf : Option (Nat × Nat) := none
  /-- Mirror session of a mirror copy (R234). -/
  session : Nat := 0
  /-- CPU-port copy made by TRAP (R129). -/
  trapCopy : Bool := false
  /-- Mirrored first bytes a direct descriptor or copy names: egress port of a packet that skips classification
  (R234, R340, R389). -/
  direct : Option Nat := none
  /-- PTP event message (R360). -/
  ptp : Bool := false
  /-- EtherType after the tags and outer VID, for the CPU-port filters (R379). -/
  etherVid : Nat × Nat := (0, 0)
  /-- Offset of the first byte after the last header instance (R201). -/
  payload : Nat := 0
  /-- L3 length field reading of the outer header: offset plus total length plus FCS, 0 when none (R257). -/
  l3End : Nat := 0
  deriving DecidableEq, Repr

/-- Where a copy stands on its way out. -/
inductive CopyStage where
  /-- Crossing or on the local path. -/
  | crossing
  /-- In the resequencer's window. -/
  | waiting
  /-- In its queue. -/
  | queued
  /-- Being sent. -/
  | sending
  /-- A preempted remainder. -/
  | remainder
  deriving DecidableEq, Repr

/-- One egress copy of a packet. -/
structure Copy where
  /-- Packet (R221). -/
  pkt : Nat := 0
  /-- Egress port (R151). -/
  port : Nat := 0
  /-- Queue at that port (R239). -/
  queue : Nat := 0
  /-- Made from a multicast group (R221). -/
  mc : Bool := false
  /-- Stage. -/
  stage : CopyStage := .crossing
  /-- Express frame (R215). -/
  express : Bool := false
  /-- Crosses the fabric (R223). -/
  crossed : Bool := false
  /-- Plane of an express copy's lane (R225). -/
  plane : Nat := 0
  /-- Sequence number in its stream (R229). -/
  seq : Nat := 0
  /-- Epoch of its stream (R232). -/
  epoch : Bool := false
  /-- Beat and ns of its first cell's arrival (R230). -/
  arrive : Nat × Nat := (0, 0)
  /-- Cut-through eligible at resolution (R46). -/
  cut : Bool := false
  /-- The cut-through start is allowed (R226). -/
  ready : Bool := true
  /-- ECN mark (R216). -/
  ecn : Bool := false
  /-- T3 to T6 of a tracer (R334). -/
  stages : List Nat := []
  /-- Frame as rewritten for transmission, once started (R123). -/
  out : Bytes := []
  /-- The frame will be ended with a complemented CRC (R47). -/
  stomp : Bool := false
  /-- The fragment being sent is the last of a preempted frame (R249). -/
  last : Bool := false
  /-- Ledger reason of the stomp (R47). -/
  stompReason : Nat := 0
  /-- LANTERN set by the egress action (R123). -/
  lantern : Bool := false
  /-- Queue depth in cells when it left the queue (R331). -/
  depth : Nat := 0
  /-- Instant at which it was started, in ns from the first beat (R258; log entry 106). -/
  start : Nat := 0
  /-- Bytes already sent of a preempted frame (R258). -/
  sent : Nat := 0
  /-- DEST_TYPE and DEST_INDEX kept for the egress half (R151). -/
  dest : Nat × Nat := (0, 0)
  /-- First byte to the lane die: ns of the clock (R331). -/
  txTs : Nat := 0
  deriving DecidableEq, Repr

/-- A stream of the resequencer (R229, R230). -/
structure Strm where
  /-- Next number the source gives, 16 bits (R229; log 26). -/
  next : Nat := 0
  /-- EXPECTED, 16 bits (R230; log 26). -/
  expected : Nat := 0
  /-- Epoch, 1 bit (R232; log 26). -/
  epoch : Bool := false
  deriving DecidableEq, Repr

/-- Counts of an egress slice's resequencer (R236). -/
structure Reseq where
  /-- Released, 64 bits (R236). -/
  released : Nat := 0
  /-- RESEQ_SKIP, 64 bits (R236). -/
  skip : Nat := 0
  /-- RESEQ_LATE, 64 bits (R236). -/
  late : Nat := 0
  /-- RESEQ_EPOCH, 64 bits (R236). -/
  epoch : Nat := 0
  /-- Window high-water, 32 bits (R236). -/
  high : Nat := 0
  deriving DecidableEq, Repr

/-- An admission that back-pressure holds at the end of a slice's ingress half: the packet, whether it is multicast, the
members that get no copy whatever the hold rules say, and the egress ports of its copies (R228). -/
structure Waiting where
  pkt : Nat
  mc : Bool
  lost : Nat
  ports : List Nat
  deriving DecidableEq, Repr

/-- An ingress slice's arbiter and pipeline counts (R29). -/
structure Arb where
  /-- Octet last served, 2 bits (R29). -/
  octet : Nat := 2
  /-- Other source last served, 3 bits (R29). -/
  other : Nat := 4
  /-- Slots used in the beat in progress, 13 bits (R27). -/
  used : Nat := 0
  /-- Slots the front panel has used in the beat, 13 bits (R29). -/
  front : Nat := 0
  /-- Slots the other sources have used in the beat, 13 bits (R29). -/
  others : Nat := 0
  /-- Packets the slice's egress half has started in the beat, 13 bits (R27). -/
  egress : Nat := 0
  /-- Admissions that wait for the crossing queues, in order (R228). -/
  waiting : List Waiting := []
  /-- Lantern and tracer LFSR, 32 bits (R327). -/
  lantern : Nat := 0xFFFFFFFF
  /-- ECN LFSR, 16 bits (R216). -/
  ecn : Nat := 0xFFFF
  /-- Mirror LFSR by session, 16 bits each (R234). -/
  mirror : Tab Nat := []
  /-- A tracer was tagged in this beat (R333). -/
  tagged : Bool := false
  /-- Lantern records made in this beat, 5 bits (R338). -/
  records : Nat := 0
  /-- EXPRESS_OVERRUN, 64 bits (R225). -/
  expressOverrun : Nat := 0
  /-- Frames dropped as NO_PLANE, 64 bits (R228). -/
  noPlane : Nat := 0
  deriving DecidableEq, Repr

/-- A service pool (R212 to R214). -/
structure Pool where
  /-- SIZE, 22 bits (R213). -/
  size : Nat := 0
  /-- NOTICE (R213). -/
  notice : Nat := 0
  /-- WARN (R213). -/
  warn : Nat := 0
  /-- STOP (R213). -/
  stop : Nat := 0
  /-- HYST (R213). -/
  hyst : Nat := 0
  /-- Occupancy O, 22 bits (R212). -/
  o : Nat := 0
  /-- High-water mark, 22 bits (R236). -/
  high : Nat := 0
  /-- State code, 2 bits (R214). -/
  st : Nat := 0
  /-- Frames admitted, cells admitted, BUF_COLOUR, BUF_STOP, BUF_POOL_FULL, BUF_HEADROOM, ECN marks, 64 bits each
  (R236). -/
  counts : List Nat := [0, 0, 0, 0, 0, 0, 0]
  deriving DecidableEq, Repr

/-- A multicast group (R219). -/
structure McGroup where
  /-- PRUNE_INGRESS (R219). -/
  prune : Bool := true
  /-- MEMBERS (R219). -/
  members : List Nat := []
  /-- MC_COPY_DROP, 64 bits (R220). -/
  drops : Nat := 0
  deriving DecidableEq, Repr

/-- A crossing plane (R227, R236). -/
structure Plane where
  /-- 0 in service, 1 failed, 2 out by command (R236). -/
  st : Nat := 0
  /-- Its links have retrained since it failed, 1 bit (R227). -/
  trained : Bool := true
  /-- Cells carried, 64 bits (R236). -/
  cells : Nat := 0
  /-- Replays, 64 bits (R236). -/
  replays : Nat := 0
  deriving DecidableEq, Repr

/-- A mirror session (R233, R234). -/
structure Mirror where
  /-- ENABLE (R233). -/
  on : Bool := false
  /-- DEST, 16 bits (R233; log 27). -/
  dest : Nat := 0
  /-- TC, 3 bits (R233; log 27). -/
  tc : Nat := 0
  /-- TRUNC, 14 bits (R233; log 27). -/
  trunc : Nat := 0
  /-- SAMPLE, 5 bits (R233; log 27). -/
  sample : Nat := 0
  /-- TEMPLATE, H bytes (R233; log 27). -/
  template : Bytes := []
  /-- Copies made, not made under SAMPLE, MIRROR_OFF, dropped, 64 bits each (R234). -/
  counts : List Nat := [0, 0, 0, 0]
  deriving DecidableEq, Repr

/-- The cell buffer, fabric and ingress side. -/
structure Buf where
  /-- Packets by number (R209). -/
  pkts : Tab Packet := []
  /-- Copies by number (R221). -/
  copies : Tab Copy := []
  /-- Next packet number (model's own; log 28). -/
  nextPkt : Nat := 0
  /-- Next copy number (model's own; log 28). -/
  nextCopy : Nat := 0
  /-- Frames waiting in each octet's ingress FIFO, front first (R30). -/
  fifo : Tab (List Nat) := []
  /-- Packets of the other sources by 5 × slice + source, front first (R29). -/
  inj : Tab (List Nat) := []
  /-- Packets waiting in the parse buffers, with the bytes each needs (R115). -/
  parsing : Tab Nat := []
  /-- Arbiter of each slice (R29). -/
  arbs : Tab Arb := []
  /-- Streams by 256 × egress slice + 8 × ingress slice + class (R229). -/
  streams : Tab Strm := []
  /-- Resequencer counts by egress slice (R236). -/
  reseq : Tab Reseq := []
  /-- Pools 0 to 16 (R212). -/
  pools : List Pool :=
    List.replicate 8 { size := 196608, notice := 98304, warn := 147456, stop := 176947, hyst := 4096 } ++
    List.replicate 8 { size := 32768, notice := 16384, warn := 24576, stop := 29491, hyst := 4096 } ++
    [{ size := 262144 }]
  /-- UC_POOL, 4 bits each (R213). -/
  ucPool : List Nat := [0, 1, 2, 3, 4, 5, 6, 7]
  /-- MC_POOL, 4 bits each (R213). -/
  mcPool : List Nat := [8, 9, 10, 11, 12, 13, 14, 15]
  /-- The cells whose state bit is HELD, rising, 21 bits each; every other cell is FREE (R210; log 29). -/
  held : List Nat := []
  /-- Double frees refused, 64 bits (R210, R236). -/
  doubleFree : Nat := 0
  /-- Cell ECC errors corrected, 64 bits (R236). -/
  eccCorr : Nat := 0
  /-- Cell ECC errors uncorrectable, 64 bits (R236). -/
  eccUncorr : Nat := 0
  /-- Multicast groups (R219). -/
  groups : Tab McGroup := []
  /-- Multicast groups as committed at the boundary before the last (R220). -/
  groupsPrev : Tab McGroup := []
  /-- Planes 0 to 3 (R223). -/
  planes : List Plane := [{}, {}, {}, {}]
  /-- The audits that count: order, and beat of acceptance (R237). -/
  audits : List (Nat × Nat) := []
  /-- Mirror sessions (R233). -/
  mirrors : Tab Mirror := []
  deriving DecidableEq, Repr

/-- In-flight counters and parse counts, apart from the rule banks. -/
structure Flight where
  /-- In-flight counter of bank 0, 32 bits (R129). -/
  c0 : Nat := 0
  /-- In-flight counter of bank 1, 32 bits (R129). -/
  c1 : Nat := 0
  /-- Parse exceptions by 8 × port + code, 64 bits each (R116). -/
  exc : Tab Nat := []
  /-- MIRROR_EXCESS by port, 64 bits each (R120). -/
  mirrorExcess : Tab Nat := []
  deriving DecidableEq, Repr

/-- A shaper (R246). -/
structure Shaper where
  /-- ENABLE (R246). -/
  on : Bool := false
  /-- RATE, 26 bits (R246; log 30). -/
  rate : Nat := 0
  /-- BURST, 24 bits (R246; log 30). -/
  burst : Nat := 0
  /-- Credit in 1/256 byte (R247). -/
  credit : Int := 0
  deriving DecidableEq, Repr

/-- A child of a WFQ node (R244). -/
structure Wfq where
  /-- Weight, 8 bits (R244). -/
  weight : Nat := 16
  /-- Last tag, 32 bits (R244; log 31). -/
  last : Nat := 0
  /-- fresh (R244; log 31). -/
  fresh : Bool := true
  deriving DecidableEq, Repr

/-- A gate control list (R254). -/
structure GateList where
  /-- Entries: interval, gates, operation (R254). -/
  entries : List (Nat × Nat × Nat) := []
  /-- Base time in ns (R253). -/
  base : Nat := 0
  /-- Cycle time in ns, 30 bits (R253). -/
  cycle : Nat := 1000
  /-- Cycle time extension in ns (R253). -/
  ext : Nat := 0
  deriving DecidableEq, Repr

/-- The gates of a port (R253). -/
structure Gates where
  /-- Gate states, 8 bits (R253). -/
  states : Nat := 0xFF
  /-- AdminGateStates, 8 bits (R253; log 32). -/
  adminStates : Nat := 0xFF
  /-- Operational list and the ns of the clock at which its cycles count from (R255). -/
  oper : Option GateList := none
  /-- Start of the operational list's first cycle, ns (R255). -/
  start : Nat := 0
  /-- Current entry, 8 bits (R263). -/
  entry : Nat := 0
  /-- Pending admin list with its ConfigChangeTime in ns (R255). -/
  pend : Option (GateList × Nat) := none
  /-- ConfigChangeTime last reported, ns (R263). -/
  changeTime : Nat := 0
  /-- Time of the last gate event applied, ns (R255). -/
  done : Nat := 0
  /-- Queues whose head the guard band has held: ineligible until their gate next opens (R258). -/
  latched : List Nat := []
  deriving DecidableEq, Repr

/-- Counts and marks of a queue (R261, R263). -/
structure QStat where
  /-- Frames sent, 64 bits (R263). -/
  frames : Nat := 0
  /-- Bytes sent, 64 bits (R263). -/
  bytes : Nat := 0
  /-- SOJOURN drops, 64 bits (R263). -/
  sojourn : Nat := 0
  /-- GATE_MAX_SDU drops, 64 bits (R263). -/
  sdu : Nat := 0
  /-- Latest sample, 16 bytes (R260). -/
  sample : Bytes := List.replicate 16 0
  /-- Depth high-water in cells (R261). -/
  depthHigh : Nat := 0
  /-- Sojourn high-water in ns (R261). -/
  sojournHigh : Nat := 0
  deriving DecidableEq, Repr

/-- The traffic manager's state of one port. -/
structure TmPort where
  /-- Copies in each queue, front first (R238). -/
  queues : Tab (List Nat) := []
  /-- EXPRESS bit (R240). -/
  express : Bool := false
  /-- WFQ children: group g at g, queue q at 8 + q (R244). -/
  wfq : Tab Wfq := []
  /-- V of the port at 8 and of group g at g, 32 bits each (R244; log 31). -/
  v : Tab Nat := []
  /-- Shapers by 128 × level + index (R246). -/
  shapers : Tab Shaper := []
  /-- Gates (R253). -/
  gates : Gates := {}
  /-- queueMaxSDU per class, 15 bits each (R253). -/
  sdu : List Nat := [0, 0, 0, 0, 0, 0, 0, 0]
  /-- Frames dropped as GATE_MAX_SDU per class, 64 bits each (R256). -/
  sduDrops : List Nat := [0, 0, 0, 0, 0, 0, 0, 0]
  /-- TransmissionOverrun per class, 64 bits each (R259). -/
  overrun : List Nat := [0, 0, 0, 0, 0, 0, 0, 0]
  /-- Queue statistics (R261, R263). -/
  stats : Tab QStat := []
  /-- Copy being sent (R242). -/
  sending : Option Nat := none
  deriving DecidableEq, Repr

/-- The traffic manager. -/
structure Tm where
  /-- EXPRESS_TC, 8 bits (R240). -/
  expressTc : Nat := 0xFF
  /-- Maximum sojourn S in beats, 20 bits (R248). -/
  s : Nat := 10000
  /-- Ports by ID 0 to 801 (R238, R241). -/
  ports : Tab TmPort := []
  /-- Sample ring: host address, records, next record (R260). -/
  ring : Nat × Nat × Nat := (0, 0, 0)
  /-- Ports the sample ring names (R260). -/
  ringPorts : List Nat := []
  /-- Next queue each egress slice samples, as 72 × port + queue (R260). -/
  ptr : Tab Nat := []
  deriving DecidableEq, Repr

end Sys2Proof.Machine
end

