-- ==== Sys2Proof/Machine/Memory.lean ====
section
/-! DEFINITION. An addressed memory of bytes as a list of (address, byte) pairs in one canonical form: rising
addresses, no entry equal to 0, which is what an unlisted address reads as (log entry 3). Used for the mailbox
areas, the modules' bytes outside the ledger's own structures, and what the device has written to host memory. -/

namespace Sys2Proof

/-- Bytes by address, canonical. -/
abbrev Memory := List Host.Cell

/-- What a byte that nothing has written reads as (log entry 3). -/
def Memory.blank : Byte := 0

/-- The byte at an address. -/
def Memory.read (m : Memory) (a : Nat) : Byte :=
  match m with
  | [] => Memory.blank
  | (k, v) :: r => if k = a then v else Memory.read r a

/-- The memory without the address. -/
def Memory.drop1 (m : Memory) (a : Nat) : Memory :=
  match m with
  | [] => []
  | (k, v) :: r => if k = a then Memory.drop1 r a else (k, v) :: Memory.drop1 r a

/-- The memory with a byte listed before the first greater address. -/
def Memory.list1 (m : Memory) (a : Nat) (b : Byte) : Memory :=
  match m with
  | [] => [(a, b)]
  | (k, v) :: r => if a < k then (a, b) :: (k, v) :: r else (k, v) :: Memory.list1 r a b

/-- The memory with a byte written; writing what an unlisted address reads as removes the entry. -/
def Memory.write (m : Memory) (a : Nat) (b : Byte) : Memory :=
  if b = Memory.blank then Memory.drop1 m a else Memory.list1 (Memory.drop1 m a) a b

/-- `n` bytes from an address on. -/
def Memory.readN (m : Memory) (a : Nat) : Nat → Bytes
  | 0 => []
  | n + 1 => Memory.read m a :: Memory.readN m (a + 1) n

/-- Bytes written from an address on, rising. -/
def Memory.writeN (m : Memory) (a : Nat) : Bytes → Memory
  | [] => m
  | b :: r => Memory.writeN (Memory.write m a b) (a + 1) r

/-- The memory's bytes at the addresses that a test admits. -/
def Memory.only (f : Nat → Bool) (m : Memory) : Memory := m.filter fun c => f c.1

/-- The memory with listed bytes of another laid over it. -/
def Memory.lay (l : List Host.Cell) (m : Memory) : Memory := l.foldl (fun m c => m.write c.1 c.2) m

/-- The canonical form: rising addresses from `lo` on, no listed byte that an unlisted address reads as. -/
def Memory.wfFrom (lo : Nat) : Memory → Bool
  | [] => true
  | (k, v) :: r => decide (lo ≤ k) && decide (v ≠ Memory.blank) && Memory.wfFrom (k + 1) r

/-- The canonical form of a whole memory. -/
def Memory.wf (m : Memory) : Bool := Memory.wfFrom 0 m

end Sys2Proof
end

