-- ==== Sys2Proof/Machine/PartsCare.lean ====
section
/-! DEFINITION. State of identity, life cycle and firmware, of the fault collector, the Snuffer and WICK, of the
Dimmer, and of the slices with the Ember. -/

namespace Sys2Proof.Machine

/-- Identity and life cycle. -/
structure Trust where
  /-- Life-cycle state: blown fuses, 0 to 3 (R443). -/
  lc : Nat := 0
  /-- Anti-rollback floor: blown fuses, 0 to 32 (R436). -/
  floor : Nat := 0
  /-- Identity seeds in fuses, 48 bytes, or none (R427). -/
  seeds : Bytes := []
  /-- Seeds of a held key, 48 bytes, or none (R430). -/
  heldSeeds : Bytes := []
  /-- Identity certificate copy in SRAM (R430). -/
  cert : Bytes := []
  /-- Certificate still to be written to the flash (R430). -/
  certDue : Bool := false
  /-- Ittas core debug is open under a DEBUG token (R444). -/
  tokenOpen : Bool := false
  /-- A deep-debug session stands open (R448). -/
  session : Bool := false
  /-- DEBUG_OPENED (R444). -/
  opened : Bool := false
  /-- SHA-256 of the pending RETURN token and the beat it was accepted (R445). -/
  ret : Option (Bytes × Nat) := none
  deriving DecidableEq, Repr

/-- Firmware images and the handover. -/
structure Fw where
  /-- Running slot: 0 A, 1 B (R448). -/
  slot : Nat := 0
  /-- Image the running code region holds (R437). -/
  run : Bytes := []
  /-- Other-slot state code (R438). -/
  st : Nat := 0
  /-- Image the idle code region holds (R437). -/
  other : Bytes := []
  /-- Bytes of STAGING so far (R439). -/
  staged : Bytes := []
  /-- Bytes written to flash in VERIFIED (R448). -/
  flashed : Nat := 0
  /-- Boot flash image slots A and B (R434). -/
  slots : List Bytes := [[], []]
  /-- Boot descriptor copies 0 and 1, 64 bytes each (R437). -/
  desc : List Bytes := [[], []]
  /-- Identity area of the flash (R434). -/
  certArea : Bytes := []
  /-- Board configuration area of the flash (R434). -/
  board : Bytes := []
  /-- GLB_STATE.HANDOVER (R373, R414). -/
  hand : Bool := false
  /-- Handover step in progress, 1 to 5 (R441). -/
  step : Nat := 0
  /-- Window so far in μs (R441). -/
  us : Nat := 0
  /-- Beat in which H1 began, from which the handover timer counts (R441). -/
  begun : Nat := 0
  /-- Order of the FW.ACTIVATE that began it (R414). -/
  order : Nat := 0
  /-- RAISE_FLOOR of that command (R440). -/
  raise_ : Bool := false
  /-- Last handover: 0 none, 1 done, 2 rolled back (R448). -/
  last : Nat := 0
  /-- Successful handovers since core reset (R431). -/
  count : Nat := 0
  /-- The check of the other slot after core reset is still due (R438). -/
  checkDue : Bool := false
  deriving DecidableEq, Repr

/-- A fault latch (R452). -/
structure Latch where
  /-- SET (R452). -/
  set : Bool := false
  /-- Effective class, 2 bits (R452). -/
  cls : Nat := 0
  /-- Instance, 32 bits (R452). -/
  inst : Nat := 0
  /-- ACKED (R452). -/
  acked : Bool := false
  /-- PERSISTENT (R452). -/
  pers : Bool := false
  /-- Count, 16 bits (R452). -/
  count : Nat := 0
  deriving DecidableEq, Repr

/-- A fault source (R451, R467). -/
structure Src where
  /-- REAL latch (R452). -/
  real : Latch := {}
  /-- FORCED latch (R452). -/
  forced : Latch := {}
  /-- FLT_SRC_CFG once written; none = the reset value (R467). -/
  cfg : Option Nat := none
  /-- Force bit (R461). -/
  force : Bool := false
  /-- Class and instance held when the bit was set (R461). -/
  forceAs : Nat × Nat := (0, 0)
  /-- Instances whose condition is present, level sources (R451). -/
  causes : List Nat := []
  /-- Latches that support the Snuffer's safe state of this source, true the REAL one (R456, R467). -/
  safe : List Bool := []
  /-- Beat of the last EV_FAULT_RAISED plus one; 0 = none (R469). -/
  told : Nat := 0
  deriving DecidableEq, Repr

/-- A detected fault event waiting for P9 (R455). -/
structure FaultEv where
  /-- Source, 9 bits (R451). -/
  src : Nat := 0
  /-- Instance, 32 bits (R451). -/
  inst : Nat := 0
  /-- Class as raised (R450). -/
  cls : Nat := 0
  /-- Detail from the owning rule (R463). -/
  detail : Bytes := []
  deriving DecidableEq, Repr

/-- A running grace timer (R459). -/
structure GraceTimer where
  /-- Source, 9 bits (R459). -/
  src : Nat := 0
  /-- P9s left before the one it ends at (R459, R522). -/
  left : Nat := 0
  /-- It holds an escalation (true) or a Snuffer action (R459). -/
  esc : Bool := false
  /-- The event is real: its latch is the REAL one (R452). -/
  real : Bool := true
  /-- The event or the one it escalates against is real (R456). -/
  act : Bool := true
  /-- Instance of the event (R453). -/
  inst : Nat := 0
  /-- Class of the event as raised (R453). -/
  cls : Nat := 0
  /-- Latches still to be acknowledged or cleared to drop it, true the REAL one (R459). -/
  wait : List Bool := []
  /-- Detail of the event (R463). -/
  detail : Bytes := []
  deriving DecidableEq, Repr

/-- A latch newly set in the P9 in progress (R455, R469). -/
structure FreshLatch where
  /-- Source, 9 bits (R469). -/
  src : Nat := 0
  /-- Class as raised (R469). -/
  cls : Nat := 0
  /-- Effective class (R469). -/
  eff : Nat := 0
  /-- Flags as the log has them (R463). -/
  flags : Nat := 0
  /-- Instance (R469). -/
  inst : Nat := 0
  deriving DecidableEq, Repr

/-- The fault collector, the Snuffer and WICK. -/
structure Collector where
  /-- Sources by ID (R451). -/
  srcs : Tab Src := []
  /-- Events detected since the last P9 (R455). -/
  evs : List FaultEv := []
  /-- Snuffer actions due at F5: source, instance, the event is real (R456). -/
  act : List (Nat × Nat × Bool) := []
  /-- Latches newly set in the P9 in progress (R455). -/
  fresh : List FreshLatch := []
  /-- Grace timers, oldest first (R459). -/
  timers : List GraceTimer := []
  /-- FORCE_ACT (R467). -/
  forceAct : Bool := false
  /-- GRACE_MODE (R467). -/
  graceMode : Bool := false
  /-- FLT_GRACE, 20 bits (R467). -/
  grace : Nat := 1000
  /-- FLT_SEL, 9 bits (R467). -/
  sel : Nat := 0
  /-- FLT_FORCE_CFG, 2 bits (R467). -/
  forceCfg : Nat := 0
  /-- FLT_FORCE_INST, 32 bits (R467). -/
  forceInst : Nat := 0
  /-- Fault log, newest first, 1,024 entries (R463). -/
  log : List Bytes := []
  /-- FLT_LOG_HEAD, 32 bits (R467). -/
  logHead : Nat := 0
  /-- FLT_LOG_LOST, 32 bits (R463, R467). -/
  logLost : Nat := 0
  /-- Partner log, newest first, 256 entries (R464). -/
  partner : List Bytes := []
  /-- Entries of the partner log overwritten since it was last cleared, 32 bits (R468). -/
  partnerLost : Nat := 0
  /-- FLT_PARTNER_CNT, 32 bits (R467). -/
  partnerCnt : Nat := 0
  /-- Beat of the last EV_FAULT_PARTNER plus one, by interface (R464). -/
  partnerTold : List Nat := [0, 0, 0, 0]
  deriving DecidableEq, Repr

/-- WICK and the Ittas watchdog (R465, R466). -/
structure Wick where
  /-- Pin level (R465). -/
  level : Bool := false
  /-- Running (R467). -/
  running : Bool := false
  /-- Armed (R465). -/
  armed : Bool := false
  /-- Watchdog expired (R466). -/
  expired : Bool := false
  /-- Beat of the last watchdog restart (R466). -/
  kicked : Nat := 0
  /-- WICK_WDOG, 24 bits (R467). -/
  limit : Nat := 1000000
  /-- WICK_STOP_BEAT, 64 bits (R467). -/
  stopBeat : Nat := 0
  /-- WICK_STOPS, 32 bits (R467). -/
  stops : Nat := 0
  /-- It has run since core reset (R465). -/
  ran : Bool := false
  /-- Boundary plus one of the last toggle (R465). -/
  last : Nat := 0
  deriving DecidableEq, Repr

/-- A regulator (R470 to R472). -/
structure Reg where
  /-- Address, 7 bits, 0 absent (R470). -/
  addr : Nat := 0
  /-- Latest READ_POUT in mW (R485). -/
  pout : Nat := 0
  /-- Latest READ_VOUT, raw (R470). -/
  vout : Nat := 0
  /-- Latest READ_IOUT, raw (R470). -/
  iout : Nat := 0
  /-- Latest READ_TEMPERATURE_1, raw (R470). -/
  temp : Nat := 0
  /-- VOUT_MODE, raw; none until it has been read once after configuration (R470). -/
  mode : Option Nat := none
  /-- Last STATUS_WORD, 16 bits (R485). -/
  status : Nat := 0
  /-- Consecutive failed transactions (R472). -/
  fails : Nat := 0
  /-- Last transaction succeeded (R485). -/
  responding : Bool := false
  deriving DecidableEq, Repr

/-- A thermal sensor (R480). -/
structure Sensor where
  /-- Reading in 1/16 °C; none before the first conversion (R483, R485). -/
  val : Option Int := none
  /-- Beat of the last conversion (R480). -/
  beat : Nat := 0
  /-- EXCLUDED (R480). -/
  out : Bool := false
  deriving DecidableEq, Repr

/-- What the health port answers with: the values at the last poll-cycle end or beat (R483). -/
structure Health where
  /-- SUMMARY, 16 bits (R483). -/
  summary : Nat := 0
  /-- T_max with its sensor (R483). -/
  tmax : Option (Nat × Int) := none
  /-- P in mW (R483). -/
  power : Nat := 0
  /-- M in mW (R483). -/
  meas : Nat := 0
  /-- E_c in mW (R483). -/
  est : Nat := 0
  /-- FLOW, 3 bits (R483). -/
  flow : Nat := 0
  /-- FLT_STATUS, 32 bits (R483). -/
  flt : Nat := 0
  /-- Lowest source with a FATAL latch, 16 bits (R483). -/
  fatal : Nat := 0xFFFF
  /-- Readings of sensors 0 to 63 in 1/16 °C (R483). -/
  sensors : List (Option Int) := List.replicate 64 none
  deriving DecidableEq, Repr

/-- The Dimmer. -/
structure Power where
  /-- The regulator whose turn it is in slots 0 to 2, counted among the named ones (R471). -/
  turn : Nat := 0
  /-- The regulator whose turn it is in slot 3, counted among the named ones (R471). -/
  scan : Nat := 0
  /-- Slot of the poll cycle after the last whose READ_POUT has been made (R471). -/
  polled : Nat := 0
  /-- Alerts that take slot-3 turns: turns left, regulator that answers, its STATUS_WORD (R471). -/
  alerts : List (Nat × Nat × Nat) := []
  /-- Beats each unit has had no work, by unit, at most 100 (R478). -/
  idle : Tab Nat := []
  /-- The health port's snapshot (R483). -/
  snap : Health := {}
  /-- Unit activity counts of the beat: slots used, ternary banks searched, cells written, cells read, crossing cells,
  mover bursts (R473). -/
  act : List Nat := [0, 0, 0, 0, 0, 0]
  /-- Sum of E in μW over the beats of the poll cycle in progress and of the two before it (R471, R473). -/
  eSums : List Nat := [0, 0, 0]
  /-- Beats of those cycles (R471, R473). -/
  eBeats : List Nat := [0, 0, 0]
  /-- Level code (R475). -/
  level : Nat := 0
  /-- Clock state (R35, R37). -/
  clk : Nat := 0
  /-- CAP in W, 11 bits (R485). -/
  cap : Nat := 1160
  /-- THROTTLE in °C, 8 bits (R485). -/
  throttle : Nat := 115
  /-- T_HYST in °C, 5 bits (R485). -/
  tHyst : Nat := 5
  /-- HYST in %, 5 bits (R485). -/
  hyst : Nat := 5
  /-- GATE_ALWAYS (R485). -/
  gateAlways : Bool := true
  /-- QUIET_ALWAYS (R485). -/
  quietAlways : Bool := false
  /-- ESC_BEATS, 16 bits (R485). -/
  esc : Nat := 250
  /-- RELEASE_BEATS, 24 bits (R485). -/
  release : Nat := 100000
  /-- MIN_LEVEL, 3 bits (R485). -/
  minLevel : Nat := 0
  /-- DROOP_LIMIT, 8 bits (R485). -/
  droopLimit : Nat := 64
  /-- EXT_LEVEL, 3 bits (R483). -/
  ext : Nat := 0
  /-- M in mW (R470). -/
  meas : Nat := 0
  /-- E_c in mW (R473). -/
  est : Nat := 0
  /-- P in mW (R474). -/
  steer : Nat := 0
  /-- M is marked incomplete (R472). -/
  incomplete : Bool := false
  /-- Mismatch steering in force (R474). -/
  mismatch : Bool := false
  /-- Disagreement in 0.1 %, saturating at 65,535 (R485). -/
  disagree : Nat := 0
  /-- Boundary since which the disagreement has exceeded 15 % at every cycle end (R474). -/
  exceeds : Option Nat := none
  /-- CONTAINED raised for the lasting mismatch (R474). -/
  contained : Bool := false
  /-- Regulators 0 to 7 (R470). -/
  regs : List Reg := [{}, {}, {}, {}, {}, {}, {}, {}]
  /-- Sensors 0 to 63 (R480). -/
  sensors : Tab Sensor := []
  /-- T_max was at or above THROTTLE at the last look (R480). -/
  hot : Bool := false
  /-- FLOW_OK at the last sample (R482, R485). -/
  flow : Bool := false
  /-- Consecutive low samples (R482, R485). -/
  low : Nat := 0
  /-- Consecutive high samples (R482). -/
  high : Nat := 0
  /-- Beats of the droop episodes of the last 1,000 beats (R476). -/
  droops : List Nat := []
  /-- PWR_DROOP_CNT, 32 bits (R485). -/
  droopCnt : Nat := 0
  /-- Active beats of reasons 0 to 5, 64 bits each (R476). -/
  beats : List Nat := [0, 0, 0, 0, 0, 0]
  /-- ACTIVE reasons, 6 bits (R485). -/
  active : Nat := 0
  /-- LATCHED reasons, 6 bits (R485). -/
  latched : Nat := 0
  /-- run of R477 (R477; log 41). -/
  run : Nat := 0
  /-- Boundary of the last raise plus one; 0 = none (R477; log 41). -/
  raised : Nat := 0
  /-- Beat of the last EV_POWER_LEVEL plus one; 0 = none (R487). -/
  told : Nat := 0
  /-- PWR_REASON_SEL, 3 bits (R485). -/
  reasonSel : Nat := 0
  /-- PWR_REASON_BEATS_HI as latched, 32 bits (R485). -/
  beatsHi : Nat := 0
  /-- PWR_SENS_SEL, 6 bits (R485). -/
  sensSel : Nat := 0
  /-- PWR_REG_SEL, 3 bits (R485). -/
  regSel : Nat := 0
  /-- PWR_IRQ_EN, 6 bits (R485). -/
  irqEn : Nat := 0
  /-- PWR_IRQ_STATUS, 6 bits (R485). -/
  irqSt : Nat := 0
  /-- Gated units: slice s as s, automaton engine q as 64 + q, mover channel c as 80 + c, Lantern unit of slice s as
  96 + s (R478). -/
  gated : List Nat := []
  deriving DecidableEq, Repr

/-- A slice or the Ember (R498). -/
structure Slice where
  /-- State code (R498). -/
  st : Nat := 0
  /-- For the Ember the slice served; 0xFF none (R504). -/
  peer : Nat := 0xFF
  /-- Last check: 0 none, 1 passed, 2 failed (R504). -/
  check : Nat := 0
  /-- Beat of the last change, 64 bits (R504). -/
  beat : Nat := 0
  /-- A check has passed since the isolation (R502). -/
  passed : Bool := false
  /-- The slice moved under a planned move (R499). -/
  planned : Bool := false
  /-- The slice has raised a fault since that move (R499). -/
  faulted : Bool := false
  /-- The move in progress is a release (R501). -/
  releasing : Bool := false
  /-- The configuration shadow is loaded: the switch waits for its boundary (R499). -/
  loaded : Bool := false
  /-- Order of the command that moves it; 0 = none (R504). -/
  order : Nat := 0
  /-- State before CHECKING, or before a commanded move (R502, R504). -/
  prev : Nat := 0
  /-- HOME is due at the next boundary (R499). -/
  homeDue : Bool := false
  /-- Boundary of a planned switch plus one: no frame is chosen in the beat after it (R501). -/
  quietBeat : Nat := 0
  deriving DecidableEq, Repr

/-- What the last read returned to the outside; the model's own (log 42). -/
structure Out where
  /-- Bytes of the last register read (log 42). -/
  read : Bytes := []
  /-- Bytes of the last health-port read (log 42). -/
  health : Bytes := []
  deriving DecidableEq, Repr

end Sys2Proof.Machine
end

