-- ==== Sys2Proof/Machine/PartsHost.lean ====
section
/-! DEFINITION. State of the hardware clock, of the PCIe functions with interrupts, rings and filters, of the
mailboxes and of the event ring. -/

namespace Sys2Proof.Machine

/-- An entry of the transmit timestamp queue (R361). -/
structure Txts where
  /-- TS_ID, 16 bits (R361). -/
  id : Nat := 0
  /-- Egress port, 10 bits (R361). -/
  port : Nat := 0
  /-- SECONDS, 48 bits (R361). -/
  sec : Nat := 0
  /-- NANOSECONDS, 32 bits (R361). -/
  ns : Nat := 0
  deriving DecidableEq, Repr

/-- A SyncE output (R364). -/
structure Synce where
  /-- ENABLE (R365). -/
  on : Bool := false
  /-- Lane, 10 bits (R365). -/
  lane : Nat := 0
  /-- Frequency code (R367; log 36). -/
  freq : Nat := 0
  /-- Squelched (R364, R365). -/
  squelch : Bool := true
  deriving DecidableEq, Repr

/-- The hardware clock and its outputs. -/
structure Time where
  /-- SECONDS, 48 bits (R350, R351). -/
  sec : Nat := 0
  /-- NANOSECONDS, 30 bits (R350, R351). -/
  ns : Nat := 0
  /-- FRAC and the 48 fraction bits below it, 64 bits in units of 2^-64 ns (R350; log 37). -/
  frac : Nat := 0
  /-- RATE, signed 48 bits (R354). -/
  rate : Int := 0
  /-- State code (R352). -/
  st : Nat := 0
  /-- STEP_REFUSED (R365). -/
  refused : Bool := false
  /-- RATE_CLAMP (R365). -/
  clamp : Bool := false
  /-- PPS_IN_EVENT (R365). -/
  ppsEvent : Bool := false
  /-- TXTS_OVF (R365). -/
  txtsOvf : Bool := false
  /-- Register steps pending: HCK_CTRL.STEP reads 1 while any is (R353). -/
  stepDue : Nat := 0
  /-- HCK_RATE, 32 bits: the lower bits of RATE, or what a write holds until HCK_RATE_HI is written (R354, R365). -/
  rateLo : Nat := 0
  /-- HCK_RATE holds a write that HCK_RATE_HI has not followed (R354). -/
  rateHeld : Bool := false
  /-- HCK_RATE_HI, 16 bits: the upper bits of RATE, or what was written and waits for the boundary (R354, R365). -/
  rateHi : Nat := 0
  /-- HCK_STEP_NS, 32 bits (R365). -/
  stepNs : Nat := 0
  /-- HCK_STEP_SEC, 48 bits (R365). -/
  stepSec : Nat := 0
  /-- PPS_OUT_EN (R365). -/
  ppsOut : Bool := false
  /-- PPS_IN_EN (R365). -/
  ppsIn : Bool := false
  /-- PPS_IN_EDGE: falling (R365). -/
  ppsFall : Bool := false
  /-- WIDTH in ms, 9 bits (R363, R365). -/
  width : Nat := 100
  /-- PPS_OUT_OFFSET, signed 32 bits (R363, R365). -/
  offset : Int := 0
  /-- PPS_OUT level (R363). -/
  pulse : Bool := false
  /-- Clock time in ns at which the pulse rose plus one; 0 = none (R363). -/
  roseAt : Nat := 0
  /-- HCK_PPS_IN_NS, 32 bits (R362). -/
  inNs : Nat := 0
  /-- HCK_PPS_IN_SEC, 48 bits (R362). -/
  inSec : Nat := 0
  /-- Time base reading of the last accepted edge plus one; 0 = none (R362). -/
  inBase : Nat := 0
  /-- Transmit timestamp queue, 64 entries (R361). -/
  txts : List Txts := []
  /-- HCK_TXTS_OVF_CNT, 32 bits (R365). -/
  ovfCnt : Nat := 0
  /-- Beat of the last EV_TIME_TXTS_OVF plus one; 0 = none (R361). -/
  ovfTold : Nat := 0
  /-- SYNCE_CLK0 (R364). -/
  s0 : Synce := {}
  /-- SYNCE_CLK1 (R364). -/
  s1 : Synce := {}
  /-- HCK_IRQ_EN, 4 bits (R365). -/
  irqEn : Nat := 0
  /-- HCK_SEC_LO and HCK_SEC_HI as latched, 48 bits (R365). -/
  latSec : Nat := 0
  /-- HCK_FRAC as latched, 16 bits (R365). -/
  latFrac : Nat := 0
  /-- HCK_LATCH_BEAT, 32 bits (R365). -/
  latBeat : Nat := 0
  /-- HCK_TXTS_NS and HCK_TXTS_SEC as latched (R365). -/
  latTx : Nat × Nat := (0, 0)
  /-- Steps since reset, 32 bits (R367). -/
  steps : Nat := 0
  /-- Beat of the last step plus one; 0 = none (R332, R367). -/
  stepBeat : Nat := 0
  /-- Time base that is never stepped, in 2^-64 ns (R360). -/
  base : Nat := 0
  /-- Microseconds of REFCLK_ETH since core reset, which fix the phase of the 781.25 MHz ticks (R350; log 37). -/
  us : Nat := 0
  /-- TX_PS and RX_PS by 8 × port + mode (R356). -/
  delays : Tab (Int × Int) := []
  /-- Transparent clock and one-step Sync by port (R360, R367; log 36). -/
  ptp : Tab Nat := []
  deriving DecidableEq, Repr

/-- A host ring (R382 to R392). -/
structure Ring where
  /-- BASE, 64 bits (R383). -/
  base : Nat := 0
  /-- ENABLE (R383). -/
  on : Bool := false
  /-- VECTOR, 6 bits; none = the reset value, the ring number (R383). -/
  vec : Option Nat := none
  /-- IRQ_EN (R383). -/
  irq : Bool := false
  /-- SIZE, 4 bits (R383). -/
  size : Nat := 0
  /-- BUF_SIZE, 7 bits (R383). -/
  buf : Nat := 0
  /-- CODE, 4 bits (R383). -/
  code : Nat := 0
  /-- HALF (R383). -/
  half : Bool := false
  /-- RESETTING (R383). -/
  resetting : Bool := false
  /-- DISABLED_IN_FLIGHT (R383). -/
  frozen : Bool := false
  /-- STOPPED (R383). -/
  stopped : Bool := false
  /-- COMPLETE (R383). -/
  complete : Bool := false
  /-- HEAD, 16 bits (R382). -/
  head : Nat := 0
  /-- TAIL, 16 bits (R382). -/
  tail : Nat := 0
  /-- HRQ_ITR, 32 bits (R383). -/
  itr : Nat := 0
  /-- HRQ_ERR, 16 bits (R383). -/
  err : Nat := 0
  /-- Queue statistics, five 32-bit counters (R391). -/
  stats : List Nat := [0, 0, 0, 0, 0]
  /-- Frames completed since the last message (R392). -/
  since : Nat := 0
  /-- Beat of the first completion not yet signalled (R392). -/
  firstBeat : Option Nat := none
  deriving DecidableEq, Repr

/-- The PCIe functions. -/
structure HostIf where
  /-- Bus Master Enable of PF0 and PF1 (R376). -/
  bme : List Bool := [false, false]
  /-- MSI-X Enable of PF0 and PF1 (R376; log 38). -/
  msix : List Bool := [false, false]
  /-- IRQ_STATUS, 64 bits (R374). -/
  status : Nat := 0
  /-- IRQ_ENABLE, 64 bits (R375). -/
  enable : Nat := 0
  /-- IRQ_VECn as written, by n (R375). -/
  vecs : Tab Nat := []
  /-- IRQ_ITRn as written, by n (R375). -/
  itrs : Tab Nat := []
  /-- MSI-X table bytes of PF0, 1,024 bytes by offset (R370). -/
  table0 : Memory := []
  /-- MSI-X table bytes of PF1 (R381). -/
  table1 : Memory := []
  /-- Vectors unmasked in the MSI-X tables, as 64 × function + vector (R376; log 39). -/
  unmasked : List Nat := []
  /-- Pending vectors of PF0, 64 bits (R376). -/
  pba0 : Nat := 0
  /-- Pending vectors of PF1, 64 bits (R376). -/
  pba1 : Nat := 0
  /-- Beat of the last message by 64 × function + vector (R376). -/
  sent : Tab Nat := []
  /-- Rings 0 to 31 (R382). -/
  rings : Tab Ring := []
  /-- Steering filters in force, 8 bytes each, by index (R379). -/
  steer : Tab Bytes := []
  /-- Steering filter bytes written and held (R380). -/
  steerHeld : Tab Bytes := []
  /-- Pattern filters in force, 256 bytes each, by index (R378). -/
  pattern : Tab Bytes := []
  /-- Pattern filter bytes written and held (R380). -/
  patternHeld : Tab Bytes := []
  /-- Filters whose last word was written in the beat: steering i as i, pattern i as 64 + i (R380). -/
  commits : List Nat := []
  /-- What the device has written to host memory (R13). -/
  mem : Memory := []
  /-- CPU-port MAC: bytes in its write buffer, 64 KiB at most (R369). -/
  macFill : Nat := 0
  /-- Frames in the CPU-port MAC, front first: copies (R377). -/
  mac : List Nat := []
  deriving DecidableEq, Repr

/-- A mailbox's registers (R403). -/
structure Mbx where
  /-- STATE (R403, R404). -/
  st : Nat := 0
  /-- RESP_VALID (R403). -/
  valid : Bool := false
  /-- OVERRUN (R403). -/
  overrun : Bool := false
  /-- WRITE_DISCARDED (R403). -/
  discarded : Bool := false
  /-- GUARD_EXPIRED (R403). -/
  guarded : Bool := false
  /-- MBX_OPCODE, 32 bits (R403). -/
  opcode : Nat := 0
  /-- MBX_RESULT, 32 bits (R403). -/
  result : Nat := 0
  /-- MBX_DOOR_BEAT, 32 bits (R403). -/
  door : Nat := 0
  /-- MBX_ACCEPT_BEAT, 32 bits (R403). -/
  accept : Nat := 0xFFFFFFFF
  /-- MBX_GUARD, 16 bits (R403). -/
  guard : Nat := 3000
  /-- MBX_OVERRUN_CNT, 32 bits (R403). -/
  overrunCnt : Nat := 0
  /-- MBX_LATE_CNT, 32 bits (R403). -/
  lateCnt : Nat := 0
  deriving DecidableEq, Repr

/-- A command in the hands of Ittas. -/
structure Cmd where
  /-- Doorbell order, the model's own count (R407; log 28). -/
  order : Nat := 0
  /-- Mailbox (R399). -/
  m : Nat := 0
  /-- OPCODE (R401). -/
  op : Nat := 0
  /-- TAG (R401). -/
  tag : Nat := 0
  /-- FLAGS (R401). -/
  flags : Nat := 0
  /-- Beat of the doorbell (R405). -/
  door : Nat := 0
  /-- Accepted (R406). -/
  accepted : Bool := false
  /-- Acceptance beat, 64 bits (R406). -/
  acceptBeat : Nat := 0
  /-- A doorbell or request write was discarded while it ran (R402). -/
  note : Bool := false
  /-- Response that waits to be posted: status, detail, payload (R408). -/
  reply : Option (Nat × Nat × Bytes) := none
  /-- Its mailbox was answered by the guard or freed by FLR: its response will be discarded (R412, R415). -/
  late : Bool := false
  /-- Requested delay of DIAG.DELAY in ms (R412, R423). -/
  delay : Nat := 0
  /-- Answered only when its work is done: a number the work looks for (R406). -/
  wait : Nat := 0
  deriving DecidableEq, Repr

/-- A protocol log entry (R413). -/
structure ProtoEntry where
  /-- Beat (R423). -/
  beat : Nat := 0
  /-- Mailbox (R423). -/
  m : Nat := 0
  /-- Kind (R413). -/
  kind : Nat := 0
  /-- OPCODE of the mailbox (R423). -/
  op : Nat := 0
  /-- DETAIL (R423). -/
  detail : Nat := 0
  deriving DecidableEq, Repr

/-- The mailboxes. -/
structure Mbxs where
  /-- Mailboxes 0 to 15 (R403). -/
  box : Tab Mbx := []
  /-- BAR2: request and response areas by offset (R399). -/
  area : Memory := []
  /-- Commands whose doorbell has arrived, in doorbell order (R407). -/
  cmds : List Cmd := []
  /-- Next doorbell order (R407; log 28). -/
  next : Nat := 1
  /-- Protocol log, newest first, 64 entries (R413, R423). -/
  log : List ProtoEntry := []
  /-- Violations since the last clear, 32 bits (R423). -/
  logCount : Nat := 0
  /-- Beat of the last EV_SYS_PROTOCOL plus one, by 8 × mailbox + kind (R413). -/
  told : Tab Nat := []
  deriving DecidableEq, Repr

/-- An event on its way to the ring (R418). -/
structure Event where
  /-- CODE, 16 bits (R418). -/
  code : Nat := 0
  /-- BEAT, 64 bits (R418). -/
  beat : Nat := 0
  /-- Parameters (R422). -/
  params : Bytes := []
  deriving DecidableEq, Repr

/-- The event engine (R418 to R421). -/
structure Evt where
  /-- Ring address, 64 bits (R418). -/
  addr : Nat := 0
  /-- Entries, 0 = disabled (R418). -/
  size : Nat := 0
  /-- MBX_EVT_HEAD, 32 bits (R418). -/
  head : Nat := 0
  /-- MBX_EVT_TAIL, 32 bits (R418). -/
  tail : Nat := 0
  /-- SEQ of the next entry, 32 bits (R418). -/
  seq : Nat := 0
  /-- Events held on die, arrival order, at most 4,112 (R419). -/
  held : List Event := []
  /-- Entries of the event at the front already written (R418). -/
  part : Nat := 0
  /-- MBX_EVT_LOST, 32 bits (R419). -/
  lost : Nat := 0
  /-- Discarded since the last EV_SYS_EVENTS_LOST (R419). -/
  lostSince : Nat := 0
  /-- SYS.EVENT_MASK, 32 bits (R421). -/
  mask : Nat := 0
  /-- A boundary is in progress, and its events are gathered (R420; the model's own field). -/
  gather : Bool := false
  /-- Events of the boundary in progress, in the order its phases produced them (R420; the model's own field). -/
  batch : List Event := []
  deriving DecidableEq, Repr

/-- A setting posted to the boundary: what an accepted command or register write will do there. -/
structure Pend where
  /-- Order of the command it answers; 0 for a register write (R406). -/
  order : Nat := 0
  /-- Opcode, or 0x10000 plus the register offset (R40; log 40). -/
  kind : Nat := 0
  /-- Request payload, or the value written (R40; log 40). -/
  req : Bytes := []
  /-- Host bytes fetched for it (R40; log 40). -/
  data : Bytes := []
  deriving DecidableEq, Repr

end Sys2Proof.Machine
end

