-- ==== Sys2Proof/Machine/PartsLedger.lean ====
section
/-! DEFINITION. State of the flow ledger, the attached memory, the memory mover, Lantern and the performance counters. -/

namespace Sys2Proof.Machine

/-- The counters of a delta set or ledger record (Tables 9.4). -/
structure Cnt where
  /-- IN_PKTS_LH, 40 bits (R275). -/
  inPL : Nat := 0
  /-- IN_PKTS_HL, 40 bits (R275). -/
  inPH : Nat := 0
  /-- EG_PKTS_LH, 40 bits (R275). -/
  egPL : Nat := 0
  /-- EG_PKTS_HL, 40 bits (R275). -/
  egPH : Nat := 0
  /-- IN_BYTES_LH, 48 bits (R275). -/
  inBL : Nat := 0
  /-- IN_BYTES_HL, 48 bits (R275). -/
  inBH : Nat := 0
  /-- EG_BYTES_LH, 48 bits (R275). -/
  egBL : Nat := 0
  /-- EG_BYTES_HL, 48 bits (R275). -/
  egBH : Nat := 0
  /-- DROP_PKTS class 0, 40 bits (R275). -/
  d0 : Nat := 0
  /-- DROP_PKTS class 1, 40 bits (R275). -/
  d1 : Nat := 0
  /-- DROP_PKTS class 2, 40 bits (R275). -/
  d2 : Nat := 0
  /-- DROP_PKTS class 3, 40 bits (R275). -/
  d3 : Nat := 0
  /-- LAST_DROP, 8 bits (R275). -/
  last : Nat := 0
  deriving DecidableEq, Repr

/-- A delta set (R271). -/
structure Delta where
  /-- Minute, 32 bits (R271). -/
  minute : Nat := 0
  /-- Counters (R271). -/
  c : Cnt := {}
  deriving DecidableEq, Repr

/-- A flow-cache or spill entry (R271, R274). -/
structure CacheEntry where
  /-- Flow block of a flow entry; empty for a spill entry (R271). -/
  block : Bytes := []
  /-- FLOW_HASH, 32 bits (R271). -/
  hash : Nat := 0
  /-- Tenant, 20 bits (R274). -/
  tenant : Nat := 0
  /-- Last LEDGER_POLICY, 8 bits (R271). -/
  policy : Nat := 0
  /-- Delta set of even minutes (R271). -/
  even : Delta := {}
  /-- Delta set of odd minutes (R271). -/
  odd : Delta := {}
  /-- Beat of the last count, 64 bits (R271). -/
  beat : Nat := 0
  deriving DecidableEq, Repr

/-- A flush request (R272). -/
structure FlushReq where
  /-- Flow block; empty for a spill flush (R272). -/
  block : Bytes := []
  /-- FLOW_HASH, 32 bits (R272). -/
  hash : Nat := 0
  /-- Tenant, 20 bits (R272). -/
  tenant : Nat := 0
  /-- Policy, 8 bits (R275). -/
  policy : Nat := 0
  /-- Minute (R272). -/
  minute : Nat := 0
  /-- Deltas (R272). -/
  c : Cnt := {}
  /-- Released to the mover at a P8 (R272). -/
  released : Bool := false
  deriving DecidableEq, Repr

/-- A quadrant's metering state. -/
structure LQuad where
  /-- Flow cache by 8 × set + way (R271). -/
  flows : Tab CacheEntry := []
  /-- Spill cache by 4 × set + way (R274). -/
  spills : Tab CacheEntry := []
  /-- Flush queue, 4,096 requests (R272). -/
  queue : List FlushReq := []
  /-- Flush-queue high-water, 16 bits (R296). -/
  high : Nat := 0
  /-- UNATTRIBUTED packets, bytes and drops of even minutes, 64 bits each (R274). -/
  even : List Nat := [0, 0, 0]
  /-- The same of odd minutes (R274). -/
  odd : List Nat := [0, 0, 0]
  /-- Lost RATE deltas of even and odd minutes (R274). -/
  lost : List Nat := [0, 0]
  /-- UNATTRIBUTED of the minute that rolls, from the end of FLUSH to PUBLISH (R283). -/
  next : List Nat := [0, 0, 0]
  /-- UNATTRIBUTED of the last sealed minute (R296). -/
  kept : List Nat := [0, 0, 0]
  deriving DecidableEq, Repr

/-- A ledger record (R275). -/
structure LRec where
  /-- TENANT, 20 bits (R275). -/
  tenant : Nat := 0
  /-- FLOW_HASH, 32 bits (R275). -/
  hash : Nat := 0
  /-- Flow block, 40 bytes (R275). -/
  block : Bytes := []
  /-- POLICY, 8 bits (R275). -/
  policy : Nat := 0
  /-- MINUTE, 32 bits (R275). -/
  minute : Nat := 0
  /-- FIRST_MINUTE, 32 bits (R275). -/
  firstMin : Nat := 0
  /-- Counters (R275). -/
  c : Cnt := {}
  /-- SERIAL, 32 bits (R277). -/
  serial : Nat := 0
  deriving DecidableEq, Repr

/-- Half of a tenant row (R279). -/
structure Row where
  /-- Minute (R279). -/
  minute : Nat := 0
  /-- AGGREGATE (R279). -/
  agg : Bool := false
  /-- FLOWS, 32 bits (R287). -/
  flows : Nat := 0
  /-- IN_PKTS, 48 bits (R287). -/
  inP : Nat := 0
  /-- EG_PKTS, 48 bits (R287). -/
  egP : Nat := 0
  /-- IN_BYTES, 64 bits (R287). -/
  inB : Nat := 0
  /-- EG_BYTES, 64 bits (R287). -/
  egB : Nat := 0
  /-- DROP_PKTS per class, 48 bits each (R287). -/
  drops : List Nat := [0, 0, 0, 0]
  deriving DecidableEq, Repr

/-- The roll in progress (R282, R283). -/
structure Roll where
  /-- Step: 0 idle, 1 wait, 2 FLUSH, 3 SCAN, 4 TENANT, 5 SIGN, 6 PUBLISH (R296). -/
  step : Nat := 0
  /-- Minute rolling (R283). -/
  minute : Nat := 0
  /-- Beat that holds T (R282). -/
  e : Nat := 0
  /-- Largest maximum sojourn from the start of the minute (R282). -/
  smax : Nat := 0
  /-- History records written in SCAN (R285). -/
  history : List Bytes := []
  /-- Tenant-minute records written (R287). -/
  leaves : List Bytes := []
  /-- Merkle root (R291). -/
  root : Bytes := []
  /-- LOST_RATE of the minute (R283). -/
  lostRate : Nat := 0
  /-- Position of the minute's first history record (R289). -/
  histPos : Nat := 0
  /-- A firmware handover has fallen in the roll, done or rolled back (R297). -/
  handed : Bool := false
  /-- A firmware handover fell in SIGN (Table 9.10). -/
  handover : Bool := false
  /-- FW.ACTIVATE commands wait for PUBLISH: twice the order, plus RAISE_FLOOR (R297). -/
  waiting : List Nat := []
  deriving DecidableEq, Repr

/-- Per-minute facts of the open and rolling minutes, by parity. -/
structure Minute where
  /-- LOST_MODULE, 32 bits saturating (R289). -/
  lostModule : Nat := 0
  /-- EVICTIONS, 32 bits (R289). -/
  evictions : Nat := 0
  /-- Key-log records of the minute (R286). -/
  keylog : List Bytes := []
  /-- Number of the minute's first key-log record, counted since LEDGER.START (R288). -/
  keyFirst : Nat := 0
  /-- REGION_LOST (R290). -/
  region : Bool := false
  /-- MIRROR_DEGRADED (R290). -/
  degraded : Bool := false
  /-- STEPPED (R289). -/
  stepped : Bool := false
  /-- PARTIAL_MINUTE (R295). -/
  part : Bool := false
  /-- EV_LEDGER_LOST raised for kind MODULE and kind RATE (R274). -/
  told : List Bool := [false, false]
  /-- Tenants with a lost delta (R280). -/
  lost : List Nat := []
  deriving DecidableEq, Repr

/-- The flow ledger. -/
structure Ledger where
  /-- State code (R295). -/
  st : Nat := 0
  /-- FLOW_HASH seed, 32 bits (R137, R296; log 33). -/
  seed : Nat := 0
  /-- IDLE_MINUTES, 8 bits (R283). -/
  idle : Nat := 5
  /-- Eviction policy, 1 bit (R276, R296; log 33). -/
  random : Bool := false
  /-- Policies by number: MODE and LAYER (R265). -/
  policies : Tab (Nat × Nat) := []
  /-- The policies as the beat before left them, for packets slotted in it (R39, R265). -/
  policiesPrev : Tab (Nat × Nat) := []
  /-- Metering of quadrants 0 to 3 (R271). -/
  quads : Tab LQuad := []
  /-- Valid ledger records by position (R275). -/
  recs : Tab LRec := []
  /-- Tenant rows by 2 × tenant + parity (R279). -/
  rows : Tab Row := []
  /-- Deferred ring, 1,048,576 requests (R276). -/
  deferred : List FlushReq := []
  /-- Next flow serial, 32 bits (R277). -/
  serial : Nat := 0
  /-- Eviction LFSR, 32 bits (R276). -/
  lfsr : Nat := 0xFFFFFFFF
  /-- Ring sizes: history, key-log, tenant-minute units, seal slots (R288; log 33). -/
  rings : List Nat := [0, 0, 0, 0]
  /-- LEDGER.RINGS has been given (R296). -/
  ringsSet : Bool := false
  /-- Records written to the history, key-log and tenant-minute rings since LEDGER.START (R288, R289). -/
  written : List Nat := [0, 0, 0]
  /-- First record numbers of the minutes held: (minute, history, key-log, tenant) oldest first (R288). -/
  marks : List (Nat × Nat × Nat × Nat) := []
  /-- Record numbers of the three rings below which records have been lost with a unit (R313). -/
  past : List Nat := [0, 0, 0]
  /-- OPEN: one more than the last minute whose roll has begun, 32 bits (R281). -/
  opn : Nat := 0
  /-- MINUTE_END seen while a roll is in progress: the beat that holds T (R282). -/
  endBeat : Option Nat := none
  /-- The minute of that end (R282). -/
  endMin : Nat := 0
  /-- Largest maximum sojourn since the open minute began (R282). -/
  smax : Nat := 10000
  /-- The roll (R283). -/
  roll : Roll := {}
  /-- Facts of even minutes. -/
  even : Minute := {}
  /-- Facts of odd minutes. -/
  odd : Minute := {}
  /-- Last sealed minute plus one; 0 = none (R281). -/
  sealed : Nat := 0
  /-- Last seal, kept on die (R292). -/
  lastSeal : Bytes := []
  /-- Seals since the chain start (R289). -/
  seq : Nat := 0
  /-- Next seal slot (R288). -/
  slot : Nat := 0
  /-- Minutes by seal slot (R296). -/
  slots : Tab Nat := []
  /-- Public seal key, 32 bytes, or none (R293). -/
  key : Bytes := []
  /-- The 64-bit counts of LEDGER.STATS (R296). -/
  stats : List Nat := [0, 0, 0, 0, 0, 0, 0, 0, 0]
  /-- Minute open at the stop (R295). -/
  stopMin : Nat := 0
  deriving DecidableEq, Repr

/-- A memory port and its module (R298 to R313). -/
structure MemPort where
  /-- State code (R300). -/
  st : Nat := 0
  /-- Reason of the last FAILED, code of EV_MEM_STATE (R299, R324). -/
  reason : Nat := 0
  /-- MEMp_PRSNT_N asserted (R300). -/
  present : Bool := false
  /-- MEMp_PERST_N released (R300). -/
  perst : Bool := false
  /-- Beat of the last change of state or of MEMp_PERST_N's release (R300). -/
  since : Nat := 0
  /-- Link rate code (R298). -/
  rate : Nat := 0
  /-- Link width (R298). -/
  width : Nat := 0
  /-- Capacity C in bytes (R299). -/
  cap : Nat := 0
  /-- A loss detected and not yet applied: its reason code (R309). -/
  losing : Option Nat := none
  /-- Viral indicated: later reads count as poison (R298). -/
  viral : Bool := false
  /-- MEM.OFFLINE waits for outstanding requests: its order (R310). -/
  leaving : Option Nat := none
  /-- It gets no new requests: MEM.OFFLINE has taken effect (R310). -/
  stopped : Bool := false
  /-- Beat from which that is so, 64 bits (R310). -/
  stopAt : Nat := 0
  /-- Reads outstanding at a module of a pair (R305). -/
  reads : Nat := 0
  /-- Bursts of the seal area known to read as poison, by module address ÷ 256 (R304). -/
  poison : List Nat := []
  /-- Bursts that each mover channel has had served in the round-robin round, 0 to 7 (R315). -/
  used : List Nat := [0, 0, 0, 0, 0, 0, 0, 0]
  /-- Rebuild finished, waiting for its boundary (R312, R313). -/
  rebuilt : Bool := false
  /-- Module bytes by module address (R303). -/
  mem : Memory := []
  /-- Bursts read, written, poison repaired, lost, timeouts, discarded completions, 64 bits each (R324). -/
  counts : List Nat := [0, 0, 0, 0, 0, 0]
  deriving DecidableEq, Repr

/-- A region (R306). -/
structure Region where
  /-- Kind code (R306). -/
  kind : Nat := 0
  /-- Base, 64 bits (R306). -/
  base : Nat := 0
  /-- Size, 64 bits (R306). -/
  size : Nat := 0
  deriving DecidableEq, Repr

/-- A capture binding (R308). -/
structure Capture where
  /-- Region, 6 bits (R308). -/
  region : Nat := 0
  /-- Snap length P (R308). -/
  snap : Nat := 64
  /-- STOP mode (R308). -/
  stop : Bool := false
  /-- SEQ: records written since binding (R308). -/
  seq : Nat := 0
  /-- Write position in bytes, free-running (R308, R324). -/
  wr : Nat := 0
  /-- Read position given by software (R308, R324). -/
  rd : Nat := 0
  /-- Beat of the last EV_MEM_CAPTURE_FULL plus one; 0 = none (R308). -/
  told : Nat := 0
  deriving DecidableEq, Repr

/-- The attached memory. -/
structure Mem where
  /-- Ports MEM0 to MEM3 (R298). -/
  ports : Tab MemPort := []
  /-- Layout set: mirrored, ports in order, C_min (R302). -/
  layout : Option (Bool × List Nat × Nat) := none
  /-- Regions by number, those defined (R306). -/
  regions : Tab Region := []
  /-- Captures by id, those bound (R308). -/
  captures : Tab Capture := []
  /-- Capture records waiting in each quadrant: id, header and frame bytes (R308). -/
  capq : Tab (List (Nat × Bytes × Bytes)) := []
  /-- CAPTURE_FULL, CAPTURE_QUEUE, CAPTURE_UNBOUND, CAPTURE_LOST, 64 bits each (R308, R324). -/
  counts : List Nat := [0, 0, 0, 0]
  /-- A LEDGER region's table and rows are being zeroed (R307, R320). -/
  zeroing : Bool := false
  /-- RESILVER_RATE in GB/s (R312). -/
  rate : Nat := 4
  /-- MEM_TIMEOUT of all ports in μs, 50 to 10,000 (R309, R322). -/
  timeout : Nat := 200
  deriving DecidableEq, Repr

/-- A mover channel (R322). -/
structure Xdc where
  /-- GO (R322). -/
  go : Bool := false
  /-- IRQ_EN (R322). -/
  irq : Bool := false
  /-- CODE (R322). -/
  code : Nat := 0
  /-- HALTED (R321). -/
  halted : Bool := false
  /-- ERROR (R322). -/
  err : Bool := false
  /-- DONE (R322). -/
  done : Bool := false
  /-- XDC_DESC, 64 bits (R322). -/
  desc : Nat := 0
  /-- XDC_CUR, 64 bits (R322). -/
  cur : Nat := 0
  /-- Next descriptor address of the running chain (R320). -/
  next : Nat := 0
  /-- XDC_DONE, 32 bits (R322). -/
  fin : Nat := 0
  /-- Descriptors fetched since GO (R320). -/
  fetched : Nat := 0
  /-- XDC_BYTES, 64 bits (R322). -/
  bytes : Nat := 0
  /-- XDC_TIMEOUT, 14 bits (R322). -/
  timeout : Nat := 200
  /-- XDC_ERR_ADDR, 64 bits (R322). -/
  errAddr : Nat := 0
  deriving DecidableEq, Repr

/-- A Lantern stream (R336 to R339). -/
structure Stream where
  /-- Kind code (R336). -/
  kind : Nat := 0
  /-- STOP mode (R337). -/
  stop : Bool := false
  /-- Region of a LAS_RING (R336). -/
  region : Nat := 0
  /-- k of a HOST_RING (R336). -/
  k : Nat := 0
  /-- Host address of a HOST_RING (R336). -/
  addr : Nat := 0
  /-- SEQ of each format, 32 bits (R331, R334). -/
  seq : List Nat := [0, 0]
  /-- Write position in bytes, free-running (R337, R349). -/
  wr : Nat := 0
  /-- Read position given by software (R337, R349). -/
  rd : Nat := 0
  /-- Host ring stopped by FLR or Bus Master Enable until set again (R348). -/
  dead : Bool := false
  /-- Records written, DROPPED_FULL, DROPPED_LOST, DROPPED_HOST, export packets sent, DROPPED_EXPORT, 64 bits each
  (R349). -/
  counts : List Nat := [0, 0, 0, 0, 0, 0]
  /-- Beat of the last EV_LANTERN_FULL plus one; 0 = none (R337). -/
  told : Nat := 0
  /-- IPFIX K, 8 bits (R339; log 34). -/
  kMax : Nat := 0
  /-- IPFIX TC (R340; log 34). -/
  tc : Nat := 0
  /-- Enterprise number, 32 bits (R341; log 34). -/
  ent : Nat := 0
  /-- DOMAIN_BASE, 32 bits (R339; log 34). -/
  domain : Nat := 0
  /-- Collector port (R339; log 34). -/
  port : Nat := 0
  /-- FLUSH in beats (R339). -/
  flush : Nat := 100
  /-- REFRESH in seconds (R341). -/
  refresh : Nat := 60
  /-- Header template, H bytes (R339; log 34). -/
  template : Bytes := []
  deriving DecidableEq, Repr

/-- An IPFIX message builder of one slice and stream (R339). -/
structure Builder where
  /-- Records placed (R339). -/
  recs : List Bytes := []
  /-- Format of the records (R339). -/
  format : Nat := 1
  /-- Beat of the first record (R339). -/
  since : Nat := 0
  /-- Data records sent earlier in the domain (R341). -/
  sent : Nat := 0
  /-- Seconds of the last template sent plus one; 0 = none (R341). -/
  tmpl : Nat := 0
  /-- A template goes with the next message (R341). -/
  due : Bool := true
  deriving DecidableEq, Repr

/-- Lantern. -/
structure Lantern where
  /-- Streams 0 to 15 (R336). -/
  streams : Tab Stream := []
  /-- Sampling exponent, tracing and sojourn threshold by port (R327, R333). -/
  ports : Tab (Nat × Bool × Nat) := []
  /-- Stream of triggers 0 to 4 (R330). -/
  triggers : List Nat := [0, 0, 0, 0, 0]
  /-- Tracer stream (R334; log 34). -/
  tracer : Nat := 0
  /-- Tracer exponent m (R333; log 34). -/
  m : Nat := 0
  /-- Drop mask of codes 1 to 63, 64 bits (R328). -/
  mask : Nat := 0
  /-- Drop mask of codes 128 to 255 (R328). -/
  maskHi : Bool := false
  /-- Writes of tenant flags, newest first: first, count, value (R328). -/
  flags : List (Nat × Nat × Bool) := []
  /-- The same list as committed for the beat before the one in progress (R39; the model's own copy). -/
  flagsPrev : List (Nat × Nat × Bool) := []
  /-- Records waiting for mover channel 5: stream and bytes, 8,192 at most (R338). -/
  queue : List (Nat × Bytes) := []
  /-- Message builders by 32 × stream + slice (R339). -/
  builders : Tab Builder := []
  /-- Records made per trigger and tracer, 64 bits each (R349). -/
  made : List Nat := [0, 0, 0, 0, 0, 0]
  /-- DROPPED_RATE and DROPPED_QUEUE, 64 bits each (R338). -/
  dropped : List Nat := [0, 0]
  /-- Beat of the last EV_LANTERN_LOST plus one; 0 = none (R349). -/
  told : Nat := 0
  deriving DecidableEq, Repr

/-- A performance counter unit (R342). -/
structure PmcUnit where
  /-- Cycle counter, 64 bits (R342). -/
  cyc : Nat := 0
  /-- Counters 0 to 7, 32 bits each (R342). -/
  cnt : List Nat := [0, 0, 0, 0, 0, 0, 0, 0]
  /-- PMC_EVTn, 32 bits each (R347). -/
  evt : List Nat := [0, 0, 0, 0, 0, 0, 0, 0]
  /-- PMC_OVF, 8 bits (R344). -/
  ovf : Nat := 0
  /-- PMC_OVF_IRQ, 8 bits (R344). -/
  irq : Nat := 0
  /-- Snapshot of the cycle counter (R345). -/
  snapCyc : Nat := 0
  /-- Snapshot of the counters (R345). -/
  snap : List Nat := [0, 0, 0, 0, 0, 0, 0, 0]
  deriving DecidableEq, Repr

/-- The performance counters. -/
structure Pmc where
  /-- Units 0 to 39 (R342). -/
  units : Tab PmcUnit := []
  /-- PMC_SEL, 6 bits (R347). -/
  sel : Nat := 0
  /-- PMC_GCTRL.RUN as written (R347). -/
  run : Bool := false
  /-- PMC_GSTATUS.RUNNING (R347). -/
  running : Bool := false
  /-- VIEW (R347). -/
  view : Bool := false
  /-- SNAP pending (R345). -/
  snap : Bool := false
  /-- CLEAR pending (R345). -/
  clear : Bool := false
  /-- RUN change pending (R345). -/
  runDue : Bool := false
  /-- WRITE_IGNORED (R346). -/
  ignored : Bool := false
  /-- Beat of the last SNAP, 64 bits (R345). -/
  snapBeat : Nat := 0
  /-- PMC_SNAP_BEAT_HI as latched (R347; log 35). -/
  snapHi : Nat := 0
  /-- PMC_CYC_HI as latched (R347). -/
  cycHi : Nat := 0
  deriving DecidableEq, Repr

end Sys2Proof.Machine
end

