-- ==== Sys2Proof/Machine/PartsLink.lean ====
section
/-! DEFINITION. State of the beat and start-up, of the lanes and of the front-panel ports. -/

namespace Sys2Proof.Machine

/-- Beat generator and the GLB_ registers software writes. -/
structure Glb where
  /-- Beat counter, 64 bits (R36). -/
  beat : Nat := 0
  /-- GLB_BEAT_HI as latched, 32 bits (R37). -/
  beatHi : Nat := 0
  /-- GLB_CLOCK.STRETCHED, 1 bit (R37, R479). -/
  stretched : Bool := false
  /-- Cycles that droop episodes removed from the beat in progress, 0 to 9 an episode (R34). -/
  lostCycles : Nat := 0
  /-- Instant at which the last droop episode began, in ns from the first beat (R34). -/
  droopAt : Option Nat := none
  /-- GLB_SCRATCH, 32 bits (R373). -/
  scratch : Nat := 0
  /-- GLB_HOST_ERR, 3 bits (R373). -/
  hostErr : Nat := 0
  /-- GLB_LINK rate code, 4 bits (R373). -/
  linkRate : Nat := 0
  /-- GLB_LINK width, 6 bits (R373). -/
  linkWidth : Nat := 0
  deriving DecidableEq, Repr

/-- An auto port of the board configuration record. -/
structure AutoPort where
  /-- Lowest lane, 16 bits (R490). -/
  lane : Nat := 0
  /-- Width, 8 bits (R490). -/
  width : Nat := 0
  /-- Mode, 8 bits (R490). -/
  mode : Nat := 0
  /-- FEC, 8 bits (R490). -/
  fec : Nat := 0
  /-- Bring-up method, 8 bits (R490). -/
  method : Nat := 0
  /-- Admin-up flag, 1 bit (R490). -/
  adminUp : Bool := false
  deriving DecidableEq, Repr

/-- A boot log entry (Table 18.12). -/
structure BootEntry where
  /-- Stage, 8 bits (R504). -/
  stage : Nat := 0
  /-- Result, 8 bits (R504). -/
  result : Nat := 0
  /-- Slot, 8 bits (R504). -/
  slot : Nat := 0
  /-- Milliseconds from PWRGOOD, 32 bits (R504). -/
  ms : Nat := 0
  /-- Detail, 32 bits (R504). -/
  detail : Nat := 0
  deriving DecidableEq, Repr

/-- Pins, straps, boot stages, resets and what stops the beat. -/
structure Boot where
  /-- PWRGOOD level, 1 bit (R488, R491). -/
  pwrgood : Bool := false
  /-- PERST_N deasserted, 1 bit (R492, R516). -/
  perstHigh : Bool := false
  /-- STRAP[3:0] as sampled, 4 bits (R489, R516). -/
  straps : Nat := 0
  /-- Boot stage code, 4 bits (R491). -/
  stage : Nat := 0
  /-- Reset cause code of SYS.INFO, 8 bits (R504). -/
  cause : Nat := 1
  /-- PWRGOOD has risen once since power was applied, 1 bit (R494). -/
  everUp : Bool := false
  /-- GLB_STATE.DP_READY, 1 bit (R373, R491). -/
  dpReady : Bool := false
  /-- GLB_STATE.ITTAS_RUN, 1 bit (R373, R491). -/
  ittasRun : Bool := false
  /-- Milliseconds from PWRGOOD at the end of the last stage, 32 bits (R504). -/
  ms : Nat := 0
  /-- Board configuration record was valid, 1 bit (R490). -/
  boardValid : Bool := false
  /-- Auto ports of the board configuration (R490). -/
  autoPorts : List AutoPort := []
  /-- Subsystem identifiers of PF0 and PF1, 64 bits (R490, R370). -/
  subsys : List Nat := [0x07681D9A, 0x07691D9A]
  /-- Health port address, 7 bits (R483, R490). -/
  hpAddr : Nat := 0x5A
  /-- Boot log, oldest first (R504). -/
  log : List BootEntry := []
  /-- Core reset due after the response of SYS.RESET or FW.ACTIVATE, 1 bit (R494, R504). -/
  coreDue : Bool := false
  /-- Cause code the due core reset will record, 8 bits (R504). -/
  coreCause : Nat := 0
  /-- Ittas restart due, 1 bit (R495). -/
  ittasDue : Bool := false
  /-- Beat from which the due restart or core reset may begin (R495, R504). -/
  dueAt : Nat := 0
  /-- Cores of Ittas halted by the Snuffer, 1 bit (R456, R495). -/
  halted : Bool := false
  /-- Cause byte of the next EV_SYS_ITTAS_RESTART, 8 bits (R505). -/
  haltCause : Nat := 0
  /-- The restart in progress was automatic, 1 bit (R495). -/
  auto : Bool := false
  /-- A restart is in progress, 1 bit (R495). -/
  restarting : Bool := false
  /-- Ittas restarts since core reset, 32 bits (R504). -/
  restarts : Nat := 0
  /-- Beats of the automatic restarts, newest first (R495). -/
  autoBeats : List Nat := []
  /-- The core PLL is unlocked, 1 bit (R457). -/
  pllLost : Bool := false
  /-- REFCLK_ETH is absent, 1 bit (R457, R514). -/
  ethLost : Bool := false
  /-- REFCLK_PCIE is absent, 1 bit (R514). -/
  pcieLost : Bool := false
  /-- The device stands stopped after THERMAL_TRIP or COOLANT_STOP, 1 bit (R481, R482). -/
  stopped : Bool := false
  /-- The Ember self-check of stage 5 was started, 1 bit (R491). -/
  emberCheck : Bool := false
  deriving DecidableEq, Repr

/-- A coefficient set as LANE.GET_COEFF lays it out; the DSP state is held as the 9 bytes the interface shows
(log 6). The spec gives the taps a reset value (Table 2.3) and neither the CTLE nor the DSP state: a set begins with the
10 dB that R67 gives BLIND, and with zero bytes (DESIGN CHOICE, log 211). -/
structure Coeff where
  /-- Taps c(-3) to c(+1), five signed bytes (R57). -/
  taps : List Int := [0, 0, 0, 128, 0]
  /-- CTLE peaking in dB, 5 bits (R58, R67). -/
  ctle : Nat := 10
  /-- DSP equaliser state as its 9-byte checksum (R69; log 6). -/
  dsp : Bytes := [0, 0, 0, 0, 0, 0, 0, 0, 0]
  deriving DecidableEq, Repr

/-- A training session (LANE.TRAIN_LOG). -/
structure TrainSession where
  /-- Outcome, 8 bits: 0 in progress, 1 succeeded, 2 failed (R82; log 20). -/
  outcome : Nat := 0
  /-- Violation code of the session, 8 bits (R65). -/
  violation : Nat := 0
  /-- Beat the session began, 64 bits (R82). -/
  start : Nat := 0
  /-- Duration in ms, 32 bits (R82). -/
  ms : Nat := 0
  /-- Counts of the eleven answers of Table 2.8, 32 bits each (R65). -/
  counts : List Nat := [0, 0, 0, 0, 0, 0, 0, 0, 0, 0, 0]
  /-- A handshake is open: the partner has not returned to hold, 1 bit (R65). -/
  open_ : Bool := false
  /-- Final taps (R82). -/
  taps : List Int := []
  deriving DecidableEq, Repr

/-- Directional Quiet and EEE of a port, kept on its lowest lane. -/
structure Quiet where
  /-- LANE.QUIET_CONFIG permits quiet, 1 bit (R82; log 21). -/
  permit : Bool := false
  /-- Idle threshold in beats, 16 bits (R73). -/
  idle : Nat := 200
  /-- Partner's TLV, 12 bytes or none (R77). -/
  peer : Bytes := []
  /-- Quiet agreed, 1 bit (R73, R77). -/
  agreed : Bool := false
  /-- Refusals for a wake time above 50 μs, 64 bits (R74). -/
  refused : Nat := 0
  /-- Transmitter: 0 sending, 1 asleep, 2 waking (R74). -/
  tx : Nat := 0
  /-- Beat in whose boundary the transmitter entered quiet; its sleep sequence takes the next beat, 64 bits (R74). -/
  asleep : Nat := 0
  /-- Beat of the transmitter's last change or refresh, 64 bits (R74). -/
  txBeat : Nat := 0
  /-- Receiver follows quiet, 1 bit (R73). -/
  rx : Bool := false
  /-- Beat of the last sleep, refresh or wake received, 64 bits (R76). -/
  rxBeat : Nat := 0
  /-- EEE ability resolved by auto-negotiation, 1 bit (R63, R78). -/
  eee : Bool := false
  /-- LPI asserted on transmit (R78). -/
  lpiTx : Lpi := .off
  /-- LPI received (R78). -/
  lpiRx : Lpi := .off
  deriving DecidableEq, Repr

/-- One lane. -/
structure Lane where
  /-- Mode code, 3 bits (R53). -/
  mode : Nat := 0
  /-- FEC code, 2 bits (R53). -/
  fec : Nat := 0
  /-- Bring-up method, 2 bits (R61). -/
  method : Nat := 0
  /-- FLAGS of LANE.CONFIG, 5 bits (R83). -/
  flags : Nat := 9
  /-- Training limit in ms, 16 bits (R61). -/
  trainLimit : Nat := 3000
  /-- Blind limit in ms, 16 bits (R61). -/
  blindLimit : Nat := 100
  /-- Relink window in ms, 16 bits (R61). -/
  relinkWindow : Nat := 1000
  /-- State code, 4 bits (R60). -/
  state : Nat := 0
  /-- Beat the state was entered, 64 bits (R84). -/
  stateBeat : Nat := 0
  /-- Current coefficient set (R57, R82). -/
  set : Coeff := {}
  /-- Known-good set (R69). -/
  known : Option Coeff := none
  /-- Beat of the last store or uncorrectable codeword, 64 bits (R69). -/
  goodBeat : Nat := 0
  /-- Fault sources whose Snuffer action holds the lane (R72). -/
  held : List Nat := []
  /-- Retry backoff in ms, 16 bits (R61). -/
  backoff : Nat := 100
  /-- The lane waits out the backoff, 1 bit (R66). -/
  waiting : Bool := false
  /-- Last link-down reason, 8 bits (R84). -/
  lastDown : Nat := 0
  /-- Last violation code, 8 bits (R84). -/
  lastFault : Nat := 0
  /-- Loopback code, 3 bits (R79). -/
  loopback : Nat := 0
  /-- PRBS pattern, 8 bits (R80). -/
  prbs : Nat := 0
  /-- PRBS generator and checker bits, 2 bits (R80). -/
  prbsCtl : Nat := 0
  /-- Bit errors counted by the checker, 48 bits (R80). -/
  prbsErr : Nat := 0
  /-- Bits compared by the checker, 64 bits (R80). -/
  prbsBits : Nat := 0
  /-- The nine 64-bit counters of LANE.COUNTERS (R82). -/
  counts : List Nat := [0, 0, 0, 0, 0, 0, 0, 0, 0]
  /-- Training log, newest first, 8 sessions (R82). -/
  log : List TrainSession := []
  /-- The open training session (R65). -/
  session : Option TrainSession := none
  /-- Partner energy is present and the lane waits in RX_DETECT for its port's auto-negotiation, 1 bit (R60, R63). -/
  energy : Bool := false
  /-- The partner's page as auto-negotiation last received it (R63). -/
  page : Option AnPage := none
  /-- Receiver ready is signalled by both sides in TRAIN, 1 bit (R60). -/
  ready : Bool := false
  /-- The bring-up in progress came through BLIND, 1 bit (R58). -/
  blind : Bool := false
  /-- The bring-up in progress came through RELINK, 1 bit (R82). -/
  relink : Bool := false
  /-- A failed bring-up is counted for the backoff doubling, 8 bits (R61). -/
  failures : Nat := 0
  /-- Lock found on this lane while the others of its port have not, 1 bit (R60). -/
  locked : Bool := false
  /-- Quiet and EEE of the port (R73 to R78). -/
  quiet : Quiet := {}
  deriving DecidableEq, Repr

/-- A flow-control frame as the MAC sends it: PFC with its enable vector and times, or PAUSE with its time (R96, R98). -/
structure FlowFrame where
  /-- PAUSE, not PFC. -/
  pause : Bool
  /-- Enable vector, 8 bits. -/
  vec : Nat
  /-- Times, 16 bits each: eight of PFC, one of PAUSE. -/
  times : List Nat
  deriving DecidableEq, Repr

/-- One front-panel port. -/
structure Port where
  /-- Width in lanes, 4 bits (R85). -/
  width : Nat := 1
  /-- Administratively up, 1 bit (R87). -/
  admin : Bool := false
  /-- Link up as forwarding sees it, 1 bit (R89, R90). -/
  up : Bool := false
  /-- Local Fault received, 1 bit (R89). -/
  lf : Bool := false
  /-- Remote Fault received, 1 bit (R89). -/
  rf : Bool := false
  /-- Holders of the Snuffer's Local Fault: fault sources, or 1000 + s for slice s DOWN (R72, R499). -/
  lfHold : List Nat := []
  /-- MAX, 15 bits (R92). -/
  max : Nat := 1518
  /-- HOLD in beats, 20 bits (R102). -/
  hold : Nat := 100000
  /-- HOLD_MASK once set by PORT.CONFIG, 8 bits; none = the PFC enable mask (R102). -/
  holdMask : Option Nat := none
  /-- FLAGS of PORT.CONFIG, 3 bits (R110). -/
  flags : Nat := 0
  /-- PFC enable mask, 8 bits (R96, R102). -/
  pfcMask : Nat := 0
  /-- XOFF_CELLS, 16 bits (R97). -/
  xoff : Nat := 1024
  /-- XON_CELLS, 16 bits (R97). -/
  xon : Nat := 768
  /-- WD_BEATS, 20 bits (R100). -/
  wd : Nat := 100000
  /-- RESTORE_BEATS, 20 bits (R100). -/
  restore : Nat := 100000
  /-- Priorities with XOFF asserted, 8 bits (R97). -/
  xoffSet : Nat := 0
  /-- PAUSE asserted, 1 bit (R97). -/
  pauseOn : Bool := false
  /-- A flow-control frame is due, 1 bit (R98). -/
  pfcDue : Bool := false
  /-- Priorities to be sent with time 0 in the due frame, 8 bits (R98). -/
  pfcRelease : Nat := 0
  /-- Beat of the last flow-control frame sent, 64 bits (R98). -/
  pfcBeat : Nat := 0
  /-- The last flow-control frame sent (R98). -/
  flow : Option FlowFrame := none
  /-- Received pause time per priority as loaded, in quanta of 512 bit times, 16 bits each (R98). -/
  pause : List Nat := [0, 0, 0, 0, 0, 0, 0, 0]
  /-- Instant at which each received pause time was loaded, in ns from the first beat (R98). -/
  pauseAt : List Nat := [0, 0, 0, 0, 0, 0, 0, 0]
  /-- Beat from which each received pause has been non-zero without a break, 64 bits each (R100). -/
  pauseFrom : List Nat := [0, 0, 0, 0, 0, 0, 0, 0]
  /-- Beat of the last PFC frame with a non-zero time per priority, 64 bits each (R100). -/
  pauseLast : List Nat := [0, 0, 0, 0, 0, 0, 0, 0]
  /-- Priorities with the watchdog tripped, 8 bits (R100). -/
  wdTrip : Nat := 0
  /-- Preemption enable and verify disable, 2 bits (R101, R109). -/
  mmFlags : Nat := 0
  /-- Preemptable class mask, 8 bits (R101). -/
  mmMask : Nat := 0
  /-- addFragSize, 2 bits (R101). -/
  addFrag : Nat := 0
  /-- Verify time in ms, 8 bits (R101). -/
  verifyMs : Nat := 10
  /-- Verify status, 2 bits (R111). -/
  mmStatus : Nat := 0
  /-- Verify attempts made, 2 bits (R101). -/
  mmTries : Nat := 0
  /-- Beat in which the verify mPacket in hand was sent, 64 bits (R101). -/
  mmBeat : Nat := 0
  /-- Start delimiter and, in a continuation, fragment count of the last mPacket sent, 8 bits each (R101). -/
  mmSmd : Nat × Nat := (0, 0)
  /-- Number of the preemptable frame being sent, modulo 4 (R101). -/
  mmFrame : Nat := 0
  /-- Number of its next continuation fragment, modulo 4 (R101). -/
  mmFrag : Nat := 0
  /-- The MAC is held by Set-And-Hold-MAC, 1 bit (R258). -/
  mmHeld : Bool := false
  /-- Boundary at which the running hold window began (R102). -/
  holdStart : Option Nat := none
  /-- Boundary at which the port's coming up ended a hold window; its sojourn drops there are still the window's (R104). -/
  holdDone : Option Nat := none
  /-- Counts of frames whose last byte has not come: the instant it comes in ns from the first beat, the packet, and each
  counter with what it takes (R106). -/
  late : List (Nat × Nat × List (Nat × Nat)) := []
  /-- Boundary of the last link-state change, 64 bits (R111). -/
  linkBeat : Nat := 0
  /-- Boundary at which the port was created, 64 bits (R87). -/
  born : Nat := 0
  /-- The 64 hardware counters, 48 bits each, by index; 64 is RX_CTRL_OTHER and 65 + p DROP_PFC_WD of priority p,
  64 bits each (R106). -/
  counts : Tab Nat := []
  /-- The 64-bit firmware accumulators, by index (R107). -/
  accs : Tab Nat := []
  /-- Cells admitted from the port at each priority and not yet freed, 21 bits each (R97). -/
  admCells : List Nat := [0, 0, 0, 0, 0, 0, 0, 0]
  /-- Headroom cells charged per priority, 21 bits each (R215). -/
  hr : List Nat := [0, 0, 0, 0, 0, 0, 0, 0]
  /-- HR_CELLS per priority, 19 bits each (R218). -/
  hrCells : List Nat := [1024, 1024, 1024, 1024, 1024, 1024, 1024, 1024]
  /-- Beat of the last EV_BUF_HEADROOM per priority, plus one; 0 = none (R218). -/
  hrEvent : List Nat := [0, 0, 0, 0, 0, 0, 0, 0]
  /-- Last beat in which a frame was queued or being sent, 64 bits (R73). -/
  busyBeat : Nat := 0
  /-- A preempted frame waits for its last part: its copy (R258). -/
  remainder : Option Nat := none
  deriving DecidableEq, Repr

end Sys2Proof.Machine
end

