-- ==== Sys2Proof/Machine/PartsTables.lean ====
section
/-! DEFINITION. State of the quadrant table complexes: EMT, prefix tables, next hops, groups, learning, ageing,
ternary banks, automata, policers; and the table DMA channels. Tables 1 to 8 of Table 5.1 are identical in the four
quadrants and are held once (R147). -/

namespace Sys2Proof.Machine

/-- An EMT entry (R153). The PARITY bit is what makes the 144 bits even and is computed when it is read; a failed
parity is the flag `bad`. -/
structure EmtEntry where
  /-- TYPE, 4 bits (R153). -/
  typ : Nat := 1
  /-- Key, 64 bits (R153). -/
  key : Nat := 0
  /-- Result, 64 bits (R153). -/
  result : Nat := 0
  /-- STATIC (R153). -/
  static : Bool := false
  /-- HIT (R153). -/
  hit : Bool := true
  /-- FROZEN (R153). -/
  frozen : Bool := false
  /-- IDLE, 4 bits (R153). -/
  idle : Nat := 0
  deriving DecidableEq, Repr

/-- A learn event (R167). -/
structure Learn where
  /-- BD and source MAC, 64 bits: the MAC key (R167). -/
  key : Nat := 0
  /-- Learned DEST_INDEX, 24 bits (R167). -/
  dest : Nat := 0
  /-- Slot time in ns from the first beat (R41). -/
  ns : Nat := 0
  /-- Slice, 5 bits (R41). -/
  slice : Nat := 0
  deriving DecidableEq, Repr

/-- A deferral (R175). -/
inductive Deferral where
  | learn (e : Learn)
  | visit (bucket : Nat)
  deriving DecidableEq, Repr

/-- A flap tracker slot (R170). -/
structure FlapSlot where
  /-- Key, 64 bits (R170). -/
  key : Nat := 0
  /-- Boundary at which the window opened (R170). -/
  start : Nat := 0
  /-- Moves in the window (R170). -/
  moves : Nat := 0
  deriving DecidableEq, Repr

/-- A policer (R251). -/
structure Policer where
  /-- Colour-aware mode, 1 bit (R251). -/
  aware : Bool := true
  /-- Packet mode, 1 bit (R251). -/
  packet : Bool := false
  /-- Red action is drop, 1 bit (R251). -/
  redDrop : Bool := false
  /-- CIR, 26 bits (R251; log 23). -/
  cir : Nat := 0
  /-- PIR, 26 bits (R251; log 23). -/
  pir : Nat := 0
  /-- CBS in bytes, 24 bits (R251; log 23). -/
  cbs : Nat := 0
  /-- PBS in bytes, 24 bits (R251; log 23). -/
  pbs : Nat := 0
  /-- Tc, in 1/256 byte (R251; log 23). -/
  tc : Nat := 0
  /-- Tp, in 1/256 byte (R251; log 23). -/
  tp : Nat := 0
  /-- Packets and bytes by colour, six 64-bit counters (R252). -/
  counts : List Nat := [0, 0, 0, 0, 0, 0]
  deriving DecidableEq, Repr

/-- A running block move (R194). -/
structure BlockMove where
  /-- START, 17 bits (R193). -/
  start : Nat := 0
  /-- COUNT, 17 bits (R193). -/
  count : Nat := 0
  /-- DOWN rather than UP, 1 bit (R193). -/
  down : Bool := false
  /-- Hole record, if the command carried one (R193). -/
  hole : Option TernEntry := none
  /-- Entries copied so far (R194). -/
  done : Nat := 0
  /-- Beat of acceptance, 64 bits (R194, R207). -/
  beat : Nat := 0
  deriving DecidableEq, Repr

/-- An automaton image slot (R205, R208). -/
structure AutoSlot where
  /-- 0 empty, 1 loaded, 2 loading (R208). -/
  st : Nat := 0
  /-- Image (R205). -/
  image : Bytes := []
  /-- PATTERNS, 14 bits (R205). -/
  patterns : Nat := 0
  /-- Whole-image SHA-256 (R205). -/
  hash : Bytes := []
  /-- Offsets of bad words (R206). -/
  bad : List Nat := []
  /-- Offsets of words read with a correctable error, to be rewritten at the next P3 (R206). -/
  weak : List Nat := []
  /-- Words that the running TABLE.AUTO_REPAIR has rewritten, 20 bits (R206). -/
  repaired : Nat := 0
  deriving DecidableEq, Repr

/-- One quadrant table complex. -/
structure Quad where
  /-- EMT entries by position (R152). -/
  emt : Tab EmtEntry := []
  /-- Positions hit in the beat in progress (R38). -/
  hits : List Nat := []
  /-- Positions whose parity failed and that the next P1 invalidates (R159). -/
  badPos : List Nat := []
  /-- Fresh learn events of the beat, in the order made (R168). -/
  learns : List Learn := []
  /-- Learn queue of deferrals, 32,768 at most (R175). -/
  queue : List Deferral := []
  /-- Eviction LFSR, 32 bits (R156). -/
  lfsr : Nat := 0xFFFFFFFF
  /-- Flap tracker, 1,024 slots (R170). -/
  flaps : List FlapSlot := []
  /-- Boundary of the freeze by key (R170). -/
  frozen : Tab Nat := []
  /-- Next bucket or overflow group of the sweep, 18 bits (R172). -/
  sweep : Nat := 0
  /-- Boundary plus one of the last visit; 0 = none (R172). -/
  lastVisit : Nat := 0
  /-- TABLE.STATS counters 6 to 18 by index, 64 bits each (R181). -/
  stats : Tab Nat := []
  /-- LEARN_LIMIT_EXCESS by port or 1,024 + LAG, 64 bits each (R179). -/
  excess : Tab Nat := []
  /-- Policers by index (R251). -/
  policers : Tab Policer := []
  /-- Ternary entries by position (R182). -/
  tern : Tab TernEntry := []
  /-- Shadow copy of the ternary entries, as its ECC gives it (R197). -/
  shadow : Tab TernEntry := []
  /-- Entry of each bank that the ternary scrubber reads in this beat, 11 bits (R198). -/
  scrub : Nat := 0
  /-- 64-byte line of automaton memory that its scrubber reads in this beat, 17 bits (R206). -/
  autoScrub : Nat := 0
  /-- Lost ternary positions (R199). -/
  lost : List Nat := []
  /-- Block move in progress (R194). -/
  move : Option BlockMove := none
  /-- Hits and misses per lookup group, index 2g and 2g + 1, 64 bits each (R208). -/
  ternStats : Tab Nat := []
  /-- Automaton slot 0 (R200). -/
  auto0 : AutoSlot := {}
  /-- Automaton slot 1 (R200). -/
  auto1 : AutoSlot := {}
  /-- Pattern counters by pattern ID, 64 bits each (R203). -/
  patterns : Tab Nat := []
  /-- Scans, empty windows and ON_ERROR outcomes, 64 bits each (R208). -/
  scans : List Nat := [0, 0, 0]
  deriving DecidableEq, Repr

/-- A next hop (R163). -/
structure NextHop where
  /-- VALID (R163). -/
  valid : Bool := false
  /-- PORT_OR_LAG, 11 bits (R163). -/
  port : Nat := 0
  /-- DMAC, 48 bits (R163). -/
  dmac : Nat := 0
  /-- SMAC_INDEX, 6 bits (R163). -/
  smac : Nat := 0
  /-- VID, 12 bits (R163). -/
  vid : Nat := 0
  /-- TEMPLATE, 12 bits (R163). -/
  template : Nat := 0
  /-- ENCAP, 24 bits (R163). -/
  encap : Nat := 0
  /-- Boundary of deletion and largest maximum sojourn since, while quarantined (R165). -/
  quarantine : Option (Nat × Nat) := none
  deriving DecidableEq, Repr

/-- An LPM entry (R161). -/
structure LpmEntry where
  /-- IPv6 rather than IPv4, 1 bit (R160). -/
  v6 : Bool := false
  /-- VRF, 12 bits (R161). -/
  vrf : Nat := 0
  /-- Prefix, 32 or 128 bits (R161). -/
  pfx : Nat := 0
  /-- Length, 8 bits (R161). -/
  len : Nat := 0
  /-- Result, 64 bits (R161). -/
  result : Nat := 0
  deriving DecidableEq, Repr

/-- An ECMP group (R164). -/
structure Ecmp where
  /-- SLOTS, 9 bits (R164). -/
  slots : Nat := 0
  /-- Next hop by slot, 17 bits each (R164). -/
  nh : Tab Nat := []
  deriving DecidableEq, Repr

/-- A LAG (R164). -/
structure Lag where
  /-- Member count, 7 bits (R164). -/
  count : Nat := 0
  /-- Port and enable by member position (R164). -/
  members : Tab (Nat × Bool) := []
  /-- Active list (R164). -/
  active : List Nat := []
  deriving DecidableEq, Repr

/-- A BD attribute record (R162). -/
structure Bd where
  /-- LEARN (R162). -/
  learn : Bool := true
  /-- ROUTE (R162). -/
  route : Bool := false
  /-- ROUTER_MAC, 6 bits (R162). -/
  rmac : Nat := 0
  /-- VRF, 12 bits (R162; log 24). -/
  vrf : Nat := 0
  /-- UNK_UC_GROUP, 16 bits (R162). -/
  ucGroup : Nat := 0xFFFF
  /-- UNK_MC_GROUP, 16 bits (R162). -/
  mcGroup : Nat := 0xFFFF
  /-- BCAST_GROUP, 16 bits (R162). -/
  bcGroup : Nat := 0xFFFF
  deriving DecidableEq, Repr

/-- A VRF attribute record (R162). -/
structure Vrf where
  /-- MISS, 2 bits (R162). -/
  miss : Nat := 0
  /-- MISS_NH, 17 bits (R162; log 24). -/
  nh : Nat := 0
  deriving DecidableEq, Repr

/-- Learning settings of a port or LAG (R171). -/
structure LearnCfg where
  /-- Learning on, 1 bit (R167; log 22). -/
  on : Bool := true
  /-- EXCESS = DROP, 1 bit (R171). -/
  drop : Bool := false
  /-- LIMIT, 21 bits (R171). -/
  limit : Nat := 1048576
  deriving DecidableEq, Repr

/-- A ternary lookup group (R183). -/
structure TernGroup where
  /-- FIRST_BANK, 6 bits (R183). -/
  first : Nat := 0
  /-- BANK_COUNT, 7 bits (R183). -/
  count : Nat := 0
  /-- WIDTH, 1 or 2 (R183). -/
  width : Nat := 1
  /-- ON_LOSS is DROP, 1 bit (R183). -/
  drop : Bool := false
  deriving DecidableEq, Repr

/-- The notification ring (R180). -/
structure Notify where
  /-- The ring has been set (R179). -/
  set : Bool := false
  /-- Host address, 64 bits (R179). -/
  addr : Nat := 0
  /-- Records, 17 bits (R179). -/
  size : Nat := 0
  /-- Kind mask, 8 bits: bit k - 1 for kind k (R180; log 25). -/
  mask : Nat := 0xFA
  /-- NOTIFY_MAX, 16 bits (R180). -/
  max : Nat := 256
  /-- Sequence number, 32 bits (R180). -/
  seq : Nat := 0
  /-- Records of the beat so far (R180). -/
  now : Nat := 0
  /-- NOTIFY_DROP, 64 bits (R180, R181). -/
  drop : Nat := 0
  /-- Beat of the last EV_TABLE_NOTIFY_LOST plus one; 0 = none (R180). -/
  lostBeat : Nat := 0
  deriving DecidableEq, Repr

/-- The forwarding tables. -/
structure Tables where
  /-- Quadrant table complexes 0 to 3 (R146). -/
  quads : Tab Quad := []
  /-- LPM entries, both families (R160). -/
  lpm : List LpmEntry := []
  /-- Next hops by index (R163). -/
  nh : Tab NextHop := []
  /-- ECMP groups (R164). -/
  ecmp : Tab Ecmp := []
  /-- LAGs (R164). -/
  lag : Tab Lag := []
  /-- BD records (R162). -/
  bd : Tab Bd := []
  /-- VRF records (R162). -/
  vrf : Tab Vrf := []
  /-- Router MACs, 48 bits each (R162). -/
  rmac : Tab Nat := []
  /-- SEED0, 32 bits (R155). -/
  seed0 : Nat := 0
  /-- SEED1, 32 bits (R155). -/
  seed1 : Nat := 0x6C8E9CF5
  /-- AGE_STEP, 16 bits (R172). -/
  ageStep : Nat := 1140
  /-- Base boundary of the visits (R172). -/
  ageBase : Nat := 0
  /-- AGE_PASSES, 4 bits (R173). -/
  agePasses : Nat := 1
  /-- Ageing-on mask by TYPE, 8 bits (R154, R179). -/
  ageOn : Nat := 2
  /-- Eviction policy mask by TYPE, 1 = RANDOM, 8 bits (R156). -/
  evict : Nat := 0
  /-- DAMP_WINDOW, 32 bits (R170). -/
  dampWindow : Nat := 1000000
  /-- DAMP_THRESHOLD, 8 bits (R170). -/
  dampMax : Nat := 5
  /-- DAMP_HOLD, 32 bits (R170). -/
  dampHold : Nat := 10000000
  /-- Learning settings by port or 1,024 + LAG (R171). -/
  learn : Tab LearnCfg := []
  /-- Ternary groups by number, those defined (R183). -/
  groups : Tab TernGroup := []
  /-- Notification ring (R180). -/
  notify : Notify := {}
  deriving DecidableEq, Repr

/-- A table DMA channel (R174 to R176). -/
structure Tdc where
  /-- TDC_CTRL without GO and ABORT, 24 bits (Table 5.10; R176). -/
  ctrl : Nat := 0
  /-- GO: an operation runs (R176). -/
  go : Bool := false
  /-- CODE, 4 bits (R176). -/
  code : Nat := 0
  /-- LOCKED (R176). -/
  locked : Bool := false
  /-- ERROR (R176). -/
  err : Bool := false
  /-- DONE (R176). -/
  done : Bool := false
  /-- TDC_START, 32 bits (R176). -/
  start : Nat := 0
  /-- TDC_COUNT, 32 bits (R176). -/
  count : Nat := 0
  /-- TDC_ADDR, 64 bits (R176). -/
  addr : Nat := 0
  /-- TDC_DONE, 32 bits (R176). -/
  moved : Nat := 0
  /-- TDC_FAIL_IDX, 32 bits (R176). -/
  fail : Nat := 0
  /-- TDC_APPLY_BEAT, 32 bits (R176). -/
  apply : Nat := 0
  /-- TDC_LOCK_BEATS, 20 bits (R176). -/
  lockBeats : Nat := 100000
  /-- Boundary at which the lock was taken (R175). -/
  lockAt : Nat := 0
  /-- The lock begins at the next P2 (R175). -/
  lockDue : Bool := false
  /-- First locked position and count (R175). -/
  span : Nat × Nat := (0, 0)
  /-- Quadrants of the lock, 4 bits (R175). -/
  lockMask : Nat := 0
  /-- Beat in which GO was set, 64 bits (R174). -/
  goBeat : Nat := 0
  /-- Records fetched from the host and not yet applied (R174). -/
  recs : List Bytes := []
  /-- Records an ATOMIC operation has staged (R174). -/
  staged : Nat := 0
  /-- ABORT waits for the end of the beat (R176). -/
  abort : Bool := false
  deriving DecidableEq, Repr

end Sys2Proof.Machine
end

