-- ==== Sys2Proof/Machine/State.lean ====
section
/-! DEFINITION. The state of the FM768 as one record of plain data, the reasons a command stops, and the state right
after power-up reset. -/

namespace Sys2Proof.Machine

/-- Why a command stops. Raised by a meaning only; a stop is safe (the model says nothing of what follows). -/
inductive Fault where
  /-- The operand names a thing the device does not have (a lane above 767, a mailbox above 15): there is no such
  command on the device. Raised by the meanings that take such a number. Safe. -/
  | noSuchItem (what : String)
  deriving DecidableEq, Repr

/-- Why a command is refused. -/
inductive Refusal where
  /-- The model gives the command of this mnemonic no meaning. Raised by an arm of exec only. Safe. -/
  | notModelled (mnemonic : String)
  deriving DecidableEq, Repr

/-- The state of the device with the queue of commands that wait. -/
structure State where
  /-- Beat generator and global registers (R34 to R37, R373). -/
  glb : Glb := {}
  /-- Start-up, resets and what stops the beat (R488 to R495). -/
  boot : Boot := {}
  /-- Lanes 0 to 767; a lane not listed holds the reset record (R5, R60). -/
  lanes : Tab Lane := []
  /-- Front-panel ports by lowest lane; a port exists while listed (R85). -/
  ports : Tab Port := []
  /-- Rule banks (R124). -/
  rules : Rules := {}
  /-- In-flight counters and parse counts (R116, R129). -/
  flight : Flight := {}
  /-- Forwarding tables as committed, with this beat's pending marks (R146). -/
  tab : Tables := {}
  /-- Forwarding tables as committed at the boundary before the last (R39, R115). -/
  tabPrev : Tables := {}
  /-- Table DMA channels 0 to 3 (R174). -/
  tdc : Tab Tdc := []
  /-- Cell buffer, fabric and ingress side (R209). -/
  buf : Buf := {}
  /-- Traffic manager (R238). -/
  tm : Tm := {}
  /-- Flow ledger (R264). -/
  ledger : Ledger := {}
  /-- Attached memory (R298). -/
  mem : Mem := {}
  /-- Memory-mover channels 0 to 7 (R314). -/
  xdc : Tab Xdc := []
  /-- Lantern (R326, R336). -/
  lantern : Lantern := {}
  /-- Performance counters (R342). -/
  pmc : Pmc := {}
  /-- Hardware clock (R350). -/
  time : Time := {}
  /-- PCIe functions, interrupts, host rings and filters (R368). -/
  host : HostIf := {}
  /-- Mailboxes (R399). -/
  mbx : Mbxs := {}
  /-- Event engine (R418). -/
  evt : Evt := {}
  /-- Settings posted to the next boundary, in the order accepted (R40). -/
  pend : List Pend := []
  /-- Identity and life cycle (R426, R443). -/
  trust : Trust := {}
  /-- Firmware images, boot flash and handover (R434; log 43). -/
  fw : Fw := { slots := Config.flashSlots, desc := Config.flashDesc, board := Config.flashBoard }
  /-- Fault collector and Snuffer (R450). -/
  fault : Collector := {}
  /-- WICK and the Ittas watchdog (R465). -/
  wick : Wick := {}
  /-- Dimmer (R470). -/
  power : Power := {}
  /-- Slices 0 to 31 and, as 32, the Ember (R498). -/
  slices : Tab Slice := []
  /-- RW1C bits set by hardware in the beat in progress, as (register, bit); a clear in the same beat loses to the set (R17). PF1 registers are 0x20000 up. -/
  freshSet : List (Nat × Nat) := []
  /-- What the last read returned (log 42). -/
  out : Out := {}
  /-- Count of the free values used: the model's own (log 44). -/
  freeCtr : Nat := 0
  /-- Commands that wait, first in, first out. -/
  pending : List Instr := []
  deriving DecidableEq, Repr

/-- The state after power-up reset, before PWRGOOD rises: every field at its reset value (R493; log entries 20 to 44
name the values the spec does not give). -/
def State.reset : State := {}

/-- One outcome of a command. -/
abbrev Outc := Host.Outcome State Fault Refusal

/-- Replaces the component `glb` by its image. -/
def State.modGlb (f : Glb → Glb) (s : State) : State := { s with glb := f s.glb }

/-- Replaces the component `boot` by its image. -/
def State.modBoot (f : Boot → Boot) (s : State) : State := { s with boot := f s.boot }

/-- Replaces the component `lanes` by its image. -/
def State.modLanes (f : Tab Lane → Tab Lane) (s : State) : State := { s with lanes := f s.lanes }

/-- Replaces the component `ports` by its image. -/
def State.modPorts (f : Tab Port → Tab Port) (s : State) : State := { s with ports := f s.ports }

/-- Replaces the component `rules` by its image. -/
def State.modRules (f : Rules → Rules) (s : State) : State := { s with rules := f s.rules }

/-- Replaces the component `flight` by its image. -/
def State.modFlight (f : Flight → Flight) (s : State) : State := { s with flight := f s.flight }

/-- Replaces the component `tab` by its image. -/
def State.modTab (f : Tables → Tables) (s : State) : State := { s with tab := f s.tab }

/-- Replaces the component `tabPrev` by its image. -/
def State.modTabPrev (f : Tables → Tables) (s : State) : State := { s with tabPrev := f s.tabPrev }

/-- Replaces the component `tdc` by its image. -/
def State.modTdc (f : Tab Tdc → Tab Tdc) (s : State) : State := { s with tdc := f s.tdc }

/-- Replaces the component `buf` by its image. -/
def State.modBuf (f : Buf → Buf) (s : State) : State := { s with buf := f s.buf }

/-- Replaces the component `tm` by its image. -/
def State.modTm (f : Tm → Tm) (s : State) : State := { s with tm := f s.tm }

/-- Replaces the component `ledger` by its image. -/
def State.modLedger (f : Ledger → Ledger) (s : State) : State := { s with ledger := f s.ledger }

/-- Replaces the component `mem` by its image. -/
def State.modMem (f : Mem → Mem) (s : State) : State := { s with mem := f s.mem }

/-- Replaces the component `xdc` by its image. -/
def State.modXdc (f : Tab Xdc → Tab Xdc) (s : State) : State := { s with xdc := f s.xdc }

/-- Replaces the component `lantern` by its image. -/
def State.modLantern (f : Lantern → Lantern) (s : State) : State := { s with lantern := f s.lantern }

/-- Replaces the component `pmc` by its image. -/
def State.modPmc (f : Pmc → Pmc) (s : State) : State := { s with pmc := f s.pmc }

/-- Replaces the component `time` by its image. -/
def State.modTime (f : Time → Time) (s : State) : State := { s with time := f s.time }

/-- Replaces the component `host` by its image. -/
def State.modHost (f : HostIf → HostIf) (s : State) : State := { s with host := f s.host }

/-- Replaces the component `mbx` by its image. -/
def State.modMbx (f : Mbxs → Mbxs) (s : State) : State := { s with mbx := f s.mbx }

/-- Replaces the component `evt` by its image. -/
def State.modEvt (f : Evt → Evt) (s : State) : State := { s with evt := f s.evt }

/-- Replaces the component `pend` by its image. -/
def State.modPend (f : List Pend → List Pend) (s : State) : State := { s with pend := f s.pend }

/-- Replaces the component `trust` by its image. -/
def State.modTrust (f : Trust → Trust) (s : State) : State := { s with trust := f s.trust }

/-- Replaces the component `fw` by its image. -/
def State.modFw (f : Fw → Fw) (s : State) : State := { s with fw := f s.fw }

/-- Replaces the component `fault` by its image. -/
def State.modFault (f : Collector → Collector) (s : State) : State := { s with fault := f s.fault }

/-- Replaces the component `wick` by its image. -/
def State.modWick (f : Wick → Wick) (s : State) : State := { s with wick := f s.wick }

/-- Replaces the component `power` by its image. -/
def State.modPower (f : Power → Power) (s : State) : State := { s with power := f s.power }

/-- Replaces the component `slices` by its image. -/
def State.modSlices (f : Tab Slice → Tab Slice) (s : State) : State := { s with slices := f s.slices }

/-- Replaces the component `freshSet` by its image. -/
def State.modFreshSet (f : List (Nat × Nat) → List (Nat × Nat)) (s : State) : State := { s with freshSet := f s.freshSet }

/-- Replaces the component `out` by its image. -/
def State.modOut (f : Out → Out) (s : State) : State := { s with out := f s.out }

/-- Replaces the component `freeCtr` by its image. -/
def State.modFreeCtr (f : Nat → Nat) (s : State) : State := { s with freeCtr := f s.freeCtr }

end Sys2Proof.Machine
end

