-- ==== Sys2Proof/Machine/Flags.lean ====
section
/-! DEFINITION. Status bits, interrupt causes, fault sources and rate limits: what a happening sets. -/

namespace Sys2Proof.Machine

/-- The beat in progress, or the boundary that ends it (R36). -/
def State.beat (s : State) : Nat := s.glb.beat

/-- Whether something told at most once in `n` beats may be told now; `told` is the last time plus one, 0 for never. -/
def mayTell (told n now : Nat) : Bool := told == 0 || decide (told + n ≤ now + 1)

/-- Records that hardware has set bit `b` of RW1C register `r` in this beat (R17). -/
def markSet (r b : Nat) (s : State) : State := s.modFreshSet fun l => if l.contains (r, b) then l else (r, b) :: l

/-- The bits of a write of `v` to RW1C register `r` that clear: those written 1 and not set in this beat (R15, R17). -/
def w1c (s : State) (r v : Nat) : Nat := clearBits v (maskOf ((s.freshSet.filter fun p => p.1 == r).map (·.2)))

/-- Whether a write of `v` to RW1C register `r` clears bit `b`. -/
def clearsBit (s : State) (r v b : Nat) : Bool := bit v b && !s.freshSet.contains (r, b)

/-- The vector that IRQ_VEC maps cause `c` to; at reset cause n goes to vector n (R375). -/
def vectorOf (s : State) (c : Nat) : Nat := fld (s.host.vecs.get (0x03020100 + 0x04040404 * (c / 4)) (c / 4)) (8 * (c % 4) + 5) (8 * (c % 4))

/-- Sets interrupt cause `c` of PF0; its vector becomes pending while it is enabled (R374, R376). -/
def irqCause (c : Nat) (s : State) : State :=
  let s := markSet (0x3000 + 4 * (c / 32)) (c % 32) s
  let v := vectorOf s c
  s.modHost fun h => { h with
    status := setBit h.status c true
    pba0 := if bit h.enable c then setBit h.pba0 v true else h.pba0 }

/-- Sets bit `b` of GLB_HOST_ERR, with cause HOST_ERR (R373, R374). -/
def hostErrBit (b : Nat) (s : State) : State :=
  irqCause 33 (markSet 0x18 b (s.modGlb fun g => { g with hostErr := setBit g.hostErr b true }))

/-- The host can reach the registers and the mailbox areas: the device is powered and out of the reset of its
interface (R492, R494). -/
def hostUp (s : State) : Bool := s.boot.pwrgood && s.boot.perstHigh

/-- The boot ROM serves the mailboxes (R493). -/
def inRecovery (s : State) : Bool := s.boot.stage == 15

/-- The data plane runs: DP_READY is set and neither a stopped beat nor a stopped device holds it (R457, R481, R482,
R491). -/
def dataUp (s : State) : Bool := s.boot.dpReady && !s.boot.pllLost && !s.boot.ethLost && !s.boot.stopped

/-- The beat runs: PWRGOOD is high, and neither the core PLL nor REFCLK_ETH is lost (R457, R522), nor is the core PLL
stopped with the device (R32, R481; log entry 162). -/
def beatRuns (s : State) : Bool := s.boot.pwrgood && !s.boot.pllLost && !s.boot.ethLost && !s.boot.stopped

/-- A time counted in beats has come; while the beat is stopped the model has no measure of it (log entry 234). -/
def timeCome (s : State) (t : Nat) : Bool := !beatRuns s || decide (t ≤ s.beat)

/-- First ID, count, class, domain and kind (level) of the fault sources (Table 16.2); domains 1 lane, 2 port, 3
slice, 4 quadrant table, 5 ledger module, 6 Ittas, 7 host function, 8 device (Table 16.11). -/
def sourceTable : List (Nat × Nat × Nat × Nat × Bool) := [
  (0, 33, 3, 3, false), (33, 33, 1, 3, false), (66, 33, 2, 3, false), (99, 33, 2, 3, false),
  (132, 96, 3, 3, true), (228, 96, 1, 3, false), (324, 4, 2, 4, false), (328, 4, 1, 4, false),
  (332, 4, 2, 4, false), (336, 4, 1, 4, false), (340, 4, 2, 4, false), (344, 4, 1, 4, false),
  (348, 4, 3, 4, false), (352, 4, 1, 1, false), (356, 4, 2, 1, false), (360, 4, 2, 2, false),
  (364, 4, 3, 1, false), (368, 5, 1, 8, false), (373, 4, 1, 8, false), (377, 4, 2, 8, true),
  (381, 1, 1, 8, false), (382, 1, 2, 8, false), (383, 1, 2, 8, false), (384, 1, 1, 8, false),
  (385, 1, 1, 8, false), (386, 1, 2, 8, false), (387, 4, 1, 5, false), (391, 4, 2, 5, false),
  (395, 4, 2, 5, true), (399, 4, 2, 5, false), (403, 4, 1, 5, false), (407, 1, 1, 8, false),
  (408, 4, 2, 7, false), (412, 2, 1, 7, false), (414, 2, 2, 7, false), (416, 16, 2, 6, false),
  (432, 1, 2, 6, false), (433, 1, 3, 6, true), (434, 1, 1, 6, false), (435, 2, 3, 6, false),
  (437, 2, 3, 8, true), (439, 2, 1, 8, true), (441, 1, 2, 8, true), (442, 1, 1, 8, true),
  (443, 2, 3, 8, true), (445, 1, 2, 8, true), (446, 1, 1, 8, true), (447, 1, 1, 8, false)]

/-- The row of a source, none above 447 (R451). -/
def sourceRow (i : Nat) : Option (Nat × Nat × Nat × Nat × Bool) :=
  sourceTable.find? fun r => decide (r.1 ≤ i) && decide (i < r.1 + r.2.1)

/-- Class of a source (Table 16.2). -/
def sourceClass (i : Nat) : Nat := match sourceRow i with | some (_, _, c, _, _) => c | none => 0

/-- Domain code of a source (Tables 16.2 and 16.11). -/
def sourceDomain (i : Nat) : Nat := match sourceRow i with | some (_, _, _, d, _) => d | none => 0

/-- Whether a source is a level source (Table 16.2). -/
def sourceLevel (i : Nat) : Bool := match sourceRow i with | some (_, _, _, _, l) => l | none => false

/-- FLT_SRC_CFG of a source at reset: GRACE for all but six, AUTO_ACK for class CORRECTED, HOST_REPORT for CONTAINED and
FATAL (R454, R459, R467). -/
def sourceCfg0 (i : Nat) : Nat :=
  (if sourceRow i == none then 0 else
   (if [433, 437, 438, 439, 443, 444].contains i then 0 else 4) + (if sourceClass i == 1 then 2 else 1))

/-- FLT_SRC_CFG of a source. -/
def sourceCfg (s : State) (i : Nat) : Nat := ((s.fault.srcs.get {} i).cfg).getD (sourceCfg0 i)

/-- A fault is detected: an event source's event, or the onset of a level source's condition, joins the events the next
P9 handles. A class of 0 is the source's own; a higher one is the raising rule's (R450, R451, R455). -/
def detect (src inst cls : Nat) (detail : Bytes) (s : State) : State :=
  let c := if cls == 0 then sourceClass src else cls
  let rec_ := s.fault.srcs.get {} src
  if sourceRow src == none then s
  else if sourceLevel src && rec_.causes.contains inst && cls == 0 then s
  else s.modFault fun f => { f with
    evs := f.evs ++ [{ src := src, inst := inst, cls := c, detail := detail }]
    srcs := if sourceLevel src && !rec_.causes.contains inst then f.srcs.put src { rec_ with causes := rec_.causes ++ [inst] } else f.srcs }

/-- The condition of a level source ends for an instance (R451, R460). -/
def causeEnd (src inst : Nat) (s : State) : State :=
  s.modFault fun f => { f with srcs :=
    if (f.srcs.get {} src).causes.contains inst then f.srcs.upd {} src fun r => { r with causes := r.causes.filter (· != inst) } else f.srcs }

/-- Whether any latch of a source is SET. -/
def latched (s : State) (i : Nat) : Bool := (s.fault.srcs.get {} i).real.set || (s.fault.srcs.get {} i).forced.set

/-- Whether the REAL latch of a source is SET. -/
def realLatched (s : State) (i : Nat) : Bool := (s.fault.srcs.get {} i).real.set

end Sys2Proof.Machine
end

