-- ==== Sys2Proof/Machine/Ops.lean ====
section
/-! DEFINITION. The shared operations: stops, events, host memory, settings that wait for a boundary, answers of
mailbox commands, free values, and the records of lanes, ports, quadrants, packets and copies. -/

namespace Sys2Proof.Machine

/-- A command whose operand names a thing the device has goes on; any other is no command of the device. -/
def need (b : Bool) (what : String) (r : Outc) : Outc := if b then r else .fault (.noSuchItem what)

/-- Applies `f` when `b` holds. -/
def whenDo (b : Bool) (f : State → State) (s : State) : State := if b then f s else s

/-- Applies a function of the list's items from left to right. -/
def eachDo {α : Type} (l : List α) (f : α → State → State) (s : State) : State := l.foldl (fun s a => f a s) s

/-- Adds `n` to a unit activity count of the beat: 0 slots used, 1 ternary banks searched, 2 cells written, 3 cells read, 4
crossing cells, 5 mover bursts (R473). -/
def countAct (i n : Nat) (s : State) : State := s.modPower fun p => { p with act := addAt p.act i n }

/-- A fresh free value (log entry 44). -/
def takeFree (s : State) : Nat × State := (Config.free s.freeCtr, s.modFreeCtr (· + 1))

/-- `n` fresh free bytes (log entry 44). -/
def takeFreeBytes (n : Nat) (s : State) : Bytes × State := (part (Config.freeBytes s.freeCtr) 0 n, s.modFreeCtr (· + 1))

/-- The lane's record (R5). -/
def State.lane (s : State) (l : Nat) : Lane := s.lanes.get {} l

/-- The instant `ns` into the beat, in ns from the first beat. -/
def nowNs (s : State) (ns : Nat) : Nat := 1000 * s.beat + ns

/-- Replaces a lane's record by its image. -/
def modLane (l : Nat) (f : Lane → Lane) (s : State) : State := s.modLanes fun t => t.upd {} l f

/-- The port's record, if the port exists (R85). -/
def State.port? (s : State) (p : Nat) : Option Port := s.ports.find p

/-- The port's record, or a fresh one. -/
def State.port (s : State) (p : Nat) : Port := s.ports.get {} p

/-- Replaces an existing port's record by its image; a port that does not exist stays absent. -/
def modPort (p : Nat) (f : Port → Port) (s : State) : State :=
  if s.ports.has p then s.modPorts fun t => t.upd {} p f else s

/-- The lanes of a port (R85). -/
def portLanes (s : State) (p : Nat) : List Nat := (List.range (s.port p).width).map (p + ·)

/-- The port that holds a lane, if one does (R86). -/
def portOfLane (s : State) (l : Nat) : Option Nat :=
  (s.ports.find? fun e => decide (e.1 ≤ l) && decide (l < e.1 + e.2.width)).map (·.1)

/-- The lanes that move together with a lane: those of its port, or the lane alone (R85). -/
def groupOfLane (s : State) (l : Nat) : List Nat :=
  match portOfLane s l with
  | some p => portLanes s p
  | none => [l]

/-- Adds `n` to counter `i` of a port: 48 bits, or 64 of the firmware set from 64 up (R106). -/
def portCount (p i n : Nat) (s : State) : State :=
  modPort p (fun q => { q with counts := q.counts.upd 0 i fun v => (v + n) % 2 ^ (if i < 64 then 48 else 64) }) s

/-- Adds to several counters of a port. -/
def portCounts (p : Nat) (l : List (Nat × Nat)) (s : State) : State := eachDo l (fun x => portCount p x.1 x.2) s

/-- A frame's counts are made in the beat in which its last byte passes the MAC, at `at_` ns from the first beat (R106). -/
def countAt (p at_ pkt : Nat) (l : List (Nat × Nat)) (s : State) : State :=
  if at_ < 1000 * (s.beat + 1) then portCounts p l s
  else modPort p (fun q => { q with late := q.late ++ [(at_, pkt, l)] }) s

/-- The counts of frames whose last byte has come by the end of the beat (R106). -/
def lateCounts (p : Nat) (s : State) : State :=
  let due := (s.port p).late.filter fun e => decide (e.1 < 1000 * (s.beat + 1))
  if due.isEmpty then s
  else eachDo due (fun e => portCounts p e.2.2)
    (modPort p (fun q => { q with late := q.late.filter fun e => !decide (e.1 < 1000 * (s.beat + 1)) }) s)

/-- The size bucket of a length: 0 to 9 (Table 3.6). -/
def sizeBucket (n : Nat) : Nat :=
  if n ≤ 64 then 0 else if n ≤ 127 then 1 else if n ≤ 255 then 2 else if n ≤ 511 then 3 else if n ≤ 1023 then 4
  else if n ≤ 1518 then 5 else if n ≤ 2047 then 6 else if n ≤ 4095 then 7 else if n ≤ 9216 then 8 else 9

/-- A quadrant's record (R147). -/
def State.quad (s : State) (q : Nat) : Quad := s.tab.quads.get {} q

/-- Replaces a quadrant's record by its image. -/
def modQuad (q : Nat) (f : Quad → Quad) (s : State) : State :=
  s.modTab fun t => { t with quads := t.quads.upd {} q f }

/-- The quadrant of a slice (R21). -/
def quadOfSlice (sl : Nat) : Nat := sl / 8

/-- The home slice of a lane or front-panel port (R6, R9). -/
def sliceOfPort (p : Nat) : Nat := if p < 768 then p / 24 else p - 768

/-- A packet's record. -/
def State.pkt (s : State) (i : Nat) : Packet := s.buf.pkts.get {} i

/-- Replaces a packet's record by its image, where the packet is in the device. -/
def modPkt (i : Nat) (f : Packet → Packet) (s : State) : State :=
  if s.buf.pkts.has i then s.modBuf fun b => { b with pkts := b.pkts.upd {} i f } else s

/-- A copy's record. -/
def State.copy (s : State) (i : Nat) : Copy := s.buf.copies.get {} i

/-- Replaces a copy's record by its image, where the copy is in the device. -/
def modCopy (i : Nat) (f : Copy → Copy) (s : State) : State :=
  if s.buf.copies.has i then s.modBuf fun b => { b with copies := b.copies.upd {} i f } else s

/-- Events held on die that take shared places: every abort report but the first of its mailbox has one (R419). -/
def sharedHeld (l : List Event) : Nat :=
  l.length - ((List.range 16).filter fun m => l.any fun e => e.code == 0x0101 && rd e.params 0 1 == m).length

/-- Whether the event finds a place on die (R419). -/
def eventRoom (l : List Event) (e : Event) : Bool :=
  decide (sharedHeld l < 4096) ||
    (e.code == 0x0101 && !l.any fun h => h.code == 0x0101 && rd h.params 0 1 == rd e.params 0 1)

/-- An event reaches the event engine: it waits on die in arrival order, and is lost and counted where no place is left
(R419). -/
def reachEngine (e : Event) (s : State) : State :=
  if eventRoom s.evt.held e then s.modEvt fun v => { v with held := v.held ++ [e] }
  else s.modEvt fun v => { v with lost := satAdd 32 v.lost 1, lostSince := v.lostSince + 1 }

/-- An event is raised: it is discarded while its service is masked, gathered with the others of a boundary in progress, and
else reaches the engine. No event is written in RECOVERY (R420, R421, R493). -/
def raiseEvent (code : Nat) (params : Bytes) (s : State) : State :=
  let e : Event := { code := code, beat := s.beat, params := params }
  if inRecovery s then s
  else if bit s.evt.mask (code / 256) && decide (code / 256 ≠ 1) then s
  else if s.evt.gather then s.modEvt fun v => { v with batch := v.batch ++ [e] }
  else reachEngine e s

/-- The phases of a boundary begin: what they raise is gathered (R420). -/
def gatherEvents (s : State) : State := s.modEvt fun v => { v with gather := true }

/-- The events of a boundary reach the engine in ascending service code, those of a service as they were produced (R420). -/
def releaseEvents (s : State) : State :=
  let l := (List.range 32).flatMap fun c => s.evt.batch.filter fun e => e.code / 256 == c
  eachDo l reachEngine (s.modEvt fun v => { v with gather := false, batch := [] })

/-- The Snuffer holds the safe state of a source (R456, R467). -/
def safeHeld (s : State) (i : Nat) : Bool := !(s.fault.srcs.get {} i).safe.isEmpty

/-- Bus Master Enable of a function (R376); a function whose safe state the Snuffer holds is treated as with it cleared
(R456). -/
def bmeOf (s : State) (pf : Nat) : Bool :=
  s.host.bme.getD pf false && !((if pf = 0 then [409, 410, 411, 412, 414] else [408, 413, 415]).any (safeHeld s))

/-- The Snuffer holds the device's safe state, or the device is stopped (R456, R481, R482). -/
def deviceSafe (s : State) : Bool :=
  s.boot.stopped || (s.fault.srcs.keys.any fun i => sourceDomain i == 8 && safeHeld s i)

/-- Who holds Local Fault on a port as it is created: sources whose quadrant safe state stands, and its slice while it
is DOWN (R456, R499). -/
def lfHolders (s : State) (p : Nat) : List Nat :=
  (s.fault.srcs.keys.filter fun i => sourceDomain i == 4 && (i - 324) % 4 == p / 192 && safeHeld s i) ++
    (let x := s.slices.get {} (p / 24)
     if x.st == 3 || (x.st == 4 && x.prev == 3) then [1000 + p / 24] else [])

/-- The device writes bytes to host memory; none are written while the function may not (R13, R416). -/
def hostWrite (pf addr : Nat) (bs : Bytes) (s : State) : State :=
  if bmeOf s pf then s.modHost fun h => { h with mem := h.mem.writeN addr bs } else s

/-- Appends to the partner log, newest first, 256 entries, and tells it at most once per interface in 1,000,000 beats
(R464). -/
def partnerLog (iface index code : Nat) (s : State) : State :=
  let e := le 8 s.beat ++ le 1 iface ++ zeros 1 ++ le 2 index ++ le 2 code ++ zeros 2
  let tell := mayTell (nth s.fault.partnerTold iface) 1000000 s.beat
  let s := s.modFault fun f => { f with
    partner := (e :: f.partner).take 256
    partnerLost := if f.partner.length < 256 then f.partnerLost else satAdd 32 f.partnerLost 1
    partnerCnt := satAdd 32 f.partnerCnt 1
    partnerTold := if tell then setAt f.partnerTold iface (s.beat + 1) else f.partnerTold }
  if tell then raiseEvent 0x0E04 (le 1 iface ++ zeros 1 ++ le 2 index ++ le 2 code) s else s

/-- Posts a setting to the boundary that ends the beat (R40). -/
def post (order kind : Nat) (req data : Bytes) (s : State) : State :=
  s.modPend fun l => l ++ [{ order := order, kind := kind, req := req, data := data }]

/-- A table DMA channel accepts its first records with GO; they wait for P3 among the writes of the beat (R174). -/
def evTdcGo : Nat := 0x20003

/-- A scrub repair of a ternary position waits for P3 (R188, R198). -/
def evScrub : Nat := 0x20004

/-- The rewrite of an automaton word read with a correctable error waits for P3 (R206). -/
def evAutoRewrite : Nat := 0x20005

/-- A happening of P2: FLAP_RELEASE (R170). -/
def evFlapRelease : Nat := 0x20010

/-- A happening of P2: FLAP_WINDOW_END (R170). -/
def evFlapWindow : Nat := 0x20011

/-- A happening of P2: DEFERRED_LEARN_RELEASE (R168). -/
def evDeferred : Nat := 0x20012

/-- A happening of P3: TDC_DONE (R174). -/
def evTdcDone : Nat := 0x20013

/-- A happening of P3: TDC_LOCK_TIMEOUT (R175). -/
def evTdcLock : Nat := 0x20014

/-- A happening of P3: TERN_BLOCK_MOVE_DONE (R194). -/
def evMoveDone : Nat := 0x20015

/-- A happening of P3: EMBER_SWITCH (R499, R501). -/
def evEmberSwitch : Nat := 0x20016

/-- A happening of P3: NH_QUARANTINE_END (R165). -/
def evNhEnd : Nat := 0x20017

/-- A happening of P3: PFC_WATCHDOG_TRIP (R100). -/
def evWatchdogTrip : Nat := 0x20018

/-- A happening of P3: PFC_WATCHDOG_RESTORE (R100). -/
def evWatchdogRestore : Nat := 0x20019

/-- A happening of P3: MEM_OFFLINE_REACHED (R310). -/
def evMemOffline : Nat := 0x2001A

/-- A happening of P4: AGEING_VISIT (R173). -/
def evAgeing : Nat := 0x2001B

/-- A happening of P5: RULE_DRAIN_COMPLETE (R129). -/
def evDrained : Nat := 0x2001C

/-- A happening of P7: SOJOURN_DISCARD (R248). -/
def evSojourn : Nat := 0x2001D

/-- A happening of P7: HOLD_SOJOURN_DROP (R103). -/
def evHoldSojourn : Nat := 0x2001E

/-- A happening of P7: HOLD_WINDOW_EXPIRE (R104). -/
def evHoldExpire : Nat := 0x2001F

/-- A happening of P8: ROLL_START (R282). -/
def evRollStart : Nat := 0x20020

/-- A happening of P8: RESEQ_SKIP_TIMEOUT (R231). -/
def evReseqSkip : Nat := 0x20021

/-- A happening of P8: BUF_AUDIT_COMPLETE (R237). -/
def evAudit : Nat := 0x20022

/-- A happening of P9: GRACE_TIMER_EXPIRE (R455). -/
def evGrace : Nat := 0x20023

/-- A happening of P10: QUIET_IDLE_THRESHOLD (R73). -/
def evQuietIdle : Nat := 0x20024

/-- A happening of P11: WICK_TOGGLE (R465). -/
def evWick : Nat := 0x20025

/-- A happening of P10: POLL_CYCLE_END (R471, R474). -/
def evPollEnd : Nat := 0x20026

/-- A happening of a phase, told in mid-beat, waits for its phase of the boundary that ends the beat: no table or queue
changes between boundaries on its account (R38, R41; log entry 197). -/
def atBoundary (kind : Nat) (args : Bytes) (s : State) : State := post 0 kind args [] s

/-- The happenings of a kind that wait for a phase are carried out. -/
def runPosted (kind : Nat) (todo : List Pend) (f : Bytes → State → State) (s : State) : State :=
  eachDo (todo.filter fun w => w.kind == kind) (fun w => f w.req) s

/-- A posted item is a happening of a phase, not a setting. -/
def isHappening (k : Nat) : Bool := decide (0x20010 ≤ k)

/-- The command of a doorbell order is answered: its response waits to be posted. A command whose mailbox an FLR has
reset posts none (R408, R415). -/
def answer (order status detail : Nat) (payload : Bytes) (s : State) : State :=
  if order == 0 then s else
  s.modMbx fun b => { b with
    cmds := (b.cmds.map (fun c =>
      if c.order == order && c.reply.isNone then { c with reply := some (status, detail, payload) } else c)).filter
        (fun c => decide (c.m < 16) || c.reply.isNone) }

/-- The command is answered with ST_OK. -/
def answerOk (order : Nat) (payload : Bytes) (s : State) : State := answer order 0 0 payload s

/-- The command is answered with ST_OK and the beat number of the boundary. -/
def answerBeat (order : Nat) (s : State) : State := answer order 0 0 (le 8 s.beat) s

end Sys2Proof.Machine
end

