-- ==== Sys2Proof/Machine/Operands.lean ====
section
/-! DEFINITION. The operand forms of mailbox commands: request payloads, the verdict on a command, host memory that a
command reads or writes, and the reading of registers written in four or eight bytes. -/

namespace Sys2Proof.Machine

/-- What Ittas decides of a command (R406): refused with a status and DETAIL, or accepted with the state its effect
leaves and, where it is answered at once, status and response payload. -/
inductive Verdict where
  | refuse (status detail : Nat)
  | refuseWith (status : Nat) (payload : Bytes)
  | accept (s : State) (reply : Option (Nat × Bytes))

/-- What the opcode index gives for a command: the payload length it needs, from the payload's own counts, and its
checks and effect. -/
structure CmdSpec where
  /-- Bytes of payload the request table lists (R402). -/
  need : Bytes → Nat
  /-- Checks and effect. -/
  run : Cmd → Bytes → HostAnswer → State → Verdict

/-- ST_INVALID_ARG with the payload offset of the first field found invalid (R410). -/
def badArg (off : Nat) : Verdict := .refuse 3 off

/-- Checks fields in order; the first that fails gives ST_INVALID_ARG at its offset (R410). -/
def checks (l : List (Bool × Nat)) (ok : Verdict) : Verdict :=
  match l with
  | [] => ok
  | (b, off) :: r => if b then checks r ok else badArg off

/-- Goes on when the condition holds, else refuses with the status. -/
def require (b : Bool) (status : Nat) (ok : Verdict) : Verdict := if b then ok else .refuse status 0

/-- Accepted and answered at once with a payload. -/
def replyNow (s : State) (payload : Bytes) : Verdict := .accept s (some (0, payload))

/-- Accepted; answered when its work is done or its boundary has come. -/
def replyLater (s : State) : Verdict := .accept s none

/-- A command that reads host memory: ST_HOST_MEMORY with DETAIL 3 while PF0 may not, 1 on UR or CA, 2 on a completion
timeout; else it goes on with the bytes read (R410, R416). -/
def withHost (h : HostAnswer) (s : State) (f : Bytes → Verdict) : Verdict :=
  if !bmeOf s 0 then .refuse 8 3
  else match h with
    | .data bs => f bs
    | .urca => .refuse 8 1
    | .timeout => .refuse 8 2

/-- A command that only writes host memory (R410, R416). -/
def hostReady (s : State) (v : Verdict) : Verdict := if bmeOf s 0 then v else .refuse 8 3

/-- A setting posted to the boundary of acceptance, answered after it (R40, R406). -/
def postCmd (c : Cmd) (p data : Bytes) (s : State) : Verdict := replyLater (post c.order c.op p data s)

end Sys2Proof.Machine
end

