-- ==== Sys2Proof/Machine/Mailbox.lean ====
section
/-! DEFINITION. The mailbox protocol: doorbells, acceptance, responses, the guard, protocol violations, the event ring,
and the SYS.EVENT_RING, SYS.EVENT_MASK and DIAG commands. -/

namespace Sys2Proof.Machine

/-- The registers of mailbox `m` (R403). -/
def State.box (s : State) (m : Nat) : Mbx := s.mbx.box.get {} m

/-- Replaces a mailbox's registers by their image. -/
def modBox (m : Nat) (f : Mbx → Mbx) (s : State) : State := s.modMbx fun b => { b with box := b.box.upd {} m f }

/-- Offset of a mailbox's MBX_STATUS. -/
def statusReg (m : Nat) : Nat := 0x404 + 0x40 * m

/-- Records a protocol violation in the protocol log, and tells it at most once per mailbox and kind in 1,000 beats
(R413, R423). -/
def protocol (m kind detail : Nat) (s : State) : State :=
  let op := (s.box m).opcode % 65536
  let k := 8 * m + kind
  let tell := mayTell (s.mbx.told.get 0 k) 1000 s.beat
  let s := s.modMbx fun b => { b with
    log := ({ beat := s.beat, m := m, kind := kind, op := op, detail := detail } :: b.log).take 64
    logCount := satAdd 32 b.logCount 1
    told := if tell then b.told.put k (s.beat + 1) else b.told }
  if tell then raiseEvent 0x0103 (le 1 m ++ le 1 kind ++ le 2 op ++ le 2 detail) s else s

/-- The command that runs in mailbox `m`: the one whose response the mailbox waits for. -/
def running (s : State) (m : Nat) : Option Cmd := s.mbx.cmds.find? fun c => c.m == m && !c.late

/-- Notes on the running command that something was discarded while it ran (R402). -/
def noteDiscard (m : Nat) (s : State) : State :=
  s.modMbx fun b => { b with cmds := b.cmds.map fun c => if c.m == m && !c.late then { c with note := true } else c }

/-- A response is posted: the area is written, STATE becomes DONE with RESP_VALID and MBX_RESULT, cause MBXm is set
unless NO_IRQ, and EV_SYS_CMD_DONE follows when DONE_EVENT asks (R402, R408). -/
def postResponse (m op tag flags status detail note : Nat) (acceptBeat : Nat) (payload : Bytes) (s : State) : State :=
  let hdr := le 2 op ++ le 2 tag ++ le 4 payload.length ++ le 2 status ++ le 2 detail ++ le 2 note ++ zeros 2 ++
    le 8 acceptBeat ++ le 8 s.beat
  let s := s.modMbx fun b => { b with area := b.area.writeN (0x2000 * m + 0x1000) (hdr ++ payload) }
  let s := modBox m (fun x => { x with st := 2, valid := true, result := note * 65536 + status }) s
  let s := markSet (statusReg m) 3 s
  let s := if bit flags 0 then s else irqCause m s
  if bit flags 1 then raiseEvent 0x0104 (le 1 m ++ zeros 1 ++ le 2 op ++ le 2 tag ++ le 2 status) s else s

/-- ACCEPT_BEAT of a command that was not accepted (R402). -/
def allOnes64 : Nat := 2 ^ 64 - 1

/-- The request area of a mailbox from byte `o` on. -/
def request (s : State) (m o n : Nat) : Bytes := s.mbx.area.readN (0x2000 * m + o) n

/-- A doorbell (R404, R405, R413, R414). A doorbell on a BUSY mailbox is a violation; during the handover window the
hardware answers it; else the mailbox becomes BUSY and the command joins those that wait. -/
def doorbell (m value : Nat) (s : State) : State :=
  let x := s.box m
  let op := leOf (request s m 0 2)
  let tag := leOf (request s m 2 2)
  let flags := leOf (request s m 8 1)
  if !bit value 0 || !hostUp s then s
  else if x.st == 1 then
    protocol m 1 0 (noteDiscard m (markSet (statusReg m) 8
      (modBox m (fun x => { x with overrun := true, overrunCnt := satAdd 32 x.overrunCnt 1 }) s)))
  else
    let s := modBox m (fun x => { x with
      st := 1, valid := false, opcode := tag * 65536 + op, door := s.beat % 2 ^ 32, accept := 0xFFFFFFFF }) s
    if s.fw.hand then postResponse m op tag flags 6 0 0 allOnes64 [] s
    else s.modMbx fun b => { b with
      next := b.next + 1
      cmds := b.cmds ++ [{ order := b.next, m := m, op := op, tag := tag, flags := flags, door := s.beat }] }

/-- MBX_DOORBELL. -/
def execMbxDoorbell (m value : Nat) (s : State) : Outc := need (decide (m < 16)) "mailbox" (.next (doorbell m value s))

/-- A write to BAR2 (R400, R413): within one idle or done mailbox's request area it lands; into a response area or
across areas it is a violation of kind 3, into a BUSY mailbox's request area of kind 2, and discarded. -/
def areaWrite (offset : Nat) (bytes : Bytes) (s : State) : State :=
  let m := offset / 0x2000
  if !hostUp s || bytes.isEmpty then s
  else if (offset / 0x1000) % 2 == 1 || decide ((offset + bytes.length - 1) / 0x1000 ≠ offset / 0x1000) then protocol m 3 0 s
  else if (s.box m).st == 1 then
    protocol m 2 0 (noteDiscard m (markSet (statusReg m) 9
      (modBox m (fun x => { x with discarded := true, overrunCnt := satAdd 32 x.overrunCnt 1 }) s)))
  else s.modMbx fun b => { b with area := b.area.writeN offset bytes }

/-- MAILBOX_AREA_WRITE. -/
def execMailboxAreaWrite (offset : Nat) (bytes : Bytes) (s : State) : Outc :=
  need (decide (offset + bytes.length ≤ 0x20000)) "BAR2 offset" (.next (areaWrite offset bytes s))

/-- Commands that the boot ROM serves in RECOVERY (R493). -/
def recoveryOps : List Nat := [0x0110, 0x0111, 0x0112, 0x0113, 0x0201, 0x0202, 0x0203, 0x0204]

/-- Ittas, or in RECOVERY the boot ROM, takes commands: it runs, is not halted, and no handover window is open
(R414, R456, R493, R495). -/
def serving (s : State) : Bool :=
  s.boot.pwrgood && !s.fw.hand && (inRecovery s || (s.boot.ittasRun && !s.boot.halted && !s.boot.restarting))

/-- Accepted or refused already: no later command waits for it under the same-service rule (R407). -/
def decided (c : Cmd) : Bool := c.accepted || c.reply.isSome

/-- Whether a command is eligible (R407): every earlier one of its service has been decided and, with FENCE, every
earlier one has had its response posted. -/
def eligible (s : State) (c : Cmd) : Bool :=
  s.mbx.cmds.all fun d => decide (c.order ≤ d.order) ||
    ((decide (d.op / 256 ≠ c.op / 256) || decided d) && (!bit c.flags 2 || d.late))

/-- DETAIL of the first header check that fails, 0 when none does (R410). The fourth check needs the command's own
length. -/
def headerFault (s : State) (m : Nat) (spec : Option CmdSpec) : Nat :=
  let h := request s m 0 16
  let len := rd h 4 4
  if rd h 9 1 != 1 then 1
  else if rd h 10 6 != 0 || decide (8 ≤ rd h 8 1) then 2
  else if decide (4080 < len) then 3
  else match spec with
    | some sp => if decide (len < sp.need (request s m 16 len)) then 4 else 0
    | none => 0

/-- The decision on a command (R406, R410, R425, R493). -/
def decideCmd (s : State) (c : Cmd) (spec : Option CmdSpec) (h : HostAnswer) : Verdict :=
  let d := headerFault s c.m spec
  if d != 0 then .refuse 1 d
  else match spec with
    | none => .refuse 2 0
    | some sp =>
      if inRecovery s && !recoveryOps.contains c.op then .refuse 0x0101 0
      else sp.run c (request s c.m 16 (leOf (request s c.m 4 4))) h s

/-- Records acceptance with its beat, in the command and in MBX_ACCEPT_BEAT (R406, R408). -/
def markAccepted (c : Cmd) (s : State) : State :=
  let s := s.modMbx fun b => { b with
    cmds := b.cmds.map fun d => if d.order == c.order then { d with accepted := true, acceptBeat := s.beat } else d }
  modBox c.m (fun x => { x with accept := s.beat % 2 ^ 32 }) s

/-- The protocol violation that a refusal shows: a malformed header (kind 4), an unknown opcode (kind 5), or failed
host memory (kind 7, with the MBX_HOST fault) (R413, R416). -/
def refusalViolation (m status detail : Nat) (s : State) : State :=
  if status == 1 then protocol m 4 detail s
  else if status == 2 then protocol m 5 0 s
  else if status == 8 && decide (detail ≠ 3) then detect 411 m 0 [] (protocol m 7 detail s)
  else s

/-- Ittas takes up the waiting command: accepted, with its effect, or refused with no other effect. -/
def takeUp (s : State) (c : Cmd) (spec : Option CmdSpec) (h : HostAnswer) : State :=
  match decideCmd s c spec h with
  | .refuse status detail => answer c.order status detail [] (refusalViolation c.m status detail s)
  | .refuseWith status payload => answer c.order status 0 payload s
  | .accept t reply =>
    let t := markAccepted c t
    match reply with
    | some (status, payload) => answer c.order status 0 payload t
    | none => t

/-- The command that waits in mailbox `m` to be accepted or refused. -/
def waitingIn (s : State) (m : Nat) : Option Cmd := s.mbx.cmds.find? fun c => c.m == m && !decided c

/-- Acceptance of the command that waits in mailbox `m`, of whatever opcode: its row of the opcode index is `spec`. -/
def acceptAny (specOf : Nat → Option CmdSpec) (m : Nat) (h : HostAnswer) (s : State) : State :=
  match waitingIn s m with
  | none => s
  | some c => if serving s && eligible s c then takeUp s c (specOf c.op) h else s

/-- Acceptance of the command that waits in mailbox `m` when it is the command of opcode `op`. -/
def acceptAs (op : Nat) (spec : CmdSpec) (m : Nat) (h : HostAnswer) (s : State) : Outc :=
  need (decide (m < 16)) "mailbox" (.next (
    match waitingIn s m with
    | none => s
    | some c => if c.op == op && serving s && eligible s c then takeUp s c (some spec) h else s))

/-- Entries an event takes (R418). -/
def eventEntries (e : Event) : Nat := max 1 (ceilDiv e.params.length 48)

/-- The engine may write an entry: the ring is set, Bus Master Enable of PF0 is set, there is room, and an event waits
(R416, R419). -/
def ringReady (s : State) : Bool :=
  decide (s.evt.size ≠ 0) && bmeOf s 0 && !s.evt.held.isEmpty &&
    decide ((s.evt.head + 2 ^ 32 - s.evt.tail) % 2 ^ 32 < s.evt.size)

/-- One entry at index HEAD mod size; HEAD and SEQ advance and cause 16 is set (R418, R419). -/
def putEntry (code flags beat : Nat) (params : Bytes) (s : State) : State :=
  let e := le 4 s.evt.seq ++ le 2 code ++ le 1 flags ++ zeros 1 ++ le 8 beat ++ part params 0 48
  let s := hostWrite 0 (s.evt.addr + 64 * (s.evt.head % s.evt.size)) e s
  irqCause 16 (s.modEvt fun v => { v with head := (v.head + 1) % 2 ^ 32, seq := (v.seq + 1) % 2 ^ 32 })

/-- The event engine writes its next entry: EV_SYS_EVENTS_LOST when events have been lost since the last such entry,
else the next part of the event at the front (R418, R419, R420). -/
def ringStep (s : State) : State :=
  if !ringReady s then s
  else match s.evt.held with
    | [] => s
    | e :: rest =>
      if decide (s.evt.lostSince ≠ 0) && s.evt.part == 0 then
        (putEntry 0x0102 0 s.beat (le 4 s.evt.lostSince) s).modEvt fun v => { v with lostSince := 0 }
      else
        let s' := putEntry e.code (if s.evt.part == 0 then 0 else 1) e.beat (e.params.drop (48 * s.evt.part)) s
        s'.modEvt fun v =>
          if v.part + 1 < eventEntries e then { v with part := v.part + 1 } else { v with part := 0, held := rest }

/-- EVENT_RING_WRITE. -/
def execEventRingWrite (s : State) : Outc := .next (ringStep s)

/-- Entries needed to write every event held and a report of lost ones. -/
def ringWork (s : State) : Nat := (s.evt.held.map eventEntries).foldl (· + ·) 1

/-- Writes what the ring has room for. -/
def drainRing (s : State) : State := (List.range (ringWork s)).foldl (fun s _ => ringStep s) s

/-- The response of mailbox `m` that waits to be posted and whose delay, if any, has passed (R406, R423). -/
def readyReply (s : State) (m : Nat) : Option Cmd :=
  s.mbx.cmds.find? fun c => c.m == m && c.reply.isSome && timeCome s (c.acceptBeat + 1000 * c.delay)

/-- The reset that SYS.RESET announces begins 10 ms after its response (R495, R504). -/
def resetWait (c : Cmd) (s : State) : State :=
  if c.op == 0x0112 then s.modBoot fun b => { b with dueAt := s.beat + 10000 } else s

/-- A response is posted (R408), after the events the command's effect raised; the response of a command that the guard
answered is discarded and counted (R412). -/
def responsePost (m : Nat) (s : State) : State :=
  match readyReply s m with
  | none => s
  | some c =>
    match c.reply with
    | none => s
    | some (status, detail, payload) =>
      if !serving s then s else
      let s := resetWait c (s.modMbx fun b => { b with cmds := b.cmds.filter fun d => d.order != c.order })
      if c.late then modBox m (fun x => { x with lateCnt := satAdd 32 x.lateCnt 1 }) s
      else postResponse m c.op c.tag c.flags status detail (if c.note then 5 else 0)
        (if c.accepted then c.acceptBeat else allOnes64) payload (drainRing s)

/-- RESPONSE_POST. -/
def execResponsePost (m : Nat) (s : State) : Outc := need (decide (m < 16)) "mailbox" (.next (responsePost m s))

/-- Beat at which the guard of a command ends: counted from the doorbell, or for DIAG.DELAY from the end of the delay
(R412). -/
def guardEnd (x : Mbx) (c : Cmd) : Nat := c.door + 1000 * (x.guard + c.delay)

/-- The guard of mailbox `m` expires while it is BUSY (R412): the hardware posts ST_TIMEOUT, GUARD_EXPIRED is set and
MBX_GUARD is raised; the command's own response will be discarded. -/
def guardExpire (m : Nat) (s : State) : State :=
  match running s m with
  | none => s
  | some c =>
    if (s.box m).st == 1 && timeCome s (guardEnd (s.box m) c) then
      let s := postResponse m c.op c.tag c.flags 9 0 (if c.note then 5 else 0)
        (if c.accepted then c.acceptBeat else allOnes64) [] s
      let s := markSet (statusReg m) 10 (modBox m (fun x => { x with guarded := true }) s)
      let s := s.modMbx fun b => { b with
        cmds := (b.cmds.map (fun d => if d.order == c.order then { d with late := true } else d)) }
      detect (416 + m) c.op 0 [] s
    else s

/-- MBX_GUARD_EXPIRE. -/
def execMbxGuardExpire (m : Nat) (s : State) : Outc := need (decide (m < 16)) "mailbox" (.next (guardExpire m s))

/-- A write to MBX_STATUS: RESP_VALID, OVERRUN, WRITE_DISCARDED and GUARD_EXPIRED clear where written 1; clearing
RESP_VALID moves DONE to IDLE (R403, R404, R17). -/
def statusWrite (m value : Nat) (s : State) : State :=
  let r := statusReg m
  if !hostUp s then s else
  modBox m (fun x => { x with
    valid := x.valid && !clearsBit s r value 3
    st := if x.valid && clearsBit s r value 3 && x.st == 2 then 0 else x.st
    overrun := x.overrun && !clearsBit s r value 8
    discarded := x.discarded && !clearsBit s r value 9
    guarded := x.guarded && !clearsBit s r value 10 }) s

/-- MBX_RESP_VALID_CLEAR. -/
def execMbxRespValidClear (m value : Nat) (s : State) : Outc :=
  need (decide (m < 16)) "mailbox" (.next (statusWrite m value s))

/-- A write to MBX_EVT_TAIL: forward at most up to HEAD, else ignored as a violation of kind 6 (R413, R418). -/
def evtTailWrite (value : Nat) (s : State) : State :=
  let v := value % 2 ^ 32
  if !hostUp s then s
  else if (v + 2 ^ 32 - s.evt.tail) % 2 ^ 32 ≤ (s.evt.head + 2 ^ 32 - s.evt.tail) % 2 ^ 32 then
    s.modEvt fun e => { e with tail := v }
  else protocol 0 6 0 s

/-- MBX_EVT_TAIL_WRITE. -/
def execMbxEvtTailWrite (value : Nat) (s : State) : Outc := .next (evtTailWrite value s)

/-- The value a register read returns, where the host can reach the registers (log entry 42). -/
def readOut (v : Nat) (s : State) : State := s.modOut fun o => { o with read := le 4 v }

/-- MBX_OVERRUN_CNT_READ: a read-clear counter (R15, R403). -/
def execMbxOverrunCntRead (m : Nat) (s : State) : Outc :=
  need (decide (m < 16)) "mailbox" (.next (if hostUp s then
    modBox m (fun x => { x with overrunCnt := 0 }) (readOut (s.box m).overrunCnt s) else s))

/-- MBX_LATE_CNT_READ: a read-clear counter (R15, R403). -/
def execMbxLateCntRead (m : Nat) (s : State) : Outc :=
  need (decide (m < 16)) "mailbox" (.next (if hostUp s then
    modBox m (fun x => { x with lateCnt := 0 }) (readOut (s.box m).lateCnt s) else s))

/-- MBX_EVT_LOST_READ: a read-clear counter (R15, R418). -/
def execMbxEvtLostRead (s : State) : Outc :=
  .next (if hostUp s then (readOut s.evt.lost s).modEvt fun v => { v with lost := 0 } else s)

/-- A power of two from `a` to `b`. -/
def powerOfTwo (a b v : Nat) : Bool := decide (a ≤ v) && decide (v ≤ b) && ((List.range 33).any fun i => v == 2 ^ i)

/-- SYS.EVENT_RING (R419, R423): setting the ring sets HEAD and TAIL to 0; held events are written first. -/
def sysEventRingSpec : CmdSpec where
  need _ := 12
  run _ p _ s :=
    let n := rd p 8 4
    checks [(decide (rd p 0 8 % 4096 = 0), 0), (n == 0 || powerOfTwo 64 65536 n, 8)]
      (replyNow (s.modEvt fun v => { v with addr := rd p 0 8, size := n, head := 0, tail := 0, part := 0 })
        (le 8 s.beat ++ le 4 s.evt.held.length))

/-- SYS_EVENT_RING. -/
def execSysEventRing (m : Nat) (h : HostAnswer) (s : State) : Outc := acceptAs 0x0101 sysEventRingSpec m h s

/-- SYS.EVENT_MASK (R421, R423). -/
def sysEventMaskSpec : CmdSpec where
  need _ := 4
  run _ p _ s := replyNow (s.modEvt fun v => { v with mask := rd p 0 4 }) []

/-- SYS_EVENT_MASK. -/
def execSysEventMask (m : Nat) (h : HostAnswer) (s : State) : Outc := acceptAs 0x0102 sysEventMaskSpec m h s

/-- DIAG.ECHO (R423): at most 4,064 bytes; what lies beyond is ignored (R402). -/
def diagEchoSpec : CmdSpec where
  need _ := 0
  run _ p _ s := replyNow s (p.take 4064)

/-- DIAG_ECHO. -/
def execDiagEcho (m : Nat) (h : HostAnswer) (s : State) : Outc := acceptAs 0x1101 diagEchoSpec m h s

/-- DIAG.DELAY (R423): the response waits for the delay. -/
def diagDelaySpec : CmdSpec where
  need _ := 4
  run c p _ s :=
    let d := rd p 0 4
    checks [(decide (1 ≤ d) && decide (d ≤ 5000), 0)]
      (replyNow (s.modMbx fun b => { b with
        cmds := b.cmds.map fun e => if e.order == c.order then { e with delay := d } else e }) [])

/-- DIAG_DELAY. -/
def execDiagDelay (m : Nat) (h : HostAnswer) (s : State) : Outc := acceptAs 0x1102 diagDelaySpec m h s

/-- An entry of DIAG.PROTO_LOG's response (R423). -/
def protoBytes (e : ProtoEntry) : Bytes := le 8 e.beat ++ le 1 e.m ++ le 1 e.kind ++ le 2 e.op ++ le 2 e.detail ++ zeros 18

/-- DIAG.PROTO_LOG (R413, R423). -/
def diagProtoLogSpec : CmdSpec where
  need _ := 1
  run _ p _ s :=
    replyNow (if bit (rd p 0 1) 0 then s.modMbx fun b => { b with log := [], logCount := 0 } else s)
      (le 4 s.mbx.logCount ++ s.mbx.log.flatMap protoBytes)

/-- DIAG_PROTO_LOG. -/
def execDiagProtoLog (m : Nat) (h : HostAnswer) (s : State) : Outc := acceptAs 0x1103 diagProtoLogSpec m h s

/-- An FLR of PF0 at the mailboxes (R397, R415): MBX_ registers reset, response areas cleared, commands not yet accepted
dropped, accepted ones going on without a response, and one EV_SYS_CMD_ABORTED for each mailbox that was BUSY. The
event ring is disabled until software sets it again. -/
def flrMailboxes (s : State) : State :=
  let busy := s.mbx.cmds.filter fun c => decide (c.m < 16) && !c.late
  let s := s.modMbx fun b => { b with
    box := []
    area := b.area.filter fun c => decide ((c.1 / 0x1000) % 2 = 0)
    cmds := (b.cmds.filter (fun c => c.accepted && c.reply.isNone)).map (fun c => { c with m := 16, late := true }) }
  let s := s.modEvt fun v => { v with addr := 0, size := 0, head := 0, tail := 0, part := 0, lost := 0 }
  let s := s.modFreshSet fun l => l.filter fun p => !(decide (0x400 ≤ p.1) && decide (p.1 < 0x800))
  eachDo busy (fun c => raiseEvent 0x0101 (le 1 c.m ++ le 1 (b2n c.accepted) ++ le 2 c.op ++ le 2 c.tag ++ le 2 7 ++
    le 8 (if c.accepted then c.acceptBeat else allOnes64))) s

end Sys2Proof.Machine
end

