-- ==== Sys2Proof/Machine/Lanes.lean ====
section
/-! DEFINITION. Serial lanes: modes, equaliser taps, the bring-up state machine, training answers, link-down reasons,
Directional Quiet and EEE, loopbacks and the LANE service. -/

namespace Sys2Proof.Machine

/-- Rate in Mb/s of a lane mode (Table 2.1). -/
def laneRate (mode : Nat) : Nat := nth [0, 10000, 25000, 50000, 100000, 200000] mode

/-- Whether a FEC code is allowed in a mode (Table 2.1; log entry 59). -/
def fecAllowed (mode fec : Nat) : Bool :=
  match mode with
  | 0 => fec == 0
  | 1 => decide (fec ≤ 1)
  | 2 => decide (fec ≤ 2)
  | _ => fec == 3

/-- Whether Table 3.1 gives a rate for a width and a lane mode. -/
def widthAllowed (width mode : Nat) : Bool :=
  decide (1 ≤ mode) && decide (mode ≤ 5) &&
    (match width with
     | 1 => true
     | 2 => decide (mode ≠ 1)
     | 4 => true
     | 8 => decide (3 ≤ mode)
     | _ => false)

/-- Least and greatest value of tap `i` in a mode; c(-3) and c(-2) are held at 0 in modes 1 and 2 (Table 2.3, R57). -/
def tapRange (mode i : Nat) : Int × Int :=
  match i with
  | 0 => if mode == 1 || mode == 2 then (0, 0) else (-16, 0)
  | 1 => if mode == 1 || mode == 2 then (0, 0) else (0, 24)
  | 2 => (-48, 0)
  | 3 => (64, 128)
  | _ => (-32, 0)

/-- Absolute value. -/
def absInt (i : Int) : Int := if i < 0 then -i else i

/-- Whether every tap is in its own range (R57). -/
def tapsInRange (mode : Nat) (t : List Int) : Bool :=
  t.length == 5 && (List.range 5).all fun i =>
    decide ((tapRange mode i).1 ≤ t.getD i 0) && decide (t.getD i 0 ≤ (tapRange mode i).2)

/-- The joint limits of R57. -/
def tapsJoint (t : List Int) : Bool :=
  let a := (t.map absInt).foldl (· + ·) 0
  let main := t.getD 3 0
  decide (a ≤ 128) && decide (a - absInt main + 32 ≤ main)

/-- First tap outside its own range, as an index. -/
def badTap (mode : Nat) (t : List Int) : Option Nat :=
  (List.range 5).find? fun i => !(decide ((tapRange mode i).1 ≤ t.getD i 0) && decide (t.getD i 0 ≤ (tapRange mode i).2))

/-- The Dimmer permits Directional Quiet (R475, R485). -/
def quietPermitted (s : State) : Bool := s.power.quietAlways || decide (2 ≤ s.power.level)

/-- The port or lone lane whose quiet settings a lane shares: the lowest lane of its port (R73). -/
def quietLane (s : State) (l : Nat) : Nat := (portOfLane s l).getD l

/-- Whether a lane drives a SyncE output (R75, R364). -/
def synceLane (s : State) (l : Nat) : Bool :=
  (s.time.s0.on && s.time.s0.lane == l) || (s.time.s1.on && s.time.s1.lane == l)

/-- A SyncE output follows its lane: it is squelched while the lane is not ACTIVE or the output is disabled, and each
change is told (R364). -/
def synceRefresh (s : State) : State :=
  let one (i : Nat) (y : Synce) (put : Synce → Time → Time) (s : State) : State :=
    let q := !(y.on && (s.lane y.lane).state == 6)
    if q == y.squelch then s
    else raiseEvent 0x0D04 (le 1 i ++ le 1 (b2n q) ++ le 2 y.lane) (s.modTime (put { y with squelch := q }))
  let s := one 0 s.time.s0 (fun y t => { t with s0 := y }) s
  one 1 s.time.s1 (fun y t => { t with s1 := y }) s

/-- What a frame of `n` bytes whose link went down part-way counts (R47, Table 3.2; log entry 200). -/
def cutCounts (n : Nat) : List (Nat × Nat) := if n < 64 then [(18, 1)] else [(1, n), (16, 1), (6 + sizeBucket n, 1)]

/-- Frames that are still arriving from a port end bad when its link goes down; a copy of one that is being sent is ended
with the complement of the CRC-32 over the bytes it has (R47). -/
def cutArrivals (p : Nat) (s : State) : State :=
  let cut := (s.buf.pkts.filter fun e => e.2.origin == .front && e.2.md.port == p &&
    decide (e.2.arrived < e.2.bytes.length) && !e.2.bad).map (·.1)
  let s := modPort p (fun q => { q with late := q.late.map (fun e =>
      if cut.contains e.2.1 then (1000 * s.beat, e.2.1, cutCounts (s.pkt e.2.1).arrived) else e) }) s
  let ended (_ : Nat) (c : Copy) : Copy :=
    let k := s.pkt c.pkt
    if cut.contains c.pkt && (c.stage == .sending || c.stage == .remainder) then { c with
      out := withStomp (c.out.take (min (c.out.length - 4) (k.arrived + c.out.length - k.md.len)))
      stomp := true
      stompReason := 51 }
    else c
  let s := s.modBuf fun b => { b with copies := b.copies.mapAll ended }
  eachDo cut (fun i => modPkt i fun k =>
    { k with bad := true, badReason := 49, bytes := k.bytes.take k.arrived, endAt := min k.endAt (1000 * s.beat) }) s

/-- Adds `n` to counter `i` of LANE.COUNTERS (R82). -/
def laneCount (l i n : Nat) (s : State) : State := modLane l (fun x => { x with counts := addAt x.counts i n }) s

/-- A lane enters a state (R60, R84). -/
def enterState (l st : Nat) (s : State) : State :=
  synceRefresh (modLane l (fun x => { x with
    state := st, stateBeat := s.beat, energy := false, ready := false, locked := false, waiting := false }) s)

/-- The closing of a training session in the log, newest first, eight sessions (R82; log entry 56). -/
def closeSession (l outcome violation : Nat) (s : State) : State :=
  modLane l (fun x => match x.session with
    | none => x
    | some t => { x with
        session := none
        log := ({ t with outcome := outcome, violation := if violation = 0 then t.violation else violation, ms := (s.beat - t.start) / 1000, taps := x.set.taps } :: x.log).take 8 }) s

/-- Opens a training session when none is open (log entry 56). -/
def openSession (l : Nat) (s : State) : State :=
  modLane l (fun x => if x.session.isSome then x else { x with session := some { start := s.beat } }) s

/-- Counts an answer of Table 2.8 in the open session (R65). -/
def countAnswer (l row : Nat) (s : State) : State :=
  modLane l (fun x => { x with session := x.session.map fun t => { t with counts := addAt t.counts row 1 } }) s

/-- A violation of Table 2.8: told, and written to the partner log (R65, R464). -/
def trainFault (l v : Nat) (s : State) : State := partnerLog 1 l v (raiseEvent 0x0503 (le 2 l ++ le 1 v) s)

/-- Whether the equaliser state held for a lane is its known-good set, and with it BLIND begins; a lane that holds none
uses the reset taps and 10 dB (R67). -/
def blindSet (x : Lane) : Coeff := x.known.getD { taps := [0, 0, 0, 128, 0], ctle := 10, dsp := x.set.dsp }

/-- The receiver adapts its CTLE and its DSP: what it arrives at is the channel's doing (R58; log entry 210). -/
def adaptLane (l : Nat) (s : State) : State :=
  let (c, s) := takeFree s
  let (d, s) := takeFreeBytes 9 s
  modLane l (fun x => { x with set := { x.set with ctle := c % 21, dsp := d } }) s

/-- The receiver adapts its DSP alone, as in ACTIVE (R58; log entry 210). -/
def adaptDsp (l : Nat) (s : State) : State :=
  let (d, s) := takeFreeBytes 9 s
  modLane l (fun x => { x with set := { x.set with dsp := d } }) s

/-- Into BLIND (R67). -/
def enterBlind (l : Nat) (s : State) : State :=
  enterState l 7 (modLane l (fun x => { x with set := blindSet x, relink := false }) s)

/-- Into RX_DETECT (R60). -/
def enterRxDetect (l : Nat) (s : State) : State := enterState l 1 (modLane l (fun x => { x with relink := false }) s)

/-- Into TRAIN (R60, R64). -/
def enterTrain (l : Nat) (s : State) : State := openSession l (enterState l 3 (modLane l (fun x => { x with relink := false }) s))

/-- A failed bring-up (R61, R66): its violation is counted and told, the backoff doubles on each consecutive failure,
and the lane waits it out before it looks for energy again. -/
def bringUpFail (l v row : Nat) (s : State) : State :=
  let s := trainFault l v (laneCount l 4 1 (countAnswer l row s))
  let s := modLane l (fun x => { x with lastFault := v }) (closeSession l 2 v s)
  let s := enterRxDetect l s
  modLane l (fun x => { x with
    waiting := true, backoff := min 1600 (100 * 2 ^ min x.failures 4), failures := x.failures + 1 }) s

/-- A violation that ends LOCK: as a failed bring-up, or BLIND again under method 1 (R61). -/
def lockFail (l v row : Nat) (s : State) : State :=
  if (s.lane l).method == 1 then
    let s := trainFault l v (laneCount l 4 1 (countAnswer l row s))
    enterBlind l (modLane l (fun x => { x with lastFault := v }) (closeSession l 2 v s))
  else bringUpFail l v row s

/-- A lane leaves ACTIVE for a reason of Table 2.9 towards `next` (R71): told, counted, and the frames its port was
receiving end bad. -/
def leaveActive (l reason next : Nat) (s : State) : State :=
  let s := raiseEvent 0x0502 (le 2 l ++ le 1 reason) s
  let s := modLane l (fun x => { x with lastDown := reason }) s
  let s := enterState l next s
  match portOfLane s l with
  | some p => cutArrivals p s
  | none => s

/-- Whether a lane that leaves ACTIVE for a reason goes to RELINK (R70). -/
def relinks (x : Lane) (reason : Nat) : Bool :=
  bit x.flags 3 && decide (x.relinkWindow ≠ 0) && x.known.isSome && [1, 2, 3].contains reason

/-- The known-good set as RELINK holds it: the receiver's part, while the transmitter keeps its taps (R70). -/
def relinkSet (x : Lane) : Coeff := match x.known with | some k => { k with taps := x.set.taps } | none => x.set

/-- A lane loses its link for a receive-side reason (R70, R71). -/
def loseLink (l reason : Nat) (s : State) : State :=
  if (s.lane l).state != 6 then s
  else
    let s := if reason == 1 || reason == 9 then laneCount l 3 1 s else s
    if relinks (s.lane l) reason then
      modLane l (fun x => { x with relink := true, set := relinkSet x }) (leaveActive l reason 8 (laneCount l 5 1 s))
    else modLane l (fun x => { x with relink := false }) (leaveActive l reason 1 s)

/-- A lane goes to DISABLED, with the reason when it was ACTIVE (R71). -/
def disableLane (l reason : Nat) (s : State) : State :=
  if (s.lane l).state == 6 then leaveActive l reason 0 s
  else if (s.lane l).state == 0 then s
  else enterState l 0 (closeSession l 2 0 s)

/-- A DISABLED lane of a mode other than 0 that is not held is enabled (R60). -/
def enableLane (l : Nat) (s : State) : State :=
  let x := s.lane l
  if x.state == 0 && decide (x.mode ≠ 0) && x.held.isEmpty then
    (if x.method == 0 then enterRxDetect l s else enterBlind l s)
  else s

/-- A lane of an auto-negotiating port that finds energy: the lowest lane begins AN. Any other goes to TRAIN once AN has
taken the lowest there, and waits with its energy noted till then (R60, R63; log entry 208). -/
def anEnergy (l : Nat) (s : State) : State :=
  let low := quietLane s l
  if low == l then openSession l (enterState l 2 s)
  else if [3, 4, 5, 6].contains (s.lane low).state then enterTrain l s
  else modLane l (fun x => { x with energy := true }) s

/-- LANE_ENERGY_DETECT (R60, R61): RX_DETECT goes to AN or TRAIN, BLIND and RELINK to LOCK. -/
def execLaneEnergyDetect (lane : Nat) (s : State) : Outc :=
  need (decide (lane < 768)) "lane" (.next (
    let x := s.lane lane
    if x.state == 1 && !x.waiting then (if bit x.flags 0 then anEnergy lane s else enterTrain lane s)
    else if x.state == 7 || x.state == 8 then
      enterState lane 4 (modLane lane (fun y => { y with blind := x.state == 7 }) s)
    else s))

/-- The technologies of Table 2.6 in its order: lane mode and width. -/
def anTechs : List (Nat × Nat) :=
  [(1, 1), (2, 1), (3, 1), (4, 1), (3, 2), (2, 4), (5, 1), (4, 2), (3, 4), (5, 2), (4, 4), (4, 8), (5, 8)]

/-- The technology abilities that a port width allows, as a mask (R63). -/
def anTechMask (width : Nat) : Nat := maskOf ((List.range 13).filter fun i => (anTechs.getD i (0, 0)).2 == width)

/-- Whether a port is offered EEE: one lane in mode 2, or a 100G port of four (R63, R78; log entry 217). -/
def eeeOffered (mode width : Nat) : Bool := mode == 2 && (width == 1 || width == 4)

/-- Width of the port a lane belongs to; a lane of no port stands alone (R54). -/
def widthOfLane (s : State) (l : Nat) : Nat := (groupOfLane s l).length

/-- The page that a lane sends in AN: every technology of the port's width, both FEC abilities with the configured code
requested, EEE, and the pause abilities that PORT.CONFIG set (R63, R110; log entry 207). -/
def anAdvert (s : State) (l : Nat) : AnPage :=
  let x := s.lane l
  { tech := anTechMask (widthOfLane s l)
    fecAble := 3
    fecWant := if x.fec == 1 then 1 else if x.fec == 2 then 2 else 0
    eee := widthOfLane s l == 1 || widthOfLane s l == 4
    pause := match portOfLane s l with | some p => (s.port p).flags / 2 % 4 | none => 0 }

/-- The highest common denominator of two pages: of the technologies both advertise, the lane mode of the one of highest
rate (R60, R63). -/
def anMode (own partner : AnPage) : Option Nat :=
  ((List.range 13).filter fun i => bit own.tech i && bit partner.tech i).foldl (fun best i =>
    let t := anTechs.getD i (0, 0)
    match best with
    | some m => if laneRate m < laneRate t.1 then some t.1 else best
    | none => some t.1) none

/-- The FEC that two pages resolve to in a mode, always one that Table 2.1 allows (R63; log entry 207). -/
def anFec (mode : Nat) (own partner : AnPage) : Nat :=
  let on (i : Nat) : Bool := bit own.fecAble i && bit partner.fecAble i && (bit own.fecWant i || bit partner.fecWant i)
  if 3 ≤ mode then 3 else if mode == 2 && on 1 then 2 else b2n (on 0)

/-- The resolved mode and FEC come into use on a lane: a change of mode loses the known-good set (R69), and in modes 1 and
2 the two outer taps are held at 0 (R57). -/
def useMode (mode fec l : Nat) (s : State) : State :=
  modLane l (fun x => { x with
    known := if x.mode == mode then x.known else none
    set := if mode == 1 || mode == 2 then { x.set with taps := (x.set.taps.set 0 0).set 1 0 } else x.set
    mode := mode, fec := fec }) s

/-- Auto-negotiation resolves on the lowest lane of a port: the mode and FEC for every lane, EEE for the port; the lane
goes to TRAIN, and with it the lanes that have found energy (R60, R63, R78). -/
def anResolve (l mode : Nat) (own partner : AnPage) (s : State) : State :=
  let g := groupOfLane s l
  let s := eachDo g (useMode mode (anFec mode own partner)) s
  let s := modLane l (fun x => { x with
    quiet := { x.quiet with eee := own.eee && partner.eee && eeeOffered mode g.length } }) s
  eachDo (g.filter fun k => k == l || ((s.lane k).state == 1 && (s.lane k).energy)) enterTrain s

/-- AN_RESOLVED (R60, R63): the partner's page is in. AN runs on the lowest lane of the port; with no common ability it
ends with AN_NO_HCD. -/
def execAnResolved (lane : Nat) (page : AnPage) (s : State) : Outc :=
  need (decide (lane < 768)) "lane" (.next (
    if (s.lane lane).state == 2 then
      let own := anAdvert s lane
      let s := modLane lane (fun x => { x with page := some page }) s
      match anMode own page with
      | some mode => anResolve lane mode own page s
      | none => bringUpFail lane 4 7 s
    else s))

/-- A tap setting that a partner asks for is answered as Table 2.8 gives: row 0 applied, 1 coefficient at limit, 2
equalization limit, 3 coefficient not supported. -/
def tapAnswer (mode : Nat) (old new : List Int) (unsupported : Bool) : Nat × List Int :=
  if unsupported then (3, old)
  else if !tapsInRange mode new then (1, old)
  else if !tapsJoint new then (2, old)
  else (0, new)

/-- Applies the answer: the taps change only when it is "applied" (R65). -/
def answerTaps (l : Nat) (a : Nat × List Int) (s : State) : State :=
  countAnswer l a.1 (modLane l (fun x => { x with set := { x.set with taps := a.2 } }) s)

/-- A partner's request in TRAIN (R65, Table 2.8). c(-3) and c(-2) are not under partner control in modes 1 to 3
(Table 2.7). BAD_FRAME is the violation that aborts training (Table 2.4; log entry 209). -/
def trainingRequest (l : Nat) (req : TrainReq) (s : State) : State :=
  let x := s.lane l
  match x.session with
  | none => s
  | some t =>
    if x.state != 3 then s
    else match req with
      | .step tap up =>
        if t.open_ then s else
        let new := x.set.taps.set tap (x.set.taps.getD tap 0 + if up then 1 else -1)
        answerTaps l (tapAnswer x.mode x.set.taps new (decide (5 ≤ tap) || (decide (tap < 2) && decide (x.mode ≤ 3)))) s
      | .preset taps =>
        if t.open_ then s else
        answerTaps l (tapAnswer x.mode x.set.taps taps
          (decide (x.mode ≤ 3) && (decide (taps.getD 0 0 ≠ 0) || decide (taps.getD 1 0 ≠ 0)))) s
      | .undefinedPreset => if t.open_ then s else countAnswer l 3 s
      | .overlapping =>
        trainFault l 1 (countAnswer l 4 (modLane l (fun x => { x with
          session := x.session.map fun t => { t with open_ := true, violation := 1 } }) s))
      | .hold => modLane l (fun x => { x with session := x.session.map fun t => { t with open_ := false } }) s
      | .badFrame => if nth t.counts 5 < 1000 then countAnswer l 5 s else bringUpFail l 2 5 s

/-- PARTNER_TRAINING_REQUEST. -/
def execPartnerTrainingRequest (lane : Nat) (req : TrainReq) (s : State) : Outc :=
  need (decide (lane < 768)) "lane" (.next (trainingRequest lane req s))

/-- Both sides of a lane signal receiver ready: its receiver has adapted, and the lanes of the port go from TRAIN to LOCK
together (R58, R60). -/
def trainReady (l : Nat) (s : State) : State :=
  if (s.lane l).state != 3 then s
  else
    let s := adaptLane l (modLane l (fun x => { x with ready := true, blind := false }) s)
    let g := groupOfLane s l
    if g.all fun k => ((s.lane k).state == 3 && (s.lane k).ready) || [4, 5, 6].contains (s.lane k).state then
      eachDo (g.filter fun k => (s.lane k).state == 3) (fun k => enterState k 4) s
    else s

/-- TRAIN_RECEIVER_READY. -/
def execTrainReceiverReady (lane : Nat) (s : State) : Outc := need (decide (lane < 768)) "lane" (.next (trainReady lane s))

/-- Lock on a lane, whose receiver adapts where it came through BLIND (R58, R60): the lanes of the port that are in LOCK
move to CAPEX once every lane has locked. -/
def laneLock (l : Nat) (s : State) : State :=
  if (s.lane l).state != 4 then s
  else
    let s := if (s.lane l).blind then adaptLane l s else s
    let s := modLane l (fun x => { x with locked := true }) s
    let g := groupOfLane s l
    if g.all fun k => ((s.lane k).state == 4 && (s.lane k).locked) || (s.lane k).state == 5 || (s.lane k).state == 6 then
      eachDo (g.filter fun k => (s.lane k).state == 4) (fun k => enterState k 5) s
    else s

/-- LANE_LOCK_ACHIEVED. -/
def execLaneLockAchieved (lane : Nat) (s : State) : Outc := need (decide (lane < 768)) "lane" (.next (laneLock lane s))

/-- A lane becomes ACTIVE (R60, R66, R69, R82). -/
def laneUp (l : Nat) (s : State) : State :=
  let viaRelink := (s.lane l).relink
  let s := closeSession l 1 0 s
  let s := raiseEvent 0x0501 (le 2 l ++ le 1 (b2n viaRelink)) s
  enterState l 6 (modLane l (fun x => { x with backoff := 100, failures := 0, relink := false, goodBeat := s.beat }) s)

/-- The lanes of a lane's port that are in CAPEX. -/
def capexLanes (s : State) (l : Nat) : List Nat := (groupOfLane s l).filter fun k => (s.lane k).state == 5

/-- CAPEX_COMPLETE (R60, R65): the port enters ACTIVE as one, once every lane of it is there, or its check fails. -/
def execCapexComplete (lane : Nat) (check : CapexResult) (s : State) : Outc :=
  need (decide (lane < 768)) "lane" (.next (
    if (s.lane lane).state != 5 then s
    else match check with
      | .matched =>
        if (groupOfLane s lane).all fun k => (s.lane k).state == 5 || (s.lane k).state == 6 then
          eachDo (capexLanes s lane) laneUp s
        else s
      | .modeMismatch => eachDo (capexLanes s lane) (fun l => bringUpFail l 5 8) s
      | .deskew => eachDo (capexLanes s lane) (fun l => bringUpFail l 6 9) s))

/-- A lane has been in its state for `n` beats. -/
def inStateFor (s : State) (l n : Nat) : Bool := timeCome s ((s.lane l).stateBeat + n)

/-- TRAINING_LIMIT_EXPIRE (R61): violation TRAIN_TIMEOUT once the lane's training limit has passed. -/
def execTrainingLimitExpire (lane : Nat) (s : State) : Outc :=
  need (decide (lane < 768)) "lane" (.next (
    if (s.lane lane).state == 3 && inStateFor s lane (1000 * (s.lane lane).trainLimit) then bringUpFail lane 3 6 s else s))

/-- LOCK_LIMIT_EXPIRE (R61): violation LOCK_TIMEOUT after 50 ms. -/
def execLockLimitExpire (lane : Nat) (s : State) : Outc :=
  need (decide (lane < 768)) "lane" (.next (
    if (s.lane lane).state == 4 && inStateFor s lane 50000 then lockFail lane 7 10 s else s))

/-- CAPABILITY_LIMIT_EXPIRE (R60, R61): after 10 ms violation DESKEW or MODE_MISMATCH, for every lane of the port in
CAPEX. -/
def execCapabilityLimitExpire (lane : Nat) (deskew : Bool) (s : State) : Outc :=
  need (decide (lane < 768)) "lane" (.next (
    if (s.lane lane).state == 5 && inStateFor s lane 10000 then
      eachDo (capexLanes s lane) (fun l => if deskew then bringUpFail l 6 9 else bringUpFail l 5 8) s
    else s))

/-- BLIND_LIMIT_EXPIRE (R61): method 1 begins BLIND again with the same coefficients, else RX_DETECT. -/
def execBlindLimitExpire (lane : Nat) (s : State) : Outc :=
  need (decide (lane < 768)) "lane" (.next (
    if (s.lane lane).state == 7 && inStateFor s lane (1000 * (s.lane lane).blindLimit) then
      (if (s.lane lane).method == 1 then enterBlind lane s else enterRxDetect lane s)
    else s))

/-- From RELINK or a relinking LOCK to RX_DETECT, or to BLIND under method 1 (R61). As with the blind limit, Table 2.5
names no violation, and the model counts no failed bring-up (DESIGN CHOICE, log entry 212). -/
def relinkGiveUp (l : Nat) (s : State) : State := if (s.lane l).method == 1 then enterBlind l s else enterRxDetect l s

/-- RELINK_WINDOW_EXPIRE (R61): in RELINK, with no energy. -/
def execRelinkWindowExpire (lane : Nat) (s : State) : Outc :=
  need (decide (lane < 768)) "lane" (.next (
    if (s.lane lane).state == 8 && inStateFor s lane (1000 * (s.lane lane).relinkWindow) then relinkGiveUp lane s else s))

/-- RELINK_LIMIT_EXPIRE (R61): 20 ms from energy seen, which took the lane to LOCK. -/
def execRelinkLimitExpire (lane : Nat) (s : State) : Outc :=
  need (decide (lane < 768)) "lane" (.next (
    if (s.lane lane).relink && (s.lane lane).state == 4 && inStateFor s lane 20000 then relinkGiveUp lane s else s))

/-- RETRY_BACKOFF_EXPIRE (R61, R66): once the backoff has passed the lane looks for energy again. -/
def execRetryBackoffExpire (lane : Nat) (s : State) : Outc :=
  need (decide (lane < 768)) "lane" (.next (
    if (s.lane lane).state == 1 && (s.lane lane).waiting && inStateFor s lane (1000 * (s.lane lane).backoff) then
      enterRxDetect lane s
    else s))

/-- LOS_DETECT (R60, R71): takes an ACTIVE lane down. One in AN goes back to RX_DETECT; Table 2.8 lists no violation for
it, and the model counts no failed bring-up (DESIGN CHOICE, log entry 212). -/
def execLosDetect (lane : Nat) (s : State) : Outc :=
  need (decide (lane < 768)) "lane" (.next (
    let s := modLane lane (fun x => { x with energy := false }) s
    if (s.lane lane).state == 2 then enterRxDetect lane (closeSession lane 2 0 s) else loseLink lane 1 s))

/-- CDR_LOCK_LOSS (R71). -/
def execCdrLockLoss (lane : Nat) (s : State) : Outc := need (decide (lane < 768)) "lane" (.next (loseLink lane 2 s))

/-- FEC_ALIGN_LOSS (R71). -/
def execFecAlignLoss (lane : Nat) (s : State) : Outc := need (decide (lane < 768)) "lane" (.next (loseLink lane 3 s))

/-- HI_SER (R71): only where the lane's HI_SER flag is set (R83). -/
def execHiSer (lane : Nat) (s : State) : Outc :=
  need (decide (lane < 768)) "lane" (.next (if bit (s.lane lane).flags 4 then loseLink lane 4 s else s))

/-- PARTNER_TRAINING_SEEN (R60, R68, R71): BLIND and RELINK go to TRAIN, whatever the method; an ACTIVE lane leaves
with PARTNER_TRAIN. -/
def execPartnerTrainingSeen (lane : Nat) (s : State) : Outc :=
  need (decide (lane < 768)) "lane" (.next (
    let st := (s.lane lane).state
    if st == 7 || st == 8 then enterTrain lane s else if st == 6 then loseLink lane 7 s else s))

/-- RS_FAULT_RECEIVE (R89): what the reconciliation sublayer receives now. -/
def execRsFaultReceive (port : Nat) (lf rf : Bool) (s : State) : Outc :=
  need (decide (port < 768)) "port" (.next (modPort port (fun q => { q with lf := lf, rf := rf }) s))

/-- KNOWN_GOOD_STORE (R69): after a second of ACTIVE without an uncorrectable codeword the set is stored, with the DSP state
that the receiver has adapted; the CTLE setting stays fixed in ACTIVE (R58). -/
def execKnownGoodStore (lane : Nat) (dsp : Bytes) (s : State) : Outc :=
  need (decide (lane < 768)) "lane" (.next (
    let x := s.lane lane
    if x.state == 6 && decide (x.goodBeat + 1000000 ≤ s.beat) then
      modLane lane (fun x =>
        let c : Coeff := { x.set with dsp := dsp }
        { x with set := c, known := some c, goodBeat := s.beat }) s
    else s))

/-- A port whose lanes are in mode 2, which never uses Directional Quiet (Table 2.1, R78). -/
def eeePort (s : State) (l : Nat) : Bool := (s.lane l).mode == 2

/-- A port whose egress has a queue configured as express (R75, R240): its EXPRESS bit is set and an express class is
named. -/
def expressPort (s : State) (p : Nat) : Bool := (s.tm.ports.get {} p).express && decide (s.tm.expressTc ≠ 0xFF)

/-- Replaces the quiet record of a port by its image. -/
def modQuiet (l : Nat) (f : Quiet → Quiet) (s : State) : State := modLane l (fun x => { x with quiet := f x.quiet }) s

/-- A flag of the partner's TLV (Table 2.10). -/
def peerFlag (q : Quiet) (i : Nat) : Bool := bit (rd q.peer 7 1) i

/-- Whether the transmitter of a port may enter quiet at this boundary (R73, R75, R78; log entry 61). -/
def quietMayEnter (s : State) (p : Nat) : Bool :=
  let q := (s.lane p).quiet
  s.ports.has p && q.agreed && q.permit && peerFlag q 1 && peerFlag q 2 && q.tx == 0 && quietPermitted s &&
    !eeePort s p && !expressPort s p &&
    (portLanes s p).all (fun l => (s.lane l).state == 6) &&
    ((s.tm.ports.get {} p).queues.all fun e => e.2.isEmpty) && (s.tm.ports.get {} p).sending.isNone &&
    decide ((s.port p).busyBeat + q.idle ≤ s.beat)

/-- The transmitter of a port enters quiet in P10 when every condition is met (R73). -/
def quietEnter (p : Nat) (s : State) : State :=
  if quietMayEnter s p then
    eachDo (portLanes s p) (fun l => laneCount l 6 1) (modQuiet p (fun q => { q with tx := 1, asleep := s.beat, txBeat := s.beat }) s)
  else s

/-- The beat that ends was one of transmit or receive quiet for the lanes of a port (R82). -/
def quietBeat (p : Nat) (s : State) : State :=
  let q := (s.lane p).quiet
  let s := if q.tx == 1 then eachDo (portLanes s p) (fun l => laneCount l 7 1) s else s
  if q.rx then eachDo (portLanes s p) (fun l => laneCount l 8 1) s else s

/-- The port's link is down: the agreement on quiet ends, and with it quiet and LPI (R77, R78). -/
def quietEnd (p : Nat) (s : State) : State :=
  modQuiet p (fun q => { q with peer := [], agreed := false, tx := 0, rx := false, lpiTx := .off, lpiRx := .off }) s

/-- QUIET_IDLE_THRESHOLD (R73): the decision is made in P10 of the boundary that ends the beat. -/
def execQuietIdleThreshold (port : Nat) (s : State) : Outc :=
  need (decide (port < 768)) "port" (.next (atBoundary evQuietIdle (le 2 port) s))

/-- The wake time of a port's transmitter in beats: the larger of 4 μs and what the partner advertises (R74). -/
def wakeTime (q : Quiet) : Nat := max 4 (rdBe q.peer 8 2)

/-- Whether any frame is queued for a port. -/
def portQueued (s : State) (p : Nat) : Bool := (s.tm.ports.get {} p).queues.any fun e => !e.2.isEmpty

/-- QUIET_WAKE (R74): a frame queued for a quiet port starts the wake sequence, after the sleep sequence, which is the
beat that follows the entry. -/
def execQuietWake (port : Nat) (s : State) : Outc :=
  need (decide (port < 768)) "port" (.next (
    if (s.lane port).quiet.tx == 1 && portQueued s port && decide ((s.lane port).quiet.asleep + 2 ≤ s.beat) then
      modQuiet port (fun q => { q with tx := 2, txBeat := s.beat }) s else s))

/-- QUIET_WAKE_COMPLETE (R74): after the wake time the transmitter sends data. -/
def execQuietWakeComplete (port : Nat) (s : State) : Outc :=
  need (decide (port < 768)) "port" (.next (
    let q := (s.lane port).quiet
    if q.tx == 2 && decide (q.txBeat + wakeTime q ≤ s.beat) then modQuiet port (fun q => { q with tx := 0, txBeat := s.beat }) s else s))

/-- QUIET_REFRESH (R74): a quiet transmitter sends its refresh, 50 μs after the one before or after it went quiet. -/
def execQuietRefresh (port : Nat) (s : State) : Outc :=
  need (decide (port < 768)) "port" (.next (
    if (s.lane port).quiet.tx == 1 && decide ((s.lane port).quiet.txBeat + 50 ≤ s.beat) then
      modQuiet port (fun q => { q with txBeat := s.beat }) s
    else s))

/-- Whether the receiver of a port follows the partner into quiet (R73, R75, R78). -/
def rxFollows (s : State) (p : Nat) : Bool :=
  s.ports.has p && (s.lane p).quiet.agreed && !eeePort s p && (portLanes s p).all fun l => !synceLane s l

/-- PARTNER_QUIET_SIGNAL (R73, R76). -/
def execPartnerQuietSignal (port : Nat) (signal : QuietSignal) (s : State) : Outc :=
  need (decide (port < 768)) "port" (.next (
    match signal with
    | .sleep => if rxFollows s port then modQuiet port (fun q => { q with rx := true, rxBeat := s.beat }) s else s
    | .refresh => if (s.lane port).quiet.rx then modQuiet port (fun q => { q with rxBeat := s.beat }) s else s
    | .wake => modQuiet port (fun q => { q with rx := false, rxBeat := s.beat }) s))

/-- QUIET_REFRESH_MISS (R76): neither refresh nor wake for 150 μs. -/
def execQuietRefreshMiss (port : Nat) (s : State) : Outc :=
  need (decide (port < 768)) "port" (.next (
    if (s.lane port).quiet.rx && decide ((s.lane port).quiet.rxBeat + 150 ≤ s.beat) then
      eachDo (portLanes s port) (fun l => loseLink l 9) (modQuiet port (fun q => { q with rx := false }) s)
    else s))

/-- Whether a port carries EEE now: it is offered there, auto-negotiation has resolved it, and every lane is ACTIVE
(R63, R78). -/
def eeeReady (s : State) (p : Nat) : Bool :=
  s.ports.has p && eeeOffered (s.lane p).mode (s.port p).width && (s.lane p).quiet.eee &&
    (portLanes s p).all fun l => (s.lane l).state == 6

/-- EEE_LPI_RECEIVE (R78). -/
def execEeeLpiReceive (port : Nat) (lpi : Lpi) (s : State) : Outc :=
  need (decide (port < 768)) "port" (.next (if eeeReady s port then modQuiet port (fun q => { q with lpiRx := lpi }) s else s))

/-- EEE_LPI_TRANSMIT (R75, R78): a port with an express queue never asserts LPI. -/
def execEeeLpiTransmit (port : Nat) (lpi : Lpi) (s : State) : Outc :=
  need (decide (port < 768)) "port" (.next (
    if eeeReady s port && (lpi == .off || !expressPort s port) then modQuiet port (fun q => { q with lpiTx := lpi }) s else s))

/-- A port that a new setting makes express stops asserting LPI, and a quiet transmitter begins to wake (R75; log entry
216). -/
def expressAwake (p : Nat) (s : State) : State :=
  if expressPort s p then
    modQuiet p (fun q => { q with
      lpiTx := .off, tx := if q.tx == 1 then 2 else q.tx, txBeat := if q.tx == 1 then s.beat else q.txBeat }) s
  else s

/-- The lane a LANE command names, and whether the field is valid (R82). -/
def laneArg (p : Bytes) : Nat := rd p 0 2

/-- The lane field's check (R82). -/
def laneCheck (p : Bytes) : Bool × Nat := (decide (laneArg p < 768), 0)

/-- ST_LANE_STATE. -/
def stLaneState : Nat := 0x0501

/-- New settings on one lane (R83): a change of mode loses the known-good set (R69), and in modes 1 and 2 the two outer
taps are held at 0 (R57). A lane that was not DISABLED restarts from DISABLED. -/
def applyLaneConfig (p : Bytes) (l : Nat) (s : State) : State :=
  let mode := rd p 2 1
  let was := (s.lane l).state
  let s := disableLane l 5 s
  let s := modLane l (fun x => { x with
    known := if x.mode == mode then x.known else none
    set := if mode == 1 || mode == 2 then { x.set with taps := (x.set.taps.set 0 0).set 1 0 } else x.set
    mode := mode, fec := rd p 3 1, method := rd p 4 1, flags := rd p 5 1
    trainLimit := rd p 6 2, blindLimit := rd p 8 2, relinkWindow := rd p 10 2, loopback := 0 }) s
  if was == 0 || mode == 0 then s else enableLane l s

/-- LANE.CONFIG (R54, R83). -/
def laneConfigSpec : CmdSpec where
  need _ := 16
  run _ p _ s :=
    let mode := rd p 2 1
    let widthOk := match portOfLane s (laneArg p) with
      | some q => widthAllowed (s.port q).width mode
      | none => true
    checks [laneCheck p, (decide (mode ≤ 5) && widthOk, 2), (fecAllowed mode (rd p 3 1), 3), (decide (rd p 4 1 ≤ 2), 4),
        (decide (rd p 5 1 < 32), 5), (decide (500 ≤ rd p 6 2) && decide (rd p 6 2 ≤ 12000), 6),
        (decide (1 ≤ rd p 8 2) && decide (rd p 8 2 ≤ 10000), 8), (decide (rd p 10 2 ≤ 10000), 10)]
      (replyNow (eachDo (groupOfLane s (laneArg p)) (applyLaneConfig p) s) [])

/-- LANE_CONFIG. -/
def execLaneConfig (m : Nat) (h : HostAnswer) (s : State) : Outc := acceptAs 0x0501 laneConfigSpec m h s

/-- LANE.ENABLE (R72, R82). -/
def laneEnableSpec : CmdSpec where
  need _ := 2
  run _ p _ s :=
    let g := groupOfLane s (laneArg p)
    let x := s.lane (laneArg p)
    checks [laneCheck p] (require (x.state == 0 && decide (x.mode ≠ 0) && g.all fun l => (s.lane l).held.isEmpty) stLaneState
      (replyNow (eachDo g enableLane s) []))

/-- LANE_ENABLE. -/
def execLaneEnable (m : Nat) (h : HostAnswer) (s : State) : Outc := acceptAs 0x0502 laneEnableSpec m h s

/-- LANE.DISABLE (R82). -/
def laneDisableSpec : CmdSpec where
  need _ := 2
  run _ p _ s := checks [laneCheck p] (replyNow (eachDo (groupOfLane s (laneArg p)) (fun l => disableLane l 5) s) [])

/-- LANE_DISABLE. -/
def execLaneDisable (m : Nat) (h : HostAnswer) (s : State) : Outc := acceptAs 0x0503 laneDisableSpec m h s

/-- The quiet byte of LANE.STATUS (R84). -/
def quietBits (q : Quiet) : Nat := b2n (q.tx == 1) + 2 * b2n q.rx + 4 * b2n q.agreed + 8 * b2n (q.lpiTx != .off || q.lpiRx != .off)

/-- LANE.STATUS (R84); the pre-FEC bit error ratio is the receiver's measurement (log entry 63). -/
def laneStatusSpec : CmdSpec where
  need _ := 2
  run _ p _ s :=
    let x := s.lane (laneArg p)
    let q := (s.lane (quietLane s (laneArg p))).quiet
    let (ber, s) := takeFreeBytes 8 s
    checks [laneCheck p] (replyNow s
      (le 1 x.state ++ le 1 x.mode ++ le 1 x.fec ++ le 1 x.lastDown ++ le 1 x.lastFault ++
        le 1 (quietBits q) ++ le 1 (b2n x.known.isSome) ++
        zeros 1 ++ le 8 x.stateBeat ++ ber))

/-- LANE_STATUS. -/
def execLaneStatus (m : Nat) (h : HostAnswer) (s : State) : Outc := acceptAs 0x0504 laneStatusSpec m h s

/-- The 16 bytes of a coefficient set (R82). -/
def coeffBytes (valid : Bool) (c : Coeff) : Bytes :=
  c.taps.flatMap (fun t => le 1 (ofInt 8 t)) ++ le 1 c.ctle ++ le 1 (b2n valid) ++ part c.dsp 0 9

/-- The known-good set's bytes, zero with none (R82). -/
def knownBytes (x : Lane) : Bytes :=
  match x.known with
  | some k => coeffBytes true k
  | none => zeros 16

/-- The equaliser of a lane that adapts moves on between two readings: in TRAIN and BLIND all of it, in ACTIVE the DSP
(R58). -/
def readAdapts (l : Nat) (s : State) : State :=
  let x := s.lane l
  if x.state == 3 || x.state == 7 || (x.state == 4 && x.blind) then adaptLane l s
  else if x.state == 6 then adaptDsp l s
  else s

/-- LANE.GET_COEFF (R58, R82; log entry 62). -/
def laneGetCoeffSpec : CmdSpec where
  need _ := 2
  run _ p _ s :=
    let s := readAdapts (laneArg p) s
    let x := s.lane (laneArg p)
    checks [laneCheck p] (replyNow s (coeffBytes true x.set ++ knownBytes x))

/-- LANE_GET_COEFF. -/
def execLaneGetCoeff (m : Nat) (h : HostAnswer) (s : State) : Outc := acceptAs 0x0505 laneGetCoeffSpec m h s

/-- The taps of a 16-byte set (R82). -/
def tapsOf (b : Bytes) : List Int := (List.range 5).map fun i => toInt 8 (rd b i 1)

/-- Loads a set of 16 bytes and marks it known-good (R69). -/
def loadSet (l : Nat) (b : Bytes) (s : State) : State :=
  let c : Coeff := { taps := tapsOf b, ctle := rd b 5 1, dsp := part b 7 9 }
  modLane l (fun x => { x with set := c, known := some c }) s

/-- LANE.SET_COEFF (R57, R69, R82). -/
def laneSetCoeffSpec : CmdSpec where
  need _ := 18
  run _ p _ s :=
    let x := s.lane (laneArg p)
    let t := tapsOf (part p 2 16)
    checks [laneCheck p, ((badTap x.mode t).isNone, 2 + (badTap x.mode t).getD 0), (tapsJoint t, 2), (decide (rd p 7 1 ≤ 20), 7)]
      (require (x.state == 0 || x.state == 7) stLaneState (replyNow (loadSet (laneArg p) (part p 2 16) s) []))

/-- LANE_SET_COEFF. -/
def execLaneSetCoeff (m : Nat) (h : HostAnswer) (s : State) : Outc := acceptAs 0x0506 laneSetCoeffSpec m h s

/-- RETRAIN on one lane: an ACTIVE one leaves with SW_DISABLE, and any that is used and not held restarts in RX_DETECT
(R54, R82). -/
def retrainLane (l : Nat) (s : State) : State :=
  let x := s.lane l
  if x.state == 6 then leaveActive l 5 1 s
  else if x.mode == 0 || !x.held.isEmpty then s
  else enterRxDetect l (closeSession l 2 0 s)

/-- LANE.RETRAIN (R54, R82): the port goes down with SW_DISABLE and every lane of it restarts in RX_DETECT. -/
def laneRetrainSpec : CmdSpec where
  need _ := 2
  run _ p _ s :=
    checks [laneCheck p] (require ((s.lane (laneArg p)).state == 6) stLaneState
      (replyNow (eachDo (groupOfLane s (laneArg p)) retrainLane s) []))

/-- LANE_RETRAIN. -/
def execLaneRetrain (m : Nat) (h : HostAnswer) (s : State) : Outc := acceptAs 0x0507 laneRetrainSpec m h s

/-- Enters a loopback with the known-good set, or with the reset set (R79). -/
def enterLoopback (l code : Nat) (s : State) : State :=
  let s := if (s.lane l).state == 6 then leaveActive l 8 9 s else enterState l 9 (closeSession l 2 0 s)
  modLane l (fun x => { x with loopback := code, set := blindSet x, relink := false }) s

/-- LANE.LOOPBACK (R72, R79). -/
def laneLoopbackSpec : CmdSpec where
  need _ := 3
  run _ p _ s :=
    let l := laneArg p
    let x := s.lane l
    let code := rd p 2 1
    let portDown := match portOfLane s l with
      | some q => !(s.port q).admin
      | none => false
    checks [laneCheck p, (decide (code ≤ 4), 2)]
      (if code == 0 then
        replyNow (if x.state == 9 then enterState l 0 (modLane l (fun x => { x with loopback := 0 }) s) else s) []
       else require ((x.state == 0 || portDown) && x.held.isEmpty) stLaneState (replyNow (enterLoopback l code s) []))

/-- LANE_LOOPBACK. -/
def execLaneLoopback (m : Nat) (h : HostAnswer) (s : State) : Outc := acceptAs 0x0508 laneLoopbackSpec m h s

/-- Whether a PRBS pattern code may run in a mode: codes 1 to 6 in NRZ, 7 to 9 in PAM4 modes (R80; log entry 58). A lane
of mode 0, which has no modulation, is counted with the NRZ modes (DESIGN CHOICE, log entry 215). -/
def prbsOk (mode code : Nat) : Bool :=
  code == 0 || (if decide (mode ≤ 2) then decide (code ≤ 6) else decide (7 ≤ code) && decide (code ≤ 9))

/-- Whether a lane's PRBS checker compares bits now (R80). -/
def prbsRuns (x : Lane) : Bool := decide (x.prbs ≠ 0) && bit x.prbsCtl 1 && (x.state == 0 || x.state == 9)

/-- Whether a lane's receiver decodes FEC codewords now (Table 2.4). -/
def fecRuns (x : Lane) : Bool := decide (x.fec ≠ 0) && [4, 5, 6].contains x.state

/-- What a beat brings to the counters of a lane: bits compared and found wrong by the checker (R80), codewords and symbols
corrected (R82). The amounts are the channel's (log entry 63). -/
def measureLane (l : Nat) (s : State) : State :=
  let (a, s) := takeFree s
  let (b, s) := takeFree s
  if prbsRuns (s.lane l) then modLane l (fun x => { x with
    prbsErr := (x.prbsErr + a) % 2 ^ 48, prbsBits := (x.prbsBits + b) % 2 ^ 64 }) s
  else if fecRuns (s.lane l) then laneCount l 2 b (laneCount l 0 a s)
  else s

/-- The generator and checker of a lane as LANE.PRBS sets them; a checker that starts counts from 0 (R80; log entry 215). -/
def setPrbs (pattern ctl : Nat) (x : Lane) : Lane :=
  let y := { x with prbs := pattern, prbsCtl := ctl }
  if prbsRuns y && !(prbsRuns x && x.prbs == pattern) then { y with prbsErr := 0, prbsBits := 0 } else y

/-- LANE.PRBS (R80): answers what the checker has counted. -/
def lanePrbsSpec : CmdSpec where
  need _ := 4
  run _ p _ s :=
    let x := s.lane (laneArg p)
    checks [laneCheck p, (prbsOk x.mode (rd p 2 1), 2), (decide (rd p 3 1 < 4), 3)]
      (require (x.state == 0 || x.state == 9) stLaneState
        (replyNow (modLane (laneArg p) (setPrbs (rd p 2 1) (rd p 3 1)) s) (le 6 x.prbsErr ++ le 8 x.prbsBits)))

/-- LANE_PRBS. -/
def execLanePrbs (m : Nat) (h : HostAnswer) (s : State) : Outc := acceptAs 0x0509 lanePrbsSpec m h s

/-- Eyes of a lane's mode (R81). -/
def eyesOf (x : Lane) : Nat := if x.mode ≤ 2 then 1 else 3

/-- LANE.EYE (R81): one eye in NRZ modes, three in PAM4 modes; the figures are measurements (log entry 63). -/
def laneEyeSpec : CmdSpec where
  need _ := 2
  run _ p _ s :=
    let x := s.lane (laneArg p)
    let n := eyesOf x
    let (eyes, t) := takeFreeBytes (4 * n) s
    checks [laneCheck p] (require (x.state == 6 || x.state == 9) stLaneState (replyNow t (le 1 n ++ eyes)))

/-- LANE_EYE. -/
def execLaneEye (m : Nat) (h : HostAnswer) (s : State) : Outc := acceptAs 0x050A laneEyeSpec m h s

/-- LANE.COUNTERS (R82). -/
def laneCountersSpec : CmdSpec where
  need _ := 3
  run _ p _ s :=
    let x := s.lane (laneArg p)
    checks [laneCheck p] (replyNow
      (if bit (rd p 2 1) 0 then modLane (laneArg p) (fun x => { x with counts := x.counts.map fun _ => 0 }) s else s)
      (x.counts.flatMap (le 8)))

/-- LANE_COUNTERS. -/
def execLaneCounters (m : Nat) (h : HostAnswer) (s : State) : Outc := acceptAs 0x050B laneCountersSpec m h s

/-- A session of LANE.TRAIN_LOG (R82; log entry 57). -/
def sessionBytes (t : TrainSession) : Bytes :=
  le 1 t.outcome ++ le 1 t.violation ++ le 4 t.ms ++ t.counts.flatMap (le 4) ++ part (t.taps.flatMap fun x => le 1 (ofInt 8 x)) 0 5

/-- The open training session of a lane as the log shows it. -/
def sessionNow (s : State) (l : Nat) : List TrainSession :=
  match (s.lane l).session with
  | some t => [{ t with ms := (s.beat - t.start) / 1000, taps := (s.lane l).set.taps }]
  | none => []

/-- LANE.TRAIN_LOG (R82): the last eight sessions, the open one first. -/
def laneTrainLogSpec : CmdSpec where
  need _ := 2
  run _ p _ s :=
    let x := s.lane (laneArg p)
    checks [laneCheck p] (replyNow s (((sessionNow s (laneArg p) ++ x.log).take 8).flatMap sessionBytes))

/-- LANE_TRAIN_LOG. -/
def execLaneTrainLog (m : Nat) (h : HostAnswer) (s : State) : Outc := acceptAs 0x050C laneTrainLogSpec m h s

/-- The device's own TLV for a port (Table 2.10; log entry 60). Flag bit 2, leave for the partner's transmitter to quiet, is
given where the own receiver follows (DESIGN CHOICE, log entry 214). -/
def quietTlv (s : State) (p : Nat) : Bytes :=
  let permit := (s.lane p).quiet.permit && !eeePort s p
  let follow := permit && (portLanes s p).all fun l => !synceLane s l
  be 2 0xFE0A ++ be 3 0x5A0C9A ++ le 1 1 ++ le 1 1 ++
    le 1 (b2n (permit && !expressPort s p) + 2 * b2n follow + 4 * b2n follow) ++ be 2 (1 + Config.ownWake % 50) ++ zeros 2

/-- LANE.QUIET_TLV (R77): of the lane's port; a lane of no port has none (log entry 60). -/
def laneQuietTlvSpec : CmdSpec where
  need _ := 2
  run _ p _ s :=
    checks [laneCheck p] (match portOfLane s (laneArg p) with
      | some q => replyNow s (quietTlv s q)
      | none => .refuse stLaneState 0)

/-- LANE_QUIET_TLV. -/
def execLaneQuietTlv (m : Nat) (h : HostAnswer) (s : State) : Outc := acceptAs 0x050D laneQuietTlvSpec m h s

/-- The partner's TLV (R74, R77; log entry 61): another version, type, organisation or subtype is ignored; a wake time
above 50 μs is refused and counted; else quiet is agreed where the port permits it. Agreement is found here and not
again when LANE.QUIET_CONFIG changes the port's own permission (DESIGN CHOICE, log entry 213). -/
def peerTlv (l : Nat) (t : Bytes) (s : State) : State :=
  if rdBe t 0 2 != 0xFE0A || rdBe t 2 3 != 0x5A0C9A || rd t 5 1 != 1 || rd t 6 1 != 1 then s
  else if decide (50 < rdBe t 8 2) then modQuiet l (fun q => { q with peer := [], agreed := false, refused := q.refused + 1 }) s
  else
    let eee := eeePort s l
    modQuiet l (fun q => { q with peer := t, agreed := q.permit && !eee }) s

/-- LANE.QUIET_PEER (R77): length 0 ends agreement. A transmitter or receiver that is quiet then stays so until it wakes
(DESIGN CHOICE, log entry 213). -/
def laneQuietPeerSpec : CmdSpec where
  need p := 3 + rd p 2 1
  run _ p _ s :=
    let l := quietLane s (laneArg p)
    let n := rd p 2 1
    checks [laneCheck p, (n == 0 || n == 12, 2)]
      (replyNow (if n == 0 then modQuiet l (fun q => { q with peer := [], agreed := false }) s else peerTlv l (part p 3 12) s) [])

/-- LANE_QUIET_PEER. -/
def execLaneQuietPeer (m : Nat) (h : HostAnswer) (s : State) : Outc := acceptAs 0x050E laneQuietPeerSpec m h s

/-- LANE.QUIET_CONFIG (R73). -/
def laneQuietConfigSpec : CmdSpec where
  need _ := 5
  run _ p _ s :=
    checks [laneCheck p, (decide (1 ≤ rd p 3 2), 3)]
      (replyNow (modQuiet (quietLane s (laneArg p)) (fun q => { q with permit := bit (rd p 2 1) 0, idle := rd p 3 2 }) s) [])

/-- LANE_QUIET_CONFIG. -/
def execLaneQuietConfig (m : Nat) (h : HostAnswer) (s : State) : Outc := acceptAs 0x050F laneQuietConfigSpec m h s

end Sys2Proof.Machine
end

