-- ==== Sys2Proof/Machine/Clock.lean ====
section
/-! DEFINITION. The hardware clock: ticks, steps, rate, states, timestamps, PPS, SyncE, the transmit timestamp queue and
the TIME service. -/

namespace Sys2Proof.Machine

/-- The unit of time kept below the nanosecond: 2^-64 ns (R350). -/
def nsUnit : Nat := 2 ^ 64

/-- Ticks of the 781.25 MHz time clock in the first `ns` nanoseconds after core reset (R350; log entry 37). -/
def ticksAt (ns : Nat) : Nat := ns * 25 / 32

/-- What one tick adds, in 2^-64 ns: 1.28 × (1 + RATE × 2^-48) ns (R350). -/
def tickAdds (rate : Int) : Nat := ((128 * (2 ^ 64 : Int)) * (2 ^ 48 + rate) / (100 * 2 ^ 48)).toNat

/-- What the clock gains from the start of the beat in progress to `ns` nanoseconds into it. -/
def clockGain (s : State) (ns : Nat) : Nat :=
  (ticksAt (1000 * s.time.us + ns) - ticksAt (1000 * s.time.us)) * tickAdds s.time.rate

/-- The clock as one number of 2^-64 ns. -/
def clockTotal (t : Time) : Nat := (t.sec * 10 ^ 9 + t.ns) * nsUnit + t.frac

/-- Sets SECONDS, NANOSECONDS and the fraction from one number. -/
def setClock (v : Nat) (t : Time) : Time :=
  { t with sec := v / nsUnit / 10 ^ 9 % 2 ^ 48, ns := v / nsUnit % 10 ^ 9, frac := v % nsUnit }

/-- The clock `ns` nanoseconds into the beat in progress. -/
def clockAt (s : State) (ns : Nat) : Time := setClock (clockTotal s.time + clockGain s ns) s.time

/-- Clock time in whole nanoseconds, `ns` nanoseconds into the beat. -/
def clockNs (s : State) (ns : Nat) : Nat := (clockTotal s.time + clockGain s ns) / nsUnit

/-- The time base that is never stepped, `ns` nanoseconds into the beat, in 2^-64 ns (R360). -/
def baseAt (s : State) (ns : Nat) : Nat := s.time.base + clockGain s ns

/-- One microsecond of the reference passes (R350, R351). -/
def advanceClock (s : State) : State :=
  let g := clockGain s 1000
  s.modTime fun t => { setClock (clockTotal t + g) t with base := t.base + g, us := t.us + 1 }

/-- The signed difference from timestamp `a` to `b`, nearest the beats between them when known (R355). -/
def tsDiff (a b : Nat) (n : Option Nat) : Int :=
  let r : Int := ((b : Int) - (a : Int)) % 1000000000
  let k : Int := match n with
    | some n =>
      let d : Int := (n : Int) * 1000 - r
      let k0 := d / 1000000000
      if decide (d - k0 * 1000000000 ≤ 500000000) then k0 else k0 + 1
    | none => if decide (r ≤ 499999999) then 0 else -1
  let v := r + k * 1000000000
  if v < -2147483648 then -2147483648 else if 2147483647 < v then 2147483647 else v

/-- Raises cause HCK for a condition enabled in HCK_IRQ_EN (R365). -/
def hckIrq (b : Nat) (s : State) : State := if bit s.time.irqEn b then irqCause 29 s else s

/-- TX_PS and RX_PS of a port for the mode in use (R356). -/
def portDelay (s : State) (p : Nat) : Int × Int := s.time.delays.get (0, 0) (8 * p + (s.lane p).mode)

/-- A reading moved by a number of picoseconds. -/
def movePs (v : Nat) (ps : Int) : Nat := ((v : Int) + ps * nsUnit / 1000).toNat

/-- Receive timestamp of a frame whose timestamp point passes the ball `ns` nanoseconds into the beat: seconds,
nanoseconds, and the time base in 2^-16 ns (R356, R360). -/
def rxStamp (s : State) (p ns : Nat) : Nat × Nat × Nat :=
  let d := -(portDelay s p).2
  let v := movePs (clockTotal s.time + clockGain s ns) d / nsUnit
  (v / 10 ^ 9, v % 10 ^ 9, movePs (baseAt s ns) d / 2 ^ 48)

/-- Transmit timestamp in the same form (R356, R360). -/
def txStamp (s : State) (p ns : Nat) : Nat × Nat × Nat :=
  let d := (portDelay s p).1
  let v := movePs (clockTotal s.time + clockGain s ns) d / nsUnit
  (v / 10 ^ 9, v % 10 ^ 9, movePs (baseAt s ns) d / 2 ^ 48)

/-- An entry joins the transmit timestamp queue, or is discarded at a full queue (R361). -/
def addTxts (e : Txts) (s : State) : State :=
  if s.time.txts.length < 64 then hckIrq 0 (s.modTime fun t => { t with txts := t.txts ++ [e] })
  else
    let tell := mayTell s.time.ovfTold 1000000 s.beat
    let s := markSet 0x3C04 8 (s.modTime fun t => { t with
      txtsOvf := true, ovfCnt := satAdd 32 t.ovfCnt 1, ovfTold := if tell then s.beat + 1 else t.ovfTold })
    hckIrq 1 (if tell then raiseEvent 0x0D03 (le 4 s.time.ovfCnt) s else s)

/-- The 48-bit seconds field of a signed number. -/
def sec48 (i : Int) : Bytes := le 6 (ofInt 48 i)

/-- Whether a step of the clock stays within SECONDS (R353). -/
def stepFits (t : Time) (sec : Int) (ns : Nat) : Bool :=
  let v : Int := (t.sec * 10 ^ 9 + t.ns : Nat) + sec * 10 ^ 9 + ns
  decide (0 ≤ v) && decide (v < (2 ^ 48 : Int) * 10 ^ 9)

/-- A step is applied: the offset in one tick, FRAC kept, LOCKED to TRACKING, EV_TIME_STEP (R352, R353). -/
def applyStep (sec : Int) (ns : Nat) (s : State) : State :=
  let v : Nat := (((s.time.sec * 10 ^ 9 + s.time.ns : Nat) : Int) + sec * 10 ^ 9 + ns).toNat
  let s := s.modTime fun t => { t with
    sec := v / 10 ^ 9, ns := v % 10 ^ 9, st := if t.st == 1 then 2 else t.st
    steps := (t.steps + 1) % 2 ^ 32, stepBeat := s.beat + 1 }
  hckIrq 3 (raiseEvent 0x0D01 (sec48 sec ++ zeros 2 ++ le 4 ns) s)

/-- STEP_REFUSED (R352, R353). -/
def refuseStep (s : State) : State := markSet 0x3C04 2 (s.modTime fun t => { t with refused := true })

/-- A lock or release request at P3 (Table 12.1). -/
def applyState (lock : Bool) (s : State) : State :=
  s.modTime fun t => { t with st := if lock then (if t.st == 0 then 1 else t.st) else 0 }

/-- A write to HCK_CTRL (R352, R353, R365): the outputs' enables at once; RELEASE, LOCK and STEP as requests taken in
that order at the next P3. -/
def hckCtrlWrite (value : Nat) (s : State) : State :=
  let s := s.modTime fun t => { t with
    ppsOut := bit value 8, ppsIn := bit value 9, ppsFall := bit value 10, pulse := t.pulse && bit value 8 }
  let s := whenDo (bit value 2) (post 0 0x13C00 [2] []) s
  let s := whenDo (bit value 1) (post 0 0x13C00 [1] []) s
  if !bit value 0 then s
  else if s.time.stepNs > 999999999 then refuseStep s
  else post 0 0x13C00 ([0] ++ le 6 s.time.stepSec ++ le 4 s.time.stepNs) [] (s.modTime fun t => { t with stepDue := t.stepDue + 1 })

/-- HCK_STEP: the HCK_CTRL write that sets STEP. -/
def execHckStep (value : Nat) (s : State) : Outc := .next (whenDo (hostUp s) (hckCtrlWrite (Nat.lor value 1)) s)

/-- HCK_LOCK: the HCK_CTRL write that sets LOCK. -/
def execHckLock (value : Nat) (s : State) : Outc := .next (whenDo (hostUp s) (hckCtrlWrite (Nat.lor value 2)) s)

/-- HCK_RELEASE: the HCK_CTRL write that sets RELEASE. -/
def execHckRelease (value : Nat) (s : State) : Outc := .next (whenDo (hostUp s) (hckCtrlWrite (Nat.lor value 4)) s)

/-- A request of HCK_CTRL at P3 (R352, R353). -/
def applyHckCtrl (req : Bytes) (s : State) : State :=
  match rd req 0 1 with
  | 2 => applyState false s
  | 1 => applyState true s
  | _ =>
    let sec := toInt 48 (rd req 1 6)
    let ns := rd req 7 4
    let s := s.modTime fun t => { t with stepDue := t.stepDue - 1 }
    if s.time.st == 2 || !stepFits s.time sec ns then refuseStep s else applyStep sec ns s

/-- RATE within ±281,474,976,711 (R354). -/
def rateClamp (r : Int) : Int := if r < -281474976711 then -281474976711 else if 281474976711 < r then 281474976711 else r

/-- A new RATE is requested: it is saturated, with RATE_CLAMP, and applies at P3 of the next boundary (R354). -/
def requestRate (order kind : Nat) (r : Int) (s : State) : State :=
  let s := if rateClamp r == r then s else markSet 0x3C04 10 (s.modTime fun t => { t with clamp := true })
  post order kind (le 6 (ofInt 48 (rateClamp r))) [] s

/-- A RATE takes effect at P3, and HCK_RATE and HCK_RATE_HI hold it; a held write of HCK_RATE stays (R354). -/
def applyRate (req : Bytes) (s : State) : State :=
  s.modTime fun t => { t with
    rate := toInt 48 (rd req 0 6), rateHi := rd req 4 2, rateLo := if t.rateHeld then t.rateLo else rd req 0 4 }

/-- A write to HCK_RATE is held until HCK_RATE_HI is written (R354). -/
def rateLoWrite (value : Nat) (s : State) : State := s.modTime fun t => { t with rateLo := value % 2 ^ 32, rateHeld := true }

/-- A write to HCK_RATE_HI: the two halves apply together (R354). -/
def rateHiWrite (value : Nat) (s : State) : State :=
  requestRate 0 0x13C64 (toInt 48 (value % 65536 * 2 ^ 32 + s.time.rateLo))
    (s.modTime fun t => { t with rateHi := value % 65536, rateHeld := false })

/-- HCK_RATE_WRITE. -/
def execHckRateWrite (value : Nat) (s : State) : Outc := .next (whenDo (hostUp s) (rateLoWrite value) s)

/-- HCK_RATE_HI_WRITE. -/
def execHckRateHiWrite (value : Nat) (s : State) : Outc := .next (whenDo (hostUp s) (rateHiWrite value) s)

/-- HCK_NS_READ (R365): returns NANOSECONDS and latches SECONDS, FRAC and the beat. -/
def execHckNsRead (s : State) : Outc :=
  .next (whenDo (hostUp s) (fun s =>
    (readOut s.time.ns s).modTime fun t => { t with
      latSec := t.sec, latFrac := t.frac / 2 ^ 48, latBeat := s.beat % 2 ^ 32 }) s)

/-- HCK_TXTS_INFO as it reads (Table 12.6). -/
def txtsInfo (s : State) : Nat :=
  match s.time.txts with
  | [] => 0
  | e :: _ => 2 ^ 31 + (e.port % 1024) * 65536 + e.id % 65536

/-- HCK_TXTS_INFO_READ (R365): latches the head entry. -/
def execHckTxtsInfoRead (s : State) : Outc :=
  .next (whenDo (hostUp s) (fun s =>
    (readOut (txtsInfo s) s).modTime fun t => match t.txts with
      | [] => t
      | e :: _ => { t with latTx := (e.ns, e.sec) }) s)

/-- HCK_TXTS_POP (R365): removes the head entry; ignored on an empty queue. -/
def execHckTxtsPop (s : State) : Outc :=
  .next (whenDo (hostUp s) (fun s => s.modTime fun t => { t with txts := t.txts.drop 1 }) s)

/-- HCK_TXTS_OVF_CNT_READ: a read-clear counter (R15, R365). -/
def execHckTxtsOvfCntRead (s : State) : Outc :=
  .next (whenDo (hostUp s) (fun s => (readOut s.time.ovfCnt s).modTime fun t => { t with ovfCnt := 0 }) s)

/-- PPS_IN_EDGE (R362): a selected edge, at least 1 ms after the last accepted one, latches the clock. -/
def execPpsInEdge (falling : Bool) (ns : Nat) (s : State) : Outc :=
  need (decide (ns < 1000)) "instant" (.next (
    let now := baseAt s ns
    if s.boot.pwrgood && s.time.ppsIn && s.time.ppsFall == falling &&
        (s.time.inBase == 0 || decide (s.time.inBase - 1 + 10 ^ 6 * nsUnit ≤ now)) then
      let c := clockAt s ns
      let s := markSet 0x3C04 9 (s.modTime fun t => { t with inNs := c.ns, inSec := c.sec, inBase := now + 1, ppsEvent := true })
      hckIrq 2 (raiseEvent 0x0D02 (le 6 c.sec ++ zeros 2 ++ le 4 c.ns) s)
    else s))

/-- Whether the clock reaches a whole second plus PPS_OUT_OFFSET in the beat in progress (R363). -/
def ppsDue (s : State) : Bool :=
  let a : Int := (clockNs s 0 : Int) - s.time.offset
  let b : Int := (clockNs s 1000 : Int) - s.time.offset
  decide (a % 10 ^ 9 = 0) || decide (a / 10 ^ 9 < (b - 1) / 10 ^ 9)

/-- PPS_OUT rises in the beat in progress (R363). -/
def ppsRise (s : State) : State :=
  if s.boot.pwrgood && s.time.ppsOut && !s.time.pulse && !deviceSafe s && ppsDue s then
    s.modTime fun t => { t with pulse := true, roseAt := t.base / nsUnit + 1 } else s

/-- PPS_OUT_SECOND. -/
def execPpsOutSecond (s : State) : Outc := .next (ppsRise s)

/-- PPS_OUT falls when it has been high for WIDTH ms (R363). -/
def ppsFall (s : State) : State :=
  if s.time.pulse && decide (s.time.roseAt - 1 + s.time.width * 10 ^ 6 ≤ baseAt s 1000 / nsUnit) then
    s.modTime fun t => { t with pulse := false } else s

/-- PPS_OUT_WIDTH_END. -/
def execPpsOutWidthEnd (s : State) : Outc := .next (ppsFall s)

/-- A read of TIME.STATUS (R367). -/
def timeStatusSpec : CmdSpec where
  need _ := 0
  run _ _ _ s :=
    let t := s.time
    replyNow s (le 1 t.st ++ zeros 1 ++ le 6 (ofInt 48 t.rate) ++ le 6 t.sec ++ zeros 2 ++ le 4 t.ns ++ zeros 4 ++
      le 8 (t.stepBeat - 1) ++ le 4 t.steps ++ le 1 t.s0.freq ++ le 1 t.s1.freq)

/-- TIME_STATUS. -/
def execTimeStatus (m : Nat) (h : HostAnswer) (s : State) : Outc := acceptAs 0x0D01 timeStatusSpec m h s

/-- TIME.STEP (R353, R367): the range is tested on the clock at acceptance, the state at the boundary. -/
def timeStepSpec : CmdSpec where
  need _ := 12
  run c p _ s :=
    checks [(decide (rd p 8 4 ≤ 999999999), 8), (stepFits s.time (toInt 48 (rd p 0 6)) (rd p 8 4), 0)] (postCmd c p [] s)

/-- TIME.STEP at P3 (R352, R353). -/
def applyTimeStep (order : Nat) (p : Bytes) (s : State) : State :=
  let sec := toInt 48 (rd p 0 6)
  let ns := rd p 8 4
  if s.time.st == 2 then answer order 0x0D01 0 [] s
  else if !stepFits s.time sec ns then answer order 3 0 [] s
  else answerBeat order (applyStep sec ns s)

/-- TIME_STEP. -/
def execTimeStep (m : Nat) (h : HostAnswer) (s : State) : Outc := acceptAs 0x0D02 timeStepSpec m h s

/-- TIME.RATE (R354, R367). -/
def timeRateSpec : CmdSpec where
  need _ := 6
  run c p _ s := replyLater (requestRate c.order c.op (toInt 48 (rd p 0 6)) s)

/-- TIME_RATE. -/
def execTimeRate (m : Nat) (h : HostAnswer) (s : State) : Outc := acceptAs 0x0D03 timeRateSpec m h s

/-- TIME.STATE (R352, R367). -/
def timeStateSpec : CmdSpec where
  need _ := 1
  run c p _ s := checks [(decide (rd p 0 1 ≤ 1), 0)] (postCmd c p [] s)

/-- TIME_STATE. -/
def execTimeState (m : Nat) (h : HostAnswer) (s : State) : Outc := acceptAs 0x0D04 timeStateSpec m h s

/-- Whether a 32-bit field, read signed, lies within ±1,000,000. -/
def psOk (v : Nat) : Bool := decide (-1000000 ≤ toInt 32 v) && decide (toInt 32 v ≤ 1000000)

/-- TIME.PORT_DELAY (R356, R367). -/
def timePortDelaySpec : CmdSpec where
  need _ := 12
  run c p _ s :=
    checks [(decide (rd p 0 2 < 768), 0), (decide (1 ≤ rd p 2 1) && decide (rd p 2 1 ≤ 5), 2), (psOk (rd p 4 4), 4),
      (psOk (rd p 8 4), 8)] (postCmd c p [] s)

/-- TIME.PORT_DELAY at P3. -/
def applyPortDelay (p : Bytes) (s : State) : State :=
  s.modTime fun t => { t with
    delays := t.delays.put (8 * rd p 0 2 + rd p 2 1) (toInt 32 (rd p 4 4), toInt 32 (rd p 8 4)) }

/-- TIME_PORT_DELAY. -/
def execTimePortDelay (m : Nat) (h : HostAnswer) (s : State) : Outc := acceptAs 0x0D05 timePortDelaySpec m h s

/-- TIME.PORT_PTP (R360, R367). -/
def timePortPtpSpec : CmdSpec where
  need _ := 3
  run c p _ s := checks [(decide (rd p 0 2 < 768), 0), (decide (rd p 2 1 < 4), 2)] (postCmd c p [] s)

/-- TIME.PORT_PTP at P3. -/
def applyPortPtp (p : Bytes) (s : State) : State := s.modTime fun t => { t with ptp := t.ptp.put (rd p 0 2) (rd p 2 1) }

/-- TIME_PORT_PTP. -/
def execTimePortPtp (m : Nat) (h : HostAnswer) (s : State) : Outc := acceptAs 0x0D06 timePortPtpSpec m h s

/-- TIME.PPS (R363, R367). -/
def timePpsSpec : CmdSpec where
  need _ := 8
  run c p _ s :=
    checks [(decide (rd p 0 1 < 8), 0), (decide (1 ≤ rd p 2 2) && decide (rd p 2 2 ≤ 500), 2),
      (decide (-500000000 ≤ toInt 32 (rd p 4 4)) && decide (toInt 32 (rd p 4 4) ≤ 499999999), 4)] (postCmd c p [] s)

/-- TIME.PPS at P3. -/
def applyPps (p : Bytes) (s : State) : State :=
  s.modTime fun t => { t with
    ppsOut := bit (rd p 0 1) 0, ppsIn := bit (rd p 0 1) 1, ppsFall := bit (rd p 0 1) 2, width := rd p 2 2
    offset := toInt 32 (rd p 4 4), pulse := t.pulse && bit (rd p 0 1) 0 }

/-- TIME_PPS. -/
def execTimePps (m : Nat) (h : HostAnswer) (s : State) : Outc := acceptAs 0x0D07 timePpsSpec m h s

/-- TIME.SYNCE (R364, R367). -/
def timeSynceSpec : CmdSpec where
  need _ := 5
  run c p _ s :=
    checks [(decide (rd p 0 1 ≤ 1), 0), (decide (rd p 2 2 < 768), 2), (decide (rd p 4 1 ≤ 1), 4)] (postCmd c p [] s)

/-- TIME.SYNCE at P3. -/
def applySynce (p : Bytes) (s : State) : State :=
  let f (y : Synce) : Synce := { y with on := bit (rd p 1 1) 0, lane := rd p 2 2, freq := rd p 4 1 }
  synceRefresh (s.modTime fun t => if rd p 0 1 == 0 then { t with s0 := f t.s0 } else { t with s1 := f t.s1 })

/-- TIME_SYNCE. -/
def execTimeSynce (m : Nat) (h : HostAnswer) (s : State) : Outc := acceptAs 0x0D08 timeSynceSpec m h s

/-- A 16-byte entry of TIME.TXTS_READ (R367; log entry 66). -/
def txtsBytes (e : Txts) : Bytes := le 2 e.id ++ le 2 e.port ++ le 8 e.sec ++ le 4 e.ns

/-- TIME.TXTS_READ (R361, R367): drains the queue to host memory. -/
def timeTxtsReadSpec : CmdSpec where
  need _ := 8
  run _ p _ s :=
    hostReady s (replyNow
      ((hostWrite 0 (rd p 0 8) (s.time.txts.flatMap txtsBytes) s).modTime fun t => { t with txts := [] })
      (le 4 s.time.txts.length))

/-- TIME_TXTS_READ. -/
def execTimeTxtsRead (m : Nat) (h : HostAnswer) (s : State) : Outc := acceptAs 0x0D09 timeTxtsReadSpec m h s

end Sys2Proof.Machine
end

