-- ==== Sys2Proof/Machine/LedgerMem.lean ====
section
/-! DEFINITION. The attached memory: layouts and the ledger address space (LAS), regions, the states of the memory
ports, loss and rebuild, capture rings, and the MEM commands. The ledger table and the tenant rows are held as records
in State.ledger; every other byte of a module stands in its port's memory. -/

namespace Sys2Proof.Machine

/-- A memory port's record (R300). -/
def State.memPort (s : State) (p : Nat) : MemPort := s.mem.ports.get {} p

/-- Replaces a memory port's record by its image. -/
def modMemPort (p : Nat) (f : MemPort → MemPort) (s : State) : State :=
  s.modMem fun m => { m with ports := m.ports.upd {} p f }

/-- Size of the seal area A (R304). -/
def sealArea : Nat := 17408 * 2 ^ 20

/-- Size of the ledger table (Table 10.6). -/
def ledgerTableSize : Nat := 4294967296

/-- Size of the tenant rows (Table 10.6). -/
def tenantRowsSize : Nat := 134217728

/-- The units of the layout, each with its ports, the primary first (R302). -/
def memUnits (s : State) : List (List Nat) :=
  match s.mem.layout with
  | none => []
  | some (false, ps, _) => ps.map fun p => [p]
  | some (true, ps, _) => (if ps.contains 0 then [[0, 1]] else []) ++ (if ps.contains 2 then [[2, 3]] else [])

/-- Least capacity of the layout's modules, C_min (R302). -/
def capMin (s : State) : Nat := match s.mem.layout with | some (_, _, c) => c | none => 0

/-- LAS size (R302). -/
def lasSize (s : State) : Nat := (memUnits s).length * (capMin s - sealArea)

/-- Unit of a LAS address (R303). -/
def unitOf (s : State) (a : Nat) : Nat := a / 4096 % max 1 (memUnits s).length

/-- Module address of a LAS address (R303). -/
def moduleAddr (s : State) (a : Nat) : Nat := a / (4096 * max 1 (memUnits s).length) * 4096 + a % 4096

/-- LAS address of a module address of a port (R303). -/
def lasOf (s : State) (p a : Nat) : Nat :=
  let u := (memUnits s).findIdx fun l => l.contains p
  a / 4096 * 4096 * (memUnits s).length + u * 4096 + a % 4096

/-- A member carries reads: it is ONLINE, and no MEM.OFFLINE has stopped it (R305, R310, R312). -/
def memReads (s : State) (p : Nat) : Bool := (s.memPort p).st == 6 && !(s.memPort p).stopped

/-- A member takes writes: ONLINE, or RESILVERING (R312). -/
def memWrites (s : State) (p : Nat) : Bool :=
  ((s.memPort p).st == 6 || (s.memPort p).st == 4) && !(s.memPort p).stopped

/-- Members of a unit. -/
def unitPorts (s : State) (u : Nat) : List Nat := (memUnits s).getD u []

/-- A unit with no ONLINE member is lost (R305, R323). -/
def unitLost (s : State) (u : Nat) : Bool := !(unitPorts s u).any (memReads s)

/-- Every ONLINE member of a unit reads as poison, since a viral indication (R298). -/
def unitPoison (s : State) (u : Nat) : Bool :=
  !unitLost s u && (unitPorts s u).all fun p => !memReads s p || (s.memPort p).viral

/-- The member whose data a read of a unit takes: the first ONLINE one without a viral indication (R298, R305). -/
def readPort (s : State) (u : Nat) : Nat :=
  ((unitPorts s u).filter fun p => memReads s p && !(s.memPort p).viral).headD ((unitPorts s u).headD 0)

/-- The member a read of a unit goes to: of two ONLINE ones that with fewer reads outstanding, the primary of equals
(R305). -/
def busyPort (s : State) (u : Nat) : Nat :=
  match (unitPorts s u).filter (memReads s) with
  | [p, q] => if (s.memPort q).reads < (s.memPort p).reads then q else p
  | l => l.headD ((unitPorts s u).headD 0)

/-- Adds to a MEM.STATS count of a port. -/
def memCount (p i n : Nat) (s : State) : State := modMemPort p (fun m => { m with counts := addAt m.counts i n }) s

/-- One more burst is read at a port (R305, R324). -/
def readBurst (p : Nat) (s : State) : State :=
  memCount p 0 1 (modMemPort p (fun m => { m with reads := m.reads + 1 }) (countAct 5 1 s))

/-- Some of a module's outstanding reads have completed since the last one; how many is open (R305; log entry 223). -/
def readsDone (p : Nat) (s : State) : State :=
  modMemPort p (fun m => { m with reads := min m.reads (takeFree s).1 }) (takeFree s).2

/-- A read of the burst at module address `a` returned poison and no other module has it: MEM_POISON (Table 10.3). -/
def poisonTell (p a : Nat) (s : State) : State := detect (391 + p) (a / 256) 0 [] (memCount p 3 1 s)

/-- A read of the burst at module address `a` returned poison at `p`, and module `q` of the pair has given the data: the
burst is rewritten to `p` (Table 10.3). -/
def poisonRepair (p q a : Nat) (s : State) : State :=
  let b := a / 256 * 256
  let bs := (s.memPort q).mem.readN b 256
  detect (387 + p) (a / 256) 0 [] (memCount p 2 1 (memCount p 1 1 (modMemPort p (fun m => { m with
    mem := m.mem.writeN b bs, poison := m.poison.filter (· != a / 256) }) s)))

/-- A burst of the LAS is read at a member of its unit; one that a viral member answers with poison is repaired from its
partner, or told (R298, R301, R305). -/
def countRead (u a : Nat) (s : State) : State :=
  let l := (unitPorts s u).filter (memReads s)
  let s := if l.length = 2 then eachDo l readsDone s else s
  let p := busyPort s u
  let s := readBurst p s
  if !(s.memPort p).viral then s
  else if unitPoison s u then poisonTell p (moduleAddr s a) s
  else poisonRepair p (readPort s u) (moduleAddr s a) (readBurst (readPort s u) s)

/-- The 256-byte bursts of `n` bytes from `a`, as start and length (R316). -/
def burstsFrom : Nat → Nat → Nat → List (Nat × Nat)
  | 0, _, _ => []
  | fuel + 1, a, n => if n = 0 then [] else
      let k := min n (256 - a % 256)
      (a, k) :: burstsFrom fuel (a + k) (n - k)

/-- The bursts of a range. -/
def bursts (a n : Nat) : List (Nat × Nat) := burstsFrom (n / 256 + 2) a n

/-- A range of the LAS touches a lost unit. -/
def rangeLost (s : State) (a n : Nat) : Bool := (bursts a n).any fun b => unitLost s (unitOf s b.1)

/-- A range of the LAS touches a unit that answers with poison. -/
def rangePoison (s : State) (a n : Nat) : Bool := (bursts a n).any fun b => unitPoison s (unitOf s b.1)

/-- The LEDGER region's base, if there is one. -/
def ledgerBase (s : State) : Option Nat := (s.mem.regions.find? fun r => r.2.kind == 1).map fun r => r.2.base

/-- LAS address of a ledger record position (R275, R307). -/
def recordLas (s : State) (pos : Nat) : Nat := (ledgerBase s).getD 0 + 128 * pos

/-- LAS address of a tenant row (R279, R307). -/
def rowLas (s : State) (t : Nat) : Nat := (ledgerBase s).getD 0 + ledgerTableSize + 128 * t

/-- The 128 bytes of a ledger record (Table 9.4). -/
def recordBytes (r : LRec) : Bytes :=
  le 3 r.tenant ++ le 1 128 ++ le 4 r.hash ++ part r.block 0 37 ++ le 1 r.policy ++ le 1 r.c.last ++ zeros 1 ++
    le 4 r.minute ++ le 4 r.firstMin ++ [r.c.inPL, r.c.inPH, r.c.egPL, r.c.egPH].flatMap (le 5) ++
    [r.c.inBL, r.c.inBH, r.c.egBL, r.c.egBH].flatMap (le 6) ++ [r.c.d0, r.c.d1, r.c.d2, r.c.d3].flatMap (le 5) ++
    le 4 r.serial ++ zeros 4

/-- The 64 bytes of half a tenant row, or of a tenant-minute record (Table 9.7). -/
def rowBytes (tenant : Nat) (part_ : Bool) (r : Row) : Bytes :=
  le 4 r.minute ++ le 3 tenant ++ le 1 (b2n r.agg + 2 * b2n part_) ++ le 4 r.flows ++ le 6 r.inP ++ le 6 r.egP ++
    le 8 r.inB ++ le 8 r.egB ++ [0, 1, 2, 3].flatMap fun i => le 6 (nth r.drops i)

/-- A byte of the LAS as its unit holds it. -/
def lasByte (s : State) (a : Nat) : Byte :=
  let raw := (s.memPort (readPort s (unitOf s a))).mem.read (moduleAddr s a)
  match ledgerBase s with
  | none => raw
  | some b =>
    if a < b || b + ledgerTableSize + tenantRowsSize ≤ a then raw
    else if a < b + ledgerTableSize then
      match s.ledger.recs.find ((a - b) / 128) with
      | some r => (recordBytes r).getD ((a - b) % 128) 0
      | none => 0
    else
      let o := a - b - ledgerTableSize
      match s.ledger.rows.find (o / 64) with
      | some r => (rowBytes (o / 128) false r).getD (o % 64) 0
      | none => 0

/-- Bytes of the LAS, not counted. -/
def lasBytes (s : State) (a n : Nat) : Bytes := (List.range n).map fun i => lasByte s (a + i)

/-- The counts of a read of the LAS. -/
def lasReadCount (a n : Nat) (s : State) : State := eachDo (bursts a n) (fun b => countRead (unitOf s b.1) b.1) s

/-- A burst written to every member of its unit that takes writes (R305, R312). -/
def lasBurst (a : Nat) (bs : Bytes) (s : State) : State :=
  eachDo ((unitPorts s (unitOf s a)).filter (memWrites s)) (fun p s =>
    memCount p 1 1 (modMemPort p (fun m => { m with mem := m.mem.writeN (moduleAddr s a) bs }) s)) (countAct 5 1 s)

/-- Bytes written to the LAS, split into bursts (R316). -/
def lasWrite (a : Nat) (bs : Bytes) (s : State) : State :=
  eachDo (bursts a bs.length) (fun b => lasBurst b.1 ((bs.drop (b.1 - a)).take b.2)) s

/-- Bytes a mover channel has written (Table 10.11). -/
def moverBytes (ch n : Nat) (s : State) : State :=
  s.modXdc fun t => t.upd {} ch fun x => { x with bytes := (x.bytes + n) % 2 ^ 64 }

/-- A free number of bursts read and written at a module port. -/
def portTraffic (p : Nat) (s : State) : State :=
  memCount p 1 (takeFree (takeFree s).2).1 (memCount p 0 (takeFree s).1 (takeFree (takeFree s).2).2)

/-- A free number of bytes written by a mover channel. -/
def channelTraffic (c : Nat) (s : State) : State := moverBytes c (takeFree s).1 (takeFree s).2

/-- What work on ledger records and rows adds to the burst counts of the module ports and to the byte counts of mover
channels: the spec numbers neither, so each amount is free (R314, R322, R324; log entry 186). -/
def ledgerTraffic (chs : List Nat) (s : State) : State :=
  eachDo chs channelTraffic (eachDo ([0, 1, 2, 3].filter (memReads s)) portTraffic s)

/-- Bytes written to a ring of `size` bytes at `base`, wrapping (R317). -/
def ringWriteLas (base size off : Nat) (bs : Bytes) (s : State) : State :=
  if size = 0 then s
  else
    let o := off % size
    let k := min bs.length (size - o)
    lasWrite base (bs.drop k) (lasWrite (base + o) (bs.take k) s)

/-- A state change of a memory port, told (R325). -/
def memState (p st reason : Nat) (s : State) : State :=
  let old := (s.memPort p).st
  let s := modMemPort p (fun m => { m with
    st := st
    since := s.beat
    stopped := false
    reads := 0
    reason := if st = 8 then reason else m.reason
    perst := if [0, 7, 8, 9].contains st then false else m.perst }) s
  let s := if old = 7 && st != 7 then causeEnd (395 + p) 0 s else s
  raiseEvent 0x0B01 (le 1 p ++ le 1 old ++ le 1 st ++ le 1 reason) s

/-- MEMp_PRSNT_N has been asserted for 100 ms: bring-up begins from EMPTY, or from FAILED at a new presence edge (R300). What
the module holds is not known (log entry 224). -/
def memPresence (p : Nat) (s : State) : State :=
  let m := s.memPort p
  if m.st == 0 || (m.st == 8 && !m.present) then
    memState p 1 0 (modMemPort p (fun m => { m with present := true, perst := false, viral := false, poison := [], mem := [] }) s)
  else modMemPort p (fun m => { m with present := true }) s

/-- MEM_PRESENCE_STABLE. -/
def execMemPresenceStable (p : Nat) (s : State) : Outc := need (decide (p < 4)) "memory port" (.next (memPresence p s))

/-- MEM_PERST_RELEASE: after the first 100 ms of TRAINING (R300). -/
def execMemPerstRelease (p : Nat) (s : State) : Outc :=
  need (decide (p < 4)) "memory port"
    (.next (whenDo ((s.memPort p).st == 1 && !(s.memPort p).perst && timeCome s ((s.memPort p).since + 100000))
      (modMemPort p fun m => { m with perst := true, since := s.beat }) s))

/-- The link reaches L0: in CXL mode at a supported rate and width it goes on to enumeration, any other result is FAILED
with reason LINK (R298, R300). The rate is in GT/s. -/
def memLink (p rate width : Nat) (cxl : Bool) (s : State) : State :=
  if (s.memPort p).st == 1 && (s.memPort p).perst then
    let s := modMemPort p (fun m => { m with rate := rate, width := width }) s
    if cxl && (rate == 32 || rate == 16) && (width == 8 || width == 4) then memState p 2 0 s else memState p 8 1 s
  else s

/-- MEM_LINK_L0. -/
def execMemLinkL0 (p rate width : Nat) (cxl : Bool) (s : State) : Outc :=
  need (decide (p < 4)) "memory port" (.next (memLink p rate width cxl s))

/-- MEM_TRAINING_TIMEOUT: no L0 within 200 ms of the release of MEMp_PERST_N (R300). -/
def execMemTrainingTimeout (p : Nat) (s : State) : Outc :=
  need (decide (p < 4)) "memory port"
    (.next (whenDo ((s.memPort p).st == 1 && (s.memPort p).perst && timeCome s ((s.memPort p).since + 200000))
      (memState p 8 1) s))

/-- The rounded capacity C (R299). -/
def capacityOf (n : Nat) : Nat := n / 2 ^ 28 * 2 ^ 28

/-- The reason an enumeration fails, 0 for none (R298, R299). -/
def identFault (i : MemIdent) : Nat :=
  if !i.answered then 6
  else if !i.type3 then 3
  else if i.mld then 2
  else if decide (capacityOf i.capacity < 64 * 10 ^ 9) || decide (10 ^ 12 < capacityOf i.capacity) then 4
  else if !i.mediaReady then 5
  else 0

/-- Enumeration ends (R299, R300). -/
def memEnumerated (p : Nat) (i : MemIdent) (s : State) : State :=
  if (s.memPort p).st == 2 then
    if identFault i == 0 then memState p 3 0 (modMemPort p (fun m => { m with cap := capacityOf i.capacity }) s)
    else memState p 8 (identFault i) s
  else s

/-- MEM_ENUMERATION_DONE. -/
def execMemEnumerationDone (p : Nat) (ident : MemIdent) (s : State) : Outc :=
  need (decide (p < 4)) "memory port" (.next (memEnumerated p ident s))

/-- A module in service leaves it: the boundary applies the loss (R309). -/
def memLosing (p reason : Nat) (s : State) : State :=
  if [2, 3, 4, 5, 6].contains (s.memPort p).st && (s.memPort p).losing.isNone then
    modMemPort p (fun m => { m with losing := some reason }) s
  else s

/-- MEM_LINK_DOWN (R301, R309). -/
def execMemLinkDown (p : Nat) (s : State) : Outc := need (decide (p < 4)) "memory port" (.next (memLosing p 16 s))

/-- MEMp_PRSNT_N has been deasserted for 100 μs: a module in service is lost, one that has left is gone (R300, R309). -/
def memAbsent (p : Nat) (s : State) : State :=
  let s := memLosing p 17 (modMemPort p (fun m => { m with present := false }) s)
  if [7, 9].contains (s.memPort p).st then memState p 0 0 s else s

/-- MEM_PRESENCE_LOST. -/
def execMemPresenceLost (p : Nat) (s : State) : Outc := need (decide (p < 4)) "memory port" (.next (memAbsent p s))

/-- MEM_REQUEST_TIMEOUT (R301, R309). -/
def execMemRequestTimeout (p : Nat) (s : State) : Outc :=
  need (decide (p < 4)) "memory port" (.next (memLosing p 18 (memCount p 4 1 s)))

/-- MEM_BAD_COMPLETION: discarded, counted and logged (R301, R464). -/
def execMemBadCompletion (p code : Nat) (s : State) : Outc :=
  need (decide (p < 4)) "memory port" (.next (partnerLog 2 p code (memCount p 5 1 s)))

/-- MEM_VIRAL_INDICATION: logged, and every later read counts as poison (R298, R464). -/
def execMemViralIndication (p : Nat) (s : State) : Outc :=
  need (decide (p < 4)) "memory port" (.next (partnerLog 2 p 4 (modMemPort p (fun m => { m with viral := true }) s)))

/-- MEM_HEALTH_RECORD (R301). -/
def execMemHealthRecord (p : Nat) (record : Bytes) (s : State) : Outc :=
  need (decide (p < 4)) "memory port"
    (.next (raiseEvent 0x0B03 (le 1 p ++ le 1 record.length ++ zeros 6 ++ record) s))

/-- A rebuild of a port is over or abandoned. -/
def memRebuildEnd (p : Nat) (s : State) : State := modMemPort p (fun m => { m with rebuilt := false }) s

/-- The loss of a module at the boundary (R309, R312): LOST with its fault and event; a copy that was being rebuilt from
it returns to READY. -/
def memLoss (p : Nat) (s : State) : State :=
  match (s.memPort p).losing with
  | none => s
  | some reason =>
    let s := memRebuildEnd p (modMemPort p (fun m => { m with losing := none }) s)
    let order := (s.memPort p).leaving
    let s := memState p 7 reason (modMemPort p (fun m => { m with leaving := none }) s)
    let s := match order with | some o => answer o 0x0B01 0 [] s | none => s
    let s := detect (395 + p) 0 0 [] s
    let q := Nat.xor p 1
    if (s.memPort q).st == 4 then memRebuildEnd q (memState q 3 0 s) else s

/-- A copy that was resilvered becomes ONLINE at the boundary (R312). -/
def memResilvered (p : Nat) (s : State) : State :=
  if (s.memPort p).st == 4 && (s.memPort p).rebuilt then
    raiseEvent 0x0B02 (le 1 p) (memState p 6 0 (memRebuildEnd p s))
  else s

/-- A module that left and is gone (R300). -/
def memGone (p : Nat) (s : State) : State :=
  if [7, 9].contains (s.memPort p).st && !(s.memPort p).present then memState p 0 0 s else s

/-- A module that MEM.OFFLINE takes out gets no new requests from the next boundary (R310). -/
def memStop (p : Nat) (s : State) : State :=
  whenDo ((s.memPort p).leaving.isSome && !(s.memPort p).stopped)
    (modMemPort p fun m => { m with stopped := true, stopAt := s.beat }) s

/-- A leaving module that gets no new requests, and whose outstanding ones have completed, is OFFLINE; MEM.OFFLINE is
answered (R310). -/
def memOfflineReached (p : Nat) (s : State) : State :=
  match (s.memPort p).leaving with
  | some o =>
    if (s.memPort p).stopped then
      answerOk o [] (memState p 9 32 (modMemPort p (fun m => { m with leaving := none }) s))
    else s
  | none => s

/-- MEM_TIMEOUT after its requests stopped a leaving module has none outstanding (R309, R310). -/
def memOfflineDue (p : Nat) (s : State) : State :=
  whenDo ((s.memPort p).stopped && decide ((s.memPort p).stopAt + s.mem.timeout ≤ s.beat)) (memOfflineReached p) s

/-- The memory ports at a boundary: modules that have gone and copies that are complete, then losses, then modules that leave
by command, whose outstanding requests have completed where `todo` says so (R300, R309, R310, R312; log entry 225). -/
def memBoundary (todo : List Pend) (s : State) : State :=
  let s := eachDo [0, 1, 2, 3] (fun p s => memResilvered p (memGone p s)) s
  let s := eachDo [0, 1, 2, 3] memLoss s
  let s := runPosted evMemOffline todo (fun r => memOfflineReached (rd r 0 1)) s
  eachDo [0, 1, 2, 3] (fun p s => memStop p (memOfflineDue p s)) s

/-- The seal area's bytes of module `q`, at the addresses of the same slots of module `p` (R304). -/
def sealCopy (s : State) (q p : Nat) : List Host.Cell :=
  let top := (s.memPort q).cap - sealArea
  ((s.memPort q).mem.only fun a => decide (top ≤ a)).map fun c => (c.1 + (s.memPort p).cap - (s.memPort q).cap, c.2)

/-- Bytes of module `q` that lie in a defined region, by module address (R312). -/
def regionBytes (s : State) (q : Nat) : Memory :=
  (s.memPort q).mem.only fun a => s.mem.regions.any fun r =>
    decide (r.2.base ≤ lasOf s q a) && decide (lasOf s q a < r.2.base + r.2.size)

/-- RESILVER_COMPLETE: the copy holds what the survivor holds of every region, then its seal area; the module is ONLINE at
the next boundary (R312). -/
def execResilverComplete (p : Nat) (s : State) : Outc :=
  need (decide (p < 4)) "memory port" (.next (whenDo ((s.memPort p).st == 4 && (s.memPort p).leaving.isNone)
    (modMemPort p fun m => { m with mem := Memory.lay (sealCopy s (Nat.xor p 1) p) (regionBytes s (Nat.xor p 1)), rebuilt := true }) s))

/-- The lowest-numbered ONLINE port (R304). -/
def lowestOnline (s : State) : Option Nat := [0, 1, 2, 3].find? (memReads s)

/-- ZEROING_COMPLETE: zeros outside the seal area, and the seal area of the lowest-numbered ONLINE module, at the same
slots; the unit rejoins with the next roll (R313). -/
def execZeroingComplete (p : Nat) (s : State) : Outc :=
  need (decide (p < 4)) "memory port" (.next (whenDo ((s.memPort p).st == 5 && (s.memPort p).leaving.isNone)
    (modMemPort p fun m => { m with
      rebuilt := true
      mem := match lowestOnline s with
        | some q => Memory.lay (sealCopy s q p) []
        | none => [] }) s))

/-- Units whose members are being zeroed and have finished rejoin as a roll begins: their records are invalid, their rows
zero (R313). -/
def rejoinUnits (s : State) : State :=
  let back := [0, 1, 2, 3].filter fun p => (s.memPort p).st == 5 && (s.memPort p).rebuilt
  let u (a : Nat) : Bool := (unitPorts s (unitOf s a)).any back.contains
  if back.isEmpty then s
  else
    let s := s.modLedger fun l => { l with
      recs := l.recs.filter fun e => !u (recordLas s e.1)
      rows := l.rows.filter fun e => !u (rowLas s (e.1 / 2)) }
    eachDo back (fun p s => memState p 6 0 (memRebuildEnd p s)) s

/-- MEM_OFFLINE_REACHED (R310): the state changes at the boundary (R325). -/
def execMemOfflineReached (p : Nat) (s : State) : Outc :=
  need (decide (p < 4)) "memory port" (.next (atBoundary evMemOffline (le 1 p) s))

/-- A pair runs degraded: one member carries it alone (R290, R312). -/
def pairDegraded (s : State) : Bool :=
  (memUnits s).any fun u => u.length == 2 && u.any (memReads s) && !u.all (memReads s)

/-- Some unit is lost (R290, R313). -/
def anyUnitLost (s : State) : Bool := (List.range (memUnits s).length).any (unitLost s)

/-- ST_MEM_STATE. -/
def stMemState : Nat := 0x0B01

/-- A port operand. -/
def memPortArg (p : Bytes) (v : Verdict) : Verdict := checks [(decide (rd p 0 1 < 4), 0)] v

/-- Role of a port in the layout: 0 none, 1 striped unit, 2 primary, 3 secondary (log entry 93). -/
def memRole (s : State) (p : Nat) : Nat :=
  match s.mem.layout with
  | none => 0
  | some (mirrored, ps, _) => if !ps.contains p then 0 else if !mirrored then 1 else if p % 2 = 0 then 2 else 3

/-- What a running rebuild still has to do: a free value; 0 with none running. -/
def rebuildLeft (s : State) (i : Nat) : Nat × State :=
  if (s.memPort i).st == 4 || (s.memPort i).st == 5 then takeFree s else (0, s)

/-- The response of MEM.STATUS but for the rebuild's rest. -/
def memStatusBytes (s : State) (i : Nat) : Bytes :=
  let m := s.memPort i
  le 1 m.st ++ le 1 m.reason ++ le 1 m.rate ++ le 1 m.width ++ le 8 m.cap ++ le 1 (memRole s i)

/-- MEM.STATUS (R324; the layout of the response is log entry 93). The progress of a rebuild under way is open
(log entry 44). -/
def memStatusSpec : CmdSpec where
  need _ := 1
  run _ p _ s := memPortArg p (
    replyNow (rebuildLeft s (rd p 0 1)).2 (memStatusBytes s (rd p 0 1) ++ le 8 (rebuildLeft s (rd p 0 1)).1))

/-- MEM_STATUS. -/
def execMemStatus (m : Nat) (h : HostAnswer) (s : State) : Outc := acceptAs 0x0B01 memStatusSpec m h s

/-- The port masks that a layout allows. -/
def layoutOk (mirrored : Bool) (mask : Nat) : Bool :=
  decide (mask < 16) && (if mirrored then [3, 12, 15].contains mask else [1, 2, 4].contains (bitsOf mask 4).length)

/-- The ports of the new layout go ONLINE, the others leave it; the capacity is the smallest of theirs. -/
def takeLayout (mirrored : Bool) (ps : List Nat) (s : State) : State :=
  let cMin := (ps.map fun i => (s.memPort i).cap).foldl min ((s.memPort (ps.headD 0)).cap)
  eachDo [0, 1, 2, 3] (fun i s =>
    if ps.contains i then (if (s.memPort i).st == 6 then s else memState i 6 32 s)
    else if (s.memPort i).st == 6 then memState i 3 32 s else s)
    (s.modMem fun m => { m with layout := some (mirrored, ps, cMin) })

/-- MEM.LAYOUT (R302). Modules that were ONLINE and are not named go back to READY. -/
def memLayoutSpec : CmdSpec where
  need _ := 2
  run _ p _ s :=
    let ps := bitsOf (rd p 1 1) 4
    checks [(decide (rd p 0 1 ≤ 1), 0), (layoutOk (rd p 0 1 == 1) (rd p 1 1), 1)]
      (require (s.ledger.st == 0 && s.mem.regions.isEmpty && ps.all fun i => [3, 6].contains (s.memPort i).st) stMemState
        (replyNow (takeLayout (rd p 0 1 == 1) ps s) (le 8 (lasSize (takeLayout (rd p 0 1 == 1) ps s)))))

/-- MEM_LAYOUT. -/
def execMemLayout (m : Nat) (h : HostAnswer) (s : State) : Outc := acceptAs 0x0B02 memLayoutSpec m h s

/-- Whether a region's users run (R306): the ledger, a bound capture, a Lantern stream, or a host chain. -/
def regionUsed (s : State) (r : Nat) : Bool :=
  match (s.mem.regions.get {} r).kind with
  | 1 => s.ledger.st != 0 || s.mem.zeroing
  | 2 => s.mem.captures.any fun c => c.2.region == r
  | 3 => s.lantern.streams.any fun c => c.2.kind == 1 && c.2.region == r
  | 4 => (s.xdc.get {} 6).go || (s.xdc.get {} 7).go
  | _ => false

/-- Power of two. -/
def isPow2 (n : Nat) : Bool := (List.range 64).any fun k => n == 2 ^ k

/-- The checks of MEM.REGION's fields. -/
def regionChecks (s : State) (p : Bytes) : List (Bool × Nat) :=
  let r := rd p 0 1; let kind := rd p 1 1; let base := rd p 8 8; let size := rd p 16 8
  let others := s.mem.regions.del r
  let count := (others.filter fun e => e.2.kind == kind).length
  let ring := kind == 2 || kind == 3
  [(decide (r < 64), 0),
    (decide (kind ≤ 4) && !(kind == 1 && decide (1 ≤ count)) && !(kind == 3 && decide (16 ≤ count)), 1),
    (kind == 0 || (base % 2 ^ 20 == 0 && (!ring || base % (max 1 size) == 0)), 8),
    (kind == 0 || (size % 2 ^ 20 == 0 && decide (1 ≤ size) && (!ring || isPow2 size) && decide (base + size ≤ lasSize s) &&
      !others.any fun e => decide (e.2.base < base + size) && decide (base < e.2.base + e.2.size)), 16)]

/-- Bytes put into every module of their unit's layout, not counted. -/
def lasPut (a : Nat) (bs : Bytes) (s : State) : State :=
  eachDo (unitPorts s (unitOf s a)) (fun p s =>
    modMemPort p (fun m => { m with mem := m.mem.writeN (moduleAddr s a) bs }) s) s

/-- The ledger's records and rows as the modules' bytes hold them (R275, R279, R307): what stands there once the region is no
longer the ledger's. -/
def ledgerToBytes (s : State) : State :=
  let s := eachDo s.ledger.recs (fun e s => lasPut (recordLas s e.1) (recordBytes e.2) s) s
  eachDo s.ledger.rows (fun e s => lasPut (rowLas s (e.1 / 2) + 64 * (e.1 % 2)) (rowBytes (e.1 / 2) false e.2) s) s

/-- A region is set, or freed with kind 0. A region that was the ledger's leaves its records as bytes. -/
def setRegion (p : Bytes) (s : State) : State :=
  let r := rd p 0 1; let kind := rd p 1 1
  let s := if (s.mem.regions.get {} r).kind = 1 then
    (ledgerToBytes s).modLedger fun l => { l with recs := [], rows := [] } else s
  s.modMem fun m => { m with
    zeroing := m.zeroing || kind == 1
    regions := if kind = 0 then m.regions.del r
      else m.regions.put r { kind := kind, base := rd p 8 8, size := rd p 16 8 } }

/-- Table and rows of a new LEDGER region are zeroed in every module (R307). -/
def applyMemRegion (order : Nat) (p : Bytes) (s : State) : State :=
  let base := rd p 8 8
  let inside (q a : Nat) : Bool :=
    decide (base ≤ lasOf s q a) && decide (lasOf s q a < base + ledgerTableSize + tenantRowsSize) &&
      decide (a < capMin s - sealArea)
  let ps := (memUnits s).flatten
  let s := (s.modLedger fun l => { l with recs := [], rows := [] }).modMem fun m => { m with
    zeroing := false
    ports := m.ports.map fun e =>
      (e.1, if ps.contains e.1 then { e.2 with mem := e.2.mem.only fun a => !inside e.1 a } else e.2) }
  answerBeat order s

/-- MEM.REGION (R306, R307). For kind LEDGER it answers when table and rows have been zeroed, at the next boundary (log entry
226). -/
def memRegionSpec : CmdSpec where
  need _ := 24
  run c p _ s :=
    checks (regionChecks s p) (require (s.mem.layout.isSome && !regionUsed s (rd p 0 1)) stMemState
      (if rd p 1 1 = 1 then postCmd c p [] (setRegion p s) else replyNow (setRegion p s) (le 8 s.beat)))

/-- MEM_REGION. -/
def execMemRegion (m : Nat) (h : HostAnswer) (s : State) : Outc := acceptAs 0x0B03 memRegionSpec m h s

/-- MEM.ONLINE (R300, R311). -/
def memOnlineSpec : CmdSpec where
  need _ := 1
  run _ p _ s := memPortArg p (
    let i := rd p 0 1
    let m := s.memPort i
    if [7, 8, 9].contains m.st then
      replyNow (memState i 1 32 (modMemPort i (fun m => { m with perst := false, viral := false, poison := [] }) s)) []
    else if m.st == 3 && memRole s i != 0 then
      if m.cap < capMin s then .refuse 0x0B02 0
      else if memRole s i != 1 && memReads s (Nat.xor i 1) then replyNow (memState i 4 32 s) []
      else replyNow (memState i 5 32 s) []
    else .refuse stMemState 0)

/-- MEM_ONLINE. -/
def execMemOnline (m : Nat) (h : HostAnswer) (s : State) : Outc := acceptAs 0x0B04 memOnlineSpec m h s

/-- MEM.OFFLINE (R310): answered when OFFLINE is reached. -/
def memOfflineSpec : CmdSpec where
  need _ := 1
  run c p _ s := memPortArg p (
    let i := rd p 0 1
    let m := s.memPort i
    let role := memRole s i
    let go := replyLater (modMemPort i (fun m => { m with leaving := some c.order }) s)
    let idle := s.ledger.st == 0 && !(s.mem.regions.any fun r => regionUsed s r.1)
    if m.leaving.isSome then .refuse stMemState 0
    else if m.st == 6 && decide (2 ≤ role) && (s.memPort (Nat.xor i 1)).st == 6 then go
    else if m.st == 6 && role == 1 && idle then go
    else if m.st == 4 || m.st == 5 then replyLater (memRebuildEnd i (modMemPort i (fun m => { m with leaving := some c.order }) s))
    else .refuse stMemState 0)

/-- MEM_OFFLINE. -/
def execMemOffline (m : Nat) (h : HostAnswer) (s : State) : Outc := acceptAs 0x0B05 memOfflineSpec m h s

/-- MEM.REBUILD_RATE (R312). -/
def memRebuildRateSpec : CmdSpec where
  need _ := 1
  run _ p _ s :=
    let r := rd p 0 1
    checks [(decide (1 ≤ r) && decide (r ≤ 16), 0)] (replyNow (s.modMem fun m => { m with rate := r }) [])

/-- MEM_REBUILD_RATE. -/
def execMemRebuildRate (m : Nat) (h : HostAnswer) (s : State) : Outc := acceptAs 0x0B06 memRebuildRateSpec m h s

/-- The checks of MEM.CAPTURE's fields for a capture that is set. -/
def captureChecks (s : State) (p : Bytes) : List (Bool × Nat) :=
  let id := rd p 0 1; let r := rd p 1 1; let snap := rd p 2 2
  let free := !s.mem.captures.any fun c => c.1 != id && c.2.region == r
  [(decide (1 ≤ id), 0), (decide (r < 64) && (s.mem.regions.get {} r).kind == 2 && free, 1),
    (decide (64 ≤ snap) && decide (snap ≤ 1024) && snap % 64 == 0, 2), (decide (rd p 4 1 ≤ 1), 4)]

/-- MEM.CAPTURE (R308). -/
def memCaptureSpec : CmdSpec where
  need _ := 5
  run _ p _ s :=
    let id := rd p 0 1; let r := rd p 1 1; let snap := rd p 2 2
    if r = 0xFF then
      checks [(decide (1 ≤ id), 0)] (replyNow (s.modMem fun m => { m with captures := m.captures.del id }) [])
    else
      checks (captureChecks s p)
        (let c : Capture := { region := r, snap := snap, stop := rd p 4 1 == 1 }
         replyNow (s.modMem fun m => { m with captures := m.captures.put id c }) [])

/-- MEM_CAPTURE. -/
def execMemCapture (m : Nat) (h : HostAnswer) (s : State) : Outc := acceptAs 0x0B07 memCaptureSpec m h s

/-- MEM.CAPTURE_ACK (R308). -/
def memCaptureAckSpec : CmdSpec where
  need _ := 16
  run _ p _ s :=
    match s.mem.captures.find (rd p 0 1) with
    | none => .refuse 4 0
    | some c =>
      checks [(decide (c.rd ≤ rd p 8 8) && decide (rd p 8 8 ≤ c.wr), 8)]
        (replyNow (s.modMem fun m => { m with captures := m.captures.upd {} (rd p 0 1) fun c => { c with rd := rd p 8 8 } })
          (le 8 c.wr))

/-- MEM_CAPTURE_ACK. -/
def execMemCaptureAck (m : Nat) (h : HostAnswer) (s : State) : Outc := acceptAs 0x0B08 memCaptureAckSpec m h s

/-- MEM.STATS (R324). -/
def memStatsSpec : CmdSpec where
  need _ := 2
  run _ p _ s :=
    let i := rd p 0 1
    let clear := bit (rd p 1 1) 0
    if i = 0xFF then
      replyNow (if clear then s.modMem fun m => { m with counts := [0, 0, 0, 0] } else s) (s.mem.counts.flatMap (le 8))
    else memPortArg p (replyNow (if clear then modMemPort i (fun m => { m with counts := [0, 0, 0, 0, 0, 0] }) s else s)
      ((s.memPort i).counts.flatMap (le 8)))

/-- MEM_STATS. -/
def execMemStats (m : Nat) (h : HostAnswer) (s : State) : Outc := acceptAs 0x0B09 memStatsSpec m h s

/-- Adds one to a device count of captures. -/
def captureCount (i : Nat) (s : State) : State := s.modMem fun m => { m with counts := addAt m.counts i 1 }

/-- A captured packet's record joins its quadrant's queue (R308). -/
def captureQueue (q id : Nat) (header frame : Bytes) (s : State) : State :=
  if !s.mem.captures.has id then captureCount 2 s
  else if 1024 ≤ (s.mem.capq.get [] q).length then captureCount 1 s
  else s.modMem fun m => { m with capq := m.capq.upd [] q (· ++ [(id, header, frame)]) }

/-- The record at the front of a quadrant's capture queue is written, or discarded (R308, R323). Bytes 0 to 3 and 6 to 7
of its header, and bit 0 of FLAGS, are filled from the binding. -/
def captureWrite (q : Nat) (s : State) : State :=
  match s.mem.capq.get [] q with
  | [] => s
  | (id, header, frame) :: rest =>
    let s := s.modMem fun m => { m with capq := m.capq.put q rest }
    match s.mem.captures.find id with
    | none => captureCount 2 s
    | some c =>
      let r := s.mem.regions.get {} c.region
      let n := 64 + c.snap
      if rangeLost s (r.base + c.wr % max 1 r.size) n then captureCount 3 s
      else if c.stop && decide (c.rd + r.size < c.wr + n) then
        let tell := mayTell c.told 1000000 s.beat
        let c' := { c with told := if tell then s.beat + 1 else c.told }
        let s := captureCount 0 (s.modMem fun m => { m with captures := m.captures.put id c' })
        if tell then raiseEvent 0x0B04 (le 1 id) s else s
      else
        let cut := decide (c.snap < frame.length)
        let rec_ := le 4 c.seq ++ part header 4 2 ++ le 2 (min frame.length c.snap) ++ part header 8 24 ++
          le 1 (rd header 32 1 + b2n cut) ++ part header 33 31 ++ part frame 0 c.snap
        let s := ringWriteLas r.base r.size c.wr rec_ s
        let c' := { c with seq := (c.seq + 1) % 2 ^ 32, wr := c.wr + n }
        moverBytes 4 n (s.modMem fun m => { m with captures := m.captures.put id c' })

end Sys2Proof.Machine
end

