-- ==== Sys2Proof/Machine/Mover.lean ====
section
/-! DEFINITION. The memory mover: the arbiters of the module ports, descriptor chains of channels 6 and 7, and what stops a
channel. -/

namespace Sys2Proof.Machine

/-- A channel's record. -/
def State.xdcOf (s : State) (c : Nat) : Xdc := s.xdc.get {} c

/-- Replaces a channel's record by its image. -/
def modXdcOf (c : Nat) (f : Xdc → Xdc) (s : State) : State := s.modXdc fun t => t.upd {} c f

/-- Weights of channels 0 to 7 at a module port, in bursts a round (R315). -/
def moverWeights : List Nat := [12, 12, 12, 12, 2, 2, 1, 1]

/-- LAS address of the request at the front of a channel's line: a released flush, a capture record or a Lantern record. The
host lines' requests come with their descriptors (R314). -/
def waitingAt (s : State) (c : Nat) : Option Nat :=
  if c < 4 then
    match (s.ledger.quads.get {} c).queue with
    | r :: _ =>
      if !r.released then none
      else some (if r.block.isEmpty then rowLas s r.tenant else recordLas s (4 * (r.hash % 2 ^ 23)))
    | [] => none
  else if c = 4 then
    (([0, 1, 2, 3].filterMap fun q => (s.mem.capq.get [] q).head?).filterMap fun e =>
      (s.mem.captures.find e.1).map fun x =>
        let r := s.mem.regions.get {} x.region
        r.base + x.wr % max 1 r.size).head?
  else if c = 5 then
    match s.lantern.queue with
    | (i, _) :: _ =>
      let x := s.lantern.streams.get {} i
      let r := s.mem.regions.get {} x.region
      if x.kind = 1 then some (r.base + x.wr % max 1 r.size) else none
    | [] => none
  else none

/-- Module ports at which a channel's front request waits. -/
def waitingPorts (s : State) (c : Nat) : List Nat :=
  match waitingAt s c with | some a => unitPorts s (unitOf s a) | none => []

/-- Rounds that must pass at a port before a channel has a share again: none while it has used less than its weight (R315). -/
def roundsLeft (s : State) (p c : Nat) : Nat := nth (s.memPort p).used c / max 1 (nth moverWeights c)

/-- The arbiter of a port serves the channel next: no channel with a request there has its share sooner (R315). -/
def servedNext (s : State) (p c : Nat) : Bool :=
  (List.range 8).all fun d => d == c || !(waitingPorts s d).contains p || decide (roundsLeft s p c ≤ roundsLeft s p d)

/-- The channel's next request is served, at every one of the ports it goes to (R315; log entry 227). -/
def moverTurn (s : State) (c : Nat) (ports : List Nat) : Bool := ports.all fun p => servedNext s p c

/-- `n` bursts of a channel have been served at a port: the rounds it needed have passed, and it has used its share of them
(R315). -/
def serveBursts (c p n : Nat) (s : State) : State :=
  let k := roundsLeft s p c
  if n = 0 then s
  else modMemPort p (fun m =>
    let used := (List.range 8).map fun d => nth m.used d - k * nth moverWeights d
    { m with used := used.set c (nth used c + n) }) s

/-- Bursts that a port has carried. -/
def portBursts (s : State) (p : Nat) : Nat := nth (s.memPort p).counts 0 + nth (s.memPort p).counts 1

/-- A channel's work, its bursts taken from its share at each port (R315). -/
def onChannel (c : Nat) (f : State → State) (s : State) : State :=
  let t := f s
  eachDo [0, 1, 2, 3] (fun p => serveBursts c p (portBursts t p - portBursts s p)) t

/-- The work of a channel whose front request waits: it is done when the arbiters serve it next (R315). -/
def whenServed (c : Nat) (f : State → State) (s : State) : State :=
  if moverTurn s c (waitingPorts s c) then onChannel c f s else s

/-- Offset of a channel's XDC_STATUS. -/
def xdcStatusReg (c : Nat) : Nat := 0x2804 + 0x40 * c

/-- The channel's interrupt cause, with IRQ_EN set (R374). -/
def xdcIrq (c : Nat) (s : State) : State := whenDo (s.xdcOf c).irq (irqCause (21 + c)) s

/-- The channel stops with a code: halted until software clears ERROR, with the fault that the code calls for (R321).
`port` is the memory port concerned. -/
def xdcStop (c code addr port : Nat) (s : State) : State :=
  let s := modXdcOf c (fun x => { x with go := false, code := code, halted := true, err := true, errAddr := addr }) s
  let s := xdcIrq c (markSet (xdcStatusReg c) 1 s)
  if code == 3 then detect 410 c 0 [] s
  else if code == 4 || code == 5 then detect (399 + port) c 0 [] s
  else s

/-- GO on a host channel that does not run and is not halted starts the chain at XDC_DESC (R320, R322). -/
def xdcStart (c : Nat) (s : State) : State :=
  let x := s.xdcOf c
  if decide (c < 6) || x.go || x.halted then s
  else
    let s := modXdcOf c (fun x => { x with go := true, code := 0, fin := 0, fetched := 0, next := x.desc, cur := x.desc }) s
    if !bmeOf s 0 then xdcStop c 6 0 0 s else if x.desc % 64 != 0 then xdcStop c 1 0 0 s else s

/-- ABORT stops a running host chain with CODE 6 (Table 10.12). -/
def xdcAbort (c : Nat) (s : State) : State :=
  if (s.xdcOf c).go && decide (6 ≤ c) then xdcStop c 6 0 0 s else s

/-- A write to XDC_CTRL (Table 10.12). -/
def xdcCtrlWrite (c v : Nat) (s : State) : State :=
  if !hostUp s then s
  else
    let s := modXdcOf c (fun x => { x with irq := bit v 0 }) s
    let s := if bit v 30 then xdcAbort c s else s
    if bit v 31 then xdcStart c s else s

/-- XDC_GO. -/
def execXdcGo (c value : Nat) (s : State) : Outc :=
  need (decide (c < 8)) "mover channel" (.next (xdcCtrlWrite c (Nat.lor value (2 ^ 31)) s))

/-- XDC_ABORT. -/
def execXdcAbort (c : Nat) (s : State) : Outc := need (decide (c < 8)) "mover channel" (.next (whenDo (hostUp s) (xdcAbort c) s))

/-- A write of `v` to XDC_STATUS: DONE and ERROR clear where written 1; clearing ERROR clears HALTED (R322, R17). -/
def xdcStatusWrite (c v : Nat) (s : State) : State :=
  let r := xdcStatusReg c
  whenDo (hostUp s) (modXdcOf c fun x => { x with
    done := x.done && !clearsBit s r v 0
    err := x.err && !clearsBit s r v 1
    halted := x.halted && !(x.err && clearsBit s r v 1) }) s

/-- XDC_ERROR_CLEAR. -/
def execXdcErrorClear (c : Nat) (s : State) : Outc := need (decide (c < 8)) "mover channel" (.next (xdcStatusWrite c 2 s))

/-- The chain ends at a descriptor whose NEXT is 0 (R320). -/
def moverChainDone (c : Nat) (s : State) : State :=
  let x := s.xdcOf c
  if x.go && x.next == 0 && decide (0 < x.fetched) then
    xdcIrq c (markSet (xdcStatusReg c) 0 (modXdcOf c (fun x => { x with go := false, done := true }) s))
  else s

/-- MOVER_CHAIN_DONE. -/
def execMoverChainDone (c : Nat) (s : State) : Outc := need (decide (c < 8)) "mover channel" (.next (moverChainDone c s))

/-- A running chain meets a host timeout or unsupported request (3), a module that does not answer (4), which is then lost too,
or a poisoned read (5), which is told, at an address (R301, R309, R321). -/
def moverChannelStop (c code addr : Nat) (s : State) : State :=
  let p := readPort s (unitOf s addr)
  if (s.xdcOf c).go && [3, 4, 5].contains code then
    let s := if code = 4 then memLosing p 18 (memCount p 4 1 s)
      else if code = 5 then poisonTell p (moduleAddr s addr) s else s
    xdcStop c code addr p s
  else s

/-- MOVER_CHANNEL_STOP. -/
def execMoverChannelStop (c code addr : Nat) (s : State) : Outc :=
  need (decide (c < 8)) "mover channel" (.next (moverChannelStop c code addr s))

/-- The region that holds a LAS address. -/
def regionOf (s : State) (a : Nat) : Option Region :=
  (s.mem.regions.find? fun r => decide (r.2.base ≤ a) && decide (a < r.2.base + r.2.size)).map (·.2)

/-- Whether a LAS address may be read by a descriptor (R320): inside a region, and not the ledger's while the ledger stops or
the region is being zeroed. -/
def lasReadOk (s : State) (a : Nat) : Bool :=
  match regionOf s a with
  | some r => !(r.kind == 1 && (s.ledger.st == 2 || s.mem.zeroing))
  | none => false

/-- Whether a LAS address may be written by a descriptor (R320): inside a region of kind HOST. -/
def lasWriteOk (s : State) (a : Nat) : Bool := match regionOf s a with | some r => r.kind == 4 | none => false

/-- Whether a ring exponent is one of R317, or none. -/
def ringOk (k : Nat) : Bool := k == 0 || (decide (12 ≤ k) && decide (k ≤ 40))

/-- The address `off` bytes on from `a`, in a ring of 2^k bytes where k is not 0 (R317). -/
def ringAt (k a off : Nat) : Nat := if k = 0 then a + off else a / 2 ^ k * 2 ^ k + (a % 2 ^ k + off) % 2 ^ k

/-- Bytes from an address to the end of its ring, `n` without a ring. -/
def ringLeft (k a n : Nat) : Nat := if k = 0 then n else 2 ^ k - a % 2 ^ k

/-- A piece of a transfer (R316): offset in the source's bytes, source, destination, length. -/
structure Piece where
  off : Nat
  src : Nat
  dst : Nat
  len : Nat

/-- The pieces of a transfer of `n` bytes from `i` on: split at every 256-byte boundary of the destination and where either
ring wraps (R316, R317). `o` is the offset of the first byte. -/
def piecesFrom (sk src dk dst n o : Nat) : Nat → Nat → List Piece
  | 0, _ => []
  | fuel + 1, i =>
    if n ≤ i then []
    else
      let d := ringAt dk dst i
      let r := ringAt sk src i
      let k := min (n - i) (min (256 - d % 256) (ringLeft sk r n))
      { off := o + i, src := r, dst := d, len := k } :: piecesFrom sk src dk dst n o fuel (i + k)

/-- The pieces of a transfer. -/
def pieces (sk src dk dst n o : Nat) : List Piece := piecesFrom sk src dk dst n o (n / 128 + 4) 0

/-- The aligned 256-byte blocks that hold a range (R316). -/
def blocksOf (a n : Nat) : List Nat :=
  (List.range ((a + n - 1) / 256 + 1 - a / 256)).map fun i => 256 * (a / 256 + i)

/-- What stops the read of a piece's blocks: code and address of the burst (R320, R321). -/
def readFault (s : State) (x : Piece) : Option (Nat × Nat) :=
  (blocksOf x.src x.len).findSome? fun b =>
    if !lasReadOk s b then some (7, b)
    else if unitLost s (unitOf s b) then some (4, b)
    else if unitPoison s (unitOf s b) then some (5, b)
    else none

/-- What stops the write of a piece. -/
def writeFault (s : State) (x : Piece) : Option (Nat × Nat) :=
  if !lasWriteOk s x.dst then some (7, x.dst)
  else if unitLost s (unitOf s x.dst) then some (4, x.dst)
  else none

/-- What stops a piece whose source, and whose destination, lies in the LAS. -/
def pieceFault (s : State) (rdLas wrLas : Bool) (x : Piece) : Option (Nat × Nat) :=
  match if rdLas then readFault s x else none with
  | some e => some e
  | none => if wrLas then writeFault s x else none

/-- The reads of a piece's blocks at the module ports. -/
def pieceRead (rdLas : Bool) (x : Piece) (s : State) : State :=
  if rdLas then eachDo (blocksOf x.src x.len) (fun b => countRead (unitOf s b) b) s else s

/-- A piece's bytes are written, LAS or host, with byte enables for exactly them (R316). -/
def pieceWrite (wrLas : Bool) (x : Piece) (bs : Bytes) (s : State) : State :=
  if wrLas then lasBurst x.dst bs s else hostWrite 0 x.dst bs (countAct 5 1 s)

/-- What a transfer came to: the bytes moved and the state; or also the code and the address it stopped at. -/
inductive Moved where
  | ok (moved : Nat) (s : State)
  | stop (code addr moved : Nat) (s : State)

/-- The pieces of a transfer one after the other, up to the first that cannot be made (R316, R321). `data` gives a piece its
bytes. -/
def movePieces (rdLas wrLas : Bool) (data : Piece → Bytes) : List Piece → Nat → State → Moved
  | [], n, s => .ok n s
  | x :: r, n, s =>
    match pieceFault s rdLas wrLas x with
    | some (5, a) => .stop 5 a n (countRead (unitOf s a) a s)
    | some (code, a) => .stop code a n s
    | none => movePieces rdLas wrLas data r (n + x.len) (pieceWrite wrLas x (data x) (pieceRead rdLas x s))

/-- The bytes of a piece of a LAS source, as they were when the transfer began: so overlapping ranges copy as through a buffer
(R318). -/
def lasData (s : State) (x : Piece) : Bytes := lasBytes s x.src x.len

/-- The fields of a COLUMN_SPLIT: offset, width, base (R319). -/
def splitFields (n : Nat) (t : Bytes) : List (Nat × Nat × Nat) :=
  (List.range n).map fun i => (rd t (16 * i) 2, rd t (16 * i + 2) 1, rd t (16 * i + 8) 8)

/-- The pieces of a COLUMN_SPLIT of `n` records of `r` bytes: field f of record i goes to base_f + i × width_f (R319; log
entry 228). -/
def splitPieces (sk src dk n r : Nat) (fs : List (Nat × Nat × Nat)) : List Piece :=
  (List.range n).flatMap fun i => fs.flatMap fun f =>
    pieces sk (ringAt sk src (i * r + f.1)) dk (ringAt dk f.2.2 (i * f.2.1)) f.2.1 (i * r + f.1)

/-- Two pieces of one address space that share a source and a destination byte: the ranges overlap (R318). -/
def rangesOverlap (l : List Piece) : Bool :=
  l.any fun x => l.any fun y => decide (x.src < y.dst + y.len) && decide (y.dst < x.src + x.len)

/-- Pieces moved from their source: the LAS, or host memory as the host answered (R316, R320). -/
def moveFrom (rdLas wrLas : Bool) (src : Nat) (data : HostAnswer) (l : List Piece) (s : State) : Moved :=
  if rdLas then movePieces true wrLas (lasData s) l 0 s
  else match data with
    | .data bs => movePieces false wrLas (fun x => part bs x.off x.len) l 0 s
    | _ => .stop 3 src 0 s

/-- The fill pattern's bytes of a piece: the pattern repeats (Table 10.10). -/
def fillData (pattern : Bytes) (x : Piece) : Bytes :=
  (List.range x.len).map fun i => pattern.getD ((x.off + i) % 4) 0

/-- COPY (R316 to R318). -/
def moverCopy (d : Bytes) (data : HostAnswer) (s : State) : Moved :=
  let rdLas := bit (rd d 1 1) 0; let wrLas := bit (rd d 1 1) 1
  let sk := rd d 2 1; let dk := rd d 3 1
  let n := rd d 4 4; let src := rd d 8 8; let dst := rd d 16 8
  if n == 0 || !ringOk sk || !ringOk dk then .stop 1 0 0 s
  else
    let l := pieces sk src dk dst n 0
    if rdLas == wrLas && (sk != 0 || dk != 0) && rangesOverlap l then .stop 1 0 0 s
    else moveFrom rdLas wrLas src data (if rdLas == wrLas && decide (src < dst) then l.reverse else l) s

/-- FILL (R316, R317). -/
def moverFill (d : Bytes) (s : State) : Moved :=
  let dk := rd d 3 1; let n := rd d 4 4
  if n == 0 || !ringOk dk then .stop 1 0 0 s
  else movePieces false (bit (rd d 1 1) 1) (fillData (part d 8 4)) (pieces 0 0 dk (rd d 16 8) n 0) 0 s

/-- COLUMN_SPLIT (R319). -/
def moverSplit (d : Bytes) (table data : HostAnswer) (s : State) : Moved :=
  let sk := rd d 2 1; let dk := rd d 3 1
  let n := rd d 4 4; let src := rd d 8 8; let r := rd d 32 2; let f := rd d 34 1
  if decide (r < 1) || decide (256 < r) || decide (f < 1) || decide (16 < f) || n == 0 || !ringOk sk || !ringOk dk then
    .stop 1 0 0 s
  else match table with
    | .data t =>
      let fs := splitFields f t
      if fs.any fun x => decide (x.2.1 < 1) || decide (16 < x.2.1) || decide (r < x.1 + x.2.1) then .stop 1 0 0 s
      else moveFrom (bit (rd d 1 1) 0) (bit (rd d 1 1) 1) src data (splitPieces sk src dk n r fs) s
    | _ => .stop 3 (rd d 16 8) 0 s

/-- The work of a descriptor (Table 10.10). NEXT must be 64-byte aligned. -/
def moverOp (d : Bytes) (table data : HostAnswer) (s : State) : Moved :=
  if rd d 24 8 % 64 != 0 then .stop 1 0 0 s
  else match rd d 0 1 with
    | 0 => moverCopy d data s
    | 1 => moverFill d s
    | 2 => moverSplit d table data s
    | 3 => .ok 0 s
    | _ => .stop 1 0 0 s

/-- The module ports that a descriptor's first bursts go to. -/
def descriptorPorts (s : State) (d : Bytes) : List Nat :=
  let fl := rd d 1 1
  (if bit fl 0 && rd d 0 1 != 1 then unitPorts s (unitOf s (rd d 8 8)) else []) ++
    (if bit fl 1 && rd d 0 1 != 2 then unitPorts s (unitOf s (rd d 16 8)) else [])

/-- The 16-byte completion of a descriptor that asks for one (Table 10.10). -/
def completionWrite (d : Bytes) (moved code : Nat) (s : State) : State :=
  if bit (rd d 1 1) 2 then hostWrite 0 (rd d 40 8) (le 8 moved ++ le 1 code ++ zeros 7) s else s

/-- A fetched descriptor has been carried out: the chain goes on, or its channel stops (R320, R321). -/
def descriptorEnd (c : Nat) (d : Bytes) : Moved → State
  | .stop code addr n s =>
    completionWrite d n code (xdcStop c code addr (readPort s (unitOf s addr)) (moverBytes c n s))
  | .ok n s =>
    let s := completionWrite d n 0 (modXdcOf c (fun x => { x with fin := x.fin + 1, next := rd d 24 8 }) (moverBytes c n s))
    if bit (rd d 1 1) 3 then xdcIrq c s else s

/-- A descriptor is fetched and carried out when its first bursts are served next (R315, R320, R321). -/
def moverDescriptor (c : Nat) (desc table data : HostAnswer) (s : State) : State :=
  let x := s.xdcOf c
  if !x.go || (x.next == 0 && decide (0 < x.fetched)) then s
  else if 64 ≤ x.fetched then xdcStop c 2 0 0 s
  else
    let t := modXdcOf c (fun x => { x with cur := x.next, fetched := x.fetched + 1 }) s
    match desc with
    | .data d =>
      if moverTurn s c (descriptorPorts s d) then onChannel c (fun u => descriptorEnd c d (moverOp d table data u)) t else s
    | _ => xdcStop c 3 x.next 0 t

/-- MOVER_DESCRIPTOR. -/
def execMoverDescriptor (c : Nat) (desc table data : HostAnswer) (s : State) : Outc :=
  need (decide (c < 8)) "mover channel" (.next (moverDescriptor c desc table data s))

/-- CAPTURE_RECORD_WRITE, in mover channel 4 (R308, R314, R315). -/
def execCaptureRecordWrite (q : Nat) (s : State) : Outc :=
  need (decide (q < 4)) "quadrant" (.next (whenServed 4 (captureWrite q) s))

/-- Host chains stop with CODE 6 when Bus Master Enable of PF0 is cleared (R323). -/
def xdcStopHost (s : State) : State :=
  eachDo [6, 7] (fun c s => if (s.xdcOf c).go then xdcStop c 6 0 0 s else s) s

end Sys2Proof.Machine
end

