-- ==== Sys2Proof/Machine/Parser.lean ====
section
/-! DEFINITION. The parser: parse graph, exceptions, header instances, the layers of a packet, and the symmetric
hashes. -/

namespace Sys2Proof.Machine

/-- A header instance: type, offset, length (R114). -/
structure Hdr where
  typ : HdrType
  off : Nat
  len : Nat
  deriving DecidableEq, Repr

/-- What the parser found. -/
structure Parsed where
  /-- Header instances in order (R114). -/
  hdrs : List Hdr := []
  /-- Exception code of Table 4.2. -/
  exc : Nat := 0
  /-- Ended with ACCEPT_PAYLOAD (R114). -/
  payload : Bool := false
  /-- A Geneve version other than 0 (R117). -/
  geneveVer : Bool := false
  /-- Bytes the packet waits for, where it waits (R115). -/
  wait : Option Nat := none

/-- `n` bits from bit `bitOff` on, most significant first, of the bytes from `off`. -/
def fieldAt (bs : Bytes) (off bitOff n : Nat) : Nat :=
  let k := (bitOff % 8 + n + 7) / 8
  rdBe bs (off + bitOff / 8) k / 2 ^ (8 * k - bitOff % 8 - n) % 2 ^ n

/-- Bytes from a header's start that a field of it ends at. -/
def fieldEnd (bitOff n : Nat) : Nat := (bitOff + n + 7) / 8

/-- End of a state's length field, from the header's start; the VXLAN flags count as read with it (R114, R117). -/
def lenNeed (st : ParseState) : Nat :=
  max (match st.len with | .fixed _ => 0 | .computed o n _ _ => fieldEnd o n) (if st.hdr = .vxlan then 1 else 0)

/-- Header length of a state at an offset (R114). -/
def hdrLen (st : ParseState) (frame : Bytes) (off : Nat) : Int :=
  match st.len with
  | .fixed n => n
  | .computed o n sc add => fieldAt frame off o n * sc + add

/-- Successor that a key selects (R114). -/
def successor (st : ParseState) (key : Nat) : Nat :=
  match st.trans.find? fun t => Nat.land key t.mask == Nat.land t.value t.mask with
  | some t => t.next
  | none => st.dflt

/-- Select key of a state: its fields, the first one highest (R114). What lies past the frame is open (log entry 72). -/
def selectKey (st : ParseState) (frame : Bytes) (off : Nat) : Nat :=
  let bs := frame ++ part (Config.pastEnd frame) 0 64
  st.key.foldl (fun k f => k * 2 ^ f.2 + fieldAt bs off f.1 f.2) 0

/-- Parsing from a state on, with so many visits left (R114 to R117); `arrived` bytes of the frame are there. The
conditions of Table 4.2 are judged in the order LOOP, INSTANCES, BAD_LENGTH, TRUNCATED, DEPTH. -/
def parseFrom (body : RuleBody) (frame : Bytes) (arrived : Nat) : Nat → Nat → Nat → Parsed → Parsed
  | 0, _, _, r => { r with exc := 4 }
  | fuel + 1, n, off, r =>
    match body.parse[n]? with
    | none => r
    | some st =>
      let last := frame.length - 4
      let absent (need : Nat) : Bool := decide (arrived < min (off + need) frame.length)
      let len := hdrLen st frame off
      let flagsBad := st.hdr = .vxlan && !bit (rd frame off 1) 3
      if decide (32 ≤ r.hdrs.length) then { r with exc := 3 }
      else if absent (lenNeed st) then { r with wait := some (min (off + lenNeed st) frame.length) }
      else if decide (last < off + lenNeed st) then { r with exc := 1 }
      else if decide (len < st.minLen) || decide ((st.maxLen : Int) < len) || flagsBad then { r with exc := 5 }
      else
        let l := len.toNat
        let keyNeed := (st.key.map fun f => fieldEnd f.1 f.2).foldl max l
        if absent l then { r with wait := some (min (off + l) frame.length) }
        else if decide (last < off + l) then { r with exc := 1 }
        else if decide (512 < off + l) then { r with exc := 2 }
        else if absent keyNeed then { r with wait := some (min (off + keyNeed) frame.length) }
        else
          let r := { r with hdrs := r.hdrs ++ [{ typ := st.hdr, off := off, len := l }] }
          if st.hdr = .geneve && decide (fieldAt frame off 0 2 ≠ 0) then { r with payload := true, geneveVer := true }
          else
            let next := successor st (selectKey st frame off)
            if next = 0xFFFF then r
            else if next = 0xFFFE then { r with payload := true }
            else parseFrom body frame arrived fuel next (off + l) r

/-- Parsing starts in state 0 at byte 0, with at most 64 visits (R112, R114). -/
def parseFrame (body : RuleBody) (frame : Bytes) (arrived : Nat) : Parsed := parseFrom body frame arrived 64 0 0 {}

/-- A transition on a whole value. -/
def onValue (v bits next : Nat) : Transition := { value := v, mask := 2 ^ bits - 1, next := next }

/-- Successors by EtherType in version 0 (Table 4.3); `tag` is the state of one more C-tag, 0xFFFF where the fourth is
reached, the S-tag state being four up. -/
def etherTrans (tag : Nat) : List Transition :=
  (if tag = 0xFFFF then [] else [onValue 0x8100 16 tag, onValue 0x88A8 16 (tag + 4)]) ++
  [onValue 0x0800 16 9, onValue 0x86DD 16 10, onValue 0x0806 16 22, onValue 0x88CC 16 0xFFFE, onValue 0x88F7 16 23]

/-- The tag state of version 0 at a depth from 1 to 4. -/
def tagState (h : HdrType) (d : Nat) : ParseState :=
  { hdr := h, len := .fixed 4, minLen := 4, maxLen := 4, key := [(16, 16)]
    trans := etherTrans (if d < 4 then d + 1 else 0xFFFF) }

/-- Successors by next header in version 0 (Table 4.3). -/
def ip6Trans : List Transition :=
  [onValue 0 8 11, onValue 43 8 12, onValue 44 8 13, onValue 60 8 14, onValue 51 8 15, onValue 50 8 0xFFFE,
   onValue 6 8 16, onValue 17 8 17, onValue 58 8 19]

/-- An IPv6 extension header of version 0. -/
def extState (h : HdrType) (len : LenSpec) (lo hi : Nat) : ParseState :=
  { hdr := h, len := len, minLen := lo, maxLen := hi, key := [(0, 8)], trans := ip6Trans }

/-- The parse states of version 0: the headers of Table 4.3 (R117, R125; the numbering is the model's, log
entry 74). -/
def builtinParse : List ParseState := [
  { hdr := .ethernet, key := [(96, 16)], trans := etherTrans 1 },
  tagState .ctag 1, tagState .ctag 2, tagState .ctag 3, tagState .ctag 4,
  tagState .stag 1, tagState .stag 2, tagState .stag 3, tagState .stag 4,
  { hdr := .ipv4, len := .computed 4 4 4 0, minLen := 20, maxLen := 60, key := [(51, 13), (72, 8)]
    trans := [onValue 6 21 16, onValue 17 21 17, onValue 1 21 18, onValue 50 21 0xFFFE] },
  { hdr := .ipv6, len := .fixed 40, minLen := 40, maxLen := 40, key := [(48, 8)], trans := ip6Trans }] ++ [
  extState .hopByHop (.computed 8 8 8 8) 8 512,
  extState .routing (.computed 8 8 8 8) 8 512,
  extState .fragment (.fixed 8) 8 8,
  extState .dstOpts (.computed 8 8 8 8) 8 512,
  extState .ah (.computed 8 8 4 8) 12 512] ++ [
  { hdr := .tcp, len := .computed 96 4 4 0, minLen := 20, maxLen := 60, dflt := 0xFFFE },
  { hdr := .udp, len := .fixed 8, minLen := 8, maxLen := 8, key := [(16, 16)], dflt := 0xFFFE
    trans := [onValue 4789 16 20, onValue 6081 16 21, onValue 319 16 23, onValue 320 16 23] },
  { hdr := .icmp, len := .fixed 8, minLen := 8, maxLen := 8, dflt := 0xFFFE },
  { hdr := .icmp6, len := .fixed 8, minLen := 8, maxLen := 8, dflt := 0xFFFE },
  { hdr := .vxlan, len := .fixed 8, minLen := 8, maxLen := 8, dflt := 0 },
  { hdr := .geneve, len := .computed 2 6 4 8, minLen := 8, maxLen := 260, key := [(16, 16)], dflt := 0xFFFE
    trans := [onValue 0x6558 16 0, onValue 0x0800 16 9, onValue 0x86DD 16 10] },
  { hdr := .arp, len := .fixed 28, minLen := 28, maxLen := 28 },
  { hdr := .ptp, len := .fixed 34, minLen := 34, maxLen := 34 }]

/-- The contents of version 0 (R125). -/
def builtinBody : RuleBody := { parse := builtinParse }

/-- The contents a bank classifies with. -/
def bankBody (b : Bank) : RuleBody := if b.builtin then builtinBody else b.body

/-- Whether a header is an L3 header with addresses. -/
def isL3 (h : Hdr) : Bool := h.typ = .ipv4 || h.typ = .ipv6

/-- Whether a header is an L4 header of Table 4.3. -/
def isL4 (h : Hdr) : Bool := h.typ = .tcp || h.typ = .udp || h.typ = .icmp || h.typ = .icmp6

/-- The headers in layers, outermost first: a layer begins at an Ethernet header, or at an L3 header where the layer
already has one (R136; log entry 71). The layers are built in reverse. -/
def layersRev (hdrs : List Hdr) : List (List Hdr) :=
  hdrs.foldl (fun ls h =>
    match ls with
    | [] => [[h]]
    | l :: r => if h.typ = .ethernet || (isL3 h && l.any isL3) then [h] :: l :: r else (l ++ [h]) :: r) []

/-- The outer layer. -/
def outerLayer (hdrs : List Hdr) : List Hdr := (layersRev hdrs).getLastD []

/-- The innermost parsed layer. -/
def innerLayer (hdrs : List Hdr) : List Hdr := (layersRev hdrs).headD []

/-- The layer a setting names: the innermost parsed rather than the outer (R136). -/
def layerOf (inner : Bool) (hdrs : List Hdr) : List Hdr := if inner then innerLayer hdrs else outerLayer hdrs

/-- Whether a header shows a fragment: IPv4 with MF or an offset, or an IPv6 Fragment header (R135). -/
def isFragment (frame : Bytes) (h : Hdr) : Bool :=
  (h.typ = .ipv4 && decide (fieldAt frame h.off 50 14 ≠ 0)) || h.typ = .fragment

/-- Sum of the 16-bit words of an IPv4 header, carries folded in. -/
def csumFold (w : Nat) : Nat := (w % 65536 + w / 65536) % 65536 + (w % 65536 + w / 65536) / 65536

/-- Whether an IPv4 header fails its checksum (R117). -/
def csumBad (frame : Bytes) (h : Hdr) : Bool :=
  h.typ = .ipv4 && csumFold (((List.range (h.len / 2)).map fun i => rdBe frame (h.off + 2 * i) 2).foldl (· + ·) 0) != 0xFFFF

/-- An unselected critical option among the Geneve options from `off` to `lim` (R117). -/
def criticalFrom (sel : List (Nat × Nat)) (frame : Bytes) : Nat → Nat → Nat → Bool
  | 0, _, _ => false
  | fuel + 1, off, lim =>
    if lim < off + 4 then false
    else
      let cls := rdBe frame off 2
      let typ := rdBe frame (off + 2) 1
      (bit typ 7 && !sel.contains (cls, typ)) ||
        criticalFrom sel frame fuel (off + 4 + 4 * (rdBe frame (off + 3) 1 % 32)) lim

/-- Whether a Geneve header holds an unselected critical option (R117). -/
def geneveCrit (sel : List (Nat × Nat)) (frame : Bytes) (h : Hdr) : Bool :=
  h.typ = .geneve && criticalFrom sel frame 64 (h.off + 8) (h.off + h.len)

/-- An endpoint's address, 16 bytes as a number: IPv4 in the mapped form (R133). -/
def ipAddr (frame : Bytes) (h : Hdr) (dst : Bool) : Nat :=
  if h.typ = .ipv4 then 0xFFFF00000000 + rdBe frame (h.off + (if dst then 16 else 12)) 4
  else rdBe frame (h.off + (if dst then 24 else 8)) 16

/-- The EtherType of a layer after its tags (R133; log entry 71). -/
def etherType (frame : Bytes) (layer : List Hdr) : Nat :=
  layer.foldl (fun v h =>
    if h.typ = .ethernet then rdBe frame (h.off + 12) 2
    else if h.typ = .ctag || h.typ = .stag then rdBe frame (h.off + 2) 2 else v) 0

/-- PROTOCOL of a layer: IPv4 protocol, or the IPv6 next header after the extension headers (R133). -/
def protocolOf (frame : Bytes) (layer : List Hdr) : Nat :=
  layer.foldl (fun v h =>
    match h.typ with
    | .ipv4 => rdBe frame (h.off + 9) 1
    | .ipv6 => rdBe frame (h.off + 6) 1
    | .hopByHop | .routing | .fragment | .dstOpts | .ah => rdBe frame h.off 1
    | _ => v) 0

/-- The two endpoints of a layer and its protocol: source, destination, as (address, port), and whether it is IP
(R133 to R135). -/
def endpoints (frame : Bytes) (layer : List Hdr) (frag : Bool) : (Nat × Nat) × (Nat × Nat) × Bool :=
  match layer.find? isL3 with
  | some h =>
    let l4 := if frag then none else layer.find? fun x => x.typ = .tcp || x.typ = .udp
    let port (o : Nat) : Nat := match l4 with | some x => rdBe frame (x.off + o) 2 | none => 0
    ((ipAddr frame h false, port 0), (ipAddr frame h true, port 2), true)
  | none =>
    let o := match layer.find? fun x => x.typ = .ethernet with | some x => x.off | none => 0
    ((rdBe frame (o + 6) 6, 0), (rdBe frame o 6, 0), false)

/-- The source endpoint is the lower one, or the endpoints are equal (R134, R266). -/
def sourceLower (frame : Bytes) (layer : List Hdr) (frag : Bool) : Bool :=
  let (a, b, _) := endpoints frame layer frag
  decide (a.1 < b.1) || (a.1 == b.1 && decide (a.2 ≤ b.2))

/-- The hash input block, 40 bytes in network order (Table 4.10). -/
def hashBlock (frame : Bytes) (layer : List Hdr) (frag : Bool) (tenant : Nat) : Bytes :=
  let (a, b, ip) := endpoints frame layer frag
  let (lo, hi) := if sourceLower frame layer frag then (a, b) else (b, a)
  be 16 lo.1 ++ be 16 hi.1 ++
    (if ip then be 2 lo.2 ++ be 2 hi.2 ++ be 1 (protocolOf frame layer)
     else be 2 (etherType frame layer) ++ zeros 3) ++ be 3 (tenant % 2 ^ 20)

/-- The fields whose mask bit is clear set to zero: addresses, ports, protocol, tenant (R136). -/
def maskBlock (mask : Nat) (b : Bytes) : Bytes :=
  (if bit mask 0 then b.take 32 else zeros 32) ++ (if bit mask 1 then part b 32 4 else zeros 4) ++
    (if bit mask 2 then part b 36 1 else zeros 1) ++ (if bit mask 3 then part b 37 3 else zeros 3)

/-- CRC-32C of a block with the seed as initial register (R133). -/
def seededHash (seed : Nat) (b : Bytes) : Nat := Nat.xor (crcRun 0x82F63B78 seed b) 0xFFFFFFFF

/-- ECMP_HASH or LAG_HASH under a bank's settings (R136, R138). -/
def spreadHash (h : HashSet) (frame : Bytes) (hdrs : List Hdr) (frag : Bool) (tenant : Nat) : Nat :=
  seededHash h.seed (maskBlock h.mask (hashBlock frame (layerOf h.inner hdrs) frag tenant))

/-- Offset of the L4 header of a layer, 0x3FF for none (R118). -/
def l4Offset (layer : List Hdr) : Nat := match layer.find? isL4 with | some h => h.off | none => 0x3FF

/-- Offset of the L3 header of a layer, 0x3FF for none (R118). -/
def l3Offset (layer : List Hdr) : Nat := match layer.find? isL3 with | some h => h.off | none => 0x3FF

/-- Where the L3 length of the outer header says the frame ends, with its FCS; 0 where it has none (R257). -/
def l3EndOf (frame : Bytes) (layer : List Hdr) : Nat :=
  match layer.find? isL3 with
  | some h => if h.typ = .ipv4 then h.off + rdBe frame (h.off + 2) 2 + 4 else h.off + 40 + rdBe frame (h.off + 4) 2 + 4
  | none => 0

/-- Offset of the first byte after the last header instance (R201). -/
def afterHeaders (hdrs : List Hdr) : Nat := hdrs.foldl (fun _ h => h.off + h.len) 0

/-- The outer VID, 0 where there is no tag. -/
def outerVid (frame : Bytes) (hdrs : List Hdr) : Nat :=
  match (outerLayer hdrs).find? fun h => h.typ = .ctag || h.typ = .stag with
  | some h => rdBe frame h.off 2 % 4096
  | none => 0

/-- VNI of the first VXLAN or Geneve header, if there is one (R117). -/
def vniOf (frame : Bytes) (hdrs : List Hdr) : Option Nat :=
  (hdrs.find? fun h => h.typ = .vxlan || h.typ = .geneve).map fun h => rdBe frame (h.off + 4) 3

end Sys2Proof.Machine
end

