-- ==== Sys2Proof/Machine/Ternary.lean ====
section
/-! DEFINITION. Ternary banks and pattern automata: lookups and scans, writes, moves and block moves, scrubbing and
losses, and the TABLE.TERN and TABLE.AUTO commands. -/

namespace Sys2Proof.Machine

/-- The quadrants of a mask (R208). -/
def quadsOf (mask : Nat) : List Nat := bitsOf mask 4

/-- A request that names quadrants: a mask with none, or with a reserved bit, is refused at byte 0 (R208). -/
def manyQuads (p : Bytes) (v : Verdict) : Verdict :=
  checks [(decide (rd p 0 1 ≠ 0) && decide (rd p 0 1 < 16), 0)] v

/-- A request that needs one quadrant (R208). -/
def oneQuad (p : Bytes) (f : Nat → Verdict) : Verdict :=
  match quadsOf (rd p 0 1) with
  | [q] => if rd p 0 1 < 16 then f q else badArg 0
  | _ => badArg 0

/-- The lookup groups with a setting of TABLE.TERN_GROUP carried out (R183). -/
def withGroup (t : Tab TernGroup) (p : Bytes) : Tab TernGroup :=
  if rd p 2 1 = 0 then t.del (rd p 0 1)
  else t.put (rd p 0 1) { first := rd p 1 1, count := rd p 2 1, width := rd p 3 1, drop := rd p 4 1 == 1 }

/-- The groups as they will stand once the settings accepted in this beat are applied. -/
def groupsSoon (s : State) : Tab TernGroup :=
  (s.pend.filter fun x => x.kind == 0x0710).foldl (fun t x => withGroup t x.req) s.tab.groups

/-- The group that a position is an entry of (R183). -/
def groupOfPos (t : Tab TernGroup) (pos : Nat) : Option (Nat × TernGroup) :=
  t.find? fun e => decide (e.2.first ≤ pos / 2048) && decide (pos / 2048 < e.2.first + e.2.count) &&
    (e.2.width == 1 || decide (pos / 2048 % 2 = 0))

/-- Whether a position lies in the banks of a group. -/
def inGroup (g : TernGroup) (pos : Nat) : Bool :=
  decide (g.first ≤ pos / 2048) && decide (pos / 2048 < g.first + g.count)

/-- The entry of a ternary record, whether it is valid, and its position (Table 6.2). -/
def ternRecord (r : Bytes) : TernEntry × Bool × Nat :=
  let c := rd r 82 1
  ({ value := rd r 0 40, mask := rd r 40 40, action := rd r 80 2, banks := fld c 5 4, prio := fld c 3 0 },
    bit c 7, rd r 84 4)

/-- The record of an entry at a position; an absent entry reads as an invalid record. -/
def ternBytes (e : Option TernEntry) (pos : Nat) : Bytes :=
  match e with
  | some e => le 40 e.value ++ le 40 e.mask ++ le 2 e.action ++ le 1 (128 + 16 * e.banks + e.prio) ++ zeros 1 ++
      le 4 pos ++ zeros 8
  | none => zeros 84 ++ le 4 pos ++ zeros 8

/-- Whether a record may be written at its position (R186). -/
def ternRecordOk (t : Tab TernGroup) (r : Bytes) : Bool :=
  let (e, valid, pos) := ternRecord r
  match groupOfPos t pos with
  | none => false
  | some (_, g) =>
    Nat.land e.value e.mask == e.value && (g.width == 2 || (decide (e.value < 2 ^ 160) && decide (e.mask < 2 ^ 160))) &&
      !(valid && e.banks == 0)

/-- The records of a host block, 96 bytes each. -/
def ternRecords (n : Nat) (bs : Bytes) : List Bytes := (List.range n).map fun i => part bs (96 * i) 96

/-- Positions that a running block move locks (R196): from the start of the block to its free end. -/
def lockedBy (m : BlockMove) (pos : Nat) : Bool :=
  if m.down then decide (m.start ≤ pos + 1) && decide (pos < m.start + m.count)
  else decide (m.start ≤ pos) && decide (pos ≤ m.start + m.count)

/-- Whether a position is locked in a quadrant (R196). -/
def ternLocked (s : State) (q pos : Nat) : Bool :=
  match (s.quad q).move with | some m => lockedBy m pos | none => false

/-- Whether an entry matches a key under the packet's bank (R187). -/
def ternMatch (bank key : Nat) (e : TernEntry) : Bool := bit e.banks bank && Nat.land key e.mask == e.value

/-- The winning entry among the listed ones: highest PRIORITY, then lowest position (R187). The list rises in position. -/
def ternWinner (bank key : Nat) (l : List (Nat × TernEntry)) : Option TernEntry :=
  l.foldl (fun w e =>
    if !ternMatch bank key e.2 then w
    else match w with
      | none => some e.2
      | some x => if x.prio < e.2.prio then some e.2 else w) none

/-- The banks of a group that a lookup searches in a quadrant: those that hold a valid entry; both halves of an entry of
WIDTH 2 (R183, R184). -/
def searchedBanks (x : Quad) (g : TernGroup) : Nat :=
  g.width * ((List.range 64).filter fun b => x.tern.any fun e => inGroup g e.1 && e.1 / 2048 == b).length

/-- A C4 lookup in a quadrant: the action entry named, and whether a lost entry makes the packet a drop; hits and
misses are counted per group, and searched banks for the activity estimate (R184 to R187, R199, R208). -/
def ternLookup (t : Tables) (q bank key : Nat) (l : C4Lookup) (s : State) : Option Nat × Bool × State :=
  match t.groups.find l.group with
  | none => (if l.miss = 0xFFFF then none else some l.miss, false, s)
  | some g =>
    let quad := t.quads.get {} q
    let win := ternWinner bank key (quad.tern.filter fun e => inGroup g e.1)
    let lost := g.drop && quad.lost.any (inGroup g)
    let i := 2 * l.group + (if win.isSome then 0 else 1)
    let s := countAct 1 (searchedBanks quad g) (modQuad q (fun x => { x with ternStats := x.ternStats.upd 0 i (· + 1) }) s)
    let a := match win with | some e => e.action | none => l.miss
    (if a = 0xFFFF then none else some a, lost, s)

/-- An automaton slot of a quadrant. -/
def Quad.autoSlot (x : Quad) (i : Nat) : AutoSlot := if i = 0 then x.auto0 else x.auto1

/-- Replaces an automaton slot. -/
def setAuto (q i : Nat) (f : AutoSlot → AutoSlot) (s : State) : State :=
  modQuad q (fun x => if i = 0 then { x with auto0 := f x.auto0 } else { x with auto1 := f x.auto1 }) s

/-- Where a scan starts, if its offset is there (Table 6.4). -/
def scanStart (code l3 l4 after : Nat) : Option Nat :=
  match code with
  | 0 => some 0
  | 1 => if l3 = 0x3FF then none else some l3
  | 2 => if l4 = 0x3FF then none else some l4
  | _ => some after

/-- The scan window of a frame (R201). -/
def scanWindow (frame : Bytes) (start : Option Nat) : Bytes :=
  match start with
  | none => []
  | some o => (frame.take (min 512 (frame.length - 4))).drop o

/-- The bytes of the frame that a scan from `start` waits for: up to the window's end where the window has bytes beyond
byte 127 (R201, R202). -/
def scanNeed (frame : Bytes) (start : Option Nat) : Nat :=
  let last := min 512 (frame.length - 4)
  match start with
  | some o => if o < last && 128 < last then last else 0
  | none => 0

/-- A scan of the window in a quadrant (R203, R206): the action entry that the lowest pattern names, whether ON_ERROR
drops the packet, and the counts. -/
def autoScan (t : Tables) (q : Nat) (sel : AutoSel) (window : Bytes) (s : State) : Option Nat × Bool × State :=
  if sel.slot = 0xFF then (none, false, s)
  else
    let slot := (t.quads.get {} q).autoSlot sel.slot
    let count (i : Nat) : State → State := modQuad q fun x => { x with scans := addAt x.scans i 1 }
    let s := count 0 s
    if window.isEmpty then (none, false, count 1 s)
    else if !slot.bad.isEmpty && Config.autoReads slot.image slot.bad window then (none, sel.onError == 1, count 2 s)
    else
      let hits := (Config.autoMatch slot.image window).eraseDups.filter fun i => decide (i < slot.patterns)
      let s := modQuad q (fun x => { x with patterns := hits.foldl (fun c i => c.upd 0 i (· + 1)) x.patterns }) s
      match hits with
      | [] => (none, false, s)
      | i :: r =>
        let a := sel.map.get 0xFFFF (r.foldl min i)
        (if a = 0xFFFF then none else some a, false, s)

/-- Writes or deletes a position of a quadrant, in the bank and in its shadow; a lost position ends its loss when `ends`
(R188, R197, R199). -/
def ternPut (q pos : Nat) (e : Option TernEntry) (ends : Bool) (s : State) : State :=
  let put (t : Tab TernEntry) : Tab TernEntry := match e with | some e => t.put pos e | none => t.del pos
  modQuad q (fun x => { x with
    tern := put x.tern
    shadow := put x.shadow
    lost := if ends then x.lost.filter (· != pos) else x.lost }) s

/-- Copies a position to another, the bank's entry in the bank and the shadow's in the shadow; `old` and `oldShadow` are
what the source held (R190, R194, R197; log entry 220). -/
def ternCopy (q dst : Nat) (old oldShadow : Option TernEntry) (s : State) : State :=
  let put (e : Option TernEntry) (t : Tab TernEntry) : Tab TernEntry := match e with | some e => t.put dst e | none => t.del dst
  modQuad q (fun x => { x with tern := put old x.tern, shadow := put oldShadow x.shadow }) s

/-- A scrub repair: the bank's entry is rewritten from the shadow (R198). -/
def scrubRepair (q pos : Nat) (s : State) : State :=
  modQuad q (fun x => { x with tern := match x.shadow.find pos with | some e => x.tern.put pos e | none => x.tern.del pos }) s

/-- The positions of a quadrant that the scrubber reads in this beat and finds to differ from the shadow (R198). -/
def scrubFinds (x : Quad) : List Nat :=
  (((x.tern.keys ++ x.shadow.keys).filter fun p => p % 2048 == x.scrub).eraseDups).filter fun p =>
    x.tern.find p != x.shadow.find p

/-- The scrubber's beat in a quadrant: what it finds is repaired first in P3 and raised as TERN_SCRUB_REPAIR; the two
scrubbers go on (R188, R198, R206). -/
def scrubQuad (q : Nat) (s : State) : State :=
  let s := eachDo (scrubFinds (s.quad q)) (fun pos s => detect (328 + q) pos 0 [] (scrubRepair q pos s)) s
  modQuad q (fun x => { x with scrub := (x.scrub + 1) % 2048, autoScrub := (x.autoScrub + 1) % 131072 }) s

/-- A bank entry changes without a write: lookups use it as it stands until the scrubber repairs it (R198). The record is
the upset entry as Table 6.2 lays it out. -/
def ternUpset (q pos : Nat) (r : Bytes) (s : State) : State :=
  let (e, valid, _) := ternRecord r
  modQuad q (fun x => { x with tern := if valid then x.tern.put pos e else x.tern.del pos }) s

/-- TABLE.TERN_GROUP at P3 (R183). -/
def applyTernGroup (order : Nat) (p : Bytes) (s : State) : State :=
  answerOk order [] (s.modTab fun t => { t with groups := withGroup t.groups p })

/-- TABLE.TERN_WRITE at P3: every record in every quadrant of the mask (R189). -/
def applyTernWrite (order : Nat) (p data : Bytes) (s : State) : State :=
  answerBeat order (eachDo (quadsOf (rd p 0 1)) (fun q => eachDo (ternRecords (rd p 2 2) data) fun r =>
    let (e, valid, pos) := ternRecord r
    ternPut q pos (if valid then some e else none) true) s)

/-- The (from, to) pairs of a host block (R208). -/
def movePairs (n : Nat) (bs : Bytes) : List (Nat × Nat) :=
  (List.range n).map fun i => (rd bs (8 * i) 4, rd bs (8 * i + 4) 4)

/-- TABLE.TERN_MOVE at P3: a simultaneous permutation of what the positions held before the boundary, `pre`
(R190). -/
def applyTernMove (pre : Tables) (order : Nat) (p data : Bytes) (s : State) : State :=
  let q := (quadsOf (rd p 0 1)).headD 0
  let l := movePairs (rd p 2 2) data
  let old := pre.quads.get {} q
  let s := eachDo (l.filter fun x => !l.any fun y => y.2 == x.1) (fun x => ternPut q x.1 none false) s
  answerBeat order (eachDo l (fun x => ternCopy q x.2 (old.tern.find x.1) (old.shadow.find x.1)) s)

/-- One step of the block move that runs in a quadrant: 64 entries one place, from the far end; with the last the hole
opens, or the record fills it (R194). An entry is copied with its state at the step. -/
def ternMoveStep (q : Nat) (s : State) : State :=
  match (s.quad q).move with
  | none => s
  | some m =>
    let n := min 64 (m.count - m.done)
    let src (i : Nat) : Nat := if m.down then m.start + m.done + i else m.start + m.count - 1 - m.done - i
    let s := eachDo (List.range n) (fun i s =>
      let x := s.quad q
      ternCopy q (if m.down then src i - 1 else src i + 1) (x.tern.find (src i)) (x.shadow.find (src i)) s) s
    if m.done + n < m.count then modQuad q (fun x => { x with move := some { m with done := m.done + n } }) s
    else
      let s := ternPut q (if m.down then m.start + m.count - 1 else m.start) m.hole false s
      raiseEvent 0x0704 (le 1 q ++ zeros 3 ++ le 4 m.start ++ le 4 m.count)
        (modQuad q (fun x => { x with move := none }) s)

/-- TERN_BLOCK_MOVE_DONE: the last step of a block move is made at P3 of its boundary, as every step (R194). -/
def execTernBlockMoveDone (q : Nat) (s : State) : Outc :=
  need (decide (q < 4)) "quadrant" (.next (atBoundary evMoveDone (le 1 q) s))

/-- An uncorrectable shadow error at a position: bank entry and shadow become invalid at P3, the position is lost
(R199). -/
def ternLose (q pos : Nat) (s : State) : State :=
  raiseEvent 0x0705 (le 1 q ++ zeros 3 ++ le 4 pos) (modQuad q (fun x => { x with
    tern := x.tern.del pos, shadow := x.shadow.del pos, lost := if x.lost.contains pos then x.lost else x.lost ++ [pos] }) s)

/-- An uncorrectable error of an automaton word: it is marked bad (R206). -/
def autoBadWord (q slot word : Nat) (s : State) : State :=
  raiseEvent 0x0706 (le 1 q ++ le 1 slot ++ zeros 2 ++ le 4 word) (setAuto q slot (fun a => { a with
    bad := if a.bad.contains word then a.bad else a.bad ++ [word] }) s)

/-- A correctable error of an automaton word: corrected in the read, and the word rewritten at the next P3 (R206). -/
def autoWeakWord (q slot word : Nat) (s : State) : State :=
  post 0 evAutoRewrite (le 1 q ++ le 1 slot ++ le 4 word) [] (setAuto q slot (fun a => { a with
    weak := if a.weak.contains word then a.weak else a.weak ++ [word] }) s)

/-- The rewrite of a corrected word (R206). -/
def applyAutoRewrite (p : Bytes) (s : State) : State :=
  setAuto (rd p 0 1) (rd p 1 1) (fun a => { a with weak := a.weak.filter (· != rd p 2 4) }) s

/-- The bank-bit clear of RULE.OPEN, in every entry of every quadrant; entries whose mask becomes 0 are freed (R191). -/
def clearBankBit (b : Nat) (s : State) : State :=
  let clear (t : Tab TernEntry) : Tab TernEntry :=
    (t.mapAll fun _ e => { e with banks := setBit e.banks b false }).filter fun e => e.2.banks != 0
  s.modTab fun t => { t with quads := t.quads.mapAll fun _ x => { x with tern := clear x.tern, shadow := clear x.shadow } }

/-- Whether a TERNARY section entry conflicts with what stands at its position (R191). -/
def placeConflict (s : State) (x : TernPlace) : Bool :=
  (quadsOf x.quads).any fun q =>
    match (s.quad q).tern.find x.pos with
    | none => false
    | some e => !(e.value == x.entry.value && e.mask == x.entry.mask && e.prio == x.entry.prio && e.action == x.entry.action)

/-- Places a TERNARY section entry for bank `b` (R191). -/
def placeEntry (b : Nat) (x : TernPlace) (s : State) : State :=
  eachDo (quadsOf x.quads) (fun q s =>
    match (s.quad q).tern.find x.pos with
    | some e => ternPut q x.pos (some { e with banks := setBit e.banks b true }) false s
    | none => ternPut q x.pos (some { x.entry with banks := 2 ^ b }) false s) s

/-- States of a bank that hold its settings in use: READY, ACTIVE, DRAINING. -/
def bankInUse (b : Bank) : Bool := [2, 3, 4].contains b.st || [2, 3, 4].contains b.pst

/-- The contents of the banks in use. -/
def bodiesInUse (s : State) : List RuleBody := ([s.rules.b0, s.rules.b1].filter bankInUse).map (·.body)

/-- Whether a bank in use names a lookup group (R183). -/
def groupNamed (s : State) (g : Nat) : Bool :=
  (bodiesInUse s).any fun b => b.c4.any fun l => match l with | some l => l.group == g | none => false

/-- Whether a bank in use selects an automaton slot of a quadrant (R205). -/
def autoSelected (s : State) (q slot : Nat) : Bool := (bodiesInUse s).any fun b => (b.autos.getD q {}).slot == slot

/-- The checks of TABLE.TERN_GROUP's fields (R183). -/
def groupChecks (s : State) (p : Bytes) : List (Bool × Nat) :=
  let g := rd p 0 1; let first := rd p 1 1; let n := rd p 2 1; let w := rd p 3 1
  let others := (groupsSoon s).del g
  let clash := others.any fun e => decide (e.2.first < first + n) && decide (first < e.2.first + e.2.count)
  [(decide (g < 16), 0), (decide (first < 64) && (w != 2 || decide (first % 2 = 0)), 1),
    (n == 0 || (decide (first + n ≤ 64) && (w != 2 || decide (n % 2 = 0)) && !clash), 2),
    (w == 1 || w == 2, 3), (decide (rd p 4 1 ≤ 1), 4)]

/-- Some quadrant holds an entry in a block of the group. -/
def groupHeld (s : State) (g : Nat) : Bool :=
  (List.range 4).any fun q => (s.quad q).tern.any fun e =>
    match s.tab.groups.find g with | some x => inGroup x e.1 | none => false

/-- TABLE.TERN_GROUP (R183, Table 6.1). -/
def ternGroupSpec : CmdSpec where
  need _ := 5
  run c p _ s :=
    checks (groupChecks s p) (require (!groupHeld s (rd p 0 1) && !groupNamed s (rd p 0 1)) 0x0701 (postCmd c p [] s))

/-- TABLE_TERN_GROUP. -/
def execTableTernGroup (m : Nat) (h : HostAnswer) (s : State) : Outc := acceptAs 0x0710 ternGroupSpec m h s

/-- TABLE.TERN_WRITE (R186, R189, R196). A bad record is named by the offset of the address (log entry 77). -/
def ternWriteSpec : CmdSpec where
  need _ := 16
  run c p h s :=
    let n := rd p 2 2
    manyQuads p (checks [(decide (1 ≤ n) && decide (n ≤ 1024), 2)] (withHost h s fun bs =>
      let rs := ternRecords n bs
      checks [(rs.all (ternRecordOk (groupsSoon s)), 8)]
        (require (!(quadsOf (rd p 0 1)).any fun q => rs.any fun r => ternLocked s q (ternRecord r).2.2) 0x0704
          (postCmd c p bs s))))

/-- TABLE_TERN_WRITE. -/
def execTableTernWrite (m : Nat) (h : HostAnswer) (s : State) : Outc := acceptAs 0x0711 ternWriteSpec m h s

/-- Whether a list has no repeats. -/
def noRepeats (l : List Nat) : Bool := l.eraseDups.length == l.length

/-- The moves of TABLE.TERN_MOVE stay in one group, go to different positions, and each position they go to is empty or
is left by one of them. -/
def movesOk (s : State) (q : Nat) (l : List (Nat × Nat)) : Bool :=
  let t := groupsSoon s
  let g := (groupOfPos t (l.headD (0, 0)).1).map (·.1)
  let same := g.isSome && l.all fun x => (groupOfPos t x.1).map (·.1) == g && (groupOfPos t x.2).map (·.1) == g
  let free := l.all fun x => (s.quad q).tern.find x.2 == none || l.any fun y => y.1 == x.2
  noRepeats (l.map (·.2)) && same && free

/-- TABLE.TERN_MOVE (R190, R196). -/
def ternMoveSpec : CmdSpec where
  need _ := 16
  run c p h s :=
    let n := rd p 2 2
    oneQuad p fun q => checks [(decide (1 ≤ n) && decide (n ≤ 1024), 2)] (withHost h s fun bs =>
      let l := movePairs n bs
      checks [(movesOk s q l, 8)]
        (require (!l.any fun x => ternLocked s q x.1 || ternLocked s q x.2) 0x0704 (postCmd c p bs s)))

/-- TABLE_TERN_MOVE. -/
def execTableTernMove (m : Nat) (h : HostAnswer) (s : State) : Outc := acceptAs 0x0712 ternMoveSpec m h s

/-- The checks of TABLE.TERN_BLOCK_MOVE's fields. -/
def blockChecks (s : State) (q : Nat) (p : Bytes) : List (Bool × Nat) :=
  let down := bit (rd p 1 1) 0
  let start := rd p 4 4; let n := rd p 8 4
  let t := groupsSoon s
  let lo := if down then start - 1 else start
  let hi := if down then start + n - 1 else start + n
  let g := groupOfPos t lo
  let hole := ternRecord (part p 16 96)
  let at_ := if down then start + n - 1 else start
  [(decide (rd p 1 1 < 4), 1),
    (decide (start < 131072) && !(down && start == 0) && (match g with
      | some (_, x) => decide (9 ≤ x.count) | none => false), 4),
    (decide (1 ≤ n) && decide (hi < 131072) && (match g with
      | some (i, x) => inGroup x hi && (x.width == 1 || decide (hi / 2048 = lo / 2048)) && ((groupOfPos t hi).map (·.1) == some i)
      | none => false) && ((s.quad q).tern.find (if down then lo else hi) == none), 8),
    (!bit (rd p 1 1) 1 || (ternRecordOk t (part p 16 96) && hole.2.1 && hole.2.2 == at_), 16)]

/-- The block move that TABLE.TERN_BLOCK_MOVE asks for. -/
def blockMove (beat : Nat) (p : Bytes) : BlockMove :=
  { beat := beat, start := rd p 4 4, count := rd p 8 4, down := bit (rd p 1 1) 0
    hole := if bit (rd p 1 1) 1 then some (ternRecord (part p 16 96)).1 else none }

/-- TABLE.TERN_BLOCK_MOVE (R192, R193). The block and its free end lie at positions that are entries of one group of 9
or more banks; in a group of WIDTH 2 they therefore lie in one bank (log entry 75). The lock and the move begin at
acceptance, the first step is at P3 of that beat, and the response is returned at once. -/
def ternBlockMoveSpec : CmdSpec where
  need p := if bit (rd p 1 1) 1 then 112 else 12
  run _ p _ s :=
    oneQuad p fun q =>
      checks (blockChecks s q p) (require ((s.quad q).move == none) 0x0704
        (replyNow (modQuad q (fun x => { x with move := some (blockMove s.beat p) }) s) (le 8 s.beat)))

/-- TABLE_TERN_BLOCK_MOVE. -/
def execTableTernBlockMove (m : Nat) (h : HostAnswer) (s : State) : Outc := acceptAs 0x0713 ternBlockMoveSpec m h s

/-- Writes the records of `n` positions from `first` of a quadrant to host memory. -/
def ternDump (q first n addr : Nat) (s : State) : State :=
  eachDo (List.range n) (fun i =>
    hostWrite 0 (addr + 96 * i) (ternBytes ((s.quad q).tern.find (first + i)) (first + i))) s

/-- TABLE.TERN_READ: records of the committed state written to host memory (R208). -/
def ternReadSpec : CmdSpec where
  need _ := 24
  run _ p _ s :=
    let first := rd p 4 4; let n := rd p 8 4
    oneQuad p fun q => checks [(decide (first < 131072), 4), (decide (first + n ≤ 131072), 8)]
      (hostReady s (replyNow (ternDump q first n (rd p 16 8) s) []))

/-- TABLE_TERN_READ. -/
def execTableTernRead (m : Nat) (h : HostAnswer) (s : State) : Outc := acceptAs 0x0714 ternReadSpec m h s

/-- Next source position and boundaries left of a block move (R196). -/
def moveStatus (x : Option BlockMove) : Bytes :=
  match x with
  | none => zeros 8
  | some m => le 4 (if m.down then m.start + m.done else m.start + m.count - 1 - m.done) ++
      le 4 (ceilDiv (m.count - m.done) 64)

/-- The response of TABLE.TERN_STATUS. -/
def ternStatusBytes (s : State) (q : Nat) : Bytes :=
  let x := s.quad q
  let count (g : Nat) : Bytes := match s.tab.groups.find g with
    | some g => le 4 (x.tern.filter fun e => inGroup g e.1).length ++ le 4 (x.lost.filter (inGroup g)).length
    | none => zeros 8
  (List.range 16).flatMap count ++ moveStatus x.move

/-- TABLE.TERN_STATUS (R196, R208). -/
def ternStatusSpec : CmdSpec where
  need _ := 1
  run _ p _ s := oneQuad p fun q => replyNow s (ternStatusBytes s q)

/-- TABLE_TERN_STATUS. -/
def execTableTernStatus (m : Nat) (h : HostAnswer) (s : State) : Outc := acceptAs 0x0715 ternStatusSpec m h s

/-- TABLE.TERN_STATS: a snapshot at one boundary (R208). -/
def ternStatsSpec : CmdSpec where
  need _ := 2
  run c p _ s := oneQuad p fun _ => postCmd c p [] s

/-- TABLE_TERN_STATS. -/
def execTableTernStats (m : Nat) (h : HostAnswer) (s : State) : Outc := acceptAs 0x0716 ternStatsSpec m h s

/-- The snapshot of TABLE.TERN_STATS, with the clear it may carry (R208). -/
def applyTernStats (order : Nat) (p : Bytes) (s : State) : State :=
  let q := (quadsOf (rd p 0 1)).headD 0
  let out := (List.range 32).flatMap fun i => le 8 ((s.quad q).ternStats.get 0 i)
  answerOk order out (if bit (rd p 1 1) 0 then modQuad q (fun x => { x with ternStats := [] }) s else s)

/-- The first load check of Table 6.6 that an image fails for a slot of a quadrant, 0 for none. `repair` adds check 7. -/
def autoCheck (s : State) (q slot : Nat) (repair : Bool) (bs : Bytes) : Nat :=
  let x := s.quad q
  let other := (x.autoSlot (1 - slot)).image.length
  if rd bs 0 4 != 0x4155544D then 1
  else if rd bs 4 2 != 1 then 2
  else if rd bs 10 2 != 0x0768 || decide (Config.partRev % 65536 < rd bs 8 2) then 3
  else if rd bs 12 4 != bs.length || decide (8388608 < bs.length + other) then 4
  else if part bs 32 32 != sha256 (bs.drop 64) then 5
  else if decide (rd bs 16 2 < 1) || decide (8192 < rd bs 16 2) then 6
  else if repair && sha256 bs != (x.autoSlot slot).hash then 7
  else 0

/-- The first failing check over the quadrants of a mask. -/
def autoChecks (s : State) (mask slot : Nat) (repair : Bool) (bs : Bytes) : Nat :=
  ((quadsOf mask).map (fun q => autoCheck s q slot repair bs)).foldl (fun a b => if a == 0 then b else a) 0

/-- TABLE.AUTO_LOAD (R205): the slots load until the boundary, and stand empty where a check fails; a length beyond the
automaton memory is check 4's to find. -/
def autoLoadSpec : CmdSpec where
  need _ := 16
  run c p h s :=
    let mask := rd p 0 1; let slot := rd p 1 1
    manyQuads p (checks [(decide (slot < 2), 1)]
      (require (!(quadsOf mask).any fun q => autoSelected s q slot || ((s.quad q).autoSlot slot).st == 2) 0x0706
        (withHost h s fun bs =>
          postCmd c p (part bs 0 (rd p 4 4)) (eachDo (quadsOf mask) (fun q => setAuto q slot fun _ => { st := 2 }) s))))

/-- TABLE_AUTO_LOAD. -/
def execTableAutoLoad (m : Nat) (h : HostAnswer) (s : State) : Outc := acceptAs 0x0720 autoLoadSpec m h s

/-- The end of TABLE.AUTO_LOAD: checks and contents (R205; the time of the load is one boundary, log entry 79). -/
def applyAutoLoad (order : Nat) (p data : Bytes) (s : State) : State :=
  let mask := rd p 0 1; let slot := rd p 1 1
  match autoChecks s mask slot false data with
  | 0 => answer order 0 0 [] (eachDo (quadsOf mask) (fun q => setAuto q slot fun _ =>
      { st := 1, image := data, patterns := rd data 16 2, hash := sha256 data }) s)
  | n => answer order 0x0705 0 (le 1 n) (eachDo (quadsOf mask) (fun q => setAuto q slot fun _ => {}) s)

/-- The loads that an FLR of PF0 cuts off leave their slots empty (R207). -/
def abandonAutoLoads (s : State) : State :=
  let l := s.pend.filter fun x => x.kind == 0x0720
  let s := eachDo l (fun x => eachDo (quadsOf (rd x.req 0 1)) fun q => setAuto q (rd x.req 1 1) fun _ => {}) s
  s.modPend fun l => l.filter fun x => x.kind != 0x0720

/-- An automaton slot as TABLE.AUTO_STATUS shows it. -/
def autoBytes (a : AutoSlot) : Bytes :=
  le 1 a.st ++ le 4 a.image.length ++ le 2 a.patterns ++ part a.hash 0 32 ++ le 4 a.bad.length

/-- TABLE.AUTO_STATUS (R208). -/
def autoStatusSpec : CmdSpec where
  need _ := 1
  run _ p _ s := oneQuad p fun q => replyNow s (autoBytes (s.quad q).auto0 ++ autoBytes (s.quad q).auto1)

/-- TABLE_AUTO_STATUS. -/
def execTableAutoStatus (m : Nat) (h : HostAnswer) (s : State) : Outc := acceptAs 0x0721 autoStatusSpec m h s

/-- TABLE.AUTO_STATS: the pattern counters go to host memory (R203, R208). -/
def autoStatsSpec : CmdSpec where
  need _ := 16
  run _ p _ s := oneQuad p fun q =>
    let x := s.quad q
    let bytes := (List.range 8192).flatMap fun i => le 8 (x.patterns.get 0 i)
    hostReady s (replyNow
      (let s := hostWrite 0 (rd p 8 8) bytes s
       if bit (rd p 1 1) 0 then modQuad q (fun x => { x with patterns := [], scans := [0, 0, 0] }) s else s)
      (x.scans.flatMap (le 8)))

/-- TABLE_AUTO_STATS. -/
def execTableAutoStats (m : Nat) (h : HostAnswer) (s : State) : Outc := acceptAs 0x0722 autoStatsSpec m h s

/-- TABLE.AUTO_REPAIR (R206): the slot's own image again, at P3, even while it is selected. -/
def autoRepairSpec : CmdSpec where
  need _ := 16
  run c p h s :=
    manyQuads p (checks [(decide (rd p 1 1 < 2), 1)] (withHost h s fun bs => postCmd c p (part bs 0 (rd p 4 4)) s))

/-- TABLE_AUTO_REPAIR. -/
def execTableAutoRepair (m : Nat) (h : HostAnswer) (s : State) : Outc := acceptAs 0x0723 autoRepairSpec m h s

/-- A run of words of a slot's own image is rewritten: those of them that were bad or weak are good (R206). -/
def repairWordsOf (n : Nat) (a : AutoSlot) : AutoSlot :=
  let still (w : Nat) : Bool := !(decide (a.repaired ≤ w) && decide (w < a.repaired + n))
  { a with bad := a.bad.filter still, weak := a.weak.filter still, repaired := a.repaired + n }

/-- TABLE.AUTO_REPAIR at P3: a good image is written word by word at successive P3s, with the answer after the last; a
failed check changes nothing (R206; log entries 79 and 221). -/
def applyAutoRepair (order : Nat) (p data : Bytes) (s : State) : State :=
  let mask := rd p 0 1; let slot := rd p 1 1
  match autoChecks s mask slot true data with
  | 0 =>
    let s := eachDo (quadsOf mask) (fun q => setAuto q slot (repairWordsOf (1 + Config.repairWords))) s
    if (quadsOf mask).any fun q => decide (8 * ((s.quad q).autoSlot slot).repaired < data.length) then post order 0x0723 p data s
    else answer order 0 0 [] (eachDo (quadsOf mask) (fun q => setAuto q slot fun a => { a with repaired := 0 }) s)
  | n => answer order 0x0705 0 (le 1 n) (eachDo (quadsOf mask) (fun q => setAuto q slot fun a => { a with repaired := 0 }) s)

end Sys2Proof.Machine
end

