-- ==== Sys2Proof/Machine/RuleBanks.lean ====
section
/-! DEFINITION. The two rule banks: open, load with its checks, commit, revert, abort, the switch at P5, draining and
retirement, and the RULE commands. -/

namespace Sys2Proof.Machine

/-- A physical bank (R124). -/
def State.bank (s : State) (i : Nat) : Bank := if i = 0 then s.rules.b0 else s.rules.b1

/-- Replaces a bank by its image. -/
def modBank (i : Nat) (f : Bank → Bank) (s : State) : State :=
  s.modRules fun r => if i = 0 then { r with b0 := f r.b0 } else { r with b1 := f r.b1 }

/-- The physical bank that is not active. -/
def otherBank (s : State) : Nat := 1 - s.rules.active

/-- In-flight counter of a bank (R129). -/
def inflightOf (s : State) (b : Nat) : Nat := if b = 0 then s.flight.c0 else s.flight.c1

/-- Replaces a bank's in-flight counter by its image. -/
def modInflight (b : Nat) (f : Nat → Nat) (s : State) : State :=
  s.modFlight fun x => if b = 0 then { x with c0 := f x.c0 } else { x with c1 := f x.c1 }

/-- Active logical version (R126). -/
def activeVersion (s : State) : Nat := (s.bank s.rules.active).ver

/-- The next logical version (R126). -/
def nextVersion (s : State) : Nat := (activeVersion s + 1) % 65536

/-- Whether version `a` precedes version `b` by signed 16-bit difference (R131). -/
def precedes (a b : Nat) : Bool :=
  decide (0 < (b + 65536 - a % 65536) % 65536) && decide ((b + 65536 - a % 65536) % 65536 < 32768)

/-- A packet whose version was retired by force (R131). -/
def versionExpired (s : State) (m : Md) : Bool := s.rules.expired.any fun e => e.1 == m.bank && precedes m.ver e.2

/-- A packet ends its life: its bank's in-flight counter falls, once (R129). -/
def flightEnd (i : Nat) (s : State) : State :=
  if (s.pkt i).inflight then modInflight (s.pkt i).md.bank (· - 1) (modPkt i (fun p => { p with inflight := false }) s)
  else s

/-- The other bank's state as the commands of a beat find it: the one committed at the last P5. A command that meets a
change which an earlier command of the beat has made, and which P5 will show, finds none of the states that let it act
(R127; log entry 8). -/
def bankNow (s : State) : Nat := let b := s.bank (otherBank s); if b.st == b.pst then b.st else 6

/-- RULE.OPEN (R126, R127, R143). -/
def ruleOpenSpec : CmdSpec where
  need _ := 2
  run c p _ s :=
    let o := otherBank s
    require (s.rules.sw == 0) 0x0603
      (require (bankNow s != 4) 0x0601
        (require (bankNow s == 0 || bankNow s == 5) 0x0603
          (require (rd p 0 2 == nextVersion s) 0x0602
            (postCmd c p [] (modBank o (fun b => { b with pst := 1 }) s)))))

/-- RULE_OPEN. -/
def execRuleOpen (m : Nat) (h : HostAnswer) (s : State) : Outc := acceptAs 0x0601 ruleOpenSpec m h s

/-- RULE.OPEN at P3: the bank takes its version and no contents, and its bit is cleared in the ternary entries last
(R188, R191). -/
def applyRuleOpen (order : Nat) (p : Bytes) (s : State) : State :=
  let o := otherBank s
  let s := modBank o (fun b => { b with ver := rd p 0 2, hash := [], builtin := false, body := {} }) s
  answerOk order [] (s.modRules fun r => { r with loadOff := 0, loaded := [], placing := none, clear := some o })

/-- The clear that RULE.OPEN asked for (R191). -/
def applyOpenClear (s : State) : State :=
  match s.rules.clear with
  | some b => (clearBankBit b s).modRules fun r => { r with clear := none }
  | none => s

/-- RULE.LOAD (R142): chunks of up to 4 MiB in ascending order without gaps. The final chunk is checked at the boundary
(log entry 79). -/
def ruleLoadSpec : CmdSpec where
  need _ := 17
  run c p h s :=
    let n := rd p 4 4
    require (s.rules.sw == 0 && bankNow s == 1 && s.rules.placing == none) 0x0603
      (checks [(rd p 0 4 == s.rules.loadOff, 0), (decide (1 ≤ n) && decide (n ≤ 4194304), 4)]
        (withHost h s fun bs =>
          let s := s.modRules fun r => { r with loaded := r.loaded ++ part bs 0 n, loadOff := r.loadOff + n }
          if bit (rd p 16 1) 0 then postCmd c p [] (s.modRules fun r => { r with placing := some c.order, placeBeat := s.beat })
          else replyNow s []))

/-- RULE_LOAD. -/
def execRuleLoad (m : Nat) (h : HostAnswer) (s : State) : Outc := acceptAs 0x0602 ruleLoadSpec m h s

/-- A section entry: type, quadrant mask, offset, length (R141). -/
def sectionAt (img : Bytes) (i : Nat) : Nat × Nat × Nat × Nat :=
  let o := 64 + 16 * i
  (rd img o 2, rd img (o + 2) 2, rd img (o + 4) 4, rd img (o + 8) 4)

/-- Check 4 of R142 passes. -/
def sectionsOk (img : Bytes) : Bool :=
  let n := rd img 16 2
  let l := (List.range n).map (sectionAt img)
  rd img 12 4 == img.length && decide (img.length ≤ 50331648) && decide (1 ≤ n) && decide (n ≤ 64) &&
    l.all (fun (t, q, o, k) => decide (1 ≤ t) && decide (t ≤ 8) && (t == 4 || q % 16 == 0) &&
      decide (64 + 16 * n ≤ o) && decide (o + k ≤ img.length)) &&
    noRepeats ((l.map (·.1)).filter (· != 4)) &&
    (List.range n).all fun i => (List.range i).all fun j =>
      let (_, _, o, k) := sectionAt img i
      let (_, _, o', k') := sectionAt img j
      decide (o + k ≤ o') || decide (o' + k' ≤ o)

/-- A parse state within the limits of R112 and R114. -/
def parseStateOk (st : ParseState) : Bool :=
  decide (1 ≤ st.minLen) && decide (st.minLen ≤ st.maxLen) && decide (st.maxLen ≤ 512) &&
    (match st.len with
      | .fixed n => n == st.minLen && n == st.maxLen
      | .computed o n _ _ => decide (n ≤ 16) && decide (fieldEnd o n ≤ 64)) &&
    decide (st.key.length ≤ 2) && decide ((st.key.map (·.2)).foldl (· + ·) 0 ≤ 32) &&
    st.key.all fun f => decide (fieldEnd f.1 f.2 ≤ 64)

/-- A C4 lookup that R185 lets pass. -/
def c4Ok (groups : Tab TernGroup) (b : RuleBody) (l : Option C4Lookup) : Bool :=
  match l with
  | none => true
  | some l => match groups.find l.group with
    | none => false
    | some g => decide (l.builder < b.builders.length) && decide (nth b.builders l.builder ≤ 160 * g.width) &&
        (l.miss == 0xFFFF || decide (l.miss < b.nActions))

/-- An action entry's DROP reason is a rule image's own code (R269). -/
def dropReasonOk (a : ActionSet) : Bool := match a.drop with | some r => decide (128 ≤ r) && decide (r ≤ 255) | none => true

/-- Whether a destination is encoded as Table 5.2 has it (R149). -/
def destOk (dtype dindex : Nat) : Bool :=
  match dtype with
  | 0 => decide (dindex ≤ 801) || (decide (1024 ≤ dindex) && decide (dindex ≤ 1279))
  | 1 => decide (dindex < 4096)
  | 2 => decide (dindex < 65536)
  | _ => decide (dindex < 131072)

/-- An action entry's REDIRECT names a destination of Table 5.2 (R149). -/
def redirectOk (a : ActionSet) : Bool := match a.redirect with | some d => destOk d.1 d.2 | none => true

/-- Check 6 of R142: every limit of R112, R185 and R200, drop reasons (R269), destinations (R149), and the places of the ternary entries
(R191). -/
def limitsOk (s : State) (b : RuleBody) : Bool :=
  decide (b.parse.length ≤ 256) && decide ((b.parse.map (·.trans.length)).foldl (· + ·) 0 ≤ 4096) &&
    b.parse.all parseStateOk && decide (b.geneve.length ≤ 4) &&
    decide (b.builders.length ≤ 32) && b.builders.all (fun n => decide (n ≤ 320)) &&
    decide (b.nActions ≤ 65536) && decide (b.nEgress ≤ 16384) && decide (b.nTemplates ≤ 4096) &&
    b.actions.all (fun e => dropReasonOk e.2 && redirectOk e.2) && b.portDef.all (fun e => decide (e.1 < 802)) && b.c4.all (c4Ok s.tab.groups b) &&
    (List.range 4).all (fun q =>
      let a := b.autos.getD q {}
      a.slot == 0xFF || (decide (a.slot < 2) && ((s.quad q).autoSlot a.slot).st == 1 &&
        ((s.quad q).autoSlot a.slot).hash == a.hash)) &&
    b.tern.all fun x => ternRecordOk s.tab.groups (ternBytes (some { x.entry with banks := 1 }) x.pos) && !placeConflict s x

/-- The image with its contents, or the number of the first check of R142 that fails. -/
def imageCheck (s : State) (img : Bytes) (ver : Nat) : Except Nat RuleBody :=
  if rd img 0 4 != 0x4C555256 then .error 1
  else if rd img 4 2 != 1 then .error 2
  else if rd img 10 2 != 0x0768 || decide (Config.partRev % 65536 < rd img 8 2) then .error 3
  else if !sectionsOk img then .error 4
  else if part img 32 32 != sha256 (img.drop 64) then .error 5
  else match Config.ruleBody img with
    | none => .error 6
    | some b => if !limitsOk s b then .error 6 else if rd img 6 2 != ver then .error 7 else .ok b

/-- Whether an image waits for a block move: one runs in a quadrant where the image places entries, and it was accepted no
later than the final RULE.LOAD (R207). -/
def placeWaits (s : State) : Bool :=
  match Config.ruleBody s.rules.loaded with
  | none => false
  | some b => (List.range 4).any fun q =>
      (b.tern.any fun x => (quadsOf x.quads).contains q) &&
        (match (s.quad q).move with | some m => decide (m.beat ≤ s.rules.placeBeat) | none => false)

/-- The final RULE.LOAD at P3 (R142, R191, R207): after any running block move, the image is checked; a good one is
placed and its bank will be READY at P5, a bad one answers ST_RULE_IMAGE and the bank will be FREE. -/
def applyRuleLoad (order : Nat) (p : Bytes) (s : State) : State :=
  let o := otherBank s
  if (s.bank o).pst != 1 || s.rules.placing != some order then answer order 0x0603 0 [] s
  else if placeWaits s then post order 0x0602 p [] s
  else
    let s := s.modRules fun r => { r with placing := none }
    match imageCheck s s.rules.loaded (s.bank o).ver with
    | .error n => answer order 0x0604 0 (le 1 n) (modBank o (fun b => { b with pst := 0 }) s)
    | .ok body =>
      let s := eachDo body.tern (placeEntry o) s
      answer order 0 0 [] (modBank o (fun b => { b with pst := 2, body := body, hash := sha256 s.rules.loaded }) s)

/-- RULE.COMMIT (R127). -/
def ruleCommitSpec : CmdSpec where
  need _ := 0
  run c p _ s :=
    let st := bankNow s
    require (s.rules.sw == 0) 0x0603 (require (st != 4) 0x0601 (require (st == 2) 0x0603
      (postCmd c p [] (s.modRules fun r => { r with sw := 1 }))))

/-- RULE_COMMIT. -/
def execRuleCommit (m : Nat) (h : HostAnswer) (s : State) : Outc := acceptAs 0x0603 ruleCommitSpec m h s

/-- RULE.ABORT (R124, R127). -/
def ruleAbortSpec : CmdSpec where
  need _ := 0
  run _ _ _ s :=
    let o := otherBank s
    require (s.rules.sw == 0 && (bankNow s == 1 || bankNow s == 2)) 0x0603
      (replyNow (modBank o (fun b => { b with pst := 0 }) s) [])

/-- RULE_ABORT. -/
def execRuleAbort (m : Nat) (h : HostAnswer) (s : State) : Outc := acceptAs 0x0604 ruleAbortSpec m h s

/-- RULE.REVERT (R128). -/
def ruleRevertSpec : CmdSpec where
  need _ := 0
  run c p _ s :=
    let st := bankNow s
    require (s.rules.sw == 0 && (st == 4 || st == 5)) 0x0603
      (postCmd c p [] (s.modRules fun r => { r with sw := 2 }))

/-- RULE_REVERT. -/
def execRuleRevert (m : Nat) (h : HostAnswer) (s : State) : Outc := acceptAs 0x0605 ruleRevertSpec m h s

/-- RULE.REVERT's response: new version and beat of the switch (R143). -/
def applyRuleRevert (order : Nat) (s : State) : State := answer order 0 0 (le 2 (nextVersion s) ++ le 8 s.beat) s

/-- A bank that loads will be FREE at the next P5: FLR of PF0 (R124, R127, R132). -/
def abandonRuleLoad (s : State) : State :=
  let o := otherBank s
  if (s.bank o).pst == 1 then
    (modBank o (fun b => { b with pst := 0 }) s).modRules fun r => { r with placing := none }
  else s

/-- The response of RULE.STATUS (R144). -/
def ruleStatusBytes (s : State) : Bytes :=
  let a := s.bank s.rules.active
  let o := s.bank (otherBank s)
  le 2 a.ver ++ le 1 s.rules.active ++ le 1 o.st ++ le 2 (if o.st == 0 then 0 else o.ver) ++ zeros 2 ++
    le 4 (if o.st == 4 then inflightOf s (otherBank s) else 0) ++ le 8 s.rules.swBeat ++ part a.hash 0 32

/-- RULE.STATUS (R144). -/
def ruleStatusSpec : CmdSpec where
  need _ := 0
  run _ _ _ s := replyNow s (ruleStatusBytes s)

/-- RULE_STATUS. -/
def execRuleStatus (m : Nat) (h : HostAnswer) (s : State) : Outc := acceptAs 0x0606 ruleStatusSpec m h s

/-- A ledger policy's MODE and LAYER; at reset FLOW on the innermost layer (R265). -/
def ledgerPolicy (s : State) (n : Nat) : Nat × Nat := s.ledger.policies.get (2, 1) n

/-- The policy as it stood in the beat of a packet's slot: this beat, or the one before (R39, R265). -/
def policyAt (s : State) (slotBeat n : Nat) : Nat × Nat :=
  if slotBeat = s.beat then ledgerPolicy s n else s.ledger.policiesPrev.get (2, 1) n

/-- RULE.HASH_PROBE (R137, R143): the first bytes of a frame are parsed as a frame of that length and its FCS. -/
def hashProbe (s : State) (tenant : Nat) (bs : Bytes) : Bytes :=
  let body := bankBody (s.bank s.rules.active)
  let frame := bs ++ zeros 4
  let r := parseFrame body frame frame.length
  let frag := r.hdrs.any (isFragment frame)
  let flow := seededHash s.ledger.seed (hashBlock frame (layerOf ((ledgerPolicy s 0).2 == 1) r.hdrs) frag tenant)
  le 4 (spreadHash body.ecmp frame r.hdrs frag tenant) ++ le 4 (spreadHash body.lag frame r.hdrs frag tenant) ++
    le 4 flow ++ le 1 r.exc

/-- RULE.HASH_PROBE. -/
def ruleHashProbeSpec : CmdSpec where
  need p := 6 + (if decide (14 ≤ rd p 4 2) && decide (rd p 4 2 ≤ 512) then rd p 4 2 else 0)
  run _ p _ s :=
    let n := rd p 4 2
    checks [(decide (rd p 0 4 < 2 ^ 20), 0), (decide (14 ≤ n) && decide (n ≤ 512), 4)]
      (replyNow s (hashProbe s (rd p 0 4) (part p 6 n)))

/-- RULE_HASH_PROBE. -/
def execRuleHashProbe (m : Nat) (h : HostAnswer) (s : State) : Outc := acceptAs 0x0607 ruleHashProbeSpec m h s

/-- RULE.PARSE_STATS (R116, R143). -/
def ruleParseStatsSpec : CmdSpec where
  need _ := 3
  run _ p _ s :=
    let port := rd p 0 2
    let out := ([1, 2, 3, 4, 5].flatMap fun c => le 8 (s.flight.exc.get 0 (8 * port + c))) ++
      le 8 (s.flight.mirrorExcess.get 0 port)
    checks [(decide (port < 802), 0)]
      (replyNow (if bit (rd p 2 1) 0 then s.modFlight fun f => { f with
        exc := f.exc.filter fun e => e.1 / 8 != port
        mirrorExcess := f.mirrorExcess.del port } else s) out)

/-- RULE_PARSE_STATS. -/
def execRuleParseStats (m : Nat) (h : HostAnswer) (s : State) : Outc := acceptAs 0x0608 ruleParseStatsSpec m h s

/-- The largest maximum sojourn since the drain began (R130). -/
def drainWatch (s : State) : State := s.modRules fun r => { r with drainSmax := max r.drainSmax s.tm.s }

/-- A bank drains and its counter reads zero: it is RETIRED with EV_RULE_DRAINED (R129; log entry 76). -/
def drainComplete (s : State) : State :=
  let o := otherBank s
  if (s.bank o).st == 4 && s.rules.sw == 0 && decide (s.rules.drainStart < s.beat) && inflightOf s o == 0 then
    raiseEvent 0x0602 (le 2 (s.bank o).ver) (modBank o (fun b => { b with st := 5, pst := 5 }) s)
  else s

/-- RULE_DRAIN_COMPLETE: at P5 of the boundary (R129). -/
def execRuleDrainComplete (s : State) : Outc := .next (atBoundary evDrained [] s)

/-- The drain bound is reached with packets still counted: the fault, the counter set to zero, the bank RETIRED, and its
stragglers marked for VERSION_EXPIRED (R131). -/
def drainStuck (s : State) : State :=
  let o := otherBank s
  let b := s.bank o
  let n := inflightOf s o
  if b.st == 4 && s.rules.sw == 0 && n != 0 && decide (s.rules.drainStart + s.rules.drainSmax + 16 ≤ s.beat) then
    let s := detect 386 b.ver 0 [] s
    let s := raiseEvent 0x0603 (le 2 b.ver ++ zeros 2 ++ le 4 n) s
    let s := modInflight o (fun _ => 0) (modBank o (fun b => { b with st := 5, pst := 5 }) s)
    let s := s.modRules fun r => { r with expired := (r.expired.filter (·.1 != o)) ++ [(o, r.vNew)] }
    s.modBuf fun x => { x with pkts := x.pkts.mapAll fun _ p => if p.md.bank == o then { p with inflight := false } else p }
  else s

/-- RULE_DRAIN_STUCK: at P5 of the boundary (R131). -/
def execRuleDrainStuck (s : State) : Outc := .next (atBoundary evDrained [1] s)

/-- The switch at P5 (R127, R128): the other bank becomes ACTIVE with its version, the active one DRAINING. -/
def ruleSwitch (s : State) : State :=
  if s.rules.sw == 0 then s
  else
    let o := otherBank s
    let a := s.rules.active
    let old := activeVersion s
    let new := if s.rules.sw == 2 then nextVersion s else (s.bank o).ver
    let s := s.modRules fun r => { r with
      b0 := if o = 0 then { r.b0 with st := 3, pst := 3, ver := new } else { r.b0 with st := 4, pst := 4 }
      b1 := if o = 0 then { r.b1 with st := 4, pst := 4 } else { r.b1 with st := 3, pst := 3, ver := new }
      active := if a = 0 then 1 else 0
      sw := 0, swBeat := s.beat, drainStart := s.beat, drainSmax := s.tm.s, vNew := new }
    raiseEvent 0x0601 (le 2 old ++ le 2 new ++ le 1 o) s

/-- GLB_RULE and GLB_RULE_INFLIGHT (R145). -/
def ruleRegs (s : State) : State :=
  let o := s.bank (otherBank s)
  let v := activeVersion s * 65536 + s.rules.active * 256 + o.st
  let n := if o.st == 4 then inflightOf s (otherBank s) else 0
  s.modRules fun r => { r with reg := v, inflReg := n }

/-- The state codes that commands have set become those of the banks; the active bank keeps its own (R127). -/
def showStates (s : State) : State :=
  s.modRules fun r => if r.active = 0 then { r with b1 := { r.b1 with st := r.b1.pst } }
    else { r with b0 := { r.b0 with st := r.b0.pst } }

/-- P5 (R127 to R131, R145). -/
def phase5 (s : State) : State := ruleRegs (drainStuck (drainComplete (ruleSwitch (showStates (drainWatch s)))))

end Sys2Proof.Machine
end

