-- ==== Sys2Proof/Machine/LedgerCount.lean ====
section
/-! DEFINITION. The ledger at the data path: counters, the quadrant flow and spill caches, flush requests, and the
ledger front end's application of a request to its record. -/

namespace Sys2Proof.Machine

/-- Sum of two sets of counters; LAST_DROP is that of the later set when it has one (R275). -/
def Cnt.add (a b : Cnt) : Cnt where
  inPL := (a.inPL + b.inPL) % 2 ^ 40
  inPH := (a.inPH + b.inPH) % 2 ^ 40
  egPL := (a.egPL + b.egPL) % 2 ^ 40
  egPH := (a.egPH + b.egPH) % 2 ^ 40
  inBL := (a.inBL + b.inBL) % 2 ^ 48
  inBH := (a.inBH + b.inBH) % 2 ^ 48
  egBL := (a.egBL + b.egBL) % 2 ^ 48
  egBH := (a.egBH + b.egBH) % 2 ^ 48
  d0 := (a.d0 + b.d0) % 2 ^ 40
  d1 := (a.d1 + b.d1) % 2 ^ 40
  d2 := (a.d2 + b.d2) % 2 ^ 40
  d3 := (a.d3 + b.d3) % 2 ^ 40
  last := if b.last = 0 then a.last else b.last

/-- Packet counters of a set. -/
def Cnt.pkts (c : Cnt) : List Nat := [c.inPL, c.inPH, c.egPL, c.egPH, c.d0, c.d1, c.d2, c.d3]

/-- Byte counters of a set. -/
def Cnt.bytes (c : Cnt) : List Nat := [c.inBL, c.inBH, c.egBL, c.egBH]

/-- A set with no count. -/
def Cnt.none (c : Cnt) : Bool := (c.pkts ++ c.bytes).all (· == 0)

/-- A packet counter has reached 2^30 or a byte counter 2^40 (R272). -/
def Cnt.full (c : Cnt) : Bool := c.pkts.any (fun n => decide (2 ^ 30 ≤ n)) || c.bytes.any (fun n => decide (2 ^ 40 ≤ n))

/-- Packets that UNATTRIBUTED counts for a delta: ingress and egress packets (R274). -/
def Cnt.moved (c : Cnt) : Nat := c.inPL + c.inPH + c.egPL + c.egPH

/-- Sum of a list. -/
def total (l : List Nat) : Nat := l.foldl (· + ·) 0

/-- The delta set of a minute (R271). -/
def CacheEntry.delta (e : CacheEntry) (minute : Nat) : Delta := if minute % 2 = 0 then e.even else e.odd

/-- An entry with the delta set of a minute replaced. -/
def CacheEntry.setDelta (e : CacheEntry) (minute : Nat) (d : Delta) : CacheEntry :=
  if minute % 2 = 0 then { e with even := d } else { e with odd := d }

/-- A quadrant's metering record. -/
def State.lquad (s : State) (q : Nat) : LQuad := s.ledger.quads.get {} q

/-- Replaces a quadrant's metering record by its image. -/
def modLquad (q : Nat) (f : LQuad → LQuad) (s : State) : State :=
  s.modLedger fun l => { l with quads := l.quads.upd {} q f }

/-- The flush request of a delta set of an entry (R272). -/
def requestOf (e : CacheEntry) (d : Delta) : FlushReq :=
  { block := e.block, hash := e.hash, tenant := e.tenant, policy := e.policy, minute := d.minute, c := d.c }

/-- Requests that hold a place of the flush queue (R272). -/
def queuePlaces (x : LQuad) : Nat := x.queue.length

/-- The flush queue has no place for `n` more requests (R272). -/
def queueFull (x : LQuad) (n : Nat) : Bool := decide (4096 < queuePlaces x + n)

/-- Puts requests into the flush queue. -/
def queueAdd (l : List FlushReq) (x : LQuad) : LQuad :=
  let x := { x with queue := x.queue ++ l }
  { x with high := max x.high (queuePlaces x) }

/-- Requests an entry leaves when it is evicted: its non-zero sets (R272). -/
def evictRequests (e : CacheEntry) : List FlushReq :=
  ([e.even, e.odd].filter fun d => !d.c.none).map (requestOf e)

/-- An entry counts a delta of a minute (R271, R272): a set that still held another minute becomes a request first, and
one that reaches its threshold becomes a request and is zeroed while the queue has room (log entry 95). -/
def countEntry (room : Bool) (minute policy beat : Nat) (inc : Cnt) (e : CacheEntry) : CacheEntry × List FlushReq :=
  let old := e.delta minute
  let stale := old.minute != minute && !old.c.none
  let base : Cnt := if old.minute = minute then old.c else {}
  let d : Delta := { minute := minute, c := base.add inc }
  let e' := { e with policy := policy, beat := beat }
  let out := if stale then [requestOf e old] else []
  if d.c.full && room then
    let zero : Delta := { minute := minute }
    (e'.setDelta minute zero, out ++ [requestOf e' d])
  else (e'.setDelta minute d, out)

/-- The way of a set that holds what `same` recognises. -/
def findWay (t : Tab CacheEntry) (base ways : Nat) (same : CacheEntry → Bool) : Option Nat :=
  ((List.range ways).map (base + ·)).find? fun p => match t.find p with | some e => same e | none => false

/-- The lowest free way of a set. -/
def freeWay (t : Tab CacheEntry) (base ways : Nat) : Option Nat :=
  ((List.range ways).map (base + ·)).find? fun p => !t.has p

/-- The way whose last count is oldest, the lowest of equals (R271). -/
def oldestWay (t : Tab CacheEntry) (base ways : Nat) : Nat :=
  ((List.range ways).map (base + ·)).foldl (fun b p =>
    if (t.get {} p).beat < (t.get {} b).beat then p else b) base

/-- Where a count goes in a cache set: a held or free way; or an evicted way whose requests find room; or nowhere. -/
def placeCount (t : Tab CacheEntry) (base ways : Nat) (same : CacheEntry → Bool) (fresh : CacheEntry) (x : LQuad) :
    Option (Nat × CacheEntry × List FlushReq) :=
  match findWay t base ways same with
  | some p => some (p, t.get {} p, [])
  | none =>
    match freeWay t base ways with
    | some p => some (p, fresh, [])
    | none =>
      let v := oldestWay t base ways
      let out := evictRequests (t.get {} v)
      if queueFull x (max 1 out.length) then none else some (v, fresh, out)

/-- Facts of a minute, by parity. -/
def State.minuteOf (s : State) (minute : Nat) : Minute := if minute % 2 = 0 then s.ledger.even else s.ledger.odd

/-- Replaces the facts of a minute by their image. -/
def modMinute (minute : Nat) (f : Minute → Minute) (s : State) : State :=
  s.modLedger fun l => if minute % 2 = 0 then { l with even := f l.even } else { l with odd := f l.odd }

/-- Adds to a count of LEDGER.STATS (R296). -/
def ledgerCount (i : Nat) (s : State) : State := s.modLedger fun l => { l with stats := addAt l.stats i 1 }

/-- A delta of a minute is lost: EV_LEDGER_LOST is raised once per minute and kind (R274, R276). `kind` is 1 for MODULE and 2
for RATE. -/
def lossTold (kind minute : Nat) (s : State) : State :=
  let tell := !((s.minuteOf minute).told.getD (kind - 1) true)
  let s := modMinute minute (fun m => { m with
    told := m.told.set (kind - 1) true
    lostModule := if kind = 1 then satAdd 32 m.lostModule 1 else m.lostModule }) (ledgerCount (5 + kind) s)
  if tell then raiseEvent 0x0A02 (le 4 minute ++ le 1 kind) s else s

/-- A delta of a tenant and minute is lost: the tenant's bit is set too (R280). -/
def deltaLost (kind minute tenant : Nat) (s : State) : State :=
  lossTold kind minute (modMinute minute (fun m => { m with
    lost := if m.lost.contains tenant then m.lost else tenant :: m.lost }) s)

/-- A count that no cache can hold (R274). -/
def countUnattributed (q tenant minute : Nat) (inc : Cnt) (s : State) : State :=
  let add (l : List Nat) := addAt (addAt (addAt l 0 inc.moved) 1 (total inc.bytes)) 2 (inc.d0 + inc.d1 + inc.d2 + inc.d3)
  deltaLost 2 minute tenant (modLquad q (fun x => { x with
    even := if minute % 2 = 0 then add x.even else x.even
    odd := if minute % 2 = 0 then x.odd else add x.odd
    lost := addAt x.lost (minute % 2) 1 }) s)

/-- A count in the spill cache (R274). -/
def countSpill (q hash tenant policy minute : Nat) (inc : Cnt) (s : State) : State :=
  let x := s.lquad q
  match placeCount x.spills (4 * (tenant % 1024)) 4 (fun e => e.tenant == tenant)
      { hash := hash, tenant := tenant } x with
  | none => countUnattributed q tenant minute inc s
  | some (p, e, out) =>
    let r := countEntry (!queueFull x (out.length + 1)) minute policy s.beat inc e
    modLquad q (fun x => queueAdd (out ++ r.2) { x with spills := x.spills.put p r.1 }) s

/-- A count in the flow cache; a miss that would need an eviction while the queue is full spills (R271, R274). -/
def countFlow (q : Nat) (block : Bytes) (hash tenant policy minute : Nat) (inc : Cnt) (s : State) : State :=
  let x := s.lquad q
  match placeCount x.flows (8 * (hash % 65536)) 8 (fun e => e.block == block)
      { block := block, hash := hash, tenant := tenant } x with
  | none => countSpill q hash tenant policy minute inc s
  | some (p, e, out) =>
    let r := countEntry (!queueFull x (out.length + 1)) minute policy s.beat inc e
    modLquad q (fun x => queueAdd (out ++ r.2) { x with flows := x.flows.put p r.1 }) s

/-- The ledger counts a delta of a packet in a quadrant's caches (R265, R268). -/
def countPacket (q : Nat) (k : Packet) (inc : Cnt) (s : State) : State :=
  if !k.counted then s
  else if k.mode == 1 then countSpill q k.md.flowHash k.md.tenant k.md.policy k.md.minute inc s
  else if k.mode == 2 then countFlow q k.block k.md.flowHash k.md.tenant k.md.policy k.md.minute inc s
  else s

/-- IN_PKTS and IN_BYTES of a packet in its direction (R266, R268). -/
def inCount (lh : Bool) (n : Nat) : Cnt := if lh then { inPL := 1, inBL := n } else { inPH := 1, inBH := n }

/-- EG_PKTS and EG_BYTES (R266, R268). -/
def egCount (lh : Bool) (n : Nat) : Cnt := if lh then { egPL := 1, egBL := n } else { egPH := 1, egBH := n }

/-- Drop class of a reason (R269). -/
def dropClass (reason : Nat) : Nat := if reason < 64 then reason / 16 else 0

/-- A drop of a reason (R268, R269). -/
def dropCount (reason : Nat) : Cnt :=
  match dropClass reason with
  | 0 => { d0 := 1, last := reason }
  | 1 => { d1 := 1, last := reason }
  | 2 => { d2 := 1, last := reason }
  | _ => { d3 := 1, last := reason }

/-- Requests are released to the mover at P8 (R272). -/
def releaseFlushes (s : State) : State :=
  s.modLedger fun l => { l with quads := l.quads.mapAll fun _ x => { x with
    queue := x.queue.map fun r => { r with released := true } } }

/-- LAS address of the half of a tenant row that a minute has (R279). -/
def halfLas (s : State) (tenant minute : Nat) : Nat := rowLas s tenant + 64 * (minute % 2)

/-- Adds counts to half a tenant row. A row on a lost unit takes nothing (R290); one that is read with poison is invalid, and
the counts are lost to the tenant (R280, R305; log entry 230). -/
def rowAdd (tenant minute : Nat) (c : Cnt) (agg : Bool) (flows : Nat) (s : State) : State :=
  let a := halfLas s tenant minute
  if unitLost s (unitOf s a) then s
  else if unitPoison s (unitOf s a) then
    deltaLost 1 minute tenant (lasReadCount a 64 (s.modLedger fun l => { l with rows := l.rows.del (2 * tenant + minute % 2) }))
  else s.modLedger fun l => { l with rows := l.rows.upd {} (2 * tenant + minute % 2) fun r => { r with
    minute := minute
    agg := r.agg || agg
    flows := (r.flows + flows) % 2 ^ 32
    inP := (r.inP + c.inPL + c.inPH) % 2 ^ 48
    egP := (r.egP + c.egPL + c.egPH) % 2 ^ 48
    inB := (r.inB + c.inBL + c.inBH) % 2 ^ 64
    egB := (r.egB + c.egBL + c.egBH) % 2 ^ 64
    drops := [(nth r.drops 0 + c.d0) % 2 ^ 48, (nth r.drops 1 + c.d1) % 2 ^ 48, (nth r.drops 2 + c.d2) % 2 ^ 48,
      (nth r.drops 3 + c.d3) % 2 ^ 48] } }

/-- Whether a record of a minute is rolled (R276). -/
def isRolled (s : State) (minute : Nat) : Bool :=
  decide (minute < s.ledger.opn) &&
    !((s.ledger.roll.step == 2 || s.ledger.roll.step == 3) && minute == s.ledger.roll.minute)

/-- Positions of a bucket (R275). -/
def bucketOf (hash : Nat) : List Nat := (List.range 4).map (4 * (hash % 2 ^ 23) + ·)

/-- The victim among four valid records (R276), with the LFSR as it stands after. -/
def ledgerVictim (s : State) (ps : List Nat) : Nat × Nat :=
  if s.ledger.random then
    let x := lfsr32 s.ledger.lfsr
    (nth ps (x % 4), x)
  else
    let at_ (p : Nat) : LRec := s.ledger.recs.get {} p
    (ps.foldl (fun b p =>
      if (at_ p).minute < (at_ b).minute ||
        ((at_ p).minute == (at_ b).minute && decide ((at_ p).serial < (at_ b).serial)) then p else b) (nth ps 0),
     s.ledger.lfsr)

/-- Byte position of a ledger ring from the region's base: 0 history, 1 key-log, 2 tenant-minute (R307). -/
def ringBase (s : State) (i : Nat) : Nat :=
  (ledgerBase s).getD 0 + ledgerTableSize + tenantRowsSize +
    (if 1 ≤ i then 33554432 * nth s.ledger.rings 0 else 0) + (if 2 ≤ i then 67108864 * nth s.ledger.rings 1 else 0)

/-- Records that a ledger ring holds (R288). -/
def ringRecords (s : State) (i : Nat) : Nat := nth s.ledger.rings i * (if i = 2 then 2 ^ 14 else 2 ^ 20)

/-- Bytes of a record of a ledger ring. -/
def ringStride (i : Nat) : Nat := if i = 0 then 32 else 64

/-- LAS address of a record of a ledger ring, by its number since LEDGER.START (R288, R307). -/
def ringRecordLas (s : State) (i n : Nat) : Nat := ringBase s i + n % max 1 (ringRecords s i) * ringStride i

/-- Appends a record to a ledger ring (R288); one that falls on a lost unit is lost (R313). -/
def ringAppend (i : Nat) (bs : Bytes) (s : State) : State :=
  let n := nth s.ledger.written i
  let gone := unitLost s (unitOf s (ringRecordLas s i n))
  let s := ringWriteLas (ringBase s i) (ringRecords s i * ringStride i) (n * ringStride i) bs s
  s.modLedger fun l => { l with
    written := addAt l.written i 1
    past := if gone then l.past.set i (n + 1) else l.past }

/-- One more than the number of the newest record of a ring that lies on a lost unit; 0 where none does. -/
def ringGone (s : State) (i : Nat) : Nat :=
  let n := nth s.ledger.written i
  match (List.range (min n (ringRecords s i))).find? fun j => unitLost s (unitOf s (ringRecordLas s i (n - 1 - j))) with
  | some j => n - j
  | none => 0

/-- Records of the rings on a unit that is lost are lost (R313). -/
def ringsLost (s : State) : State :=
  whenDo (anyUnitLost s) (fun s => s.modLedger fun l => { l with
    past := [0, 1, 2].map fun i => max (nth l.past i) (ringGone s i) }) s

/-- A new record takes a position (R276, R277, R286): its key-log record is written and joins the minute's. -/
def createRecord (p : Nat) (d : FlushReq) (s : State) : State :=
  let n := s.ledger.serial
  let base : Cnt := {}
  let r : LRec := {
    tenant := d.tenant, hash := d.hash, block := d.block, policy := d.policy, minute := d.minute
    firstMin := d.minute, c := base.add d.c, serial := n }
  let key := le 4 n ++ le 4 d.minute ++ part (recordBytes r) 0 48 ++ zeros 8
  let at_ := nth s.ledger.written 1
  let s := modMinute d.minute (fun m => { m with
    keyFirst := if m.keylog.isEmpty then at_ else m.keyFirst
    keylog := m.keylog ++ [key] }) s
  ledgerCount 1 (ringAppend 1 key (s.modLedger fun l => { l with
    recs := l.recs.put p r, serial := (n + 1) % 2 ^ 32 }))

/-- A record takes more counts. -/
def addToRecord (p : Nat) (d : FlushReq) (s : State) : State :=
  s.modLedger fun l => { l with recs := l.recs.upd {} p fun r =>
    { r with minute := d.minute, policy := d.policy, c := r.c.add d.c } }

/-- A request with no record yet finds a position: an invalid way, a rolled way with no counts, or a victim whose counts
are folded into its row (R276). -/
def applyNew (d : FlushReq) (s : State) : State :=
  let ps := bucketOf d.hash
  match ps.find? (fun p => !s.ledger.recs.has p) with
  | some p => createRecord p d s
  | none =>
    let idle (p : Nat) : Bool := isRolled s (s.ledger.recs.get {} p).minute && (s.ledger.recs.get {} p).c.none
    let v : Nat × Nat := match ps.find? idle with
      | some p => (p, s.ledger.lfsr)
      | none => ledgerVictim s ps
    let r := s.ledger.recs.get {} v.1
    let s := s.modLedger fun l => { l with lfsr := v.2 }
    let s := whenDo (!r.c.none) (rowAdd r.tenant r.minute r.c true 0) s
    let s := modMinute d.minute (fun m => { m with evictions := (m.evictions + 1) % 2 ^ 32 }) (ledgerCount 2 s)
    createRecord v.1 d s

/-- A request's bucket reads as poison: its records are invalid, and the request is a lost delta (R305). -/
def bucketPoisoned (d : FlushReq) (s : State) : State :=
  let s := lasReadCount (recordLas s (4 * (d.hash % 2 ^ 23))) 512 s
  deltaLost 1 d.minute d.tenant (s.modLedger fun l => { l with
    recs := l.recs.filter fun e => !(bucketOf d.hash).contains e.1 })

/-- One flush request is applied (R276); a spill request goes to its tenant's row (R274, R279). -/
def applyFlush (d : FlushReq) (s : State) : State :=
  let s := ledgerCount 0 s
  let a := recordLas s (4 * (d.hash % 2 ^ 23))
  if d.block.isEmpty then
    if rangeLost s (rowLas s d.tenant) 128 then deltaLost 1 d.minute d.tenant s
    else rowAdd d.tenant d.minute d.c true 0 (ledgerCount 5 s)
  else if rangeLost s a 512 || rangeLost s (rowLas s d.tenant) 128 then deltaLost 1 d.minute d.tenant s
  else if rangePoison s a 512 then bucketPoisoned d s
  else
    let s := lasReadCount a 512 s
    match (bucketOf d.hash).find? (fun p => match s.ledger.recs.find p with
        | some r => r.tenant == d.tenant && r.block == d.block
        | none => false) with
    | none => applyNew d s
    | some p =>
      let r := s.ledger.recs.get {} p
      if r.minute == d.minute || isRolled s r.minute then addToRecord p d s
      else if s.ledger.deferred.length < 1048576 then
        ledgerCount 3 (s.modLedger fun l => { l with deferred := l.deferred ++ [d] })
      else ledgerCount 4 (rowAdd d.tenant d.minute d.c true 0 s)

/-- The set of a minute as a request of the roll, if it has counts (R283). -/
def rollRequest (m : Nat) (e : CacheEntry) : Option FlushReq :=
  let d := e.delta m
  if d.minute == m && !d.c.none then some (requestOf e d) else none

/-- The entry without its set of a minute. -/
def dropSet (m : Nat) (e : CacheEntry) : CacheEntry :=
  let zero : Delta := { minute := m }
  e.setDelta m zero

/-- The first `room` sets of a minute leave a cache as requests (R272, R283). -/
def rollSets (m : Nat) : Nat → Tab CacheEntry → Tab CacheEntry × List FlushReq
  | _, [] => ([], [])
  | room, (p, e) :: t =>
    match room, rollRequest m e with
    | k + 1, some r => let x := rollSets m k t; ((p, dropSet m e) :: x.1, r :: x.2)
    | k, _ => let x := rollSets m k t; ((p, e) :: x.1, x.2)

/-- FLUSH in a quadrant's record: sets of the minute enter the queue while it has room (R272, R283; log entry 91). -/
def rollFill (m : Nat) (released : Bool) (x : LQuad) : LQuad :=
  let f := rollSets m (4096 - queuePlaces x) x.flows
  let p := rollSets m (4096 - queuePlaces x - f.2.length) x.spills
  queueAdd ((f.2 ++ p.2).map fun r => { r with released := released }) { x with flows := f.1, spills := p.1 }

/-- A set of the minute still waits in a cache of the quadrant. -/
def setsLeft (m : Nat) (x : LQuad) : Bool := (x.flows ++ x.spills).any fun e => (rollRequest m e.2).isSome

/-- FLUSH in a quadrant: more sets enter its queue. -/
def rollQuad (m : Nat) (released : Bool) (q : Nat) (s : State) : State := modLquad q (rollFill m released) s

/-- Takes the first released request out of a quadrant's queue; a set that FLUSH has left to queue takes its place. -/
def takeRequest (q : Nat) (s : State) : Option FlushReq × State :=
  match (s.lquad q).queue with
  | [] => (none, s)
  | r :: rest =>
    if !r.released then (none, s)
    else
      let t := modLquad q (fun x => { x with queue := rest }) s
      (some r, whenDo (s.ledger.roll.step == 2) (rollQuad s.ledger.roll.minute false q) t)

/-- The front request of a quadrant's queue is applied (R276). -/
def flushFront (q : Nat) (s : State) : State :=
  match takeRequest q s with
  | (some r, t) => ledgerTraffic [q] (applyFlush r t)
  | (none, t) => t

/-- FLUSH_REQUEST_APPLY, in the mover channel of the quadrant (R314, R315). -/
def execFlushRequestApply (q : Nat) (s : State) : Outc :=
  need (decide (q < 4)) "quadrant" (.next (whenServed q (flushFront q) s))

/-- A record of the burst at a LAS address is invalid, and the front request of a quadrant is a lost delta (R305). -/
def poisonLost (q a : Nat) (s : State) : State :=
  match takeRequest q s with
  | (none, t) => t
  | (some r, t) =>
    deltaLost 1 r.minute r.tenant (ledgerCount 0 (t.modLedger fun l => { l with
      recs := l.recs.filter fun e => !(decide (a / 256 * 256 ≤ recordLas s e.1) && decide (recordLas s e.1 < a / 256 * 256 + 256)) }))

/-- A read of module address `a` returns poison (R301, R305, R321): a module of a pair whose partner has the data is repaired;
else a ledger record is invalid and its request a lost delta, a mover channel stops with CODE 5, and LEDGER.SEAL_GET finds the
poison when it reads the seal (R304; log entry 231). -/
def poisonRead (p a : Nat) (reader : PoisonReader) (s : State) : State :=
  let pair := (unitPorts s ((memUnits s).findIdx fun l => l.contains p)).filter (· != p)
  if !memReads s p then s
  else match pair.find? fun q => memReads s q && !(s.memPort q).viral with
  | some q => poisonRepair p q a s
  | none =>
    match reader with
    | .mover ch => xdcStop ch 5 (lasOf s p a / 256 * 256) p (poisonTell p a s)
    | .ledger q => poisonLost q (lasOf s p a) (poisonTell p a s)
    | .sealGet => modMemPort p (fun m => { m with poison := a / 256 :: m.poison.filter (· != a / 256) }) s

/-- MEM_POISON_READ. -/
def execMemPoisonRead (p a : Nat) (reader : PoisonReader) (s : State) : Outc :=
  need (decide (p < 4) && (match reader with | .ledger q => decide (q < 4) | .mover c => decide (c < 8) | .sealGet => true))
    "memory port or reader" (.next (poisonRead p a reader s))

end Sys2Proof.Machine
end

