-- ==== Sys2Proof/Machine/Emt.lean ====
section
/-! DEFINITION. The exact-match table of a quadrant: lookup, insertion, notifications, learning with flap damping, and
the ageing sweep. -/

namespace Sys2Proof.Machine

/-- The first position of the overflow store (R152). -/
def overflowBase : Nat := 1048576

/-- The two candidate buckets of a key (R155). -/
def candidates (t : Tables) (typ key : Nat) : Nat × Nat :=
  let blk := le 1 typ ++ le 8 key
  let h0 := seededHash t.seed0 blk % 262144
  let h1 := seededHash t.seed1 blk % 262144
  (h0, if h1 = h0 then Nat.xor h0 1 else h1)

/-- Whether a position is searched for a key with these candidates (R152). -/
def searched (c : Nat × Nat) (pos : Nat) : Bool :=
  decide (overflowBase ≤ pos) || pos / 4 == c.1 || pos / 4 == c.2

/-- The entry of a key with its position (R152). -/
def emtFind (t : Tables) (x : Quad) (typ key : Nat) : Option (Nat × EmtEntry) :=
  let c := candidates t typ key
  x.emt.find? fun e => e.2.typ == typ && e.2.key == key && searched c e.1

/-- A lookup by a packet: an entry known to fail its parity in this beat is a miss; a hit sets the hit bit of the beat
(R38, R159). -/
def emtLookup (t : Tables) (q typ key : Nat) (s : State) : Option EmtEntry × State :=
  match emtFind t (t.quads.get {} q) typ key with
  | none => (none, s)
  | some (pos, e) =>
    if (s.quad q).badPos.contains pos then (none, s)
    else (some e, modQuad q (fun x => { x with hits := if x.hits.contains pos then x.hits else x.hits ++ [pos] }) s)

/-- The MAC key of a station (Table 5.4). -/
def macKey (bd mac : Nat) : Nat := bd * 2 ^ 48 + mac

/-- The result of a destination (Table 5.4). -/
def destResult (dtype dindex action : Nat) : Nat := dtype * 2 ^ 62 + dindex * 2 ^ 38 + action

/-- DEST_TYPE, DEST_INDEX and ACTION of a result (Table 5.4). -/
def destOf (r : Nat) : Nat × Nat × Nat := (fld r 63 62, fld r 61 38, fld r 15 0)

/-- Adds one to a TABLE.STATS counter of a quadrant (R181). -/
def tabCount (q i : Nat) (s : State) : State := modQuad q (fun x => { x with stats := x.stats.upd 0 i (· + 1) }) s

/-- A notification: written to the host ring while the ring is set and its kind is asked for, up to NOTIFY_MAX in a
beat; the rest are counted, and told at most once in 1,000,000 beats (R180). -/
def notify (kind q key old new : Nat) (s : State) : State :=
  let n := s.tab.notify
  if !n.set || !bit n.mask (kind - 1) then s
  else if n.now < n.max then
    let s := hostWrite 0 (n.addr + 32 * (n.seq % n.size))
      (le 4 n.seq ++ le 1 kind ++ le 1 q ++ zeros 2 ++ le 8 key ++ le 8 old ++ le 8 new) s
    s.modTab fun t => { t with notify := { t.notify with seq := (t.notify.seq + 1) % 2 ^ 32, now := t.notify.now + 1 } }
  else
    let tell := mayTell n.lostBeat 1000000 s.beat
    let s := s.modTab fun t => { t with notify := { t.notify with
      drop := t.notify.drop + 1, lostBeat := if tell then s.beat + 1 else t.notify.lostBeat } }
    if tell then raiseEvent 0x0703 (le 8 s.tab.notify.drop) s else s

/-- What an insert did (R156, Table 5.5). -/
inductive Ins where
  | placed | updated | evicted | full | staticConflict
  deriving DecidableEq, Repr

/-- The code of an outcome in TABLE.INSERT's response (R179). -/
def Ins.code : Ins → Nat
  | .placed => 0
  | .updated => 1
  | .evicted => 2
  | _ => 0xFF

/-- Free ways of a bucket. -/
def freeWays (x : Quad) (b : Nat) : List Nat := ((List.range 4).map (4 * b + ·)).filter fun p => !x.emt.has p

/-- The insertion procedure of R156 on one quadrant: the outcome, the quadrant after it, and the evicted entry. -/
def emtInsert (t : Tables) (x : Quad) (typ key result : Nat) (static fromSw noEvict : Bool) :
    Ins × Quad × Option EmtEntry :=
  let c := candidates t typ key
  let fresh : EmtEntry := { typ := typ, key := key, result := result, static := static }
  let put (pos : Nat) : Quad := { x with emt := x.emt.put pos fresh }
  match emtFind t x typ key with
  | some (pos, e) =>
    if e.static && !fromSw then (.staticConflict, x, none)
    else (.updated, { x with emt := x.emt.put pos { e with
      result := result, static := static, hit := true, idle := 0, frozen := e.frozen && !fromSw } }, none)
  | none =>
    let f0 := freeWays x c.1
    let f1 := freeWays x c.2
    match if f0.length < f1.length then f1 else f0 with
    | pos :: _ => (.placed, put pos, none)
    | [] =>
      match ((List.range 4096).map (overflowBase + ·)).find? fun p => !x.emt.has p with
      | some pos => (.placed, put pos, none)
      | none =>
        if noEvict then (.full, x, none)
        else
          let inBucket (b : Nat) : List (Nat × EmtEntry) := x.emt.filter fun e => e.1 / 4 == b && !e.2.static
          let cand := inBucket c.1 ++ inBucket c.2
          match cand with
          | [] => (.full, x, none)
          | first :: rest =>
            let random := bit t.evict typ
            let l := lfsr32 x.lfsr
            let victim := if random then cand.getD (l % cand.length) first
              else rest.foldl (fun v e => if v.2.idle < e.2.idle then e else v) first
            (.evicted, { put victim.1 with lfsr := if random then l else x.lfsr }, some victim.2)

/-- An eviction is told; one that a learn event makes is counted (Table 5.5). -/
def tellEvicted (q : Nat) (learned : Bool) (victim : Option EmtEntry) (s : State) : State :=
  match victim with
  | none => s
  | some v =>
    let s := modQuad q (fun x => { x with frozen := if v.typ = 1 then x.frozen.del v.key else x.frozen }) s
    notify 4 q v.key v.result 0 (whenDo learned (tabCount q 8) s)

/-- Removes the entry at a position; with it ends a freeze of its key (R170). -/
def emtRemove (q pos : Nat) (s : State) : State :=
  modQuad q (fun x => { x with
    emt := x.emt.del pos
    frozen := match x.emt.find pos with
      | some e => if e.typ = 1 then x.frozen.del e.key else x.frozen
      | none => x.frozen }) s

/-- Whether a table DMA channel holds a lock on a bucket of a quadrant (R175). -/
def bucketLocked (s : State) (q b : Nat) : Bool :=
  s.tdc.any fun e => e.2.locked && bit e.2.lockMask q && decide (e.2.span.1 / 4 ≤ b) &&
    decide (4 * b < e.2.span.1 + e.2.span.2)

/-- Defers an event or visit, or drops it where the queue is full (R175). -/
def defer (q : Nat) (d : Deferral) (s : State) : State :=
  if (s.quad q).queue.length < 32768 then modQuad q (fun x => { x with queue := x.queue ++ [d] }) s
  else tabCount q 15 s

/-- The LAG that lists a port as a member (R164). -/
def lagOf (t : Tables) (p : Nat) : Option Nat :=
  (t.lag.find? fun g => g.2.members.any fun m => decide (m.1 < g.2.count) && m.2.1 == p).map (·.1)

/-- DEST_INDEX learned for a port (R167). -/
def learnDest (t : Tables) (p : Nat) : Nat := match lagOf t p with | some g => 1024 + g | none => p

/-- Learned-address count of a port or LAG in a quadrant: dynamic MAC entries whose destination it is (R171). -/
def learnCount (x : Quad) (dest : Nat) : Nat :=
  (x.emt.filter fun e => e.2.typ == 1 && !e.2.static && (destOf e.2.result).1 == 0 && (destOf e.2.result).2.1 == dest).length

/-- The freeze of a key at a move that exceeds the threshold (R170): the slot is freed, the entry frozen, and the event
raised. -/
def freeze (q pos key old new : Nat) (s : State) : State :=
  let s := modQuad q (fun x => { x with
    flaps := x.flaps.filter fun f => f.key != key
    frozen := x.frozen.put key s.beat
    emt := x.emt.upd {} pos fun e => { e with frozen := true } }) s
  raiseEvent 0x0701 (le 1 q ++ le 1 1 ++ zeros 6 ++ le 8 key ++ le 8 old ++ le 8 new)
    (notify 5 q key old new (tabCount q 11 s))

/-- The slot that a key's first move takes: a free one, or the one with the oldest window (R170). -/
def flapTake (l : List FlapSlot) (f : FlapSlot) : List FlapSlot :=
  if l.length < 1024 then l ++ [f]
  else
    let oldest := (l.map (·.start)).foldl min f.start
    match l.findIdx? fun x => x.start == oldest with
    | some i => l.set i f
    | none => l

/-- A move is counted by the flap tracker (R170). -/
def flapMove (q pos key old new : Nat) (s : State) : State :=
  if s.tab.dampMax = 0 then s
  else
    match (s.quad q).flaps.find? fun f => f.key == key with
    | some f =>
      if s.tab.dampMax < f.moves + 1 then freeze q pos key old new s
      else modQuad q (fun x => { x with flaps := x.flaps.map fun g =>
        if g.key == key then { g with moves := g.moves + 1 } else g }) s
    | none => modQuad q (fun x => { x with flaps := flapTake x.flaps { key := key, start := s.beat, moves := 1 } }) s

/-- A learn event is applied: to a frozen key it is discarded (R170); the same destination is the UPDATED of R156; another
is a station move (R157, R169, R170). -/
def learnApply (q : Nat) (e : Learn) (s : State) : State :=
  let x := s.quad q
  let new (action : Nat) : Nat := destResult 0 e.dest action
  match emtFind s.tab x 1 e.key with
  | some (pos, old) =>
    if old.static then notify 8 q e.key old.result (new 0xFFFF) (tabCount q 10 s)
    else
      let (dt, di, act) := destOf old.result
      if old.frozen then tabCount q 18 s
      else if dt == 0 && di == e.dest then
        tabCount q 6 (modQuad q (fun x => { x with
          emt := x.emt.put pos { old with result := new 0xFFFF, hit := true, idle := 0 } }) s)
      else
        let r := new act
        let s := modQuad q (fun x => { x with emt := x.emt.put pos { old with result := r, hit := true, idle := 0 } }) s
        flapMove q pos e.key old.result r (notify 2 q e.key old.result r (tabCount q 7 (tabCount q 6 s)))
  | none =>
    let (o, x', victim) := emtInsert s.tab x 1 e.key (new 0xFFFF) false false false
    match o with
    | .full | .staticConflict => tabCount q 9 s
    | _ => notify 1 q e.key 0 (new 0xFFFF) (tellEvicted q true victim (tabCount q 6 (modQuad q (fun _ => x') s)))

/-- A learn event at P2: deferred whole where a candidate bucket is locked, else applied (R175). -/
def learnAt (q : Nat) (e : Learn) (s : State) : State :=
  let c := candidates s.tab 1 e.key
  if bucketLocked s q c.1 || bucketLocked s q c.2 then defer q (.learn e) s else learnApply q e s

/-- The positions of a sweep visit: a bucket, or four overflow slots (R172). -/
def visitPositions (b : Nat) : List Nat :=
  let base := if b < 262144 then 4 * b else overflowBase + 4 * (b - 262144)
  (List.range 4).map (base + ·)

/-- The ageing of one position (R173). -/
def ageOne (q pos : Nat) (s : State) : State :=
  match (s.quad q).emt.find pos with
  | none => s
  | some e =>
    if e.hit then modQuad q (fun x => { x with emt := x.emt.put pos { e with hit := false, idle := 0 } }) s
    else
      let e' := { e with idle := min 15 (e.idle + 1) }
      if bit s.tab.ageOn e.typ && !e.static && decide (s.tab.agePasses ≤ e'.idle) then
        notify 3 q e.key e.result 0 (tabCount q 12 (emtRemove q pos s))
      else modQuad q (fun x => { x with emt := x.emt.put pos e' }) s

/-- A visit of the sweep, or one released from deferral, is applied (R173). -/
def ageVisit (q b : Nat) (s : State) : State := eachDo (visitPositions b) (ageOne q) s

/-- Whether boundary `k` is a visiting boundary (R172). -/
def visiting (t : Tables) (k : Nat) : Bool :=
  t.ageStep != 0 && decide (t.ageBase < k) && (k - t.ageBase) % t.ageStep == 0

/-- The visit of a quadrant's sweep at P4, once at its boundary; a locked bucket's visit is deferred (R172, R175). -/
def ageingVisit (q : Nat) (s : State) : State :=
  let x := s.quad q
  if visiting s.tab s.beat && decide (x.lastVisit ≠ s.beat + 1) then
    let b := x.sweep
    let s := modQuad q (fun x => { x with sweep := (b + 1) % 263168, lastVisit := s.beat + 1 }) s
    if decide (b < 262144) && bucketLocked s q b then defer q (.visit b) s else ageVisit q b s
  else s

/-- AGEING_VISIT: at P4 of the boundary (R41, R172). -/
def execAgeingVisit (q : Nat) (s : State) : Outc := need (decide (q < 4)) "quadrant" (.next (atBoundary evAgeing (le 1 q) s))

/-- A freeze ends at the first boundary DAMP_HOLD beats after it (R170). -/
def flapRelease (q key : Nat) (s : State) : State :=
  match (s.quad q).frozen.find key with
  | none => s
  | some at_ =>
    if s.beat < at_ + s.tab.dampHold then s
    else
      let s := modQuad q (fun x => { x with frozen := x.frozen.del key }) s
      match emtFind s.tab (s.quad q) 1 key with
      | some (pos, e) => notify 6 q key e.result e.result
          (modQuad q (fun x => { x with emt := x.emt.put pos { e with frozen := false } }) s)
      | none => s

/-- FLAP_RELEASE: at P2 of the boundary (R170). -/
def execFlapRelease (q key : Nat) (s : State) : Outc :=
  need (decide (q < 4)) "quadrant" (.next (atBoundary evFlapRelease (le 1 q ++ le 8 key) s))

/-- A window ends DAMP_WINDOW beats after it opened, and its slot is free (R170). -/
def flapWindowEnd (q key : Nat) (s : State) : State :=
  modQuad q (fun x => { x with flaps := x.flaps.filter fun f =>
    !(f.key == key && decide (f.start + s.tab.dampWindow ≤ s.beat)) }) s

/-- FLAP_WINDOW_END: at P2 of the boundary (R170). -/
def execFlapWindowEnd (q key : Nat) (s : State) : Outc :=
  need (decide (q < 4)) "quadrant" (.next (atBoundary evFlapWindow (le 1 q ++ le 8 key) s))

/-- An entry whose parity failed in the beat is invalidated at P1, with its fault and its notification; Ittas rewrites a
static one in the next beat (R159). -/
def parityInvalidate (q pos : Nat) (s : State) : State :=
  match (s.quad q).emt.find pos with
  | none => s
  | some e =>
    let s := detect (324 + q) pos 0 [] (notify 7 q e.key e.result 0 (tabCount q 13 (emtRemove q pos s)))
    if e.static then post 0 0x20002 [] (le 1 q ++ le 1 e.typ ++ le 8 e.key ++ le 8 e.result) s else s

/-- The rewrite of a lost static entry, at P3 (R159). -/
def applyRestore (p : Bytes) (s : State) : State :=
  let q := rd p 0 1
  let (o, x, victim) := emtInsert s.tab (s.quad q) (rd p 1 1) (rd p 2 8) (rd p 10 8) true true false
  if o = .full then s else tellEvicted q false victim (modQuad q (fun _ => x) s)

/-- P1 of a quadrant: bad entries go, then the hit bits of the beat are merged (R38, R159). -/
def phase1Quad (q : Nat) (s : State) : State :=
  let x := s.quad q
  let s := eachDo x.badPos (parityInvalidate q) s
  let s := modQuad q (fun y => { y with badPos := [], hits := [] }) s
  eachDo (x.hits.filter fun p => !x.badPos.contains p) (fun p => modQuad q fun y =>
    if y.emt.has p then { y with emt := y.emt.upd {} p fun e => { e with hit := true } } else y) s

/-- P1 (R41). -/
def phase1 (s : State) : State := eachDo [0, 1, 2, 3] phase1Quad s

/-- Whether a deferral is still held by a lock (R175). -/
def stillLocked (s : State) (q : Nat) (d : Deferral) : Bool :=
  match d with
  | .learn e => let c := candidates s.tab 1 e.key; bucketLocked s q c.1 || bucketLocked s q c.2
  | .visit b => bucketLocked s q b

/-- A released deferral is applied (R175). -/
def deferredApply (q : Nat) (d : Deferral) (s : State) : State :=
  match d with
  | .learn e => learnApply q e s
  | .visit b => ageVisit q b s

/-- At most `room` of the deferrals whose locks are gone are applied, in order; the others stay (R168, R175). -/
def releaseDeferred (q room : Nat) (s : State) : State :=
  let x := s.quad q
  let due := (x.queue.filter fun d => !stillLocked s q d).take room
  let s := modQuad q (fun y => { y with queue := due.foldl (fun l d => l.erase d) y.queue }) s
  eachDo due (deferredApply q) s

/-- DEFERRED_LEARN_RELEASE: at P2 of the boundary, after the fresh events and within their bound (R168, R175). -/
def execDeferredLearnRelease (q : Nat) (s : State) : Outc :=
  need (decide (q < 4)) "quadrant" (.next (atBoundary evDeferred (le 1 q) s))

/-- P2 of a quadrant: windows and freezes end, fresh events apply by slot time and slice, then released deferrals, 2,048
in all (R168, R170). The happenings told of it in the beat find their part done here by the state (log entry 197). -/
def phase2Quad (q : Nat) (s : State) : State :=
  let s := eachDo ((s.quad q).flaps.map (·.key)) (flapWindowEnd q) s
  let s := eachDo (s.quad q).frozen.keys (flapRelease q) s
  let fresh := sortBy (fun e : Learn => e.ns * 64 + e.slice) (s.quad q).learns
  let s := modQuad q (fun x => { x with learns := [] }) s
  releaseDeferred q (2048 - fresh.length) (eachDo fresh (learnAt q) s)

/-- P2 (R41). -/
def phase2 (s : State) : State := eachDo [0, 1, 2, 3] phase2Quad s

/-- P4 (R41). -/
def phase4 (s : State) : State := eachDo [0, 1, 2, 3] ageingVisit s

end Sys2Proof.Machine
end

