-- ==== Sys2Proof/Machine/Tables.lean ====
section
/-! DEFINITION. The forwarding tables beside the EMT: records, writes, deletes and reads of every table, next-hop
quarantine, LAG active lists, and the TABLE commands of this service's first sixteen opcodes. -/

namespace Sys2Proof.Machine

/-- Whether a result of the MAC layout may be written (R149, R154). -/
def macResultOk (r : Nat) : Bool := fld r 37 16 == 0 && destOk (destOf r).1 (destOf r).2.1

/-- Rate of a port in Mb/s (R85). -/
def portRate (s : State) (p : Nat) : Nat := (s.port p).width * laneRate (s.lane p).mode

/-- Field bounds of an EMT record (R8, R154, R177), as checks at offsets from the record. -/
def emtChecks (r : Bytes) : List (Bool × Nat) :=
  let typ := fld (rd r 16 2) 11 8
  let key := rd r 0 8
  [(decide (1 ≤ typ) && decide (typ ≤ 4), 16),
   (decide (key < 2 ^ (nth [64, 64, 34, 36, 44] typ)) && (typ != 2 || decide (fld key 33 24 < 802)), 0),
   (typ == 2 || typ == 3 || macResultOk (rd r 8 8), 8)]

/-- Prefix, length, VRF and result of an LPM record (R161, R177). -/
def lpmOf (v6 : Bool) (r : Bytes) : LpmEntry :=
  { v6 := v6, vrf := rd r 18 2, pfx := rdBe r 0 (if v6 then 16 else 4), len := rd r 16 1, result := rd r 20 8 }

/-- Bounds of an LPM record. -/
def lpmChecks (v6 : Bool) (r : Bytes) : List (Bool × Nat) :=
  let e := lpmOf v6 r
  let w := if v6 then 128 else 32
  [(decide (e.len ≤ w), 16), (e.pfx % 2 ^ (w - e.len) == 0, 0), (decide (e.vrf < 4096), 18),
   (bit (rd r 17 1) 0 || macResultOk e.result, 20)]

/-- The next hop of a record (R163, R177). -/
def nhOf (r : Bytes) : NextHop :=
  { valid := bit (rd r 13 1) 0, port := rd r 4 2, dmac := rdBe r 6 6, smac := rd r 12 1, vid := rd r 14 2
    template := rd r 16 2, encap := rd r 18 3 }

/-- Bounds of a next-hop record. -/
def nhChecks (r : Bytes) : List (Bool × Nat) :=
  let e := nhOf r
  [(decide (rd r 0 4 < 131072), 0), (decide (e.port < 2048) && destOk 0 e.port, 4), (decide (e.smac < 64), 12),
   (decide (e.vid < 4096), 14), (decide (e.template < 4096), 16)]

/-- Bounds of an ECMP record (R164, R177). -/
def ecmpChecks (r : Bytes) : List (Bool × Nat) :=
  let n := rd r 6 1
  [(decide (rd r 0 2 < 4096), 0), (decide (rd r 2 2 ≤ 256), 2), (decide (rd r 4 2 < 256), 4),
   (decide (1 ≤ n) && decide (n ≤ 8) && decide (rd r 4 2 + n ≤ 256), 6)] ++
    (List.range n).map fun i => (decide (rd r (8 + 3 * i) 3 < 131072), 8 + 3 * i)

/-- Bounds of a LAG record. -/
def lagChecks (r : Bytes) : List (Bool × Nat) :=
  [(decide (rd r 1 1 < 64), 1), (decide (rd r 2 2 < 768), 2), (decide (rd r 5 1 ≤ 64), 5)]

/-- The two rules of R164 for the group as a record leaves it: one rate for all its members, and none of them listed twice
or in another group. -/
def lagRules (s : State) (r : Bytes) : Bool :=
  let g := rd r 0 1
  let written := (s.tab.lag.get {} g).members.put (rd r 1 1) (rd r 2 2, bit (rd r 4 1) 0)
  let ms := (written.filter fun m => decide (m.1 < rd r 5 1)).map (·.2.1)
  let rates := (ms.filter s.ports.has).map (portRate s)
  rates.all (· == rates.headD 0) && ms.all fun p =>
    (ms.filter (· == p)).length == 1 &&
      s.tab.lag.all fun e => e.1 == g || e.2.members.all fun m => m.2.1 != p || decide (e.2.count ≤ m.1)

/-- The BD attributes of a record (R162, R177). -/
def bdOf (r : Bytes) : Bd :=
  { learn := bit (rd r 2 1) 0, route := bit (rd r 2 1) 1, rmac := rd r 3 1, vrf := rd r 4 2
    ucGroup := rd r 6 2, mcGroup := rd r 8 2, bcGroup := rd r 10 2 }

/-- Bounds of a record of a table code, at offsets from the record (R177). -/
def recordChecks (code : Nat) (r : Bytes) : List (Bool × Nat) :=
  match code with
  | 0 => emtChecks r
  | 1 => lpmChecks false r
  | 2 => lpmChecks true r
  | 3 => nhChecks r
  | 4 => ecmpChecks r
  | 5 => lagChecks r
  | 6 => [(decide (rd r 3 1 < 64), 3), (decide (rd r 4 2 < 4096), 4)]
  | 7 => [(decide (rd r 0 2 < 4096), 0), (decide (rd r 2 1 ≤ 2), 2), (decide (rd r 4 4 < 131072), 4)]
  | _ => [(decide (rd r 0 1 < 64), 0)]

/-- Bounds of the key fields alone, for deletes and reads. -/
def keyChecks (code : Nat) (r : Bytes) : List (Bool × Nat) :=
  match code with
  | 0 => (emtChecks r).take 2
  | 1 => (lpmChecks false r).take 3
  | 2 => (lpmChecks true r).take 3
  | 3 => (nhChecks r).take 1
  | 4 => (ecmpChecks r).take 1
  | 5 => [(decide (rd r 1 1 < 64), 1)]
  | 6 => []
  | 7 => [(decide (rd r 0 2 < 4096), 0)]
  | _ => [(decide (rd r 0 1 < 64), 0)]

/-- What a write of a record came to: the state and, per quadrant of the mask, the outcome; or a table DMA stop code
(Table 5.11). -/
inductive Wr where
  | done (s : State) (outs : List (Nat × Nat))
  | fail (code : Nat)

/-- The status a mailbox command answers for a stop code (R157, R160, R165, R179). -/
def wrStatus (code : Nat) : Nat :=
  match code with
  | 2 => 0x0702
  | 3 => 0x0703
  | 8 => 4
  | _ => 3

/-- An insert of an EMT key in the quadrants of a mask, in all or in none (R156, R179). -/
def emtWrite (mask : Nat) (r : Bytes) (static noEvict : Bool) (s : State) : Wr :=
  let typ := fld (rd r 16 2) 11 8
  let ins (q : Nat) := emtInsert s.tab (s.quad q) typ (rd r 0 8) (rd r 8 8) static true noEvict
  let qs := bitsOf mask 4
  if qs.any fun q => (ins q).1 == .full then .fail 2
  else
    let step (q : Nat) (s : State) : State :=
      let (_, x, victim) := ins q
      let thaw := typ == 1 && (s.quad q).frozen.has (rd r 0 8)
      let was := match emtFind s.tab (s.quad q) typ (rd r 0 8) with | some (_, e) => e.result | none => 0
      let s := tellEvicted q false victim
        (modQuad q (fun _ => { x with frozen := if thaw then x.frozen.del (rd r 0 8) else x.frozen }) s)
      if thaw then notify 6 q (rd r 0 8) was (rd r 8 8) s else s
    .done (eachDo qs step s) (qs.map fun q => (q, (ins q).1.code))

/-- Units of the LPM pool in use (R160). -/
def lpmUnits (l : List LpmEntry) : Nat := (l.map fun e => if e.v6 then 8 else 3).foldl (· + ·) 0

/-- Whether two LPM entries have one key. -/
def sameRoute (a b : LpmEntry) : Bool := a.v6 == b.v6 && a.vrf == b.vrf && a.pfx == b.pfx && a.len == b.len

/-- A write or a delete of a prefix (R160, R161). -/
def lpmWrite (e : LpmEntry) (del : Bool) (s : State) : Wr :=
  let rest := s.tab.lpm.filter fun x => !sameRoute x e
  if del then
    if rest.length = s.tab.lpm.length then .fail 8 else .done (s.modTab fun t => { t with lpm := rest }) []
  else
    let l := if rest.length = s.tab.lpm.length then s.tab.lpm ++ [e] else s.tab.lpm.map fun x => if sameRoute x e then e else x
    if 3145728 < lpmUnits l then .fail 2 else .done (s.modTab fun t => { t with lpm := l }) []

/-- The ECMP group after a record's slots are written (R164, R177). -/
def ecmpWrite (x : Ecmp) (r : Bytes) : Ecmp :=
  { slots := rd r 2 2
    nh := (List.range (rd r 6 1)).foldl (fun t i => t.put (rd r 4 2 + i) (rd r (8 + 3 * i) 3)) x.nh }

/-- The write of a record at P3 (R147, R157 to R166). A LAG's two rules are tested again on the group as it stands then
(log entry 219). -/
def tableWrite (code mask : Nat) (r : Bytes) (static noEvict : Bool) (s : State) : Wr :=
  let set (f : Tables → Tables) : Wr := .done (s.modTab f) []
  match code with
  | 0 => emtWrite mask r static noEvict s
  | 1 => lpmWrite (lpmOf false r) (bit (rd r 17 1) 0) s
  | 2 => lpmWrite (lpmOf true r) (bit (rd r 17 1) 0) s
  | 3 =>
    if (s.tab.nh.get {} (rd r 0 4)).quarantine.isSome then .fail 3
    else set fun t => { t with nh := t.nh.put (rd r 0 4) (nhOf r) }
  | 4 => set fun t => { t with ecmp := t.ecmp.put (rd r 0 2) (ecmpWrite (t.ecmp.get {} (rd r 0 2)) r) }
  | 5 =>
    if !lagRules s r then .fail 1
    else set fun t => { t with lag := t.lag.upd {} (rd r 0 1) fun g => { g with
      count := rd r 5 1, members := g.members.put (rd r 1 1) (rd r 2 2, bit (rd r 4 1) 0) } }
  | 6 => set fun t => { t with bd := t.bd.put (rd r 0 2) (bdOf r) }
  | 7 => set fun t => { t with vrf := t.vrf.put (rd r 0 2) { miss := rd r 2 1, nh := rd r 4 4 } }
  | _ => set fun t => { t with rmac := t.rmac.put (rd r 0 1) (rdBe r 2 6) }

/-- The delete of a key at P3 (R162, R165, R179). -/
def tableDelete (code mask : Nat) (r : Bytes) (s : State) : Wr :=
  let set (f : Tables → Tables) : Wr := .done (s.modTab f) []
  match code with
  | 0 =>
    let typ := fld (rd r 16 2) 11 8
    let held := (bitsOf mask 4).filterMap fun q => (emtFind s.tab (s.quad q) typ (rd r 0 8)).map fun e => (q, e.1)
    if held.isEmpty then .fail 8 else .done (eachDo held (fun e => emtRemove e.1 e.2) s) []
  | 1 => lpmWrite (lpmOf false r) true s
  | 2 => lpmWrite (lpmOf true r) true s
  | 3 =>
    let i := rd r 0 4
    if !(s.tab.nh.get {} i).valid then .fail 8
    else set fun t => { t with nh := t.nh.upd {} i fun e => { e with valid := false, quarantine := some (s.beat, s.tm.s) } }
  | 4 => if s.tab.ecmp.has (rd r 0 2) then set fun t => { t with ecmp := t.ecmp.del (rd r 0 2) } else .fail 8
  | 5 => if s.tab.lag.has (rd r 0 1) then set fun t => { t with lag := t.lag.del (rd r 0 1) } else .fail 8
  | 6 => set fun t => { t with bd := t.bd.del (rd r 0 2) }
  | 7 => set fun t => { t with vrf := t.vrf.del (rd r 0 2) }
  | _ => set fun t => { t with rmac := t.rmac.del (rd r 0 1) }

/-- Number of set bits. -/
def ones (n w : Nat) : Nat := (bitsOf w n).length

/-- The record of an EMT entry, with its control word and even parity over the 144 bits (R153, R177). -/
def emtBytes (pos : Nat) (e : Option EmtEntry) : Bytes :=
  match e with
  | none => zeros 20 ++ le 4 pos ++ zeros 8
  | some e =>
    let c := 32768 + 16384 * b2n e.static + 8192 * b2n e.hit + 4096 * b2n e.frozen + 256 * e.typ + 16 * e.idle
    let parity := (ones 64 e.key + ones 64 e.result + ones 16 c) % 2
    le 8 e.key ++ le 8 e.result ++ le 2 (c + parity) ++ zeros 2 ++ le 4 pos ++ zeros 8

/-- The record of a prefix. -/
def lpmBytes (e : LpmEntry) : Bytes :=
  part (be (if e.v6 then 16 else 4) e.pfx) 0 16 ++ le 1 e.len ++ zeros 1 ++ le 2 e.vrf ++ le 8 e.result ++ zeros 4

/-- The record of a next hop. -/
def nhBytes (i : Nat) (e : NextHop) : Bytes :=
  le 4 i ++ le 2 e.port ++ be 6 e.dmac ++ le 1 e.smac ++ le 1 (b2n e.valid) ++ le 2 e.vid ++ le 2 e.template ++
    le 3 e.encap ++ zeros 11

/-- The record of eight slots of an ECMP group. -/
def ecmpBytes (g first n : Nat) (e : Ecmp) : Bytes :=
  le 2 g ++ le 2 e.slots ++ le 2 first ++ le 1 n ++ zeros 1 ++
    part ((List.range n).flatMap fun i => le 3 (e.nh.get 0 (first + i))) 0 24

/-- The record of a LAG member. -/
def lagBytes (g pos : Nat) (e : Lag) : Bytes :=
  let m := e.members.get (0, false) pos
  le 1 g ++ le 1 pos ++ le 2 m.1 ++ le 1 (b2n m.2) ++ le 1 e.count ++ zeros 26

/-- The record of a BD. -/
def bdBytes (i : Nat) (e : Bd) : Bytes :=
  le 2 i ++ le 1 (b2n e.learn + 2 * b2n e.route) ++ le 1 e.rmac ++ le 2 e.vrf ++ le 2 e.ucGroup ++ le 2 e.mcGroup ++
    le 2 e.bcGroup ++ zeros 20

/-- A record read by position or index (R174, log entry 82). -/
def recordAt (t : Tables) (code q i : Nat) : Bytes :=
  match code with
  | 0 => emtBytes i ((t.quads.get {} q).emt.find i)
  | 1 => match (t.lpm.filter fun e => !e.v6)[i]? with | some e => lpmBytes e | none => zeros 32
  | 2 => match (t.lpm.filter fun e => e.v6)[i]? with | some e => lpmBytes e | none => zeros 32
  | 3 => nhBytes i (t.nh.get {} i)
  | 4 => ecmpBytes (i / 32) (8 * (i % 32)) 8 (t.ecmp.get {} (i / 32))
  | 5 => lagBytes (i / 64) (i % 64) (t.lag.get {} (i / 64))
  | 6 => bdBytes i (t.bd.get {} i)
  | 7 => le 2 i ++ le 1 (t.vrf.get {} i).miss ++ zeros 1 ++ le 4 (t.vrf.get {} i).nh ++ zeros 24
  | _ => le 1 i ++ zeros 1 ++ be 6 (t.rmac.get 0 i) ++ zeros 24

/-- A record read by its key fields (R179); none where it does not exist. -/
def recordOf (t : Tables) (code q : Nat) (r : Bytes) : Option Bytes :=
  match code with
  | 0 => (emtFind t (t.quads.get {} q) (fld (rd r 16 2) 11 8) (rd r 0 8)).map fun e => emtBytes e.1 (some e.2)
  | 1 => (t.lpm.find? (sameRoute (lpmOf false r))).map lpmBytes
  | 2 => (t.lpm.find? (sameRoute (lpmOf true r))).map lpmBytes
  | 3 => some (recordAt t 3 q (rd r 0 4))
  | 4 =>
    let n := clampTo 1 8 (rd r 6 1)
    some (ecmpBytes (rd r 0 2) (rd r 4 2) n (t.ecmp.get {} (rd r 0 2)))
  | 5 => some (lagBytes (rd r 0 1) (rd r 1 1) (t.lag.get {} (rd r 0 1)))
  | 6 => some (recordAt t 6 q (rd r 0 2))
  | 7 => some (recordAt t 7 q (rd r 0 2))
  | _ => some (recordAt t 8 q (rd r 0 1))

/-- The active lists of the LAGs: members that are enabled and up, in member order (R164). -/
def lagRebuild (s : State) : State :=
  s.modTab fun t => { t with lag := t.lag.mapAll fun _ g => { g with
    active := (g.members.filter fun m => decide (m.1 < g.count) && m.2.2 && s.ports.has m.2.1 && (s.port m.2.1).up).map
      (·.2.1) } }

/-- The common checks of TABLE.INSERT, DELETE and READ: table code, quadrant mask (R147, R179). -/
def tableHead (p : Bytes) (write : Bool) : List (Bool × Nat) :=
  let mask := rd p 1 1
  [(decide (rd p 0 1 ≤ 8), 0),
   (decide (mask ≠ 0) && decide (mask < 16) && (!write || rd p 0 1 == 0 || mask == 15), 1)]

/-- Checks of a record moved to its place in the payload. -/
def inPayload (l : List (Bool × Nat)) : List (Bool × Nat) := l.map fun c => (c.1, c.2 + 4)

/-- TABLE.INSERT (R179). -/
def tableInsertSpec : CmdSpec where
  need _ := 36
  run c p _ s :=
    checks (tableHead p true ++ inPayload (recordChecks (rd p 0 1) (part p 4 32)) ++
      [(rd p 0 1 != 5 || lagRules s (part p 4 32), 6)]) (postCmd c p [] s)

/-- TABLE_INSERT. -/
def execTableInsert (m : Nat) (h : HostAnswer) (s : State) : Outc := acceptAs 0x0702 tableInsertSpec m h s

/-- TABLE.INSERT at P3 (R157, R179). -/
def applyTableInsert (order : Nat) (p : Bytes) (s : State) : State :=
  let r := part p 4 32
  let flags := rd p 2 1
  match tableWrite (rd p 0 1) (rd p 1 1) r (bit flags 0 || bit (rd r 16 2) 14) (bit flags 1) s with
  | .fail code => answer order (wrStatus code) 0 [] s
  | .done s outs =>
    let out (q : Nat) : Nat := match outs.find? fun e => e.1 == q with | some e => e.2 | none => 0xFF
    let first := match outs with | e :: _ => e.2 | [] => 0
    let all := if outs.isEmpty then [0, 0, 0, 0] else [0, 1, 2, 3].map out
    answer order 0 0 (le 8 s.beat ++ le 1 first ++ all.flatMap (le 1)) s

/-- TABLE.DELETE (R179). -/
def tableDeleteSpec : CmdSpec where
  need _ := 36
  run c p _ s := checks (tableHead p true ++ inPayload (keyChecks (rd p 0 1) (part p 4 32))) (postCmd c p [] s)

/-- TABLE_DELETE. -/
def execTableDelete (m : Nat) (h : HostAnswer) (s : State) : Outc := acceptAs 0x0703 tableDeleteSpec m h s

/-- TABLE.DELETE at P3 (R179). -/
def applyTableDelete (order : Nat) (p : Bytes) (s : State) : State :=
  match tableDelete (rd p 0 1) (rd p 1 1) (part p 4 32) s with
  | .fail code => answer order (wrStatus code) 0 [] s
  | .done s _ => answerBeat order s

/-- TABLE.READ: committed state, the lowest quadrant of the mask (R38, R179). -/
def tableReadSpec : CmdSpec where
  need _ := 36
  run _ p _ s :=
    checks (tableHead p false ++ inPayload (keyChecks (rd p 0 1) (part p 4 32)))
      (match recordOf s.tab (rd p 0 1) ((quadsOf (rd p 1 1)).headD 0) (part p 4 32) with
        | some r => replyNow s r
        | none => .refuse 4 0)

/-- TABLE_READ. -/
def execTableRead (m : Nat) (h : HostAnswer) (s : State) : Outc := acceptAs 0x0704 tableReadSpec m h s

/-- TABLE.CONFIG (R170, R172, R173, R179). -/
def tableConfigSpec : CmdSpec where
  need _ := 28
  run c p _ s :=
    checks [(decide (1 ≤ rd p 10 1) && decide (rd p 10 1 ≤ 15), 10), (decide (rd p 16 4 ≠ 0), 16),
      (decide (rd p 24 4 ≠ 0), 24)] (postCmd c p [] s)

/-- TABLE_CONFIG. -/
def execTableConfig (m : Nat) (h : HostAnswer) (s : State) : Outc := acceptAs 0x0701 tableConfigSpec m h s

/-- TABLE.CONFIG at P3: changed seeds only while no EMT holds an entry, else nothing changes (R155, R172). -/
def applyTableConfig (order : Nat) (p : Bytes) (s : State) : State :=
  let t := s.tab
  let seeds := rd p 0 4 == t.seed0 && rd p 4 4 == t.seed1
  if !seeds && t.quads.any fun e => !e.2.emt.isEmpty then answer order 0x0701 0 [] s
  else
    let step := rd p 8 2
    let s := s.modTab fun t => { t with
      seed0 := rd p 0 4, seed1 := rd p 4 4, ageStep := step
      ageBase := if step = t.ageStep then t.ageBase else s.beat
      agePasses := rd p 10 1, ageOn := rd p 11 1, evict := rd p 12 1
      dampWindow := rd p 16 4, dampMax := rd p 20 1, dampHold := rd p 24 4 }
    answerOk order [] s

/-- Positions of the dynamic MAC entries of a quadrant that TABLE.FLUSH names (R179). -/
def flushPositions (p : Bytes) (x : Quad) : List Nat :=
  let f := rd p 1 1
  (x.emt.filter fun e => e.2.typ == 1 && !e.2.static && (!bit f 0 || e.2.key / 2 ^ 48 == rd p 2 2) &&
    (!bit f 1 || ((destOf e.2.result).1 == 0 && (destOf e.2.result).2.1 == rd p 4 3))).map (·.1)

/-- TABLE.FLUSH (R8, R179): a flush by destination names a port or a LAG. -/
def tableFlushSpec : CmdSpec where
  need _ := 7
  run c p _ s :=
    manyQuads p (checks [(decide (rd p 1 1 < 4), 1), (!bit (rd p 1 1) 1 || destOk 0 (rd p 4 3), 4)] (postCmd c p [] s))

/-- TABLE_FLUSH. -/
def execTableFlush (m : Nat) (h : HostAnswer) (s : State) : Outc := acceptAs 0x0705 tableFlushSpec m h s

/-- TABLE.FLUSH at one boundary; the count is answered in four bytes (R179; log entry 85). -/
def applyTableFlush (order : Nat) (p : Bytes) (s : State) : State :=
  let qs := quadsOf (rd p 0 1)
  let n := (qs.map fun q => (flushPositions p (s.quad q)).length).foldl (· + ·) 0
  answerOk order (le 4 n) (eachDo qs (fun q s => eachDo (flushPositions p (s.quad q)) (emtRemove q) s) s)

/-- A front-panel port, or 1,024 + g for LAG g. -/
def learnKeyOk (k : Nat) : Bool := decide (k < 768) || (decide (1024 ≤ k) && decide (k < 1280))

/-- TABLE.LEARN_CONFIG (R171, R179). -/
def tableLearnConfigSpec : CmdSpec where
  need _ := 8
  run c p _ s :=
    checks [(learnKeyOk (rd p 0 2), 0), (decide (1 ≤ rd p 4 4) && decide (rd p 4 4 ≤ 1048576), 4)] (postCmd c p [] s)

/-- TABLE_LEARN_CONFIG. -/
def execTableLearnConfig (m : Nat) (h : HostAnswer) (s : State) : Outc := acceptAs 0x0706 tableLearnConfigSpec m h s

/-- TABLE.LEARN_CONFIG at P3. -/
def applyLearnConfig (order : Nat) (p : Bytes) (s : State) : State :=
  let c : LearnCfg := { on := bit (rd p 2 1) 0, drop := bit (rd p 2 1) 1, limit := rd p 4 4 }
  answerOk order [] (s.modTab fun t => { t with learn := t.learn.put (rd p 0 2) c })

/-- The response of TABLE.LEARN_STATUS: learned entries and excess of a port or LAG in each quadrant. -/
def learnBytes (s : State) (k : Nat) : Bytes :=
  [0, 1, 2, 3].flatMap fun q => le 4 (learnCount (s.quad q) k) ++ le 8 ((s.quad q).excess.get 0 k)

/-- TABLE.LEARN_STATUS (R179). -/
def tableLearnStatusSpec : CmdSpec where
  need _ := 2
  run _ p _ s :=
    let k := rd p 0 2
    checks [(learnKeyOk k, 0)] (replyNow s (learnBytes s k))

/-- TABLE_LEARN_STATUS. -/
def execTableLearnStatus (m : Nat) (h : HostAnswer) (s : State) : Outc := acceptAs 0x0707 tableLearnStatusSpec m h s

/-- TABLE.NOTIFY_RING: sets the ring and clears NOTIFY_DROP (R179 to R181; log entry 80). -/
def tableNotifyRingSpec : CmdSpec where
  need _ := 15
  run _ p _ s :=
    checks [(powerOfTwo 64 65536 (rd p 8 4), 8), (decide (rd p 13 2 ≠ 0), 13)]
      (replyNow (s.modTab fun t => { t with notify := { t.notify with
        set := true, addr := rd p 0 8, size := rd p 8 4, mask := rd p 12 1, max := rd p 13 2, seq := 0, drop := 0 } }) [])

/-- TABLE_NOTIFY_RING. -/
def execTableNotifyRing (m : Nat) (h : HostAnswer) (s : State) : Outc := acceptAs 0x0708 tableNotifyRingSpec m h s

/-- The counters of TABLE.STATS (R181). -/
def tableStatsBytes (s : State) (q : Nat) : Bytes :=
  let x := s.quad q
  let typ (t : Nat) : Nat := (x.emt.filter fun e => e.2.typ == t).length
  let spilt := (x.emt.filter fun e => decide (overflowBase ≤ e.1)).length
  ([typ 1, typ 2, typ 3, typ 4, spilt, lpmUnits s.tab.lpm] ++ (List.range 13).map (fun i => x.stats.get 0 (6 + i)) ++
    [s.tab.notify.drop, x.queue.length]).flatMap (le 8)

/-- TABLE.STATS (R181): a snapshot at one boundary. -/
def tableStatsSpec : CmdSpec where
  need _ := 2
  run c p _ s := checks [(decide (rd p 0 1 < 4), 0)] (postCmd c p [] s)

/-- TABLE_STATS. -/
def execTableStats (m : Nat) (h : HostAnswer) (s : State) : Outc := acceptAs 0x0709 tableStatsSpec m h s

/-- The snapshot of TABLE.STATS with the clear it may carry. -/
def applyTableStats (order : Nat) (p : Bytes) (s : State) : State :=
  let q := rd p 0 1
  answerOk order (tableStatsBytes s q) (if bit (rd p 1 1) 0 then modQuad q (fun x => { x with stats := [] }) s else s)

/-- The response of TABLE.NH_STATUS for an entry. -/
def nhStatusBytes (e : NextHop) : Bytes :=
  match e.quarantine with
  | some (d, m) => le 1 2 ++ zeros 3 ++ le 8 (d + m + 16)
  | none => le 1 (b2n e.valid) ++ zeros 11

/-- TABLE.NH_STATUS (R179). -/
def tableNhStatusSpec : CmdSpec where
  need _ := 4
  run _ p _ s :=
    checks [(decide (rd p 0 4 < 131072), 0)] (replyNow s (nhStatusBytes (s.tab.nh.get {} (rd p 0 4))))

/-- TABLE_NH_STATUS. -/
def execTableNhStatus (m : Nat) (h : HostAnswer) (s : State) : Outc := acceptAs 0x070A tableNhStatusSpec m h s

/-- The quarantine of a next hop ends and its entry is cleared (R165). -/
def nhQuarantineEnd (i : Nat) (s : State) : State :=
  match (s.tab.nh.get {} i).quarantine with
  | some (d, m) =>
    if d + max m s.tm.s + 16 ≤ s.beat then s.modTab fun t => { t with nh := t.nh.del i }
    else s.modTab fun t => { t with nh := t.nh.upd {} i fun e => { e with quarantine := some (d, max m s.tm.s) } }
  | none => s

/-- NH_QUARANTINE_END: at the boundary (R165). -/
def execNhQuarantineEnd (index : Nat) (s : State) : Outc :=
  need (decide (index < 131072)) "next hop" (.next (atBoundary evNhEnd (le 4 index) s))

/-- The next hops in quarantine, at a boundary after the writes of P3. -/
def nhQuarantines (s : State) : State := eachDo s.tab.nh.keys nhQuarantineEnd s

/-- The longest prefix in a VRF that matches an address (R161). -/
def lpmLookup (t : Tables) (v6 : Bool) (vrf addr : Nat) : Option LpmEntry :=
  let w := if v6 then 128 else 32
  t.lpm.foldl (fun best e =>
    if e.v6 == v6 && e.vrf == vrf && addr / 2 ^ (w - e.len) == e.pfx / 2 ^ (w - e.len) then
      match best with
      | some b => if b.len < e.len then some e else best
      | none => some e
    else best) none

/-- Whether a port exists: a front-panel port while created, the others always (R88, R151). -/
def portExists (s : State) (p : Nat) : Bool := s.ports.has p || (decide (768 ≤ p) && decide (p < 802))

/-- What the resolution of a unicast destination came to (R151): DEST_TYPE and DEST_INDEX as they stay, and the egress
port or the drop reason. -/
def resolveUnicast (t : Tables) (s : State) (dtype dindex ecmpHash lagHash : Nat) : Nat × Nat × (Nat ⊕ Nat) :=
  let lag (i : Nat) : Nat ⊕ Nat :=
    if i < 1024 then (if portExists s i then .inl i else .inr 8)
    else
      let a := (t.lag.get {} (i - 1024)).active
      if a.isEmpty then .inr 7
      else
        let p := a.getD (lagHash / 65536 * a.length / 65536) 0
        if portExists s p then .inl p else .inr 8
  let hop (i : Nat) : Nat ⊕ Nat := if (t.nh.get {} i).valid then lag (t.nh.get {} i).port else .inr 4
  match dtype with
  | 1 =>
    let g := t.ecmp.get {} dindex
    if g.slots = 0 then (1, dindex, .inr 4)
    else
      let i := g.nh.get 0 (ecmpHash / 65536 * g.slots / 65536)
      (3, i, hop i)
  | 3 => (3, dindex, hop dindex)
  | _ => (dtype, dindex, lag dindex)

end Sys2Proof.Machine
end

