-- ==== Sys2Proof/Machine/PacketStore.lean ====
section
/-! DEFINITION. Packets and copies as stored things: numbers, injection, cells, pools, XOFF, and encapsulation. -/

namespace Sys2Proof.Machine

/-- Stores a packet; its number is the model's own (log entry 28). -/
def newPkt (k : Packet) (s : State) : Nat × State :=
  (s.buf.nextPkt, s.modBuf fun b => { b with pkts := b.pkts.put b.nextPkt k, nextPkt := b.nextPkt + 1 })

/-- Stores a copy. -/
def newCopy (c : Copy) (s : State) : Nat × State :=
  (s.buf.nextCopy, s.modBuf fun b => { b with copies := b.copies.put b.nextCopy c, nextCopy := b.nextCopy + 1 })

/-- A packet leaves the device. -/
def dropPkt (i : Nat) (s : State) : State :=
  s.modBuf fun b => { b with pkts := b.pkts.del i, parsing := b.parsing.del i }

/-- A copy leaves the device. -/
def dropCopy (i : Nat) (s : State) : State := s.modBuf fun b => { b with copies := b.copies.del i }

/-- The arbiter of a slice. -/
def State.arb (s : State) (sl : Nat) : Arb := s.buf.arbs.get {} sl

/-- Replaces a slice's arbiter by its image. -/
def modArb (sl : Nat) (f : Arb → Arb) (s : State) : State :=
  s.modBuf fun b => { b with arbs := b.arbs.upd {} sl f }

/-- A packet waits as one of the other sources of a slice: 0 recirculation, 1 CPU port, 2 Ittas, 3 mirror, 4 export
(R29). -/
def inject (sl src i : Nat) (s : State) : State :=
  s.modBuf fun b => { b with inj := b.inj.upd [] (5 * sl + src) (· ++ [i]) }

/-- The traffic manager's record of a port. -/
def State.tmPort (s : State) (p : Nat) : TmPort := s.tm.ports.get {} p

/-- Replaces the traffic manager's record of a port by its image. -/
def modTmPort (p : Nat) (f : TmPort → TmPort) (s : State) : State :=
  s.modTm fun t => { t with ports := t.ports.upd {} p f }

/-- Cells of a frame (R209). -/
def cellsOf (n : Nat) : Nat := ceilDiv n 128

/-- The traffic class of a queue of a port (R238, R241). -/
def classOf (p q : Nat) : Nat := if 768 ≤ p then q else if q < 64 then q / 8 else q - 64

/-- The slice that hosts a port's egress half; the CPU and Ittas ports have none (R3, R331). -/
def egressSlice (p : Nat) : Nat := if p < 768 then p / 24 else if p < 800 then p - 768 else 0xFF

/-- A pool's record. -/
def State.pool (s : State) (i : Nat) : Pool := s.buf.pools.getD i {}

/-- Replaces a pool's record by its image. -/
def modPool (i : Nat) (f : Pool → Pool) (s : State) : State :=
  s.modBuf fun b => { b with pools := b.pools.set i (f (b.pools.getD i {})) }

/-- Threshold at which a pool enters a state (Table 7.2). -/
def poolMark (p : Pool) (st : Nat) : Nat := match st with | 1 => p.notice | 2 => p.warn | 3 => p.stop | _ => 0

/-- A pool's state falls while the occupancy is below the exit point of the state it is in (R214). -/
def poolFall (p : Pool) : Nat → Nat
  | 0 => 0
  | st + 1 => if p.o < poolMark p (st + 1) - p.hyst then poolFall p st else st + 1

/-- A pool's state after its occupancy or settings have changed (R214). -/
def poolState (p : Pool) : Nat :=
  let up := if p.stop ≤ p.o then 3 else if p.warn ≤ p.o then 2 else if p.notice ≤ p.o then 1 else 0
  if p.st ≤ up then up else poolFall p p.st

/-- Settles the state of a pool; the headroom pool has none (R214). -/
def settlePool (i : Nat) (s : State) : State := if i < 16 then modPool i (fun p => { p with st := poolState p }) s else s

/-- Bytes of an octet's ingress FIFO that its frames take, those still on their way in included (R30). -/
def fifoTaken (s : State) (octet : Nat) : Nat :=
  total ((s.buf.fifo.get [] octet).map fun i => (s.pkt i).bytes.length)

/-- Fill of an octet's ingress FIFO in bytes: what has arrived (R30, R97). -/
def fifoFill (s : State) (octet : Nat) : Nat :=
  total ((s.buf.fifo.get [] octet).map fun i => min (s.pkt i).arrived (s.pkt i).bytes.length)

/-- The pool condition of XOFF for a priority, with its hysteresis in the pools' states (R97, R214). -/
def poolXoff (s : State) (pr : Nat) : Bool :=
  decide (2 ≤ (s.pool (nth s.buf.ucPool pr)).st) || decide (2 ≤ (s.pool (nth s.buf.mcPool pr)).st)

/-- Whether XOFF stands for a priority of a port after the change in hand (R97). -/
def xoffNext (s : State) (p : Nat) (q : Port) (pr : Nat) : Bool :=
  let fill := fifoFill s (p / 8)
  bit q.pfcMask pr &&
    (if bit q.xoffSet pr then poolXoff s pr || decide (q.xon ≤ nth q.admCells pr) || decide (12288 ≤ fill)
     else poolXoff s pr || decide (q.xoff ≤ nth q.admCells pr) || decide (24576 ≤ fill))

/-- The XOFF set and PAUSE of a port follow what asserts them; a change asks for a frame while the link is up
(R97, R98). -/
def xoffPort (p : Nat) (s : State) : State :=
  match s.ports.find p with
  | none => s
  | some q =>
    let set := maskOf ((List.range 8).filter (xoffNext s p q))
    let fill := fifoFill s (p / 8)
    let on := bit q.flags 2 && (if q.pauseOn then decide (12288 ≤ fill) else decide (24576 ≤ fill))
    let gone := clearBits q.xoffSet set
    modPort p (fun q => { q with
      xoffSet := set
      pauseOn := on
      pfcDue := q.pfcDue || (q.up && (set != q.xoffSet || on != q.pauseOn))
      pfcRelease := if q.up then Nat.lor (clearBits q.pfcRelease set) gone else 0 }) s

/-- Every port's XOFF set follows what asserts it. -/
def xoffRefresh (s : State) : State := eachDo s.ports.keys xoffPort s

/-- `n` FREE cells from cell `i` up, given the HELD cells from there, rising: the lowest ones, log entry 29. -/
def lowestFree : List Nat → Nat → Nat → List Nat
  | [], i, n => List.range' i n
  | h :: r, i, n =>
    let g := List.range' i (min n (h - i))
    g ++ lowestFree r (h + 1) (n - g.length)

/-- Cells joined into a rising list of cells. -/
def mergeCells : List Nat → List Nat → List Nat
  | [], l => l
  | c :: r, l => mergeCells r (l.takeWhile (· < c) ++ c :: l.dropWhile (· < c))

/-- Hands out cells of a pool: they become HELD (R210, R212). -/
def chargePool (i : Nat) (cells : List Nat) (s : State) : State :=
  settlePool i ((modPool i (fun p => { p with
      o := p.o + cells.length, high := max p.high (p.o + cells.length) }) s).modBuf
    fun b => { b with held := mergeCells cells b.held })

/-- One cell of a pool is freed; a free of a FREE cell is refused, and BUF_DOUBLE_FREE names the slice that issued it
(R210). -/
def freeCell (sl i c : Nat) (s : State) : State :=
  if s.buf.held.contains c then
    (modPool i (fun p => { p with o := p.o - 1 }) s).modBuf fun b => { b with held := b.held.erase c }
  else detect (66 + sl) 0 0 [] (s.modBuf fun b => { b with doubleFree := (b.doubleFree + 1) % 2 ^ 64 })

/-- Cells of a pool are freed at the request of a slice (R210, R217). -/
def freeCells (sl i : Nat) (cells : List Nat) (s : State) : State :=
  settlePool i (eachDo cells (freeCell sl i) s)

/-- A stored packet's cells return to its pool, with the counts they were charged to; once (R97, R217). -/
def freePacket (sl i : Nat) (s : State) : State :=
  let k := s.pkt i
  match k.charge with
  | none => s
  | some (n, pool) =>
    let s := freeCells sl pool k.cells (modPkt i (fun k => { k with charge := none, cells := [] }) s)
    let s := modPort k.chargePort.1 (fun q => { q with
      admCells := q.admCells.set k.chargePort.2 (nth q.admCells k.chargePort.2 - n)
      hr := if pool = 16 then q.hr.set k.chargePort.2 (nth q.hr k.chargePort.2 - n) else q.hr }) s
    xoffRefresh s

/-- One's complement sum of 16-bit network-order words. -/
def onesSum (bs : Bytes) : Nat :=
  let t := total ((List.range (ceilDiv bs.length 2)).map fun i => rdBe bs (2 * i) 2)
  csumFold (csumFold t)

/-- The checksum that makes a one's complement sum come out right. -/
def onesCsum (bs : Bytes) : Nat := 65535 - onesSum bs

/-- Bytes with those at an offset replaced. -/
def patch (bs : Bytes) (o : Nat) (v : Bytes) : Bytes := bs.take o ++ v ++ bs.drop (o + v.length)

/-- Offset of the L3 header of a template: after an optional 802.1Q tag. -/
def templateL3 (t : Bytes) : Nat := if rdBe t 12 2 = 0x8100 then 18 else 14

/-- A header template in front of a payload, with its IP length fields, IPv4 header checksum, UDP length and UDP
checksum filled in; GRE is sent as the template gives it (R234, R339). -/
def encapsulate (t payload : Bytes) : Bytes :=
  let o := templateL3 t
  let v4 := rdBe t (o - 2) 2 == 0x0800
  let l4 := if v4 then o + 4 * (rd t o 1 % 16) else o + 40
  let udp := (if v4 then rd t (o + 9) 1 else rd t (o + 6) 1) == 17
  let n := t.length - l4 + payload.length
  let t := if udp then patch (patch t (l4 + 4) (be 2 n)) (l4 + 6) (be 2 0) else t
  let t :=
    if v4 then
      let t := patch (patch t (o + 2) (be 2 (t.length - o + payload.length))) (o + 10) (be 2 0)
      patch t (o + 10) (be 2 (onesCsum (part t o (l4 - o))))
    else patch t (o + 4) (be 2 n)
  let t :=
    if udp && !v4 then
      let c := onesCsum (part t (o + 8) 32 ++ be 4 n ++ be 4 17 ++ t.drop l4 ++ payload)
      patch t (l4 + 6) (be 2 (if c = 0 then 65535 else c))
    else t
  t ++ payload

/-- MAX of a port; the other ports take any frame a front-panel port can. -/
def portMax (s : State) (p : Nat) : Nat := match s.ports.find p with | some q => q.max | none => 16384

end Sys2Proof.Machine
end

