-- ==== Sys2Proof/Machine/Lantern.lean ====
section
/-! DEFINITION. Lantern: records and tracer records at the end of a packet's life, ring streams, IPFIX export, and the
LANTERN commands but LANTERN.PMC_DUMP. -/

namespace Sys2Proof.Machine

/-- A stream's record. -/
def State.stream (s : State) (i : Nat) : Stream := s.lantern.streams.get {} i

/-- Replaces a stream's record by its image. -/
def modStream (i : Nat) (f : Stream → Stream) (s : State) : State :=
  s.modLantern fun l => { l with streams := l.streams.upd {} i f }

/-- Adds to a count of a stream (R349). -/
def streamCount (i j n : Nat) (s : State) : State := modStream i (fun x => { x with counts := addAt x.counts j n }) s

/-- EV_LANTERN_LOST for a stream, at most once in 1,000,000 beats (R349). -/
def lanternLost (i : Nat) (s : State) : State :=
  if mayTell s.lantern.told 1000000 s.beat then
    raiseEvent 0x0C02 (le 1 i) (s.modLantern fun l => { l with told := s.beat + 1 })
  else s

/-- Widths of the fields of a record in byte order, with those that are reserved (Tables 11.2 and 11.4). -/
def recordFields (format : Nat) : List (Nat × Bool) :=
  if format = 1 then
    [1, 1, 2, 2, 1, 1, 4, 4, 4, 4, 2, 1, 1, 1, 3, 4, 4, 4, 4, 2, 1].map (fun n => (n, false)) ++ [(1, true), (4, false), (8, false)]
  else
    [1, 1, 2, 2, 1, 1, 4, 4, 4, 4, 4, 4, 4, 4, 4, 3, 1, 1].map (fun n => (n, false)) ++ [(1, true), (2, false), (4, false), (8, false)]

/-- A record in network byte order (R341). -/
def recordBe (format : Nat) (bs : Bytes) : Bytes :=
  (((recordFields format).map (·.1)).foldl (fun (r : Bytes × Bytes) n => (r.1 ++ (r.2.take n).reverse, r.2.drop n)) ([], bs)).1

/-- Template ID of a format on a stream (R341). -/
def templateId (stream format : Nat) : Nat := (if format = 1 then 256 else 272) + stream

/-- Field specifiers of a template record: enterprise elements from `ie` up, reserved bytes as paddingOctets (R341). -/
def fieldSpecs (ent : Nat) : Nat → List (Nat × Bool) → Bytes
  | _, [] => []
  | ie, (n, pad) :: r =>
    if pad then be 2 210 ++ be 2 n ++ fieldSpecs ent ie r
    else be 2 (0x8000 + ie) ++ be 2 n ++ be 4 ent ++ fieldSpecs ent (ie + 1) r

/-- The template set of a stream, with both of its templates (R341). -/
def templateSet (stream ent : Nat) : Bytes :=
  let one (f : Nat) : Bytes :=
    be 2 (templateId stream f) ++ be 2 (recordFields f).length ++ fieldSpecs ent (if f = 1 then 1 else 64) (recordFields f)
  let body := one 1 ++ one 2
  be 2 2 ++ be 2 (body.length + 4) ++ body

/-- An IPFIX message header in front of its sets (R341). -/
def ipfixMessage (s : State) (domain seq : Nat) (sets : Bytes) : Bytes :=
  be 2 10 ++ be 2 (16 + sets.length) ++ be 4 s.time.sec ++ be 4 seq ++ be 4 domain ++ sets

/-- An export packet enters at its slice (R29, R340). -/
def exportPacket (stream sl n : Nat) (msg : Bytes) (s : State) : State :=
  let x := s.stream stream
  let frame := withFcs (encapsulate x.template msg)
  let (i, s) := newPkt { bytes := frame, arrived := frame.length, origin := .exported, exportOf := some (stream, n),
                         direct := some x.port,
                         md := { port := 768 + sl, slice := sl, tc := x.tc, len := frame.length } } s
  inject sl 4 i s

/-- A stream's message builder at a slice. -/
def State.builder (s : State) (stream sl : Nat) : Builder := s.lantern.builders.get {} (32 * stream + sl)

/-- Replaces a message builder by its image. -/
def modBuilder (stream sl : Nat) (f : Builder → Builder) (s : State) : State :=
  s.modLantern fun l => { l with builders := l.builders.upd {} (32 * stream + sl) f }

/-- Sends the templates of a stream's domain at a slice (R341). -/
def sendTemplates (stream sl : Nat) (s : State) : State :=
  let x := s.stream stream
  let b := s.builder stream sl
  let s := exportPacket stream sl 0 (ipfixMessage s ((x.domain + sl) % 2 ^ 32) b.sent (templateSet stream x.ent)) s
  modBuilder stream sl (fun b => { b with due := false, tmpl := s.time.sec + 1 }) s

/-- Sends the message being built, its templates first where they are due (R339, R341). -/
def sendMessage (stream sl : Nat) (s : State) : State :=
  let b := s.builder stream sl
  if b.recs.isEmpty then s
  else
    let s := if b.due then sendTemplates stream sl s else s
    let x := s.stream stream
    let body := (b.recs.map (recordBe b.format)).flatten
    let set := be 2 (templateId stream b.format) ++ be 2 (body.length + 4) ++ body
    let s := exportPacket stream sl b.recs.length (ipfixMessage s ((x.domain + sl) % 2 ^ 32) b.sent set) s
    modBuilder stream sl (fun b => { b with recs := [], sent := (b.sent + b.recs.length) % 2 ^ 32 }) s

/-- IPFIX_FLUSH_TIMEOUT: FLUSH beats after its first record (R339). -/
def ipfixFlush (stream sl : Nat) (s : State) : State :=
  let b := s.builder stream sl
  if (s.stream stream).kind == 3 && !b.recs.isEmpty && decide (b.since + (s.stream stream).flush ≤ s.beat) then
    sendMessage stream sl s
  else s

/-- IPFIX_FLUSH_TIMEOUT. -/
def execIpfixFlushTimeout (stream sl : Nat) (s : State) : Outc :=
  need (decide (stream < 16) && decide (sl < 32)) "stream or slice" (.next (ipfixFlush stream sl s))

/-- Templates are sent again REFRESH seconds after they were last sent (R341). -/
def ipfixRefresh (stream sl : Nat) (s : State) : State :=
  let b := s.builder stream sl
  if (s.stream stream).kind == 3 && b.tmpl != 0 && decide (b.tmpl - 1 + (s.stream stream).refresh ≤ s.time.sec) then
    sendTemplates stream sl s
  else s

/-- IPFIX_TEMPLATE_REFRESH. -/
def execIpfixTemplateRefresh (stream sl : Nat) (s : State) : Outc :=
  need (decide (stream < 16) && decide (sl < 32)) "stream or slice" (.next (ipfixRefresh stream sl s))

/-- What R339 and R341 make a message builder do by time, at a boundary. -/
def ipfixBoundary (s : State) : State :=
  eachDo s.lantern.builders.keys (fun b s => ipfixRefresh (b / 32) (b % 32) (ipfixFlush (b / 32) (b % 32) s)) s

/-- A record with its SEQ filled in, and the stream's next SEQ (R331, R334). -/
def takeSeq (stream : Nat) (rec_ : Bytes) (s : State) : Bytes × State :=
  let f := rd rec_ 0 1 - 1
  let n := nth (s.stream stream).seq f
  (patch rec_ 52 (le 4 n), modStream stream (fun x => { x with seq := x.seq.set f ((n + 1) % 2 ^ 32) }) s)

/-- A record joins the message being built at a slice; one of another format, or the K-th, sends it (R339; log entries
100 and 101). -/
def buildRecord (stream sl : Nat) (rec_ : Bytes) (s : State) : State :=
  let x := s.stream stream
  if x.kMax = 0 then lanternLost stream (streamCount stream 5 1 s)
  else
    let f := rd rec_ 0 1
    let s := if (s.builder stream sl).format = f then s else sendMessage stream sl s
    let (bs, s) := takeSeq stream rec_ s
    let s := streamCount stream 0 1 s
    let s := modBuilder stream sl (fun b => { b with
      recs := b.recs ++ [bs], format := f, since := if b.recs.isEmpty then s.beat else b.since }) s
    if x.kMax ≤ (s.builder stream sl).recs.length then sendMessage stream sl s else s

/-- A record of a slice goes to its stream: within 16 a beat, to the queue of mover channel 5 or to the message being
built (R336, R338). -/
def emitRecord (stream sl : Nat) (triggers : List Nat) (rec_ : Bytes) (s : State) : State :=
  if (s.stream stream).kind = 0 then s
  else if 16 ≤ (s.arb sl).records then
    lanternLost stream (s.modLantern fun l => { l with dropped := addAt l.dropped 0 triggers.length })
  else
    let s := modArb sl (fun a => { a with records := a.records + 1 }) s
    let s := s.modLantern fun l => { l with made := triggers.foldl (fun m t => addAt m t 1) l.made }
    if (s.stream stream).kind = 3 then buildRecord stream sl rec_ s
    else if 8192 ≤ s.lantern.queue.length then
      lanternLost stream (s.modLantern fun l => { l with dropped := addAt l.dropped 1 1 })
    else s.modLantern fun l => { l with queue := l.queue ++ [(stream, rec_)] }

/-- STOP mode has no room for another record (R337). -/
def streamFull (x : Stream) (size : Nat) : Bool := x.stop && decide (x.rd + size < x.wr + 64)

/-- A record discarded by a full ring (R337). -/
def streamDropFull (i : Nat) (s : State) : State :=
  let tell := mayTell (s.stream i).told 1000000 s.beat
  let s := streamCount i 1 1 (modStream i (fun x => { x with told := if tell then s.beat + 1 else x.told }) s)
  if tell then raiseEvent 0x0C01 (le 1 i) s else s

/-- LANTERN_RING_WRITE: the record at the front of the queue is written to its ring or discarded (R317, R337, R348). -/
def lanternWrite (s : State) : State :=
  match s.lantern.queue with
  | [] => s
  | (i, rec_) :: rest =>
    let s := s.modLantern fun l => { l with queue := rest }
    let x := s.stream i
    let done (f : Bytes → State → State) : State :=
      let (bs, s) := takeSeq i rec_ s
      streamCount i 0 1 (modStream i (fun x => { x with wr := x.wr + 64 }) (moverBytes 5 64 (f bs s)))
    match x.kind with
    | 1 =>
      let r := s.mem.regions.get {} x.region
      if rangeLost s (r.base + x.wr % max 1 r.size) 64 then lanternLost i (streamCount i 2 1 s)
      else if streamFull x r.size then streamDropFull i s
      else done fun bs s => ringWriteLas r.base r.size x.wr bs s
    | 2 =>
      if x.dead || !bmeOf s 0 then lanternLost i (streamCount i 3 1 s)
      else if streamFull x (2 ^ x.k) then streamDropFull i s
      else done fun bs s => hostWrite 0 (x.addr + x.wr % 2 ^ x.k) bs s
    | _ => s

/-- LANTERN_RING_WRITE, in mover channel 5 (R314, R315). -/
def execLanternRingWrite (s : State) : Outc := .next (whenServed 5 lanternWrite s)

/-- HOST_RING streams stop with an FLR of PF0 or a cleared Bus Master Enable, until set again (R348). -/
def lanternStopHost (s : State) : State :=
  s.modLantern fun l => { l with streams := l.streams.mapAll fun _ x => if x.kind = 2 then { x with dead := true } else x }

/-- A step of the clock fell between a packet's ingress slot and now (R332). -/
def steppedSince (s : State) (k : Packet) : Bool := s.time.stepBeat != 0 && decide (k.born ≤ s.time.stepBeat - 1)

/-- Nanoseconds of the clock, `ns` into the beat. -/
def clockNanos (s : State) (ns : Nat) : Nat := (clockAt s ns).ns

/-- How a packet or copy ends. -/
structure Ending where
  /-- Reason of Table 9.3, 0 for a transmission (R268). -/
  reason : Nat := 0
  /-- Egress port, where one had been chosen (R331). -/
  port : Option Nat := none
  /-- Queue, where it was ever queued (R331). -/
  queue : Option Nat := none
  /-- Depth of that queue in cells (R331). -/
  depth : Nat := 0
  /-- EGRESS_TS (R331). -/
  ts : Nat := 0
  /-- Slice that makes the record (R329). -/
  slice : Nat := 0
  /-- The packet had been admitted (R326). -/
  admitted : Bool := false
  /-- The ending copy, if there is one. -/
  copy : Option Copy := none

/-- SOJOURN of a packet's end (R331). -/
def sojournOf (s : State) (k : Packet) (e : Ending) : Int := tsDiff k.md.ts e.ts (some (s.beat - k.born))

/-- Triggers that fire at a packet's end (Table 11.1). -/
def triggersOf (s : State) (k : Packet) (e : Ending) : List Nat :=
  let thr := match e.port with | some p => (s.lantern.ports.get (0, false, 0) p).2.2 | none => 0
  (if k.sampled then [0] else []) ++
  (if e.admitted && thr != 0 && decide ((thr : Int) ≤ sojournOf s k e) then [1] else []) ++
  (if e.reason != 0 && (if e.reason < 64 then bit s.lantern.mask e.reason else decide (128 ≤ e.reason) && s.lantern.maskHi)
   then [2] else []) ++
  (if k.md.lantern || (match e.copy with | some c => c.lantern | none => false) then [3] else []) ++
  (if k.flagged then [4] else [])

/-- The Lantern record of a packet's end, SEQ still 0 (Table 11.2). -/
def lanternRecord (s : State) (k : Packet) (e : Ending) (trig : List Nat) : Bytes :=
  let mc := match e.copy with | some c => c.mc | none => false
  le 1 1 ++ le 1 (maskOf trig) ++ le 2 (e.port.getD 0x3FF) ++ le 2 k.md.port ++ le 1 (e.queue.getD 0xFF) ++
    le 1 e.reason ++ le 4 k.md.ts ++ le 4 e.ts ++ le 4 (ofInt 32 (sojournOf s k e)) ++ le 4 e.depth ++
    le 2 k.md.ver ++ le 1 (k.md.tc + 8 * k.md.colour + 32 * k.md.bank + 64 * b2n (steppedSince s k) + 128 * b2n mc) ++
    le 1 k.md.slice ++ le 1 (match e.port with | some p => egressSlice p | none => 0xFF) ++ le 3 k.md.tenant ++
    le 4 k.md.flowHash ++ le 4 k.md.ecmpHash ++ le 4 k.md.lagHash ++ le 4 k.md.minute ++ le 2 k.md.len ++
    le 1 k.md.policy ++ zeros 1 ++ zeros 4 ++ le 8 k.born

/-- The stages of a tracer, each not reached all ones (R334). -/
def stageList (k : Packet) (c : Option Copy) (last : List Nat) : List Nat :=
  let pad (n : Nat) (l : List Nat) : List Nat := (l ++ List.replicate n 0xFFFFFFFF).take n
  pad 3 k.stages ++ pad 4 (match c with | some c => c.stages | none => []) ++ pad 1 last

/-- The tracer record of a packet's end, SEQ still 0 (Table 11.4). `last` holds T7 where the last byte was sent. -/
def tracerRecord (s : State) (k : Packet) (e : Ending) (recirc : Bool) (last : List Nat) : Bytes :=
  let flag (f : Copy → Bool) (b : Nat) : Nat := match e.copy with | some c => b2n (f c) * 2 ^ b | none => 0
  le 1 2 ++ le 1 (b2n (e.reason != 0) + flag (·.crossed) 1 + flag (·.express) 2 + flag (·.cut) 3 + 16 * b2n recirc +
      32 * b2n (steppedSince s k) + flag (·.mc) 6) ++
    le 2 (e.port.getD 0x3FF) ++ le 2 k.md.port ++ le 1 (e.queue.getD 0xFF) ++ le 1 e.reason ++
    (stageList k e.copy last).flatMap (le 4) ++ le 4 k.md.flowHash ++ le 3 k.md.tenant ++ le 1 k.md.slice ++
    le 1 (match e.port with | some p => egressSlice p | none => 0xFF) ++ zeros 1 ++ le 2 k.md.ver ++ zeros 4 ++ le 8 k.born

/-- The tracer record of a packet is made (R334, R335). -/
def tracerEnd (k : Packet) (e : Ending) (recirc : Bool) (last : List Nat) (s : State) : State :=
  if k.md.tracer && k.exportOf.isNone then
    emitRecord s.lantern.tracer e.slice [5] (tracerRecord s k e recirc last) s
  else s

/-- Records at the end of a packet's or copy's life (R326, R330, R334). -/
def lanternEnd (k : Packet) (e : Ending) (last : List Nat) (s : State) : State :=
  if k.exportOf.isSome || !k.stamped then s
  else
    let trig := triggersOf s k e
    let s := match trig with
      | t :: _ => emitRecord (nth s.lantern.triggers t) e.slice trig (lanternRecord s k e trig) s
      | [] => s
    tracerEnd k e false last s

/-- The checks of LANTERN.STREAM's fields. -/
def streamChecks (p : Bytes) : List (Bool × Nat) :=
  let kind := rd p 1 1; let k := rd p 4 1
  [(decide (rd p 0 1 < 16), 0), (decide (kind ≤ 3), 1), (decide (rd p 2 1 ≤ 1), 2),
    (kind != 1 || decide (rd p 3 1 < 64), 3), (kind != 2 || (decide (12 ≤ k) && decide (k ≤ 30)), 4),
    (kind != 2 || rd p 8 8 % 2 ^ k == 0, 8)]

/-- LANTERN.STREAM (R336, R349). -/
def lanternStreamSpec : CmdSpec where
  need _ := 16
  run c p _ s :=
    checks (streamChecks p)
      (require (rd p 1 1 != 1 || (s.mem.regions.get {} (rd p 3 1)).kind == 3) 0x0B01 (postCmd c p [] s))

/-- LANTERN_STREAM. -/
def execLanternStream (m : Nat) (h : HostAnswer) (s : State) : Outc := acceptAs 0x0C01 lanternStreamSpec m h s

/-- Applies LANTERN.STREAM: the SEQ counters and positions start again; the IPFIX settings stand (R336; log entry
103). -/
def applyLanternStream (order : Nat) (p : Bytes) (s : State) : State :=
  let i := rd p 0 1
  let s := s.modLantern fun l => { l with
    builders := l.builders.filter fun b => b.1 / 32 != i
    queue := l.queue.filter fun r => r.1 != i }
  answerBeat order (modStream i (fun x => { x with
    kind := rd p 1 1, stop := rd p 2 1 == 1, region := rd p 3 1, k := rd p 4 1, addr := rd p 8 8
    seq := [0, 0], wr := 0, rd := 0, dead := false }) s)

/-- LANTERN.PORT (R327, R333, R349). -/
def lanternPortSpec : CmdSpec where
  need _ := 8
  run c p _ s := checks [(decide (rd p 0 2 < 768), 0), (decide (rd p 2 1 ≤ 24), 2)] (postCmd c p [] s)

/-- LANTERN_PORT. -/
def execLanternPort (m : Nat) (h : HostAnswer) (s : State) : Outc := acceptAs 0x0C02 lanternPortSpec m h s

/-- Applies LANTERN.PORT. -/
def applyLanternPort (order : Nat) (p : Bytes) (s : State) : State :=
  answerBeat order (s.modLantern fun l => { l with
    ports := l.ports.put (rd p 0 2) (rd p 2 1, bit (rd p 3 1) 0, rd p 4 4) })

/-- The checks of LANTERN.TRIGGER's fields. -/
def triggerChecks (p : Bytes) : List (Bool × Nat) :=
  let m := rd p 6 1
  (List.range 6).map (fun i => (decide (rd p i 1 < 16), i)) ++ [(m == 0 || (decide (8 ≤ m) && decide (m ≤ 24)), 6)]

/-- LANTERN.TRIGGER (R328, R330, R333, R349). -/
def lanternTriggerSpec : CmdSpec where
  need _ := 17
  run c p _ s := checks (triggerChecks p) (postCmd c p [] s)

/-- LANTERN_TRIGGER. -/
def execLanternTrigger (m : Nat) (h : HostAnswer) (s : State) : Outc := acceptAs 0x0C03 lanternTriggerSpec m h s

/-- Applies LANTERN.TRIGGER. -/
def applyLanternTrigger (order : Nat) (p : Bytes) (s : State) : State :=
  answerBeat order (s.modLantern fun l => { l with
    triggers := (List.range 5).map fun i => rd p i 1
    tracer := rd p 5 1, m := rd p 6 1
    mask := setBit (rd p 8 8) 0 false
    maskHi := bit (rd p 16 1) 0 })

/-- LANTERN.TENANT (R328, R349). -/
def lanternTenantSpec : CmdSpec where
  need _ := 9
  run c p _ s :=
    let t := rd p 0 3; let n := rd p 4 4
    checks [(decide (t < 1048576), 0), (decide (1 ≤ n) && decide (t + n ≤ 1048576), 4), (decide (rd p 8 1 ≤ 1), 8)]
      (postCmd c p [] s)

/-- LANTERN_TENANT. -/
def execLanternTenant (m : Nat) (h : HostAnswer) (s : State) : Outc := acceptAs 0x0C04 lanternTenantSpec m h s

/-- Applies LANTERN.TENANT: the newest write of a tenant's flag counts; one that a later write covers is forgotten. -/
def applyLanternTenant (order : Nat) (p : Bytes) (s : State) : State :=
  let t := rd p 0 3; let n := rd p 4 4
  answerBeat order (s.modLantern fun l => { l with
    flags := (t, n, rd p 8 1 == 1) :: l.flags.filter fun f => !(decide (t ≤ f.1) && decide (f.1 + f.2.1 ≤ t + n)) })

/-- The flag of a tenant, as committed for the beat of the packet's slot (R39, R328). -/
def tenantFlag (s : State) (slotBeat t : Nat) : Bool :=
  let l := if slotBeat = s.beat then s.lantern.flags else s.lantern.flagsPrev
  match l.find? fun f => decide (f.1 ≤ t) && decide (t < f.1 + f.2.1) with
  | some f => f.2.2
  | none => false

/-- The checks of LANTERN.IPFIX's fields. -/
def ipfixChecks (s : State) (p : Bytes) : List (Bool × Nat) :=
  let k := rd p 1 1; let n := rd p 3 1; let port := rd p 12 2
  [(decide (rd p 0 1 < 16) && (s.stream (rd p 0 1)).kind == 3, 0),
    (decide (1 ≤ k) && decide (k * 64 ≤ portMax s port - 4 - n - 20), 1), (decide (rd p 2 1 < 8), 2),
    (decide (42 ≤ n) && decide (n ≤ 66), 3), (s.ports.has port, 12), (decide (1 ≤ rd p 14 2), 14),
    (decide (1 ≤ rd p 16 2) && decide (rd p 16 2 ≤ 3600), 16)]

/-- LANTERN.IPFIX (R339, R341, R349). -/
def lanternIpfixSpec : CmdSpec where
  need _ := 32
  run c p h s :=
    checks (ipfixChecks s p) (withHost h s fun bs => postCmd c p (part bs 0 (rd p 3 1)) s)

/-- LANTERN_IPFIX. -/
def execLanternIpfix (m : Nat) (h : HostAnswer) (s : State) : Outc := acceptAs 0x0C05 lanternIpfixSpec m h s

/-- Applies LANTERN.IPFIX. -/
def applyLanternIpfix (order : Nat) (p data : Bytes) (s : State) : State :=
  answerBeat order (modStream (rd p 0 1) (fun x => { x with
    kMax := rd p 1 1, tc := rd p 2 1, ent := rd p 4 4, domain := rd p 8 4, port := rd p 12 2, flush := rd p 14 2
    refresh := rd p 16 2, template := data }) s)

/-- LANTERN.ACK (R337, R349). -/
def lanternAckSpec : CmdSpec where
  need _ := 16
  run _ p _ s :=
    let i := rd p 0 1; let r := rd p 8 8
    checks [(decide (i < 16), 0), (decide ((s.stream i).rd ≤ r) && decide (r ≤ (s.stream i).wr), 8)]
      (replyNow (modStream i (fun x => { x with rd := r }) s) (le 8 (s.stream i).wr))

/-- LANTERN_ACK. -/
def execLanternAck (m : Nat) (h : HostAnswer) (s : State) : Outc := acceptAs 0x0C06 lanternAckSpec m h s

/-- The counts of LANTERN.STATS (R349). -/
def lanternStatsBytes (s : State) : Bytes :=
  s.lantern.made.flatMap (le 8) ++ (List.range 16).flatMap (fun i => (s.stream i).counts.flatMap (le 8)) ++
    s.lantern.dropped.flatMap (le 8)

/-- LANTERN.STATS: a snapshot at one boundary (R349). -/
def lanternStatsSpec : CmdSpec where
  need _ := 1
  run c p _ s := postCmd c p [] s

/-- LANTERN_STATS. -/
def execLanternStats (m : Nat) (h : HostAnswer) (s : State) : Outc := acceptAs 0x0C07 lanternStatsSpec m h s

/-- Takes the snapshot of LANTERN.STATS. -/
def applyLanternStats (order : Nat) (p : Bytes) (s : State) : State :=
  let out := lanternStatsBytes s
  let s := if bit (rd p 0 1) 0 then s.modLantern fun l => { l with
      made := List.replicate 6 0, dropped := [0, 0]
      streams := l.streams.mapAll fun _ x => { x with counts := List.replicate 6 0 } } else s
  answerOk order out s

end Sys2Proof.Machine
end

