-- ==== Sys2Proof/Machine/PacketLife.lean ====
section
/-! DEFINITION. How packets and copies end: drops, completed transmissions, reference counts and in-flight counts, with
the ledger counts and the records each ending makes. -/

namespace Sys2Proof.Machine

/-- Queue entries of a port's queue, front first. -/
def queueOf (s : State) (p q : Nat) : List Nat := (s.tmPort p).queues.get [] q

/-- Depth of a queue in cells. -/
def queueDepth (s : State) (p q : Nat) : Nat :=
  total ((queueOf s p q).map fun c => cellsOf (s.pkt (s.copy c).pkt).md.len)

/-- The queues that a WFQ group's children are (R244). -/
def groupQueues (g : Nat) : List Nat := (List.range 8).map (8 * g + ·) ++ [64 + g]

/-- A child that has emptied is fresh (R244): the queue, and its group when every queue of the group is empty. -/
def freshen (p q : Nat) (s : State) : State :=
  if !(queueOf s p q).isEmpty then s
  else
    let g := classOf p q
    let dry := decide (p < 768) && (groupQueues g).all fun x => (queueOf s p x).isEmpty
    modTmPort p (fun t =>
      let w := t.wfq.upd {} (8 + q) fun c => { c with fresh := true }
      let w := if dry then w.upd {} g fun c => { c with fresh := true } else w
      { t with wfq := w }) s

/-- Takes a copy out of its queue. -/
def unqueue (p q ci : Nat) (s : State) : State :=
  freshen p q (modTmPort p (fun t => { t with queues := t.queues.upd [] q fun l => l.filter (· != ci) }) s)

/-- The slice at which the end of a copy is recorded: its egress slice, or the ingress slice for the CPU and Ittas
ports (R329; log entry 107). -/
def endSlice (k : Packet) (p : Nat) : Nat := if p < 800 then egressSlice p else k.md.slice

/-- The ending of a copy with a reason, 0 for a transmission. -/
def copyEnding (s : State) (ci reason ns : Nat) : Ending :=
  let c := s.copy ci
  let k := s.pkt c.pkt
  { reason := reason
    port := some c.port
    queue := if c.stage = .queued || c.stage = .sending || c.stage = .remainder then some c.queue else none
    depth := if c.stage = .queued then queueDepth s c.port c.queue else c.depth
    ts := if reason = 0 then c.txTs else clockNanos s ns
    slice := endSlice k c.port
    admitted := true
    copy := some c }

/-- One reference of a stored packet ends at a slice (R217, R222, R129). -/
def releaseRef (sl i : Nat) (s : State) : State :=
  let s := modPkt i (fun k => { k with refs := k.refs - 1 }) s
  if (s.pkt i).refs = 0 then dropPkt i (freePacket sl i (flightEnd i s)) else s

/-- What a drop counts beside the ledger: a mirror session's drops and the records of an export packet (R234, R340). -/
def dropExtras (k : Packet) (s : State) : State :=
  let s := if k.session = 0 then s else s.modBuf fun b => { b with
    mirrors := b.mirrors.upd {} k.session fun m => { m with counts := addAt m.counts 3 1 } }
  match k.exportOf with
  | some (i, n) => if n = 0 then s else lanternLost i (streamCount i 5 n s)
  | none => s

/-- A copy leaves whatever holds it; a port whose queue it leaves was busy until now (R73). -/
def detachCopy (ci : Nat) (s : State) : State :=
  let c := s.copy ci
  let s := unqueue c.port c.queue ci s
  let s := if c.stage = .queued then modPort c.port (fun q => { q with busyBeat := s.beat }) s else s
  let s := modTmPort c.port (fun t => { t with sending := if t.sending = some ci then none else t.sending }) s
  let s := modPort c.port (fun q => { q with remainder := if q.remainder = some ci then none else q.remainder }) s
  s.modHost fun h => { h with mac := h.mac.filter (· != ci) }

/-- A copy ends as a drop that slice `sl` counts (R268, R326). -/
def dropCopyAt (sl ci reason ns : Nat) (s : State) : State :=
  if !s.buf.copies.has ci then s
  else
    let c := s.copy ci
    let k := s.pkt c.pkt
    let e := { copyEnding s ci reason ns with slice := sl }
    let s := detachCopy ci s
    let s := dropExtras k (countPacket (quadOfSlice sl) k (dropCount reason) s)
    let s := lanternEnd k e [] s
    releaseRef sl c.pkt (dropCopy ci s)

/-- A copy is dropped after admission with a ledger reason, at its egress slice (R268, R326). -/
def dropCopyEnd (ci reason ns : Nat) (s : State) : State :=
  dropCopyAt (endSlice (s.pkt (s.copy ci).pkt) (s.copy ci).port) ci reason ns s

/-- A packet is dropped in the ingress half or at admission (R268, R329). -/
def dropIngress (i reason ns : Nat) (s : State) : State :=
  let k := s.pkt i
  let e : Ending := { reason := reason, ts := clockNanos s ns, slice := k.md.slice, admitted := k.charge.isSome }
  let s := dropExtras k (countPacket (quadOfSlice k.md.slice) k (dropCount reason) s)
  let s := lanternEnd k e [] s
  dropPkt i (freePacket k.md.slice i (flightEnd i s))

/-- A copy has been sent or delivered whole: the ledger counts it, its record is made and its reference ends
(R268, R326, R334). -/
def sentCopyEnd (ci n ns : Nat) (s : State) : State :=
  if !s.buf.copies.has ci then s
  else
    let c := s.copy ci
    let k := s.pkt c.pkt
    let e := copyEnding s ci 0 ns
    let s := detachCopy ci s
    let s := countPacket (quadOfSlice (endSlice k c.port)) k (egCount k.lh n) s
    let s := match k.exportOf with | some (i, _) => streamCount i 4 1 s | none => s
    let s := lanternEnd k e [clockNanos s ns] s
    releaseRef (endSlice k c.port) c.pkt (dropCopy ci s)

/-- A frame sent to a recirculation port enters its slice again (R29, R129, R335): the pass is not counted, and the
packet keeps its stamp, the flag its egress action set (R123), and its place in its bank's in-flight count. A multicast
packet counts once: the copy that recirculates takes that count over as the stored frame's last reference, and is not
counted while other copies remain (DESIGN CHOICE, log entry 194). -/
def recirculate (ci ns : Nat) (s : State) : State :=
  let c := s.copy ci
  let k := s.pkt c.pkt
  let e := copyEnding s ci 0 ns
  let s := detachCopy ci s
  let s := tracerEnd k e true [clockNanos s ns] s
  let carries := k.inflight && k.refs == 1
  let again : Packet := { k with
    bytes := c.out, arrived := c.out.length, origin := .recirc, charge := none, refs := 0, inflight := carries
    cells := [], queued := [], failed := [], stages := [], bad := false
    md := { k.md with
      recirc := true, port := c.port, slice := c.port - 768, len := c.out.length, lantern := k.md.lantern || c.lantern } }
  let s := modPkt c.pkt (fun k => { k with inflight := k.inflight && !carries }) s
  let (i, s) := newPkt again s
  inject (c.port - 768) 0 i (releaseRef (c.port - 768) c.pkt (dropCopy ci s))

end Sys2Proof.Machine
end

