-- ==== Sys2Proof/Machine/Traffic.lean ====
section
/-! DEFINITION. The traffic manager: queues, weighted fair queueing, shapers, policers, gates, guard bands, maximum
sojourn and sampling. -/

namespace Sys2Proof.Machine

/-- Rate of a port in Mb/s (Tables 3.1 and 8.2). -/
def txRate (s : State) (p : Nat) : Nat :=
  if p < 768 then portRate s p else if p < 800 then 400000 else if p = 800 then 200000 else 10000

/-- The express class is served ahead of the others at this port (R240). -/
def expressServed (s : State) (p : Nat) : Bool :=
  decide (p < 768) && decide (s.tm.expressTc < 8) && (s.tmPort p).express

/-- The queue a frame of a class joins at a port (R239, R240, R241). A mirror copy is never express (R234): where its class
has an express queue it joins the class's other queue, 64 + E (DESIGN CHOICE, log entry 195). -/
def joinQueue (s : State) (p tc queue : Nat) (mc mirror : Bool) : Nat :=
  if 768 ≤ p then tc
  else if mc then 64 + tc
  else if expressServed s p && tc == s.tm.expressTc then (if mirror then 64 + tc else 8 * tc)
  else 8 * tc + queue % 8

/-- Whether a queue is the port's express queue (R240). -/
def isExpressQueue (s : State) (p q : Nat) : Bool := expressServed s p && q == 8 * s.tm.expressTc

/-- Classes held while the port is down (R102). -/
def holdMask (q : Port) : Nat := q.holdMask.getD q.pfcMask

/-- A hold window runs on a port (R102). -/
def holding (q : Port) : Bool := !q.up && q.holdStart.isSome

/-- A hold window runs at a boundary's P7, or the port's coming up ended it in that boundary's P3 (R104). -/
def heldAt (q : Port) (beat : Nat) : Bool := holding q || (q.up && q.holdDone == some beat)

/-- Received pause that holds a class: never the express class, never under a tripped watchdog (R99, R100). -/
def pausedClass (s : State) (p t : Nat) : Bool :=
  let q := s.port p
  decide (p < 768) && t != s.tm.expressTc && nth q.pause t != 0 && !bit q.wdTrip t

/-- Frame preemption is active on a port (R101). -/
def preempting (s : State) (p : Nat) : Bool :=
  let q := s.port p
  bit q.mmFlags 0 && clearBits q.mmMask (if s.tm.expressTc < 8 then 2 ^ s.tm.expressTc else 0) != 0 &&
    (q.mmStatus == 2 || bit q.mmFlags 1)

/-- A class is sent by the preemptable MAC (R101). -/
def preemptable (s : State) (p t : Nat) : Bool :=
  decide (p < 768) && preempting s p && bit (s.port p).mmMask t && t != s.tm.expressTc

/-- Start offsets of a list's entries within its cycle, cut at the cycle's end (Table 8.5). -/
def entryTimes : Nat → List (Nat × Nat × Nat) → List (Nat × Nat × Nat × Nat)
  | _, [] => []
  | t, (iv, g, op) :: r => (t, iv, g, op) :: entryTimes (t + iv) r

/-- A list's cycle that begins at `cs` is not run: it would be cut short by the list change at `t`, and the extension lets
the cycle before it go on instead (R253, R255). -/
def cycleAbsorbed (l : GateList) (start cs : Int) (change : Option Nat) : Bool :=
  match change with
  | some t => decide (start < cs) && decide (cs < t) && decide (t - cs ≤ l.ext)
  | none => false

/-- Start of the cycle that holds a clock time; cycles repeat from the list's base time in both directions, so that a
clock stepped back finds its place too (R253, R255). -/
def cycleStart (l : GateList) (start : Int) (now : Nat) : Int := now - ((now : Int) - start) % (l.cycle : Int)

/-- Offset within the cycle at a clock time, a last short cycle before a list change being part of the cycle before it
where the extension allows (R253, R255). -/
def cycleOffset (l : GateList) (start : Int) (now : Nat) (change : Option Nat) : Nat :=
  let cs := cycleStart l start now
  ((now : Int) - cs).toNat + (if cycleAbsorbed l start cs change then l.cycle else 0)

/-- Index and content of the entry that a list's schedule gives at an offset. -/
def entryAt (l : GateList) (off : Nat) : Option (Nat × Nat × Nat) :=
  let es := (entryTimes 0 l.entries).filter fun e => decide (e.1 < l.cycle) && decide (e.1 ≤ off)
  match es.getLast? with
  | some e => some (es.length - 1, e.2.2.1, e.2.2.2)
  | none => none

/-- ConfigChangeTime of the pending list, if any. -/
def changeAt (g : Gates) : Option Nat := g.pend.map (·.2)

/-- Nanoseconds to the next closing instant of gate `t` in the current cycle and the next; none when no such instant
lies ahead. A cycle that the list does not run, and what lies past the list's end, closes nothing (R255, R257). -/
def timeToClose (g : Gates) (t now : Nat) : Option Nat :=
  match g.oper with
  | none => none
  | some l =>
    let start : Int := g.start
    let cs := cycleStart l start now
    let ends (at_ : Int) : Bool := match changeAt g with | some t => decide ((t : Int) ≤ at_) | none => false
    let es := (entryTimes 0 l.entries).filter fun e => decide (e.1 < l.cycle) && !bit e.2.2.1 t
    let ats := ([cs, cs + l.cycle].filter fun c => !cycleAbsorbed l start c (changeAt g)).flatMap fun c =>
      es.map fun e => c + (e.1 : Int)
    (ats.find? fun at_ => decide ((now : Int) < at_) && !ends at_).map fun at_ => (at_ - (now : Int)).toNat

/-- Frame length assumed by the guard band, before growth (R257). -/
def assumedLength (s : State) (k : Packet) (c : Copy) : Nat :=
  if !c.cut then k.md.len else if k.l3End ≠ 0 then k.l3End else portMax s k.md.port

/-- The rewrite template of a copy: that of its next hop (R123, R163). -/
def templateOf (s : State) (c : Copy) : Option NextHop :=
  if c.dest.1 = 3 then s.tab.nh.find c.dest.2 else none

/-- Growth that the copy's template declares (R257). -/
def growthOf (s : State) (k : Packet) (c : Copy) : Nat :=
  match templateOf s c with
  | some n => (bankBody (s.bank k.md.bank)).growth.get 0 n.template
  | none => 0

/-- A number of wire bytes leaves within a time at a rate in Mb/s. -/
def fitsIn (bytes rate ns : Nat) : Bool := decide (bytes * 8000 ≤ ns * rate)

/-- Wire bytes of the smallest non-final fragment of a port (R258). -/
def minFragment (s : State) (p : Nat) : Nat := 64 * (1 + (s.port p).addFrag) + 24

/-- Frame data that a fragment sent for `left` ns can hold beside its 24 bytes of overhead: a multiple of 8 bytes, with
at least 64 of the `len` bytes left over (R258). -/
def fragmentBytes (rate left len : Nat) : Nat := min ((left * rate / 8000 - 24) / 8 * 8) ((len - 64) / 8 * 8)

/-- What the guard band lets a head frame do: not start, start whole, or start and be fragmented by the closing instant
(R257, R258). -/
inductive Band where
  | hold
  | whole
  | fragment

/-- The guard band for a copy of class `t` at a port, `ns` into the beat. -/
def guardBand (s : State) (p t ci ns : Nat) : Band :=
  let c := s.copy ci
  let k := s.pkt c.pkt
  let g := (s.tmPort p).gates
  if !bit g.states t then .hold
  else match timeToClose g t (clockNs s ns) with
    | none => .whole
    | some left =>
      let len := assumedLength s k c + growthOf s k c
      let rate := txRate s p
      if fitsIn (len + 20) rate left then .whole
      else if preemptable s p t && fitsIn (minFragment s p) rate left && decide (minFragment s p + 40 ≤ len) then
        .fragment
      else .hold

/-- The shaper credits on a queue's path are not negative (R247). -/
def creditOk (s : State) (p q : Nat) : Bool :=
  let ok (level i : Nat) : Bool :=
    let x := (s.tmPort p).shapers.get {} (128 * level + i)
    !x.on || decide (0 ≤ x.credit)
  ok 0 q && ok 2 0 && (decide (768 ≤ p) || ok 1 (classOf p q))

/-- The head of a queue may start (Table 8.3). -/
def eligibleQueue (s : State) (p q ns : Nat) : Bool :=
  let t := classOf p q
  match queueOf s p q with
  | [] => false
  | ci :: _ =>
    (s.copy ci).ready &&
    (decide (768 ≤ p) ||
      (!pausedClass s p t &&
       (match guardBand s p t ci ns with | .hold => false | _ => true) &&
       !(preemptable s p t && ((s.port p).remainder.isSome || (s.port p).mmHeld)))) &&
    (isExpressQueue s p q || creditOk s p q) && !(s.tmPort p).gates.latched.contains q

/-- A queue whose head the guard band holds: it stays ineligible until its gate next opens (R258). -/
def holdsHead (s : State) (p ns q : Nat) : Bool :=
  let t := classOf p q
  match queueOf s p q with
  | [] => false
  | ci :: _ =>
    (s.copy ci).ready && bit (s.tmPort p).gates.states t && !preemptable s p t &&
      (match guardBand s p t ci ns with | .hold => true | _ => false)

/-- The queues that the guard band holds at a decision are latched (R258). -/
def latchHeld (p ns : Nat) (s : State) : State :=
  let qs := if p < 768 then (List.range 72).filter (holdsHead s p ns) else []
  if qs.isEmpty then s
  else modTmPort p (fun t => { t with gates := { t.gates with
    latched := t.gates.latched ++ qs.filter fun q => !t.gates.latched.contains q } }) s

/-- The latched queues whose gates stay as they were or close; those whose gates open are free again (R258). -/
def keepLatched (g : Gates) (states p : Nat) : List Nat :=
  g.latched.filter fun q => !(bit states (classOf p q) && !bit g.states (classOf p q))

/-- `a` lies before `b` by signed 32-bit difference (R244). -/
def before32 (a b : Nat) : Bool := decide (2 ^ 31 ≤ (a + 2 ^ 32 - b % 2 ^ 32) % 2 ^ 32)

/-- Virtual finish time of a child (R244). -/
def wfqTag (c : Wfq) (v len : Nat) : Nat :=
  let s0 := if c.fresh || before32 c.last v then v else c.last
  (s0 + len * 4096 / max 1 c.weight) % 2 ^ 32

/-- The child with the earliest tag, the lowest index of equals: (child, tag, queue it would send from). -/
def wfqBest (l : List (Nat × Nat × Nat)) : Option (Nat × Nat × Nat) :=
  l.foldl (fun b x => match b with
    | none => some x
    | some y => if before32 x.2.1 y.2.1 then some x else some y) none

/-- Wire length of the frame at a queue's head (R244). -/
def headLen (s : State) (p q : Nat) : Nat :=
  match queueOf s p q with
  | ci :: _ => (s.pkt (s.copy ci).pkt).md.len + 20
  | [] => 0

/-- The queue a node's eligible queues choose (R244), with its tag. -/
def chooseAmong (s : State) (p node : Nat) (qs : List Nat) (ns : Nat) : Option (Nat × Nat × Nat) :=
  let t := s.tmPort p
  wfqBest ((qs.filter fun q => eligibleQueue s p q ns).map fun q =>
    (8 + q, wfqTag (t.wfq.get {} (8 + q)) (t.v.get 0 node) (headLen s p q), q))

/-- Queues a group serves at a port: at an express port, group E serves its multicast queue alone (R240). -/
def servedQueues (s : State) (p g : Nat) : List Nat :=
  if expressServed s p && g == s.tm.expressTc then [64 + g] else groupQueues g

/-- What the scheduler chooses at a port: the queue, and the tags to be recorded as (child, tag, node) (R243, R244). -/
def chooseQueue (s : State) (p ns : Nat) : Option (Nat × List (Nat × Nat × Nat)) :=
  if 768 ≤ p then
    (chooseAmong s p 8 (List.range 8) ns).map fun b => (b.2.2, [(b.1, b.2.1, 8)])
  else if expressServed s p && eligibleQueue s p (8 * s.tm.expressTc) ns then some (8 * s.tm.expressTc, [])
  else
    let t := s.tmPort p
    let groups := (List.range 8).filterMap fun g =>
      (chooseAmong s p g (servedQueues s p g) ns).map fun b =>
        ((g, wfqTag (t.wfq.get {} g) (t.v.get 0 8) (headLen s p b.2.2), b.2.2), (b.1, b.2.1, g))
    match wfqBest (groups.map (·.1)) with
    | none => none
    | some best =>
      match groups.find? fun x => x.1.1 == best.1 with
      | some x => some (best.2.2, [(best.1, best.2.1, 8), x.2])
      | none => none

/-- Records the tags of a choice (R244). -/
def recordTags (p : Nat) (tags : List (Nat × Nat × Nat)) (s : State) : State :=
  eachDo tags (fun x => modTmPort p fun t => { t with
    wfq := t.wfq.upd {} x.1 fun c => { c with last := x.2.1, fresh := false }
    v := t.v.put x.2.2 x.2.1 }) s

/-- Charges the enabled shapers on a queue's path for `wire` bytes, the frame's length and 20; an express frame charges the
port shaper alone (R247). -/
def chargeShapers (p q wire : Nat) (s : State) : State :=
  let levels := if isExpressQueue s p q then [256] else [q, 128 + classOf p q, 256]
  eachDo levels (fun i => modTmPort p fun t =>
    let x := t.shapers.get {} i
    { t with shapers := if x.on then t.shapers.put i { x with credit := x.credit - wire * 256 } else t.shapers }) s

/-- Adds one to the GATE_MAX_SDU or SOJOURN count of a queue. -/
def queueStat (p q : Nat) (f : QStat → QStat) (s : State) : State :=
  modTmPort p (fun t => { t with stats := t.stats.upd {} q f }) s

/-- A head frame over its class's queueMaxSDU, or of a version retired by force, is dropped (R131, R256). -/
def purgeHead (p q ns : Nat) (s : State) : State :=
  match queueOf s p q with
  | [] => s
  | ci :: _ =>
    let k := s.pkt (s.copy ci).pkt
    let t := classOf p q
    let lim := nth (s.tmPort p).sdu t
    if versionExpired s k.md then dropCopyEnd ci 55 ns s
    else if decide (p < 768) && lim != 0 && decide (lim < k.md.len) then
      let s := queueStat p q (fun x => { x with sdu := x.sdu + 1 }) s
      dropCopyEnd ci 11 ns (modTmPort p (fun x => { x with sduDrops := addAt x.sduDrops t 1 }) s)
    else s

/-- Heads are dropped until none is to be dropped. -/
def purgeQueue (p ns q : Nat) (s : State) : State := (queueOf s p q).foldl (fun s _ => purgeHead p q ns s) s

/-- Queue numbers of a port (R238, R241). -/
def portQueues (p : Nat) : List Nat := if p < 768 then List.range 72 else List.range 8

/-- A copy joins its queue, the one that the settings in force now give (R230, R239, R240): depth marks and the watchdog
are kept (R100, R261). A copy admitted before its port went down joins that port's queue, of an unheld class too: the
spec speaks of queued frames and of admission alone (DESIGN CHOICE, log entry 196). -/
def enqueue (ci ns : Nat) (s : State) : State :=
  let s := modCopy ci (fun c =>
    let md := (s.pkt c.pkt).md
    { c with queue := joinQueue s c.port md.tc md.queue c.mc md.mirrorCopy }) s
  let c := s.copy ci
  let t := classOf c.port c.queue
  if decide (c.port < 768) && !s.ports.has c.port then dropCopyEnd ci 8 ns s
  else if decide (c.port < 768) && bit (s.port c.port).wdTrip t then
    dropCopyEnd ci 22 ns (portCount c.port 62 1 (portCount c.port (65 + t) 1 s))
  else
    let s := modCopy ci (fun c => { c with stage := .queued, stages := c.stages ++ [clockNanos s ns] }) s
    let s := modTmPort c.port (fun x => { x with queues := x.queues.upd [] c.queue (· ++ [ci]) }) s
    let s := modPort c.port (fun q => { q with busyBeat := s.beat }) s
    queueStat c.port c.queue (fun x => { x with depthHigh := max x.depthHigh (queueDepth s c.port c.queue) }) s

/-- A policer handles a packet: its colour, and the policer after (R252). `n` is the frame length. -/
def policeOne (x : Policer) (colour n : Nat) : Nat × Policer :=
  let b := if x.packet then 256 else n * 256
  let c := if x.aware then colour else 0
  let r := if c == 2 || decide (x.tp < b) then (2, x.tp, x.tc)
    else if c == 1 || decide (x.tc < b) then (1, x.tp - b, x.tc)
    else (0, x.tp - b, x.tc - b)
  (r.1, { x with tp := r.2.1, tc := r.2.2, counts := addAt (addAt x.counts (2 * r.1) 1) (2 * r.1 + 1) n })

/-- The policer named by a packet in its quadrant; index 65,535 only counts (R251, R252). -/
def police (q i colour n : Nat) (s : State) : Nat × State :=
  let x := (s.quad q).policers.get {} i
  if i = 65535 then
    let x := { x with counts := addAt (addAt x.counts (2 * colour) 1) (2 * colour + 1) n }
    (colour, modQuad q (fun y => { y with policers := y.policers.put i x }) s)
  else
    let r := policeOne x colour n
    (r.1, modQuad q (fun y => { y with policers := y.policers.put i r.2 }) s)

/-- Refill of a policer (Table 8.4). -/
def refillPolicer (x : Policer) : Policer :=
  { x with tc := min (x.tc + x.cir) (x.cbs * 256), tp := min (x.tp + x.pir) (x.pbs * 256) }

/-- Refill of a shaper (R247). -/
def refillShaper (x : Shaper) : Shaper :=
  if x.on then { x with credit := min (x.credit + x.rate) (x.burst * 256 : Nat) } else x

/-- A child whose tag lies before its node's V takes V (R245). -/
def clampTag (v : Tab Nat) (i : Nat) (c : Wfq) : Wfq :=
  let node := if i < 8 then 8 else if i < 72 then (i - 8) / 8 else i - 72
  if before32 c.last (v.get 0 node) then { c with last := v.get 0 node } else c

/-- The same for the ports with one level. -/
def clampFlat (v : Tab Nat) (c : Wfq) : Wfq := if before32 c.last (v.get 0 8) then { c with last := v.get 0 8 } else c

/-- P6: WFQ clamp and credit refill (R245, R247, Table 8.4). -/
def phase6 (s : State) : State :=
  let s := s.modTm fun t => { t with ports := t.ports.mapAll fun p x => { x with
    wfq := x.wfq.mapAll fun i c => if p < 768 then clampTag x.v i c else clampFlat x.v c
    shapers := x.shapers.mapAll fun _ y => refillShaper y } }
  s.modTab fun t => { t with quads := t.quads.mapAll fun _ x => { x with
    policers := x.policers.mapAll fun i y => if i = 65535 then y else refillPolicer y } }

/-- A copy that has not started its transmission, or of a preempted frame whose last fragment has not started (R248,
R249). -/
def notStarted (c : Copy) : Bool := c.stage != .sending || (c.sent != 0 && !c.last)

/-- A frame queued for a class that the port's hold window holds at this boundary (R102 to R104). -/
def heldCopy (s : State) (c : Copy) : Bool :=
  decide (c.port < 768) && heldAt (s.port c.port) s.beat && bit (holdMask (s.port c.port)) (classOf c.port c.queue)

/-- A copy has reached the maximum sojourn at this boundary (R248). -/
def overdue (s : State) (c : Copy) : Bool :=
  notStarted c && decide ((s.pkt c.pkt).born + s.tm.s ≤ s.beat)

/-- A copy is discarded for its sojourn (R103, R248). -/
def sojournDrop (ci : Nat) (s : State) : State :=
  let c := s.copy ci
  if heldCopy s c then dropCopyEnd ci 33 0 (portCount c.port 61 1 s)
  else dropCopyEnd ci 20 0 (queueStat c.port c.queue (fun x => { x with sojourn := x.sojourn + 1 }) s)

/-- Copies overdue at this boundary and of a kind, in the order made. -/
def overdueCopies (s : State) (f : Copy → Bool) : List Nat :=
  (s.buf.copies.filter fun e => overdue s e.2 && f e.2).map (·.1)

/-- SOJOURN_DISCARD: at P7 every frame that has reached S without starting is discarded (R248 to R250). -/
def sojournDiscard (s : State) : State := eachDo (overdueCopies s fun c => !heldCopy s c) sojournDrop s

/-- SOJOURN_DISCARD: the discard is P7's (log entry 197). -/
def execSojournDiscard (s : State) : Outc := .next (atBoundary evSojourn [] s)

/-- HOLD_SOJOURN_DROP: the held frames of a port that have reached S (R103). -/
def holdSojourn (p : Nat) (s : State) : State :=
  eachDo (overdueCopies s fun c => heldCopy s c && c.port == p) sojournDrop s

/-- HOLD_SOJOURN_DROP. -/
def execHoldSojournDrop (p : Nat) (s : State) : Outc :=
  need (decide (p < 768)) "port" (.next (atBoundary evHoldSojourn (le 2 p) s))

/-- Sojourn of a queue's head, at the boundary (R260). -/
def headSojourn (s : State) (p q : Nat) : Nat :=
  match queueOf s p q with
  | [] => 0
  | ci :: _ =>
    let k := s.pkt (s.copy ci).pkt
    let d := tsDiff k.md.ts s.time.ns (some (s.beat - k.born))
    if 2147483647 ≤ d then 0xFFFFFFFF else d.toNat

/-- A sample record (Table 8.8). -/
def sampleBytes (s : State) (p q : Nat) : Bytes :=
  let t := classOf p q
  let held := decide (p < 768) && holding (s.port p) && bit (holdMask (s.port p)) t
  let flags := b2n (pausedClass s p t) + 2 * b2n (decide (p < 768) && !bit (s.tmPort p).gates.states t) +
    4 * b2n (!creditOk s p q) + 8 * b2n held
  le 2 p ++ le 1 q ++ le 1 flags ++ le 4 (queueDepth s p q) ++ le 4 (headSojourn s p q) ++ le 4 s.beat

/-- One queue is sampled: kept, and written to the sample ring when it names the port (R260). -/
def sampleQueue (pq : Nat × Nat) (s : State) : State :=
  let bs := sampleBytes s pq.1 pq.2
  let s := queueStat pq.1 pq.2 (fun x => { x with sample := bs }) s
  let (addr, n, i) := s.tm.ring
  if s.tm.ringPorts.contains pq.1 && n != 0 then
    hostWrite 0 (addr + 16 * i) bs (s.modTm fun t => { t with ring := (addr, n, (i + 1) % n) })
  else s

/-- The queues of a slice's front-panel ports in order. -/
def sliceQueues (s : State) (sl : Nat) : List (Nat × Nat) :=
  (s.ports.keys.filter fun p => p / 24 == sl).flatMap fun p => (List.range 72).map fun q => (p, q)

/-- A slice samples 64 queues, from where it stopped, and the queues of its recirculation port (R260). -/
def sampleSlice (sl : Nat) (s : State) : State :=
  let qs := sliceQueues s sl
  let from_ := s.tm.ptr.get 0 sl
  let turn := (qs.filter fun x => decide (from_ ≤ 72 * x.1 + x.2)) ++ (qs.filter fun x => decide (72 * x.1 + x.2 < from_))
  let now := turn.take 64
  let s := eachDo now sampleQueue s
  let s := match (turn.drop 64 ++ turn).head? with
    | some x => s.modTm fun t => { t with ptr := t.ptr.put sl (72 * x.1 + x.2) }
    | none => s
  eachDo ((List.range 8).map fun q => (768 + sl, q)) sampleQueue s

/-- P7's sampling (R260). -/
def sampleAll (s : State) : State :=
  let s := eachDo (List.range 32) sampleSlice s
  eachDo ([800, 801].flatMap fun p => (List.range 8).map fun q => (p, q)) sampleQueue s

/-- The frame being sent is preempted: the MAC ends the fragment and the remainder waits (R258). `n` bytes of frame data
have been sent. -/
def preemptCopy (p ci n : Nat) (s : State) : State :=
  let s := modCopy ci (fun c => { c with stage := .remainder, sent := c.sent + n, last := false }) s
  let s := modTmPort p (fun t => { t with sending := none }) s
  portCount p 57 1 (modPort p (fun q => { q with remainder := some ci }) s)

/-- A cut after `n` bytes of frame data, or after the smallest fragment; none where it would leave fewer than 64 (R258). -/
def allowedCut (s : State) (p ci n : Nat) : Option Nat :=
  let c := s.copy ci
  let m := max n (64 * (1 + (s.port p).addFrag))
  if m + 64 ≤ c.out.length - c.sent then some m else none

/-- Bytes of frame data a sending frame could be cut after, `ns` into the beat: at least the smallest fragment, a
multiple of 8, with at least 64 left; none while no such cut remains (R258). -/
def cutPoint (s : State) (p ci ns : Nat) : Option Nat :=
  allowedCut s p ci (ceilDiv ((1000 * s.beat + ns - (s.copy ci).start) * txRate s p / 8000) 8 * 8)

/-- Bytes of frame data after which the fragment in progress has ended by a closing instant `ns` into the beat; none for a
frame that the guard band started whole (R257 to R259). -/
def closePoint (s : State) (p ci ns : Nat) : Option Nat :=
  let c := s.copy ci
  let k := s.pkt c.pkt
  let ran := 1000 * s.beat + ns - c.start
  let rest := c.out.length - c.sent
  let len := if c.sent = 0 then assumedLength s k c + growthOf s k c else rest
  if fitsIn (len + 20) (txRate s p) ran then none else allowedCut s p ci (fragmentBytes (txRate s p) ran rest)

/-- A preemptable frame in progress is preempted at the point given (R258). -/
def preemptAt (p : Nat) (point : Nat → Option Nat) (s : State) : State :=
  match (s.tmPort p).sending with
  | none => s
  | some ci =>
    if preemptable s p (classOf p (s.copy ci).queue) && (s.port p).remainder.isNone then
      match point ci with
      | some n => preemptCopy p ci n s
      | none => s
    else s

/-- A preemptable frame in progress is preempted at its first allowed point (R258). -/
def preemptNow (p ns : Nat) (s : State) : State := preemptAt p (fun ci => cutPoint s p ci ns) s

/-- The gate of the sending frame's class has closed: a preemptable frame that reaches past the closing has been cut, its
fragment ended by the closing instant (R258). -/
def cutAtClose (p ns : Nat) (s : State) : State :=
  match (s.tmPort p).sending with
  | some ci =>
    if bit (s.tmPort p).gates.states (classOf p (s.copy ci).queue) then s
    else preemptAt p (fun ci => closePoint s p ci ns) s
  | none => s

/-- The gates of a port take the entry that the schedule gives at a clock time, with its operation (R255, R258). -/
def gateTo (p now ns : Nat) (s : State) : State :=
  let g := (s.tmPort p).gates
  match g.oper with
  | none => s
  | some l =>
    match entryAt l (cycleOffset l g.start now (changeAt g)) with
    | none => s
    | some (i, states, op) =>
      let s := modTmPort p (fun t => { t with gates := { t.gates with
        entry := i, states := states, done := now, latched := keepLatched t.gates states p } }) s
      let s := cutAtClose p ns s
      match op with
      | 1 => modPort p (fun q => { q with mmHeld := true }) (preemptNow p ns s)
      | 2 => modPort p (fun q => { q with mmHeld := false }) s
      | _ => s

/-- GATE_EVENT: the port's gates at an instant of the beat in progress. -/
def execGateEvent (p ns : Nat) (s : State) : Outc :=
  need (decide (p < 768) && decide (ns < 1000)) "port or instant" (.next (gateTo p (clockNs s ns) ns s))

/-- A pending list becomes operational at its ConfigChangeTime (R255). -/
def gateChange (p now : Nat) (s : State) : State :=
  match (s.tmPort p).gates.pend with
  | none => s
  | some (l, t) =>
    if now < t then s
    else
      let s := modTmPort p (fun x => { x with gates := { x.gates with
        oper := some l, start := t, pend := none, changeTime := t } }) s
      raiseEvent 0x0801 (le 2 p ++ zeros 6 ++ le 6 (t / 10 ^ 9) ++ le 4 (t % 10 ^ 9)) s

/-- GATE_CONFIG_CHANGE. -/
def execGateConfigChange (p ns : Nat) (s : State) : Outc :=
  need (decide (p < 768) && decide (ns < 1000)) "port or instant"
    (.next (gateTo p (clockNs s ns) ns (gateChange p (clockNs s ns) s)))

/-- Every port's gates follow the clock as it stands at the boundary, a step of it included (R255). -/
def gatesRefresh (s : State) : State :=
  let now := clockNs s 0
  eachDo (s.tm.ports.keys.filter (· < 768)) (fun p s => gateTo p now 0 (gateChange p now s)) s

end Sys2Proof.Machine
end

