-- ==== Sys2Proof/Machine/Buffer.lean ====
section
/-! DEFINITION. Admission, the crossing fabric, the resequencers and the BUF commands. -/

namespace Sys2Proof.Machine

/-- What admission decides of a frame (R215): a drop with its reason and the pool that counts it, or the pool charged. -/
inductive Admission where
  | drop (reason pool : Nat)
  | charge (pool : Nat)

/-- A packet that is never lossless and never express: a mirror copy (R234). -/
def plainCopy (k : Packet) : Bool := k.md.mirrorCopy

/-- A frame of the express class (R215, R240). -/
def isExpress (s : State) (k : Packet) : Bool := !plainCopy k && decide (s.tm.expressTc < 8) && k.md.tc == s.tm.expressTc

/-- A frame is lossless: its class is in the PFC enable mask of its front-panel ingress port (R215). -/
def isLossless (s : State) (k : Packet) : Bool :=
  !plainCopy k && k.origin = .front && !isExpress s k && bit (s.port k.md.port).pfcMask k.md.tc

/-- Cells in no pool's use (R215). -/
def freeCellCount (s : State) : Nat := 2097152 - s.buf.held.length

/-- The service pool of a frame (R212). -/
def servicePool (s : State) (k : Packet) (mc : Bool) : Nat := nth (if mc then s.buf.mcPool else s.buf.ucPool) k.md.tc

/-- The admission procedure for `n` cells (R215). -/
def admitDecision (s : State) (k : Packet) (mc : Bool) (n : Nat) : Admission :=
  let i := servicePool s k mc
  let p := s.pool i
  let q := s.port k.md.port
  let full := decide (p.size < p.o + n) || decide (freeCellCount s < n)
  if isExpress s k then (if full then .drop 18 i else .charge i)
  else if isLossless s k && bit q.xoffSet k.md.tc then
    if decide (nth q.hrCells k.md.tc < nth q.hr k.md.tc + n) || decide ((s.pool 16).size < (s.pool 16).o + n) ||
        decide (freeCellCount s < n) then .drop 19 16
    else .charge 16
  else if p.st == 3 then .drop 17 i
  else if decide (2 ≤ p.st) && k.md.colour != 0 then .drop 16 i
  else if decide (1 ≤ p.st) && k.md.colour == 2 then .drop 16 i
  else if full then .drop 18 i
  else .charge i

/-- The ECN draw of R216: whether the advanced value marks a frame at pool occupancy `o`. -/
def ecnMarks (p : Pool) (x : Nat) : Bool :=
  if decide (2 ≤ p.st) || decide (p.warn ≤ p.o) then true
  else decide (x * (p.warn - p.notice) < (p.o - p.notice) * 65536)

/-- EV_BUF_HEADROOM, at most once per port and priority in 1,000,000 beats (R218). -/
def headroomEvent (port pr : Nat) (s : State) : State :=
  if s.ports.has port && mayTell (nth (s.port port).hrEvent pr) 1000000 s.beat then
    raiseEvent 0x0901 (le 2 port ++ le 1 pr) (modPort port (fun q => { q with hrEvent := q.hrEvent.set pr (s.beat + 1) }) s)
  else s

/-- Adds to a count of a pool (R236). -/
def poolCount (i j n : Nat) (s : State) : State := modPool i (fun p => { p with counts := addAt p.counts j n }) s

/-- A frame is admitted: charged, counted and drawn for its ECN mark (R215, R216). -/
def chargeFrame (i : Nat) (mc : Bool) (n pool : Nat) (s : State) : Bool × State :=
  let k := s.pkt i
  let sp := s.pool (servicePool s k mc)
  let x := lfsr16 (s.arb k.md.slice).ecn
  let draw := decide (1 ≤ sp.st)
  let mark := draw && ecnMarks sp x
  let s := if draw then modArb k.md.slice (fun a => { a with ecn := x }) s else s
  let s := if mark then poolCount (servicePool s k mc) 6 1 s else s
  let cells := lowestFree s.buf.held 0 n
  let s := chargePool pool cells (poolCount pool 0 1 (poolCount pool 1 n (countAct 2 n s)))
  let from_ := if k.origin = .front && !plainCopy k then k.md.port else 1023
  let s := modPkt i (fun k => { k with charge := some (n, pool), cells := cells, chargePort := (from_, k.md.tc) }) s
  let s := modPort from_ (fun q => { q with
    admCells := addAt q.admCells k.md.tc n
    hr := if pool = 16 then addAt q.hr k.md.tc n else q.hr }) s
  (mark, xoffRefresh s)

/-- Admission of a packet for `n` cells: the drop reason, or its ECN mark (R215). -/
def admitPkt (i : Nat) (mc : Bool) (n ns : Nat) (s : State) : Option Bool × State :=
  match admitDecision s (s.pkt i) mc n with
  | .drop reason pool =>
    let k := s.pkt i
    let s := poolCount pool (reason - 14) 1 s
    let s := if reason = 19 then headroomEvent k.md.port k.md.tc s else s
    (none, dropIngress i reason ns s)
  | .charge pool =>
    let r := chargeFrame i mc n pool s
    (some r.1, r.2)

/-- Cells a frame did not use return to its pool at its end (R215). -/
def trimCharge (i : Nat) (s : State) : State :=
  let k := s.pkt i
  match k.charge with
  | some (n, pool) =>
    let used := cellsOf k.bytes.length
    if used < n then
      let s := freeCells k.md.slice pool (k.cells.drop used)
        (modPkt i (fun k => { k with charge := some (used, pool), cells := k.cells.take used }) s)
      xoffRefresh (modPort k.chargePort.1 (fun q => { q with
        admCells := q.admCells.set k.chargePort.2 (nth q.admCells k.chargePort.2 - (n - used))
        hr := if pool = 16 then q.hr.set k.chargePort.2 (nth q.hr k.chargePort.2 - (n - used)) else q.hr }) s)
    else s
  | none => s

/-- Planes in service (R228). -/
def planesUp (s : State) : List Nat := (List.range 4).filter fun i => (s.buf.planes.getD i {}).st == 0

/-- Replaces a plane's record by its image. -/
def modPlane (i : Nat) (f : Plane → Plane) (s : State) : State :=
  s.modBuf fun b => { b with planes := b.planes.set i (f (b.planes.getD i {})) }

/-- The plane that carries the express lanes: the lowest-numbered in service (R223, R227). -/
def expressPlane (s : State) : Nat := (planesUp s).headD 0

/-- Cells queued from a slice toward a quadrant on each plane (R224; log entry 114). -/
def crossingQueue (s : State) (sl q : Nat) : List Nat :=
  s.buf.pkts.foldl (fun l e =>
    if e.2.md.slice == sl then (List.range 4).map fun i => nth l i + nth (e.2.queued.get [] q) i else l) [0, 0, 0, 0]

/-- The plane that the next cell goes to: of those in service whose queue is not 64 cells longer than the shortest, the one
with the fewest cells queued, the lowest number of equals (R224). -/
def nextPlane (up q : List Nat) : Option Nat :=
  let short := up.foldl (fun m i => min m (nth q i)) (nth q (up.headD 0))
  (up.filter fun i => decide (nth q i < short + 64)).foldl (fun b i => match b with
    | none => some i
    | some j => if nth q i < nth q j then some i else some j) none

/-- `n` cells are sprayed one at a time, given the queues before: the cells each plane gets (R224). -/
def sprayOn (up : List Nat) : Nat → List Nat → List Nat → List Nat
  | 0, _, got => got
  | n + 1, q, got =>
    match nextPlane up q with
    | none => got
    | some i => sprayOn up n (addAt q i 1) (addAt got i 1)

/-- `n` cells of a packet join the planes' queues toward a quadrant, counted where they go (R224, R236). -/
def sprayCells (pkt q n : Nat) (s : State) : State :=
  let k := s.pkt pkt
  let got := sprayOn (planesUp s) n (crossingQueue s k.md.slice q) [0, 0, 0, 0]
  let s := modPkt pkt (fun k => { k with
    queued := k.queued.put q ((List.range 4).map fun i => nth (k.queued.get [] q) i + nth got i) }) s
  eachDo [0, 1, 2, 3] (fun i => modPlane i fun p => { p with cells := p.cells + nth got i }) s

/-- Cells of a crossing frame: an express frame's take its slice's lane on the express plane, another's are sprayed (R224,
R225). -/
def sendCells (express : Bool) (pkt q n : Nat) (s : State) : State :=
  let s := countAct 4 n s
  if express then modPlane (expressPlane s) (fun p => { p with cells := p.cells + n }) s else sprayCells pkt q n s

/-- A slice's crossing queues toward a quadrant are full, which can be only with one plane in service, or with two below
clock state 0 (R228, Table 7.4a); how many cells a queue holds the spec does not say (log entry 193). -/
def crossingFull (s : State) (sl q : Nat) : Bool :=
  let up := planesUp s
  (up.length == 1 || (up.length == 2 && s.power.clk != 0)) &&
    up.all fun i => decide (Config.crossingCells ≤ nth (crossingQueue s sl q) i)

/-- Key of a stream at an egress slice (R229). -/
def streamKey (egress ingress tc : Nat) : Nat := 256 * egress + 8 * ingress + tc

/-- A stream's record. -/
def State.strm (s : State) (k : Nat) : Strm := s.buf.streams.get {} k

/-- Replaces a stream's record by its image. -/
def modStrm (k : Nat) (f : Strm → Strm) (s : State) : State :=
  s.modBuf fun b => { b with streams := b.streams.upd {} k f }

/-- The resequencer counts of an egress slice. -/
def modReseq (e : Nat) (f : Reseq → Reseq) (s : State) : State :=
  s.modBuf fun b => { b with reseq := b.reseq.upd {} e f }

/-- The stream of a copy. -/
def copyStream (s : State) (c : Copy) : Nat :=
  let k := s.pkt c.pkt
  streamKey (egressSlice c.port) k.md.slice k.md.tc

/-- Copies of a packet at an egress slice that have not been released. -/
def unreleased (s : State) (pkt slice : Nat) : List Nat :=
  (s.buf.copies.filter fun e => e.2.pkt == pkt && egressSlice e.2.port == slice &&
    (e.2.stage = .crossing || e.2.stage = .waiting)).map (·.1)

/-- A copy is released to the traffic manager, or dropped where its version was retired by force (R131, R230). -/
def releaseCopy (ns ci : Nat) (s : State) : State :=
  if versionExpired s (s.pkt (s.copy ci).pkt).md then dropCopyEnd ci 55 ns s else enqueue ci ns s

/-- Waiting frames of an egress slice, one copy each, in order of arrival (R230). -/
def waitingFrames (s : State) (slice : Nat) : List (Nat × Copy) :=
  let w := s.buf.copies.filter fun e => e.2.stage = .waiting && egressSlice e.2.port == slice
  let one := w.foldl (fun (l : List (Nat × Copy)) e => if l.any fun x => x.2.pkt == e.2.pkt then l else l ++ [e]) []
  sortBy (fun e => 1000 * e.2.arrive.1 + e.2.arrive.2) one

/-- Distance ahead of EXPECTED, by signed 16-bit difference (R230). -/
def seqAhead (expected seq : Nat) : Int := toInt 16 ((seq + 65536 - expected % 65536) % 65536)

/-- A frame is released by its packet at an egress slice, and counted (R230, R236). -/
def releaseFrame (slice pkt ns : Nat) (s : State) : State :=
  modReseq slice (fun r => { r with released := r.released + 1 }) (eachDo (unreleased s pkt slice) (releaseCopy ns) s)

/-- Waiting frames that have become next are released in order (R230). -/
def drainStream (slice key ns : Nat) : Nat → State → State
  | 0, s => s
  | fuel + 1, s =>
    match (waitingFrames s slice).find? fun e => copyStream s e.2 == key && e.2.seq == (s.strm key).expected with
    | none => s
    | some e =>
      drainStream slice key ns fuel
        (modStrm key (fun x => { x with expected := (x.expected + 1) % 65536 }) (releaseFrame slice e.2.pkt ns s))

/-- A stream skips to a number, counting those passed over, and releases what has become next (R230, R231). -/
def skipTo (slice key seq ns : Nat) (s : State) : State :=
  let n := (seqAhead (s.strm key).expected seq).toNat
  let s := modReseq slice (fun r => { r with skip := r.skip + n }) s
  let s := modStrm key (fun x => { x with expected := seq }) s
  drainStream slice key ns ((waitingFrames s slice).length + 1) s

/-- Copies of a packet at an egress slice are dropped as RESEQ_LATE (R230). -/
def dropLate (slice pkt ns : Nat) (s : State) : State :=
  eachDo (unreleased s pkt slice) (fun ci => dropCopyEnd ci 54 ns)
    (modReseq slice (fun r => { r with late := r.late + 1 }) s)

/-- The window is full: the stream of the oldest waiting frame skips to it (R230). Frames of that stream that wait under a
lower number have been passed over: they are behind EXPECTED, and dropped as RESEQ_LATE (DEDUCED, log entry 198). -/
def windowFull (slice ns : Nat) (s : State) : State :=
  let w := waitingFrames s slice
  if w.length < 8192 then s
  else match w.head? with
    | some e =>
      let key := copyStream s e.2
      let passed := w.filter fun x => copyStream s x.2 == key && decide (seqAhead e.2.seq x.2.seq < 0)
      skipTo slice key e.2.seq ns (eachDo passed (fun x => dropLate slice x.2.pkt ns) s)
    | none => s

/-- A frame's first cell has arrived: released, held or dropped (R230). -/
def placeFrame (pkt slice key seq ns : Nat) (s : State) : State :=
  let d := seqAhead (s.strm key).expected seq
  if d < 0 then dropLate slice pkt ns s
  else if d = 0 then
    let s := releaseFrame slice pkt ns s
    let s := modStrm key (fun x => { x with expected := (x.expected + 1) % 65536 }) s
    drainStream slice key ns ((waitingFrames s slice).length + 1) s
  else
    let s := eachDo (unreleased s pkt slice) (fun ci => modCopy ci fun c => { c with stage := .waiting }) s
    modReseq slice (fun r => { r with high := max r.high (waitingFrames s slice).length }) s

/-- Whether the egress and ingress halves of a slice work: at home, in a planned move, or served by the Ember (R22,
R23, R498, R501). -/
def sliceServed (s : State) (sl : Nat) : Bool :=
  let x := s.slices.get {} sl
  let e := s.slices.get {} 32
  dataUp s && (x.st == 0 || (x.st == 1 && x.planned) || ((e.st == 2 || e.st == 4 || (e.st == 1 && x.releasing)) && e.peer == sl))

/-- CELL_ARRIVE_RESEQUENCER: the first cell of a packet reaches an egress slice (R230). -/
def cellArrive (pkt slice ns : Nat) (s : State) : State :=
  let cs := (unreleased s pkt slice).filter fun ci => (s.copy ci).stage = .crossing
  match cs with
  | [] => s
  | ci :: _ =>
    if !sliceServed s slice then s
    else
      let t := clockNanos s ns
      let s := eachDo cs (fun ci => modCopy ci fun c => { c with arrive := (s.beat, ns), stages := [t] }) s
      let s := modPkt pkt (fun k => { k with queued := k.queued.del (quadOfSlice slice), failed := [] }) s
      let c := s.copy ci
      let key := copyStream s c
      if c.express then eachDo cs (releaseCopy ns) s
      else if c.epoch != (s.strm key).epoch then dropLate slice pkt ns s
      else
        let s := if 0 < seqAhead (s.strm key).expected c.seq then windowFull slice ns s else s
        placeFrame pkt slice key c.seq ns s

/-- A stream whose EXPECTED has not come 32 beats after its oldest waiting frame skips to its lowest waiting number
(R231). -/
def reseqTimeout (slice key : Nat) (s : State) : State :=
  let w := (waitingFrames s slice).filter fun e => copyStream s e.2 == key
  match w with
  | [] => s
  | e :: r =>
    if e.2.arrive.1 + 32 ≤ s.beat then
      let x := (s.strm key).expected
      let low := r.foldl (fun m e => if seqAhead x e.2.seq < seqAhead x m then e.2.seq else m) e.2.seq
      skipTo slice key low 0 s
    else s

/-- RESEQ_SKIP_TIMEOUT: the skip comes at the boundary (R231; log entry 197). -/
def execReseqSkipTimeout (slice stream : Nat) (s : State) : Outc :=
  need (decide (slice < 32) && decide (stream < 256)) "stream"
    (.next (atBoundary evReseqSkip (le 1 slice ++ le 2 stream) s))

/-- Every stream with waiting frames, as (egress slice, key). -/
def waitingStreams (s : State) : List (Nat × Nat) :=
  ((s.buf.copies.filter fun e => e.2.stage = .waiting).map fun e => (egressSlice e.2.port, copyStream s e.2)).eraseDups

/-- The resequencers at a boundary: timeouts, and crossed frames whose cells are present may start (R226, R231). -/
def reseqBoundary (todo : List Pend) (s : State) : State :=
  let s := runPosted evReseqSkip todo (fun r => reseqTimeout (rd r 0 1) (256 * rd r 0 1 + rd r 1 2)) s
  let s := eachDo (waitingStreams s) (fun x => reseqTimeout x.1 x.2) s
  s.modBuf fun b => { b with copies := b.copies.mapAll fun _ c =>
    if c.stage = .queued && decide (c.arrive.1 < s.beat) && (c.cut || decide ((s.pkt c.pkt).endAt ≤ 1000 * (s.beat + 1))) then { c with ready := true } else c }

/-- Core cycles of a beat at the clock state in force (Table 1.1). -/
def cyclesPerBeat (s : State) : Nat := 2048 - 256 * s.power.clk

/-- Nanoseconds of a number of core cycles, from `ns` on: the instant they end. -/
def afterCycles (s : State) (ns n : Nat) : Nat := ns + n * 1000 / cyclesPerBeat s

/-- A crossed cut-through frame may start: 128 cycles after its first cell, or with all its cells present (R226). -/
def cutMayStart (s : State) (c : Copy) (ns : Nat) : Bool :=
  decide (1000 * c.arrive.1 + afterCycles s c.arrive.2 128 ≤ nowNs s ns) || decide ((s.pkt c.pkt).endAt ≤ nowNs s ns)

/-- EGRESS_CUT_THROUGH_START: a sprayed cut-through frame may start (R226). -/
def execEgressCutThroughStart (ci ns : Nat) (s : State) : Outc :=
  .next (modCopy ci (fun c => if c.stage = .queued && c.cut && cutMayStart s c ns then { c with ready := true } else c) s)

/-- The streams whose ingress slice is `sl` change epoch: waiting frames of the old one are released in order and the
gaps closed at once (R232). -/
def changeEpoch (sl : Nat) (s : State) : State :=
  let keys := (List.range 32).flatMap fun e => (List.range 8).map fun t => (e, streamKey e sl t)
  eachDo keys (fun x s =>
    let st := s.strm x.2
    let w := (waitingFrames s x.1).filter fun e => copyStream s e.2 == x.2
    let order := sortBy (fun e => (seqAhead st.expected e.2.seq).toNat) w
    let gaps := match order.getLast? with
      | some e => (seqAhead st.expected e.2.seq).toNat + 1 - order.length
      | none => 0
    let s := eachDo order (fun e => releaseFrame x.1 e.2.pkt 0) s
    let s := if gaps = 0 then s else modReseq x.1 (fun r => { r with epoch := r.epoch + gaps }) s
    if s.buf.streams.has x.2 then
      modStrm x.2 (fun y => { y with epoch := !y.epoch, expected := y.next }) s
    else modStrm x.2 (fun y => { y with epoch := !y.epoch }) s) s

/-- The streams into an egress slice whose waiting frames are lost go on from the first number still on its way (log
entry 111). -/
def reseqLost (slice : Nat) (s : State) : State :=
  let keys := s.buf.streams.keys.filter fun k => k / 256 == slice
  eachDo keys (fun k s =>
    let x := s.strm k
    let on := (s.buf.copies.filter fun e => e.2.stage = .crossing && !e.2.express && copyStream s e.2 == k).map (·.2.seq)
    let low := on.foldl (fun m n => if seqAhead x.expected n < seqAhead x.expected m then n else m) x.next
    modStrm k (fun y => { y with expected := low }) s) s

/-- A change in the planes in service is told (R228). -/
def planeEvent (i : Nat) (s : State) : State := raiseEvent 0x0902 (le 1 i ++ le 1 (s.buf.planes.getD i {}).st) s

/-- A failed plane's unacknowledged cells of one packet are resent on the planes in service, and counted there (R227). -/
def resendCells (i : Nat) (e : Nat × Packet) (s : State) : State :=
  eachDo e.2.queued.keys (fun q s =>
    let n := nth (e.2.queued.get [] q) i
    if n = 0 then s
    else sprayCells e.1 q n (modPkt e.1 (fun k => { k with queued := k.queued.upd [] q fun l => l.set i 0 }) s)) s

/-- XBAR_PLANE_FAIL (R227): its cells are resent on the other planes, and none is lost while one is in service. -/
def planeFail (i q : Nat) (s : State) : State :=
  if (s.buf.planes.getD i {}).st = 1 then s
  else
    let s := planeEvent i (detect (377 + i) q 0 [] (modPlane i (fun p => { p with st := 1, trained := false }) s))
    if (planesUp s).isEmpty then s else eachDo s.buf.pkts (resendCells i) s

/-- CROSSING_CELL_CRC_FAIL (R227): cell `cell` of packet `pkt` fails its CRC on a plane, from source quadrant `q`, and is
replayed; when its sixteenth replay has failed the plane fails. -/
def crossingCellCrcFail (plane q pkt cell : Nat) (s : State) : State :=
  let key := 512 * plane + cell
  let s := modPkt pkt (fun k => { k with failed := k.failed.upd 0 key (· + 1) }) s
  if 16 < (s.pkt pkt).failed.get 0 key then planeFail plane q s
  else detect (373 + plane) q 0 [] (modPlane plane (fun p => { p with replays := p.replays + 1 }) s)

/-- CROSSING_CELL_CRC_FAIL. -/
def execCrossingCellCrcFail (plane q pkt cell : Nat) (s : State) : Outc :=
  need (decide (plane < 4) && decide (q < 4)) "plane or quadrant" (.next (crossingCellCrcFail plane q pkt cell s))

/-- A frame as sent with `n` bytes from byte `i` as zeros, ended with the complemented CRC of what was sent (R47, R227). -/
def zeroFill (i n : Nat) (out : Bytes) : Bytes :=
  let body := out.take (out.length - 4)
  withStomp (body.take i ++ zeros ((body.drop i).take n).length ++ body.drop (i + n))

/-- A cell that is still absent when the egress half needs it: a cut-through frame that crossed the fabric and is being
sent goes on with zeros in its place and is ended as R47 states; any other frame waits for the resent cells (R227; log
entry 113). -/
def lateCell (x : LateCell) (s : State) : State :=
  modCopy x.copy (fun c =>
    if c.cut && c.crossed && (c.stage == .sending || c.stage == .remainder) then
      { c with out := zeroFill x.start x.count c.out, stomp := true, stompReason := 51 } else c) s

/-- XBAR_PLANE_FAIL: the plane fails, and the frames being sent that its resent cells reach late (R227). -/
def xbarPlaneFail (plane q : Nat) (late : List LateCell) (s : State) : State :=
  if (s.buf.planes.getD plane {}).st = 1 then s else eachDo late lateCell (planeFail plane q s)

/-- XBAR_PLANE_FAIL. -/
def execXbarPlaneFail (plane q : Nat) (late : List LateCell) (s : State) : Outc :=
  need (decide (plane < 4) && decide (q < 4)) "plane or quadrant" (.next (xbarPlaneFail plane q late s))

/-- XBAR_PLANE_RETRAINED: the links of a failed plane have retrained; it may return to service, and the cause of its fault
ends (R227, R451). -/
def planeRetrained (i : Nat) (s : State) : State :=
  eachDo [0, 1, 2, 3] (fun q => causeEnd (377 + i) q) (modPlane i (fun p => { p with trained := true }) s)

/-- XBAR_PLANE_RETRAINED. -/
def execXbarPlaneRetrained (plane : Nat) (s : State) : Outc :=
  need (decide (plane < 4)) "plane" (.next (planeRetrained plane s))

end Sys2Proof.Machine
end

