-- ==== Sys2Proof/Machine/BufCmds.lean ====
section
/-! DEFINITION. The BUF commands. -/

namespace Sys2Proof.Machine

/-- The requests of one opcode that wait for the boundary, in the order accepted. -/
def waitingReqs (s : State) (kind : Nat) : List Bytes := (s.pend.filter fun e => e.kind == kind).map (·.req)

/-- SIZE of a pool once the settings that wait are in force (R213). -/
def sizeAhead (s : State) (i : Nat) : Nat :=
  (waitingReqs s 0x0901).foldl (fun n p => if rd p 0 1 = i then rd p 4 4 else n) (s.pool i).size

/-- The checks of BUF.POOL_CONFIG's fields. -/
def poolChecks (s : State) (p : Bytes) : List (Bool × Nat) :=
  let i := rd p 0 1; let size := rd p 4 4; let notice := rd p 8 4; let warn := rd p 12 4
  let stop := rd p 16 4
  let others := total (((List.range 17).filter (· != i)).map (sizeAhead s))
  let head := [(decide (i ≤ 16), 0), (decide (others + size ≤ 2097152), 4)]
  let marks := [(decide (notice ≤ warn), 8), (decide (warn ≤ stop), 12), (decide (stop ≤ size), 16),
    (decide (rd p 20 4 ≤ notice), 20)]
  if i = 16 then head else head ++ marks

/-- BUF.POOL_CONFIG (R213, R236). -/
def bufPoolConfigSpec : CmdSpec where
  need _ := 24
  run c p _ s := checks (poolChecks s p) (postCmd c p [] s)

/-- BUF_POOL_CONFIG. -/
def execBufPoolConfig (m : Nat) (h : HostAnswer) (s : State) : Outc := acceptAs 0x0901 bufPoolConfigSpec m h s

/-- Applies BUF.POOL_CONFIG: the pool's state follows at once (R213, R214). -/
def applyPoolConfig (order : Nat) (p : Bytes) (s : State) : State :=
  let i := rd p 0 1
  let s := modPool i (fun x =>
    if i = 16 then { x with size := rd p 4 4 }
    else { x with size := rd p 4 4, notice := rd p 8 4, warn := rd p 12 4, stop := rd p 16 4, hyst := rd p 20 4 }) s
  answerBeat order (xoffRefresh (settlePool i s))

/-- BUF.POOL_MAP (R212, R236). -/
def bufPoolMapSpec : CmdSpec where
  need _ := 16
  run c p _ s := checks ((List.range 16).map fun o => (decide (rd p o 1 < 16), o)) (postCmd c p [] s)

/-- BUF_POOL_MAP. -/
def execBufPoolMap (m : Nat) (h : HostAnswer) (s : State) : Outc := acceptAs 0x0902 bufPoolMapSpec m h s

/-- Applies BUF.POOL_MAP. -/
def applyPoolMap (order : Nat) (p : Bytes) (s : State) : State :=
  answerBeat order (xoffRefresh (s.modBuf fun b => { b with
    ucPool := (List.range 8).map fun i => rd p i 1, mcPool := (List.range 8).map fun i => rd p (8 + i) 1 }))

/-- BUF.HEADROOM (R218, R236). -/
def bufHeadroomSpec : CmdSpec where
  need _ := 8
  run c p _ s :=
    checks [(s.ports.has (rd p 0 2), 0), (decide (rd p 4 4 ≤ 262144), 4)] (postCmd c p [] s)

/-- BUF_HEADROOM. -/
def execBufHeadroom (m : Nat) (h : HostAnswer) (s : State) : Outc := acceptAs 0x0903 bufHeadroomSpec m h s

/-- Applies BUF.HEADROOM. -/
def applyHeadroom (order : Nat) (p : Bytes) (s : State) : State :=
  answerBeat order (modPort (rd p 0 2) (fun q => { q with
    hrCells :=
    (List.range 8).map fun i => if bit (rd p 2 1) i then rd p 4 4 else nth q.hrCells i }) s)

/-- BUF.STATUS (R236). -/
def bufStatusSpec : CmdSpec where
  need _ := 1
  run c p _ s := postCmd c p [] s

/-- BUF_STATUS. -/
def execBufStatus (m : Nat) (h : HostAnswer) (s : State) : Outc := acceptAs 0x0904 bufStatusSpec m h s

/-- Takes the snapshot of BUF.STATUS. -/
def applyBufStatus (order : Nat) (p : Bytes) (s : State) : State :=
  let out := s.buf.pools.flatMap (fun x => le 4 x.o ++ le 4 x.high ++ le 1 x.st) ++ le 4 (freeCellCount s)
  let s := if bit (rd p 0 1) 0 then s.modBuf fun b => { b with pools := b.pools.map fun x => { x with high := 0 } } else s
  answerOk order out s

/-- BUF.STATS (R236). -/
def bufStatsSpec : CmdSpec where
  need _ := 1
  run c p _ s := postCmd c p [] s

/-- BUF_STATS. -/
def execBufStats (m : Nat) (h : HostAnswer) (s : State) : Outc := acceptAs 0x0905 bufStatsSpec m h s

/-- Takes the snapshot of BUF.STATS. -/
def applyBufStats (order : Nat) (p : Bytes) (s : State) : State :=
  let b := s.buf
  let out := b.pools.flatMap (fun x => x.counts.flatMap (le 8)) ++ le 8 b.doubleFree ++ le 8 b.eccCorr ++
    le 8 b.eccUncorr ++ (List.range 32).flatMap fun i => le 8 (s.arb i).expressOverrun
  let s := if bit (rd p 0 1) 0 then s.modBuf fun b => { b with
      pools := b.pools.map fun x => { x with counts := List.replicate 7 0 }
      doubleFree := 0, eccCorr := 0, eccUncorr := 0
      arbs := b.arbs.mapAll fun _ a => { a with expressOverrun := 0 } } else s
  answerOk order out s

/-- COUNT of a group once the writes that wait are in force (R219). -/
def membersAhead (s : State) (g : Nat) : Nat :=
  (waitingReqs s 0x0906).foldl (fun n p => if rd p 0 2 = g then rd p 4 2 else n) (s.buf.groups.get {} g).members.length

/-- Entries of the member store in use once the writes that wait are in force, all groups but one (R219). -/
def storeAhead (s : State) (g : Nat) : Nat :=
  let named := (s.buf.groups.keys ++ (waitingReqs s 0x0906).map fun p => rd p 0 2).eraseDups
  total ((named.filter (· != g)).map (membersAhead s))

/-- Members as host memory gives them, 2 bytes each. -/
def memberList (n : Nat) (bs : Bytes) : List Nat := (List.range n).map fun i => rd bs (2 * i) 2

/-- A member list breaks none of R219's rules: members are ports or LAGs, none twice, no port of a listed LAG. -/
def membersOk (s : State) (l : List Nat) : Bool :=
  (l.all fun x => decide (x < 768) || (decide (1024 ≤ x) && decide (x < 1280))) && decide (l.eraseDups.length = l.length) &&
    l.all fun x => decide (x < 1024) || ((s.tab.lag.get {} (x - 1024)).members.all fun e =>
      decide ((s.tab.lag.get {} (x - 1024)).count ≤ e.1) || !l.contains e.2.1)

/-- BUF.MC_WRITE (R219, R236). -/
def bufMcWriteSpec : CmdSpec where
  need _ := 16
  run c p h s :=
    let n := rd p 4 2
    checks [(decide (n ≤ 1023), 4)] (withHost (if n = 0 then .data [] else h) s fun bs =>
      let l := memberList n bs
      checks [(membersOk s l, 8)]
        (require (decide (storeAhead s (rd p 0 2) + n ≤ 524288)) 0x0901 (postCmd c p bs s)))

/-- BUF_MC_WRITE. -/
def execBufMcWrite (m : Nat) (h : HostAnswer) (s : State) : Outc := acceptAs 0x0906 bufMcWriteSpec m h s

/-- Applies BUF.MC_WRITE: the whole list is replaced. -/
def applyMcWrite (order : Nat) (p data : Bytes) (s : State) : State :=
  answerBeat order (s.modBuf fun b => { b with groups := b.groups.upd {} (rd p 0 2) fun g =>
    { g with prune := bit (rd p 2 1) 0, members := memberList (rd p 4 2) data } })

/-- BUF.MC_READ (R236). -/
def bufMcReadSpec : CmdSpec where
  need _ := 16
  run c p _ s := hostReady s (postCmd c p [] s)

/-- BUF_MC_READ. -/
def execBufMcRead (m : Nat) (h : HostAnswer) (s : State) : Outc := acceptAs 0x0907 bufMcReadSpec m h s

/-- Takes the snapshot of BUF.MC_READ. -/
def applyMcRead (order : Nat) (p : Bytes) (s : State) : State :=
  let g := s.buf.groups.get {} (rd p 0 2)
  answerOk order (le 2 g.members.length ++ le 1 (b2n g.prune) ++ zeros 5 ++ le 8 g.drops)
    (hostWrite 0 (rd p 8 8) (g.members.flatMap (le 2)) s)

/-- BUF.FABRIC_STATUS (R236). -/
def bufFabricStatusSpec : CmdSpec where
  need _ := 1
  run c p _ s := postCmd c p [] s

/-- BUF_FABRIC_STATUS. -/
def execBufFabricStatus (m : Nat) (h : HostAnswer) (s : State) : Outc := acceptAs 0x0908 bufFabricStatusSpec m h s

/-- Takes the snapshot of BUF.FABRIC_STATUS. -/
def applyFabricStatus (order : Nat) (p : Bytes) (s : State) : State :=
  let out := s.buf.planes.flatMap fun x => le 1 x.st ++ zeros 7 ++ le 8 x.cells ++ le 8 x.replays
  let s := if bit (rd p 0 1) 0 then
      s.modBuf fun b => { b with planes := b.planes.map fun x => { x with cells := 0, replays := 0 } } else s
  answerOk order out s

/-- The state of a plane after BUF.PLANE_ADMIN (R227, R236). -/
def planeAfter (p : Plane) (on : Bool) : Plane :=
  if on then { p with st := 0 } else if p.st = 0 then { p with st := 2 } else p

/-- The planes once the commands that wait are in force. -/
def planesAhead (s : State) : List Plane :=
  (waitingReqs s 0x0909).foldl (fun l p => l.set (rd p 0 1) (planeAfter (l.getD (rd p 0 1) {}) (rd p 1 1 == 1)))
    s.buf.planes

/-- Planes that will be UP besides plane `i`. -/
def planesLeft (s : State) (i : Nat) : Nat :=
  ((List.range 4).filter fun j => j != i && ((planesAhead s).getD j {}).st == 0).length

/-- BUF.PLANE_ADMIN (R227, R228, R236; log entry 117). -/
def bufPlaneAdminSpec : CmdSpec where
  need _ := 2
  run c p _ s :=
    let i := rd p 0 1; let on := rd p 1 1 == 1
    checks [(decide (i < 4), 0), (decide (rd p 1 1 ≤ 1) && (!on || (s.buf.planes.getD i {}).trained), 1)]
      (require (on || decide (3 ≤ planesLeft s i)) 0x0902 (postCmd c p [] s))

/-- BUF_PLANE_ADMIN. -/
def execBufPlaneAdmin (m : Nat) (h : HostAnswer) (s : State) : Outc := acceptAs 0x0909 bufPlaneAdminSpec m h s

/-- Applies BUF.PLANE_ADMIN; a plane that has failed since stays failed. -/
def applyPlaneAdmin (order : Nat) (p : Bytes) (s : State) : State :=
  let i := rd p 0 1
  let x := s.buf.planes.getD i {}
  let y := if x.trained then planeAfter x (rd p 1 1 == 1) else x
  let s' := modPlane i (fun _ => y) s
  answerBeat order (if y.st = x.st then s' else planeEvent i s')

/-- BUF.RESEQ_STATS (R236). -/
def bufReseqStatsSpec : CmdSpec where
  need _ := 2
  run c p _ s := checks [(decide (rd p 0 1 < 32), 0)] (postCmd c p [] s)

/-- BUF_RESEQ_STATS. -/
def execBufReseqStats (m : Nat) (h : HostAnswer) (s : State) : Outc := acceptAs 0x090A bufReseqStatsSpec m h s

/-- Takes the snapshot of BUF.RESEQ_STATS. -/
def applyReseqStats (order : Nat) (p : Bytes) (s : State) : State :=
  let r := s.buf.reseq.get {} (rd p 0 1)
  let out := le 8 r.released ++ le 8 r.skip ++ le 8 r.late ++ le 8 r.epoch ++ le 4 r.high
  answerOk order out (if bit (rd p 1 1) 0 then modReseq (rd p 0 1) (fun _ => {}) s else s)

/-- BUF.AUDIT (R236, R237): answered when the background count ends. -/
def bufAuditSpec : CmdSpec where
  need _ := 0
  run c _ _ s := replyLater (s.modBuf fun b => { b with audits := b.audits ++ [(c.order, s.beat)] })

/-- BUF_AUDIT. -/
def execBufAudit (m : Nat) (h : HostAnswer) (s : State) : Outc := acceptAs 0x090B bufAuditSpec m h s

/-- The background count ends, its result taken at the boundary in hand: it answers every audit that waits, and a
disagreement raises BUF_LEAK (R237). -/
def auditComplete (s : State) : State :=
  if s.buf.audits.isEmpty then s
  else
    let occ := s.buf.pools.map (·.o)
    let bad := decide (total occ ≠ s.buf.held.length)
    let out := le 1 (b2n bad) ++ zeros 3 ++ le 4 (freeCellCount s) ++ occ.flatMap (le 4) ++ le 4 s.buf.held.length
    let s' := eachDo s.buf.audits (fun o => answerOk o.1 out) (s.modBuf fun b => { b with audits := [] })
    if bad then detect 383 0 0 [] s' else s'

/-- The audits at a boundary: a count that has ended, or has run for 2,048 beats, gives its result there (R237). -/
def auditBoundary (todo : List Pend) (s : State) : State :=
  let s := runPosted evAudit todo (fun _ => auditComplete) s
  if s.buf.audits.any fun a => decide (a.2 + 2048 ≤ s.beat + 1) then auditComplete s else s

/-- BUF_AUDIT_COMPLETE: the count has ended, and its result is taken at the boundary (log entry 197). -/
def execBufAuditComplete (s : State) : Outc := .next (atBoundary evAudit [] s)

/-- A destination that a mirror session may name (R233; log entry 116). -/
def mirrorDest (s : State) (d : Nat) : Bool :=
  s.ports.has d || (decide (768 ≤ d) && decide (d ≤ 801)) ||
    (decide (1024 ≤ d) && decide (d < 1280) && decide ((s.tab.lag.get {} (d - 1024)).count ≠ 0))

/-- The checks of BUF.MIRROR's fields for a session that is set. -/
def mirrorChecks (s : State) (p : Bytes) : List (Bool × Nat) :=
  let d := rd p 2 2; let n := rd p 8 1; let t := rd p 6 2
  [(decide (1 ≤ rd p 0 1) && decide (rd p 0 1 ≤ 15), 0),
    (mirrorDest s d && !((d == 800 || d == 801) && decide (n ≠ 0)), 2), (decide (rd p 4 1 < 8), 4),
    (decide (rd p 5 1 ≤ 16), 5), (t == 0 || (decide (64 ≤ t) && decide (t ≤ 9216) && decide (t % 64 = 0)), 6),
    (n == 0 || (decide (42 ≤ n) && decide (n ≤ 66)), 8)]

/-- BUF.MIRROR (R233, R236). -/
def bufMirrorSpec : CmdSpec where
  need _ := 24
  run c p h s :=
    if bit (rd p 1 1) 1 then checks [(decide (1 ≤ rd p 0 1) && decide (rd p 0 1 ≤ 15), 0)] (postCmd c p [] s)
    else
      checks (mirrorChecks s p)
        (if rd p 8 1 = 0 then postCmd c p [] s else withHost h s fun bs => postCmd c p (part bs 0 (rd p 8 1)) s)

/-- BUF_MIRROR. -/
def execBufMirror (m : Nat) (h : HostAnswer) (s : State) : Outc := acceptAs 0x090C bufMirrorSpec m h s

/-- Applies BUF.MIRROR and reads the session back. -/
def applyMirror (order : Nat) (p data : Bytes) (s : State) : State :=
  let i := rd p 0 1; let f := rd p 1 1
  let x := s.buf.mirrors.get {} i
  let y : Mirror := if bit f 1 then x else
    { x with on := bit f 0, dest := rd p 2 2, tc := rd p 4 1, sample := rd p 5 1, trunc := rd p 6 2, template := data }
  let out := le 8 s.beat ++ le 1 (b2n y.on) ++ le 2 y.dest ++ le 1 y.tc ++ le 1 y.sample ++ le 2 y.trunc ++
    le 1 y.template.length ++ y.counts.flatMap (le 8)
  let z : Mirror := if bit f 2 then { y with counts := [0, 0, 0, 0] } else y
  answerOk order out (s.modBuf fun b => { b with mirrors := b.mirrors.put i z })

end Sys2Proof.Machine
end

