-- ==== Sys2Proof/Machine/LedgerRoll.lean ====
section
/-! DEFINITION. The minute roll, its records and seals, and the LEDGER commands but LEDGER.KEY_CREATE. -/

namespace Sys2Proof.Machine

/-- Minute index of a number of seconds (R281). -/
def minuteIndex (sec : Nat) : Nat := sec / 60

/-- The open minute: the stamp of R281 for a time in seconds. -/
def openMinute (s : State) (sec : Nat) : Nat := max (minuteIndex sec) s.ledger.opn

/-- The end of minute `m` waits for its roll already. -/
def endSeen (s : State) (m : Nat) : Bool :=
  (s.ledger.roll.step != 0 && s.ledger.roll.minute == m) || (s.ledger.endBeat.isSome && s.ledger.endMin == m)

/-- The clock passes the end of the open minute `m` in beat `e` (R282): its roll waits, or its end is kept while another
roll is in progress. -/
def endMinute (m : Nat) (s : State) : State :=
  if s.ledger.roll.step = 0 then
    s.modLedger fun l => { l with
      roll := { l.roll with step := 1, minute := m, e := s.beat, smax := max l.smax s.tm.s }
      smax := s.tm.s }
  else s.modLedger fun l => { l with endBeat := some s.beat, endMin := m }

/-- The clock goes from `before` to `after` seconds: the open minute ends when its end is passed; while a backward step
opens a waiting minute again, its roll is put off until the clock passes its end again (R281, R282; log entry 97). -/
def minuteCross (before after : Nat) (s : State) : State :=
  let m := openMinute s before
  if s.ledger.st = 0 || (s.ledger.st = 2 && decide (s.ledger.stopMin < m)) then s
  else if after < before && s.ledger.roll.step == 1 && decide (minuteIndex after ≤ s.ledger.roll.minute) then
    s.modLedger fun l => { l with roll := { l.roll with step := 0 }, smax := max l.smax l.roll.smax }
  else if m < minuteIndex after && !endSeen s m then endMinute m s
  else s

/-- MINUTE_END: the clock passes the minute's end within the beat in progress. -/
def execMinuteEnd (s : State) : Outc := .next (minuteCross s.time.sec (clockAt s 1000).sec s)

/-- A minute in which the clock was stepped (R289). -/
def minuteStepped (before : Nat) (s : State) : State :=
  whenDo (s.ledger.st != 0) (modMinute (openMinute s before) fun m => { m with stepped := true }) s

/-- What a boundary adds to the facts of the open and the rolling minute, and to what the rings have lost (R282, R290,
R313). -/
def ledgerBoundary (s : State) : State :=
  let s := ringsLost s
  if s.ledger.st = 0 then s
  else
    let lost := anyUnitLost s
    let deg := pairDegraded s
    let mark (m : Minute) : Minute := { m with region := m.region || lost, degraded := m.degraded || deg }
    let s := modMinute (openMinute s s.time.sec) mark s
    let s := whenDo (s.ledger.roll.step != 0) (modMinute s.ledger.roll.minute mark) s
    s.modLedger fun l => { l with
      smax := max l.smax s.tm.s
      roll := if l.roll.step = 1 then { l.roll with smax := max l.roll.smax s.tm.s } else l.roll }

/-- The roll begins at P8 of boundary e + S_max + 16 (R282, R283): OPEN moves past the minute, zeroed units rejoin
(R313), and FLUSH queues every set of the minute. -/
def rollStart (s : State) : State :=
  let r := s.ledger.roll
  if r.step == 1 && decide (r.e + r.smax + 16 ≤ s.beat) then
    let s := s.modLedger fun l => { l with opn := r.minute + 1, roll := { l.roll with step := 2 } }
    eachDo [0, 1, 2, 3] (rollQuad r.minute true) (rejoinUnits s)
  else s

/-- ROLL_START: at P8 of its boundary (R282). -/
def execRollStart (s : State) : Outc := .next (atBoundary evRollStart [] s)

/-- FLUSH ends when no request of the minute waits: lost RATE deltas are added up and UNATTRIBUTED is kept (R283). -/
def rollFlushDone (s : State) : State :=
  let m := s.ledger.roll.minute
  let clear : List Nat := [0, 0, 0]
  if s.ledger.roll.step == 2 && !s.ledger.quads.any fun e => setsLeft m e.2 || e.2.queue.any fun r => r.minute == m then
    let rate := total (s.ledger.quads.map fun e => nth e.2.lost (m % 2))
    let s := s.modLedger fun l => { l with
      quads := l.quads.mapAll fun _ x => { x with
        next := if m % 2 = 0 then x.even else x.odd
        even := if m % 2 = 0 then clear else x.even
        odd := if m % 2 = 0 then x.odd else clear
        lost := x.lost.set (m % 2) 0 } }
    s.modLedger fun l => { l with
      roll := { l.roll with step := 3, lostRate := min rate (2 ^ 32 - 1), histPos := nth l.written 0 } }
  else s

/-- ROLL_FLUSH_DONE. -/
def execRollFlushDone (s : State) : Outc := .next (rollFlushDone s)

/-- A flow-history record (Table 9.6). -/
def historyBytes (r : LRec) : Bytes :=
  le 4 r.serial ++ le 5 (r.c.inPL + r.c.inPH) ++ le 6 (r.c.inBL + r.c.inBH) ++ le 5 (r.c.egPL + r.c.egPH) ++
    le 6 (r.c.egBL + r.c.egBH) ++ le 5 (r.c.d0 + r.c.d1 + r.c.d2 + r.c.d3) ++ le 1 r.c.last

/-- SCAN reads the record at a position with poison: the record is invalid, and its counts are a lost delta of a tenant not
known (R305; log entry 230). -/
def scanPoison (m p : Nat) (s : State) : State :=
  lossTold 1 m (lasReadCount (recordLas s p) 128 (s.modLedger fun l => { l with recs := l.recs.del p }))

/-- SCAN writes a record's minute out: a history record, its counts to the tenant's row, and a record that starts anew
(R283). -/
def scanWrite (m p : Nat) (r : LRec) (s : State) : State :=
  (rowAdd r.tenant m r.c false 1 (ringAppend 0 (historyBytes r) s)).modLedger fun l => { l with
    recs := l.recs.put p { r with c := { last := r.c.last } }
    roll := { l.roll with history := l.roll.history ++ [historyBytes r] } }

/-- SCAN removes an idle record (R283). -/
def scanIdle (p : Nat) (s : State) : State := ledgerCount 8 (s.modLedger fun l => { l with recs := l.recs.del p })

/-- SCAN of one position (R283). A record on a lost unit is not read (R305). -/
def scanRecord (m p : Nat) (s : State) : State :=
  match s.ledger.recs.find p with
  | none => s
  | some r =>
    if unitLost s (unitOf s (recordLas s p)) then s
    else if unitPoison s (unitOf s (recordLas s p)) then scanPoison m p s
    else if r.minute == m && !r.c.none then scanWrite m p r s
    else if r.c.none && decide (r.minute + s.ledger.idle ≤ m) then scanIdle p s
    else s

/-- SCAN (R283): every position in order, then the deferred ring. -/
def rollScanDone (s : State) : State :=
  let m := s.ledger.roll.minute
  if s.ledger.roll.step == 3 then
    let s := eachDo s.ledger.recs.keys (scanRecord m) s
    let waiting := s.ledger.deferred
    let s := s.modLedger fun l => { l with deferred := [], roll := { l.roll with step := 4 } }
    ledgerTraffic [0, 1, 2, 3] (eachDo waiting applyFlush s)
  else s

/-- ROLL_SCAN_DONE. -/
def execRollScanDone (s : State) : Outc := .next (rollScanDone s)

/-- The largest power of two below `n`, for `n` above 1 (RFC 9162, Section 2.1.1). -/
def splitPoint (n : Nat) : Nat := (List.range 32).foldl (fun k i => if 2 ^ i < n then 2 ^ i else k) 1

/-- Merkle Tree Hash (R291). The fuel is at least the number of leaves. -/
def merkleRoot : Nat → List Bytes → Bytes
  | _, [] => sha256 []
  | _, [x] => sha256 (le 1 0 ++ x)
  | 0, _ => []
  | fuel + 1, l =>
    let k := splitPoint l.length
    sha256 (le 1 1 ++ merkleRoot fuel (l.take k) ++ merkleRoot fuel (l.drop k))

/-- Inclusion proof of leaf `m` (R291; RFC 9162, Section 2.1.3). -/
def merklePath : Nat → Nat → List Bytes → List Bytes
  | 0, _, _ => []
  | fuel + 1, m, l =>
    if l.length ≤ 1 then []
    else
      let k := splitPoint l.length
      if m < k then merklePath fuel m (l.take k) ++ [merkleRoot l.length (l.drop k)]
      else merklePath fuel (m - k) (l.drop k) ++ [merkleRoot l.length (l.take k)]

/-- A row with anything in it. -/
def Row.used (r : Row) : Bool :=
  r.agg || [r.flows, r.inP, r.egP, r.inB, r.egB].any (· != 0) || r.drops.any (· != 0)

/-- Rows that hold something of minute `m`, by tenant (R287). -/
def minuteRows (s : State) (m : Nat) : List Nat :=
  (s.ledger.rows.filter fun e => e.1 % 2 == m % 2 && e.2.minute == m && e.2.used).map fun e => e.1 / 2

/-- Tenants with a record in the roll of minute `m`, ascending (R280, R287). -/
def rollTenants (s : State) (m : Nat) : List Nat :=
  let all := (sortBy (fun t => t) (minuteRows s m ++ (s.minuteOf m).lost)).eraseDups
  all.filter fun t => !unitLost s (unitOf s (halfLas s t m))

/-- A row of the minute that TENANT reads with poison is invalid, and its counts are lost to the tenant (R280, R305; log
entry 230). -/
def poisonRow (m t : Nat) (s : State) : State :=
  let a := halfLas s t m
  whenDo (unitPoison s (unitOf s a)) (fun s => deltaLost 1 m t (lasReadCount a 64
    (s.modLedger fun l => { l with rows := l.rows.del (2 * t + m % 2) }))) s

/-- One tenant-minute record (R280, R283, R287). -/
def tenantRecord (m t : Nat) (s : State) : State :=
  let row0 := s.ledger.rows.get {} (2 * t + m % 2)
  let row : Row := if row0.minute = m then row0 else { minute := m }
  let bs := rowBytes t ((s.minuteOf m).lost.contains t) row
  let s := ringAppend 2 bs s
  s.modLedger fun l => { l with
    rows := l.rows.del (2 * t + m % 2)
    roll := { l.roll with leaves := l.roll.leaves ++ [bs] } }

/-- TENANT (R283, R291). The minute's places in the rings are kept for LEDGER.STATUS and LEDGER.TENANT_GET. -/
def rollTenantDone (s : State) : State :=
  let m := s.ledger.roll.minute
  if s.ledger.roll.step == 4 then
    let f := s.minuteOf m
    let key := if f.keylog.isEmpty then nth s.ledger.written 1 else f.keyFirst
    let mark := (m, s.ledger.roll.histPos, key, nth s.ledger.written 2)
    let s := eachDo (minuteRows s m) (poisonRow m) s
    let s := eachDo (rollTenants s m) (tenantRecord m) s
    let s := modMinute m (fun f => { f with lost := f.lost.filter fun t => unitLost s (unitOf s (halfLas s t m)) }) s
    ledgerTraffic [0, 1, 2, 3] (s.modLedger fun l => { l with
      marks := l.marks ++ [mark]
      roll := { l.roll with step := 5, root := merkleRoot l.roll.leaves.length l.roll.leaves } })
  else s

/-- ROLL_TENANT_DONE. -/
def execRollTenantDone (s : State) : Outc := .next (rollTenantDone s)

/-- FLAGS of the seal (Table 9.8). -/
def sealFlags (s : State) : Nat :=
  let r := s.ledger.roll
  let f := s.minuteOf r.minute
  b2n (f.lostModule != 0 || r.lostRate != 0 || f.region) + 2 * b2n f.region + 4 * b2n f.degraded +
    8 * b2n r.handover + 16 * b2n f.part + 32 * b2n f.stepped + 64 * b2n (r.leaves.any fun l => bit (rd l 7 1) 0)

/-- Bytes 0 to 191 of the seal (R289). -/
def sealHead (s : State) : Bytes :=
  let r := s.ledger.roll
  let f := s.minuteOf r.minute
  let first := s.ledger.lastSeal.isEmpty
  let gap := if s.ledger.sealed = 0 then 0 else r.minute - s.ledger.sealed
  let header := le 4 0x5345414C ++ le 2 1 ++ le 1 (b2n first) ++ le 1 (sealFlags s) ++ le 4 r.minute ++ le 4 gap ++
    le 8 (if first then 0 else s.ledger.seq) ++ part (sha256 s.ledger.key) 0 8 ++ le 4 r.leaves.length ++
    le 4 r.history.length ++ le 4 f.lostModule ++ le 4 r.lostRate ++ le 8 r.histPos ++ le 4 f.keylog.length ++
    le 4 f.evictions ++ sha256 r.history.flatten ++ sha256 f.keylog.flatten
  header ++ part r.root 0 32 ++ (if first then zeros 32 else sha256 s.ledger.lastSeal)

/-- Modules whose seal areas a seal is written to: those ONLINE, a copy being resilvered, which every write of its pair goes
to, and a zeroed one that waits to rejoin (R288, R304, R312; log entry 232). -/
def sealPorts (s : State) : List Nat :=
  [0, 1, 2, 3].filter fun p => memWrites s p || ((s.memPort p).st == 5 && (s.memPort p).rebuilt)

/-- Module address of a seal slot (R304). -/
def slotAddr (m : MemPort) (slot : Nat) : Nat := m.cap - sealArea + 17408 * slot

/-- The bursts of a seal slot, by module address ÷ 256 (R304). -/
def slotBursts (m : MemPort) (slot : Nat) : List Nat := (List.range 68).map fun i => slotAddr m slot / 256 + i

/-- A seal is written to its slot in every seal area, in 68 bursts (R288, R304, R316; log entry 186). -/
def writeSeal (slot : Nat) (bs : Bytes) (s : State) : State :=
  eachDo (sealPorts s) (fun p s =>
    memCount p 1 68 (modMemPort p (fun m => { m with
      mem := m.mem.writeN (slotAddr m slot) bs
      poison := m.poison.filter fun b => !(slotBursts m slot).contains b }) (countAct 5 68 s))) s

/-- SIGN ends and the seal is published (R283, R292, R293, R297). The signature is hedged: its randomiser is free. -/
def rollSignDone (s : State) : State :=
  let r := s.ledger.roll
  if r.step == 5 && !s.fw.hand && s.boot.ittasRun && !s.boot.halted then
    let head := sealHead s
    let flags := sealFlags s
    let seq := if s.ledger.lastSeal.isEmpty then 0 else s.ledger.seq
    let (rand, s) := takeFreeBytes 16 s
    let sl := head ++ slhSign s.ledger.key head rand
    let slot := s.ledger.slot
    let s := writeSeal slot sl s
    let s := raiseEvent 0x0A01 (le 4 r.minute ++ le 1 flags ++ zeros 3 ++ le 8 seq ++ le 4 slot) s
    let s := modMinute r.minute (fun _ => {}) s
    let s := s.modLedger fun l => { l with
      sealed := r.minute + 1
      lastSeal := sl
      seq := seq + 1
      slot := (slot + 1) % max 1 (nth l.rings 3)
      slots := l.slots.put slot r.minute
      quads := l.quads.mapAll fun _ x => { x with kept := x.next }
      st := if l.st = 2 && decide (l.stopMin ≤ r.minute) then 0 else l.st
      roll := { waiting := r.waiting } }
    match s.ledger.endBeat with
    | some e => s.modLedger fun l => { l with
        endBeat := none
        roll := { l.roll with step := 1, minute := l.endMin, e := e, smax := max l.smax s.tm.s } }
    | none => s
  else s

/-- ST_LEDGER_STATE (R296). -/
def stLedgerState : Nat := 0x0A01

/-- LEDGER.CONFIG (R296): the seed only with no valid record. -/
def ledgerConfigSpec : CmdSpec where
  need _ := 6
  run c p _ s :=
    checks [(decide (1 ≤ rd p 4 1), 4), (decide (rd p 5 1 ≤ 1), 5)]
      (require (s.ledger.st == 0 && (rd p 0 4 == s.ledger.seed || s.ledger.recs.isEmpty)) stLedgerState
        (postCmd c p [] s))

/-- LEDGER_CONFIG. -/
def execLedgerConfig (m : Nat) (h : HostAnswer) (s : State) : Outc := acceptAs 0x0A01 ledgerConfigSpec m h s

/-- Applies LEDGER.CONFIG at its boundary. -/
def applyLedgerConfig (order : Nat) (p : Bytes) (s : State) : State :=
  answerOk order [] (s.modLedger fun l => { l with seed := rd p 0 4, idle := rd p 4 1, random := rd p 5 1 == 1 })

/-- LEDGER.POLICY (R265, R296). -/
def ledgerPolicySpec : CmdSpec where
  need _ := 3
  run c p _ s := checks [(decide (rd p 1 1 ≤ 2), 1), (decide (rd p 2 1 ≤ 1), 2)] (postCmd c p [] s)

/-- LEDGER_POLICY. -/
def execLedgerPolicy (m : Nat) (h : HostAnswer) (s : State) : Outc := acceptAs 0x0A02 ledgerPolicySpec m h s

/-- Applies LEDGER.POLICY. -/
def applyLedgerPolicy (order : Nat) (p : Bytes) (s : State) : State :=
  answerBeat order (s.modLedger fun l => { l with policies := l.policies.put (rd p 0 1) (rd p 1 1, rd p 2 1) })

/-- LEDGER.RINGS (R288, R296). -/
def ledgerRingsSpec : CmdSpec where
  need _ := 16
  run c p _ s :=
    checks [(decide (64 ≤ rd p 12 4) && decide (rd p 12 4 ≤ 1048576), 12)]
      (require (s.ledger.st == 0) stLedgerState (postCmd c p [] s))

/-- LEDGER_RINGS. -/
def execLedgerRings (m : Nat) (h : HostAnswer) (s : State) : Outc := acceptAs 0x0A03 ledgerRingsSpec m h s

/-- Applies LEDGER.RINGS. -/
def applyLedgerRings (order : Nat) (p : Bytes) (s : State) : State :=
  answerOk order [] (s.modLedger fun l => { l with
    rings := [rd p 0 4, rd p 4 4, rd p 8 4, rd p 12 4], ringsSet := true
    slot := l.slot % max 1 (rd p 12 4)
    slots := l.slots.filter fun e => decide (e.1 < rd p 12 4) })

/-- Bytes that the parts of the LEDGER region take (R307). -/
def ledgerNeed (s : State) : Nat :=
  ledgerTableSize + tenantRowsSize + 33554432 * nth s.ledger.rings 0 + 67108864 * nth s.ledger.rings 1 +
    1048576 * nth s.ledger.rings 2

/-- The ledger's region exists and is large enough. -/
def ledgerFits (s : State) : Bool :=
  match s.mem.regions.find? fun r => r.2.kind == 1 with
  | some r => decide (ledgerNeed s ≤ r.2.size)
  | none => false

/-- LEDGER.START (R281, R295, R296, R307). -/
def ledgerStartSpec : CmdSpec where
  need _ := 0
  run c p _ s :=
    require (s.ledger.st == 0 && !s.ledger.key.isEmpty && s.ledger.ringsSet && ledgerFits s && !anyUnitLost s &&
        s.mem.layout.isSome) stLedgerState (postCmd c p [] s)

/-- LEDGER_START. -/
def execLedgerStart (m : Nat) (h : HostAnswer) (s : State) : Outc := acceptAs 0x0A05 ledgerStartSpec m h s

/-- Bytes 0 to 17,279 of a seal slot of a module. -/
def slotSeal (s : State) (p slot : Nat) : Bytes := (s.memPort p).mem.readN (slotAddr (s.memPort p) slot) 17280

/-- A seal slot of a module reads with poison (R298, R304). -/
def slotPoison (s : State) (p slot : Nat) : Bool :=
  (s.memPort p).viral || (slotBursts (s.memPort p) slot).any (s.memPort p).poison.contains

/-- A seal read with poison at a module: repaired from the partner of a pair, or told (Table 10.3). -/
def slotPoisoned (p slot : Nat) (s : State) : State :=
  let u := unitPorts s ((memUnits s).findIdx fun l => l.contains p)
  let bad := (slotBursts (s.memPort p) slot).filter fun b => (s.memPort p).viral || (s.memPort p).poison.contains b
  match u.find? fun q => q != p && memReads s q && !slotPoison s q slot with
  | some q => eachDo bad (fun b => poisonRepair p q (256 * b)) s
  | none => eachDo bad (fun b => poisonTell p (256 * b)) s

/-- A seal read from the lowest-numbered of the ports, or from the next one while the read returns poison (R304). -/
def sealRead (slot : Nat) : List Nat → State → Option Bytes × State
  | [], s => (none, s)
  | p :: r, s =>
    let t := memCount p 0 68 (countAct 5 68 s)
    if slotPoison s p slot then sealRead slot r (slotPoisoned p slot t) else (some (slotSeal s p slot), t)

/-- The ports whose seal areas a read may use (R304). -/
def sealSources (s : State) : List Nat := [0, 1, 2, 3].filter (memReads s)

/-- Slots of the seal ring that hold a seal, with its minute, as the lowest-numbered ONLINE module that reads without poison has
them. -/
def slotsHeld (s : State) : Tab Nat :=
  match (sealSources s).find? fun p => !(s.memPort p).viral with
  | none => []
  | some p => (List.range (nth s.ledger.rings 3)).filterMap fun i =>
    let h := (s.memPort p).mem.readN (slotAddr (s.memPort p) i) 12
    if rd h 0 4 = 0x5345414C then some (i, rd h 8 4) else none

/-- With no seal on die, as after a core reset, Ittas reads the newest seal of the ring; the chain goes on from it when it
verifies under the seal key (R292; log entry 157). -/
def readNewestSeal (s : State) : State :=
  if !s.ledger.lastSeal.isEmpty then s
  else
    let held := slotsHeld s
    let s := whenDo s.ledger.slots.isEmpty (fun s => s.modLedger fun l => { l with slots := held }) s
    let newest := held.foldl (fun b e => match b with
      | some x => if x.2 < e.2 then some e else b
      | none => some e) none
    match newest with
    | none => s
    | some (i, m) =>
      let (o, s) := sealRead i (sealSources s) s
      match o with
      | none => s
      | some bs =>
        if slhVerify s.ledger.key (part bs 0 192) (part bs 192 17088) then
          s.modLedger fun l => { l with
            lastSeal := bs, seq := rd bs 16 8 + 1, sealed := max l.sealed (m + 1)
            slot := (i + 1) % max 1 (nth l.rings 3) }
        else s

/-- The ledger starts (R277, R281, R289, R292, R295). -/
def applyLedgerStart (order : Nat) (s : State) : State :=
  let s := readNewestSeal s
  let first := max (minuteIndex s.time.sec) s.ledger.sealed
  let s := s.modLedger fun l => { l with
    st := 1, opn := first, serial := 0, written := [0, 0, 0], past := [0, 0, 0], marks := [], smax := s.tm.s
    even := {}, odd := {}, endBeat := none, roll := { waiting := l.roll.waiting } }
  let s := modMinute first (fun f => { f with part := true }) s
  answerOk order (le 8 s.beat ++ le 4 first) s

/-- LEDGER.STOP (R295, R296). -/
def ledgerStopSpec : CmdSpec where
  need _ := 0
  run c p _ s := require (s.ledger.st == 1) stLedgerState (postCmd c p [] s)

/-- LEDGER_STOP. -/
def execLedgerStop (m : Nat) (h : HostAnswer) (s : State) : Outc := acceptAs 0x0A06 ledgerStopSpec m h s

/-- The ledger stops: the open minute is the last (R295). -/
def applyLedgerStop (order : Nat) (s : State) : State :=
  let last := openMinute s s.time.sec
  let s := s.modLedger fun l => { l with st := 2, stopMin := last }
  answerBeat order (modMinute last (fun f => { f with part := true }) s)

/-- First record number of a minute in a ring, from its mark. -/
def markAt (i : Nat) (k : Nat × Nat × Nat × Nat) : Nat :=
  match i with | 0 => k.2.1 | 1 => k.2.2.1 | _ => k.2.2.2

/-- Whether a minute stands whole in a ring: none of its records, nor any after them, has been overwritten or lost with a unit
(R288, R313; log entry 233). -/
def markWhole (s : State) (i : Nat) (k : Nat × Nat × Nat × Nat) : Bool :=
  decide (nth s.ledger.written i ≤ markAt i k + ringRecords s i) && decide (nth s.ledger.past i ≤ markAt i k)

/-- The oldest minute held whole in each ring, the seal ring last; none where no minute has been sealed. -/
def oldestMinutes (s : State) : List (Option Nat) :=
  ([0, 1, 2].map fun i => (s.ledger.marks.find? (markWhole s i)).map (·.1)) ++
    [s.ledger.slots.foldl (fun a e => some (match a with | some b => min b e.2 | none => e.2)) none]

/-- Values of which the absent ones are free (log entry 96). -/
def orFree (l : List (Option Nat)) (s : State) : List Nat × State :=
  l.foldl (fun r o => match o with
    | some v => (r.1 ++ [v], r.2)
    | none => let f := takeFree r.2; (r.1 ++ [f.1], f.2)) ([], s)

/-- The minute last sealed and the oldest minutes, none where there is no such minute. -/
def ledgerMinutes (s : State) : List (Option Nat) :=
  (if s.ledger.sealed = 0 then none else some (s.ledger.sealed - 1)) :: oldestMinutes s

/-- The response of LEDGER.STATUS, with the minutes in `v`. -/
def ledgerStatusBytes (s : State) (v : List Nat) : Bytes :=
  let l := s.ledger
  let quads := [0, 1, 2, 3].map fun q => s.lquad q
  le 1 l.st ++ zeros 3 ++ le 4 (openMinute s s.time.sec) ++ le 4 (nth v 0) ++ le 1 l.roll.step ++ zeros 3 ++
    le 4 l.recs.length ++ (v.drop 1).flatMap (le 4) ++ quads.flatMap (fun x => le 2 x.high) ++ zeros 4 ++
    quads.flatMap fun x => x.kept.flatMap (le 8)

/-- LEDGER.STATUS (R296). -/
def ledgerStatusSpec : CmdSpec where
  need _ := 0
  run _ _ _ s :=
    replyNow (orFree (ledgerMinutes s) s).2 (ledgerStatusBytes s (orFree (ledgerMinutes s) s).1)

/-- LEDGER_STATUS. -/
def execLedgerStatus (m : Nat) (h : HostAnswer) (s : State) : Outc := acceptAs 0x0A07 ledgerStatusSpec m h s

/-- The slot that holds a minute's seal. -/
def slotOf (s : State) (minute : Nat) : Option Nat := (s.ledger.slots.find? fun e => e.2 == minute).map (·.1)

/-- LEDGER.SEAL_GET (R296, R304). A seal that no module gives without poison is not found (log entry 231). -/
def ledgerSealGetSpec : CmdSpec where
  need _ := 16
  run _ p _ s :=
    match slotOf s (rd p 0 4) with
    | none => .refuse 4 0
    | some i =>
      hostReady s (match sealRead i (sealSources s) s with
        | (some bs, t) => replyNow (hostWrite 0 (rd p 8 8) bs t) []
        | (none, t) => .accept t (some (4, [])))

/-- LEDGER_SEAL_GET. -/
def execLedgerSealGet (m : Nat) (h : HostAnswer) (s : State) : Outc := acceptAs 0x0A08 ledgerSealGetSpec m h s

/-- The tenant-minute records of a sealed minute still held whole, in order. -/
def minuteLeaves (s : State) (m : Nat) : Option (List Bytes) :=
  match s.ledger.marks.find? fun k => k.1 == m with
  | none => none
  | some k =>
    if !markWhole s 2 k || ringRecords s 2 = 0 then none
    else
      let last := match s.ledger.marks.find? fun j => decide (m < j.1) with
        | some j => markAt 2 j
        | none => nth s.ledger.written 2
      some ((List.range (last - markAt 2 k)).map fun i =>
        lasBytes s (ringBase s 2 + (markAt 2 k + i) % ringRecords s 2 * 64) 64)

/-- A tenant's row of a minute with its place and its path to the root; none where there is none. -/
def tenantProof (s : State) (minute tenant : Nat) : Option Bytes :=
  match minuteLeaves s minute with
  | none => none
  | some l =>
    let i := l.findIdx fun r => rd r 4 3 == tenant
    if l.length ≤ i then none else some (l.getD i [] ++ le 4 i ++ le 4 l.length ++ (merklePath l.length i l).flatten)

/-- LEDGER.TENANT_GET (R291, R296; log entry 92). -/
def ledgerTenantGetSpec : CmdSpec where
  need _ := 16
  run _ p _ s :=
    checks [(decide (rd p 4 3 < 1048576), 4)]
      (match tenantProof s (rd p 0 4) (rd p 4 3) with
      | none => .refuse 4 0
      | some out => hostReady s (replyNow (hostWrite 0 (rd p 8 8) out s) []))

/-- LEDGER_TENANT_GET. -/
def execLedgerTenantGet (m : Nat) (h : HostAnswer) (s : State) : Outc := acceptAs 0x0A09 ledgerTenantGetSpec m h s

/-- The record of a tenant's flow; none where there is none or its unit is lost. -/
def flowStored (s : State) (tenant : Nat) (block : Bytes) : Option Bytes :=
  match s.ledger.recs.find? fun e => e.2.tenant == tenant && e.2.block == block with
  | some e => if rangeLost s (recordLas s e.1) 128 then none else some (recordBytes e.2)
  | none => none

/-- LEDGER.FLOW_GET (R296). -/
def ledgerFlowGetSpec : CmdSpec where
  need _ := 44
  run _ p _ s :=
    checks [(decide (rd p 0 3 < 1048576), 0)]
      (match flowStored s (rd p 0 3) (part p 4 40) with
      | some bs => replyNow s bs
      | none => .refuse 4 0)

/-- LEDGER_FLOW_GET. -/
def execLedgerFlowGet (m : Nat) (h : HostAnswer) (s : State) : Outc := acceptAs 0x0A0A ledgerFlowGetSpec m h s

/-- LEDGER.STATS (R296). -/
def ledgerStatsSpec : CmdSpec where
  need _ := 1
  run _ p _ s :=
    replyNow (if bit (rd p 0 1) 0 then s.modLedger fun l => { l with stats := List.replicate 9 0 } else s)
      (s.ledger.stats.flatMap (le 8))

/-- LEDGER_STATS. -/
def execLedgerStats (m : Nat) (h : HostAnswer) (s : State) : Outc := acceptAs 0x0A0B ledgerStatsSpec m h s

end Sys2Proof.Machine
end

