-- ==== Sys2Proof/Machine/Trust.lean ====
section
/-! DEFINITION. Identity, certificates, tokens, provisioning, attestation and life cycle. -/

namespace Sys2Proof.Machine

/-- PACKAGE_SERIAL (R426). -/
def serialBytes : Bytes := part Config.serial 0 16

/-- KEY_ID of a public key: bytes 0 to 7 of its SHA-256 (Table 15.1). -/
def keyIdOf (pk : Bytes) : Bytes := part (sha256 pk) 0 8

/-- Public key that seeds give (R427). -/
def publicOf (seeds : Bytes) : Bytes := part (Config.publicKey seeds) 0 32

/-- The device has its identity key (R427, R443). -/
def hasIdentity (s : State) : Bool := decide (1 ≤ s.trust.lc)

/-- KEY_ID of the device's identity key; zero in BLANK. -/
def deviceKeyId (s : State) : Bytes := if hasIdentity s then keyIdOf (publicOf s.trust.seeds) else zeros 8

/-- The identity record with a public key, none in BLANK (Table 15.1). -/
def identityRecord (s : State) (pk : Option Bytes) : Bytes :=
  let key := match pk with | some k => k ++ keyIdOf k | none => zeros 40
  le 4 0x4944454E ++ le 2 1 ++ le 1 (Config.partRev % 65536 / 256) ++ le 1 (Config.partRev % 256) ++ serialBytes ++ zeros 8 ++
    part Config.dies 0 96 ++ key ++ le 1 s.trust.lc ++ zeros 87

/-- The identity record as it stands. -/
def ownRecord (s : State) : Bytes := identityRecord s (if hasIdentity s then some (publicOf s.trust.seeds) else none)

/-- A KEY_ID names a provisioning authority key of the boot ROM (R429). -/
def authorityKnown (id : Nat) : Bool := (Config.authorities.take 4).contains id

/-- ST_TRUST_STATE. -/
def stTrustState : Nat := 0x0301

/-- ST_TRUST_CONFIRM. -/
def stTrustConfirm : Nat := 0x0305

/-- EV_TRUST_LC with the step taken (R443). -/
def lcStep (target : Nat) (s : State) : State :=
  raiseEvent 0x0301 (le 1 s.trust.lc ++ le 1 target) (s.modTrust fun t => { t with lc := target })

/-- The certificate TRUST.IDENTITY answers with: the SRAM copy, or the identity area of the flash (R430). -/
def ownCert (s : State) : Bytes := if s.trust.cert.isEmpty then s.fw.certArea else s.trust.cert

/-- TRUST.IDENTITY (Table 15.14). -/
def trustIdentitySpec : CmdSpec where
  need _ := 16
  run _ p _ s :=
    let out := ownRecord s ++ le 4 (ownCert s).length
    if bit (rd p 0 1) 0 then hostReady s (replyNow (hostWrite 0 (rd p 8 8) (ownCert s) s) out) else replyNow s out

/-- TRUST_IDENTITY. -/
def execTrustIdentity (m : Nat) (h : HostAnswer) (s : State) : Outc := acceptAs 0x0301 trustIdentitySpec m h s

/-- The checks of INSTALL in order: the number of the first that fails, 0 when all pass (R430). -/
def certFault (cert pk : Bytes) : Nat :=
  if rd cert 0 4 != 0x43455254 || rd cert 4 2 != 1 then 1
  else if rd cert 6 1 != 1 || rd cert 7 1 != 1 then 2
  else if part cert 16 32 != pk then 3
  else if part cert 48 16 != serialBytes then 4
  else if !authorityKnown (rd cert 64 8) then 5
  else if !Config.verify (rd cert 64 8) (part cert 0 128) (part cert 128 7856) then 6
  else 0

/-- GENERATE (R430): 48 bytes of entropy are held. -/
def trustGenerate (s : State) : Verdict :=
  let (seeds, s) := takeFreeBytes 48 s
  let s := s.modTrust fun t => { t with heldSeeds := seeds }
  replyNow s (identityRecord s (some (publicOf seeds)))

/-- INSTALL (R430). A failed check refuses the command: its status is none of those that end an accepted one (R406). -/
def trustInstall (h : HostAnswer) (s : State) : Verdict :=
  withHost h s fun bs =>
    let cert := part bs 0 7984
    let n := certFault cert (publicOf s.trust.heldSeeds)
    if n != 0 then .refuseWith 0x0302 (le 1 n)
    else
      let s := s.modTrust fun t => { t with
        seeds := t.heldSeeds, heldSeeds := [], cert := cert, certDue := true, session := false }
      replyNow (lcStep 1 s) (le 1 0)

/-- TRUST.PROVISION (R430). -/
def trustProvisionSpec : CmdSpec where
  need _ := 16
  run _ p h s :=
    let phase := rd p 0 1
    checks [(phase == 1 || phase == 2, 0), (phase == 1 || rd p 4 4 == 7984, 4)]
      (require (s.trust.lc == 0 && (phase == 1 || !s.trust.heldSeeds.isEmpty)) stTrustState
        (if phase == 1 then trustGenerate s else trustInstall h s))

/-- TRUST_PROVISION. -/
def execTrustProvision (m : Nat) (h : HostAnswer) (s : State) : Outc := acceptAs 0x0302 trustProvisionSpec m h s

/-- IDENTITY_CERT_WRITE: the installed certificate goes to the boot flash (R430). -/
def execIdentityCertWrite (s : State) : Outc :=
  .next (if s.trust.certDue then
    (s.modFw fun f => { f with certArea := s.trust.cert }).modTrust fun t => { t with certDue := false } else s)

/-- LENGTH of an Ittas image. -/
def imageLen (img : Bytes) : Nat := rd img 16 4

/-- The measurement of an image (R433). -/
def measure (img : Bytes) : Bytes := sha256 (img.take (imageLen img - 7856))

/-- The measurement, zero where there is no image. -/
def measureOr (img : Bytes) : Bytes := if img.isEmpty then zeros 32 else measure img

/-- Image hash of a bank in the report (Table 15.4): zero in FREE and LOADING and for version 0. -/
def bankHash (b : Bank) : Bytes :=
  if 2 ≤ b.st && !b.builtin then part b.hash 0 32 else zeros 32

/-- The automaton hash of a slot in the report. -/
def autoHash (a : AutoSlot) : Bytes := if a.st = 1 then part a.hash 0 32 else zeros 32

/-- Bytes 0 to 767 of the attestation report (Table 15.4). -/
def reportHead (s : State) (nonce : Bytes) : Bytes :=
  le 4 0x41545354 ++ le 2 1 ++ le 1 s.trust.lc ++ le 1 (b2n s.trust.opened + 2 * b2n (s.ledger.st == 1)) ++
    le 8 s.beat ++ le 6 s.time.sec ++ zeros 2 ++ part nonce 0 32 ++ ownRecord s ++ part Config.romHash 0 32 ++
    measureOr s.fw.run ++ (if s.fw.st = 0 then zeros 32 else measureOr s.fw.other) ++
    le 1 s.fw.slot ++ le 1 s.trust.floor ++ le 2 s.fw.count ++ zeros 4 ++
    le 2 s.rules.b0.ver ++ le 1 s.rules.b0.st ++ zeros 1 ++ le 2 s.rules.b1.ver ++ le 1 s.rules.b1.st ++ zeros 1 ++
    bankHash s.rules.b0 ++ bankHash s.rules.b1 ++
    ([0, 1, 2, 3].flatMap fun q => autoHash (s.quad q).auto0 ++ autoHash (s.quad q).auto1) ++
    (if s.ledger.key.isEmpty then zeros 8 else keyIdOf s.ledger.key) ++ zeros 16

/-- TRUST.ATTEST (R431). -/
def trustAttestSpec : CmdSpec where
  need _ := 40
  run c p _ s := require (s.trust.lc != 0) stTrustState (hostReady s (postCmd c p [] s))

/-- TRUST_ATTEST. -/
def execTrustAttest (m : Nat) (h : HostAnswer) (s : State) : Outc := acceptAs 0x0303 trustAttestSpec m h s

/-- The report, taken after every phase of the boundary (R431). -/
def applyTrustAttest (order : Nat) (p : Bytes) (s : State) : State :=
  let (rand, s) := takeFreeBytes 16 s
  let head := reportHead s (part p 0 32)
  answerOk order (le 8 s.beat ++ le 4 17856)
    (hostWrite 0 (rd p 32 8) (head ++ slhSign (publicOf s.trust.seeds) head rand) s)

/-- Beats a pending return lasts (R445). -/
def returnBeats : Nat := 60000000

/-- The pending return, while its 60 s last. -/
def returnNow (s : State) : Option (Bytes × Nat) :=
  match s.trust.ret with
  | some (t, b) => if s.beat < b + returnBeats then some (t, b) else none
  | none => none

/-- Milliseconds the pending return still lasts, 0 with none pending (R445). -/
def returnLeft (s : State) : Nat :=
  match returnNow s with
  | some (_, b) => (b + returnBeats - s.beat) / 1000
  | none => 0

/-- TRUST.LC_STATUS (Table 15.14). -/
def trustLcStatusSpec : CmdSpec where
  need _ := 0
  run _ _ _ s :=
    replyNow s (le 1 s.trust.lc ++ le 1 (b2n s.trust.session) ++ le 1 (b2n (returnNow s).isSome) ++ zeros 1 ++ le 4 (returnLeft s))

/-- TRUST_LC_STATUS. -/
def execTrustLcStatus (m : Nat) (h : HostAnswer) (s : State) : Outc := acceptAs 0x0304 trustLcStatusSpec m h s

/-- TRUST.LC_ADVANCE (R446; log entry 155). -/
def trustLcAdvanceSpec : CmdSpec where
  need _ := 16
  run _ p _ s :=
    require (s.trust.lc == 1 && rd p 0 1 == 2) stTrustState
      (require (part p 8 8 == deviceKeyId s) stTrustConfirm
        (replyNow (lcStep 2 (s.modTrust fun t => { t with tokenOpen := false, session := false })) []))

/-- TRUST_LC_ADVANCE. -/
def execTrustLcAdvance (m : Nat) (h : HostAnswer) (s : State) : Outc := acceptAs 0x0305 trustLcAdvanceSpec m h s

/-- A token of a kind for this device (R429). -/
def tokenOk (s : State) (kind : Nat) (t : Bytes) : Bool :=
  rd t 0 4 == 0x544F4B4E && rd t 4 2 == 1 && rd t 6 1 == kind && rd t 7 1 == 1 && part t 8 8 == deviceKeyId s &&
    part t 16 32 == zeros 32 && part t 48 16 == serialBytes && authorityKnown (rd t 64 8) &&
    Config.verify (rd t 64 8) (part t 0 128) (part t 128 7856)

/-- TRUST.RETURN (R445; log entry 154). -/
def trustReturnSpec : CmdSpec where
  need _ := 12
  run _ p h s :=
    checks [(rd p 8 4 == 7984, 8)]
      (require (s.trust.lc == 2) stTrustState
        (withHost h s fun bs =>
          let t := part bs 0 7984
          require (tokenOk s 3 t) 0x0303 (replyNow (s.modTrust fun x => { x with ret := some (sha256 t, s.beat) }) [])))

/-- TRUST_RETURN. -/
def execTrustReturn (m : Nat) (h : HostAnswer) (s : State) : Outc := acceptAs 0x0306 trustReturnSpec m h s

/-- TRUST.CONSENT (R445; log entry 153): the customer secrets are zeroised, the fuse is blown, deep debug may open. -/
def trustConsentSpec : CmdSpec where
  need _ := 40
  run _ p _ s :=
    match returnNow s with
    | none => .refuse 0x0304 0
    | some (t, _) =>
      require (part p 0 32 == t && part p 32 8 == deviceKeyId s) stTrustConfirm
        (require (s.ledger.st == 0 && s.trust.lc == 2) stTrustState
          (let s := s.modLedger fun l => { l with key := [], lastSeal := [] }
           replyNow (lcStep 3 (s.modTrust fun x => { x with ret := none })) []))

/-- TRUST_CONSENT. -/
def execTrustConsent (m : Nat) (h : HostAnswer) (s : State) : Outc := acceptAs 0x0307 trustConsentSpec m h s

/-- A pending return lapses 60 s after it was accepted (R445). -/
def returnExpire (s : State) : State :=
  match s.trust.ret with
  | some (_, b) => if b + returnBeats ≤ s.beat then s.modTrust fun x => { x with ret := none } else s
  | none => s

/-- RETURN_PENDING_EXPIRE. -/
def execReturnPendingExpire (s : State) : Outc := .next (returnExpire s)

/-- A deep-debug session opens: DEBUG_OPENED and EV_TRUST_DEBUG (R444). -/
def openSessionOf (kind : Nat) (s : State) : State :=
  raiseEvent 0x0302 (le 1 kind) (s.modTrust fun t => { t with session := true, opened := true })

/-- Whether a kind of deep debug may open: 1 Ittas core, 2 internal scan and memory (Table 15.9). -/
def debugAllowed (s : State) (kind : Nat) : Bool :=
  match s.trust.lc with
  | 0 => true
  | 1 => kind == 1 && s.trust.tokenOpen
  | 3 => true
  | _ => false

/-- DEEP_DEBUG_OPEN (R444). -/
def execDeepDebugOpen (kind : Nat) (s : State) : Outc :=
  need (kind == 1 || kind == 2) "deep-debug kind" (.next (
    if s.boot.pwrgood && debugAllowed s kind then openSessionOf kind s else s))

/-- DEBUG_TOKEN_SHIFT (R444): a DEBUG token for this device opens Ittas core debug in PROVISIONED. -/
def execDebugTokenShift (token : Bytes) (s : State) : Outc :=
  .next (if s.boot.pwrgood && s.trust.lc == 1 && tokenOk s 4 token then
    openSessionOf 1 (s.modTrust fun t => { t with tokenOpen := true }) else s)

/-- Body of the certificate of the seal key (Table 15.3). -/
def sealCertBody (s : State) (pk : Bytes) : Bytes :=
  le 4 0x43455254 ++ le 2 1 ++ le 1 2 ++ le 1 2 ++ keyIdOf pk ++ pk ++ serialBytes ++ deviceKeyId s ++ le 6 s.time.sec ++ zeros 50

/-- LEDGER.KEY_CREATE (R293, R296; log entry 156): a new seal key, certified by the identity key. -/
def ledgerKeyCreateSpec : CmdSpec where
  need _ := 8
  run _ p _ s :=
    require (s.ledger.st == 0 && (s.trust.lc == 1 || s.trust.lc == 2)) stLedgerState
      (hostReady s (
        let (seeds, s) := takeFreeBytes 48 s
        let (rand, s) := takeFreeBytes 16 s
        let pk := publicOf seeds
        let body := sealCertBody s pk
        let s := hostWrite 0 (rd p 0 8) (body ++ slhSign (publicOf s.trust.seeds) body rand) s
        replyNow (s.modLedger fun l => { l with key := pk, lastSeal := [], seq := 0 }) (pk ++ keyIdOf pk)))

/-- LEDGER_KEY_CREATE. -/
def execLedgerKeyCreate (m : Nat) (h : HostAnswer) (s : State) : Outc := acceptAs 0x0A04 ledgerKeyCreateSpec m h s

end Sys2Proof.Machine
end

