-- ==== Sys2Proof/Machine/Firmware.lean ====
section
/-! DEFINITION. Ittas images: checks, boot descriptors, staging, flash writes, activation and the live handover. -/

namespace Sys2Proof.Machine

/-- The first check of Table 15.6 that an image fails, 1 to 7; 0 when it passes all (R432, R435, R436). -/
def imageFault (s : State) (img : Bytes) : Nat :=
  let n := imageLen img
  if rd img 0 4 != 0x49545441 then 1
  else if rd img 4 2 != 1 then 2
  else if rd img 10 2 != 0x0768 || decide (Config.partRev % 65536 < rd img 8 2) then 3
  else if decide (n < 8192) || decide (3145728 < n) || decide (img.length < n) then 4
  else if !(Config.signers.take 4).contains (rd img 32 8) then 5
  else if decide (32 < rd img 6 1) || decide (rd img 6 1 < s.trust.floor) then 6
  else if !Config.verify (rd img 32 8) (img.take (n - 7856)) (part img (n - 7856) 7856) then 7
  else 0

/-- Check 8: the incoming image can import what the running image exports (R435). -/
def stateFormatOk (s : State) (img : Bytes) : Bool :=
  decide (rd img 24 4 ≤ rd s.fw.run 20 4) && decide (rd s.fw.run 20 4 ≤ rd img 20 4)

/-- A slot's image as an image header in it measures it. -/
def slotImage (s : State) (slot : Nat) : Bytes :=
  let b := s.fw.slots.getD slot []
  b.take (imageLen b)

/-- The slot that does not run. -/
def otherSlot (s : State) : Nat := 1 - s.fw.slot

/-- Whether a boot descriptor copy is valid: its hash matches (R437; log entry 161). -/
def descValid (d : Bytes) : Bool := decide (64 ≤ d.length) && part d 32 32 == sha256 (part d 0 32)

/-- The copy of the boot descriptor in force: valid, with the higher SEQ (R437). -/
def descInForce (s : State) : Option Nat :=
  let d0 := s.fw.desc.getD 0 []
  let d1 := s.fw.desc.getD 1 []
  match descValid d0, descValid d1 with
  | true, true => some (if rd d0 4 4 < rd d1 4 4 then 1 else 0)
  | true, false => some 0
  | false, true => some 1
  | false, false => none

/-- The preferred slot: A when no copy is valid (R437). -/
def preferredSlot (s : State) : Nat :=
  match descInForce s with
  | some i => rd (s.fw.desc.getD i []) 8 1 % 2
  | none => 0

/-- A boot descriptor that prefers a slot is written to the copy that does not hold the higher SEQ (R437; log entry
160). -/
def writeDesc (slot : Nat) (s : State) : State :=
  let (at_, seq) := match descInForce s with
    | some i => (1 - i, rd (s.fw.desc.getD i []) 4 4 + 1)
    | none => (0, 1)
  let body := le 4 0x42544453 ++ le 4 seq ++ le 1 slot ++ zeros 23
  s.modFw fun f => { f with desc := f.desc.set at_ (body ++ sha256 body) }

/-- ST_FW_STATE. -/
def stFwState : Nat := 0x0201

/-- The other slot's image is whole in SRAM (Table 15.8). -/
def otherHeld (s : State) : Bool := decide (2 ≤ s.fw.st)

/-- Response of FW.STATUS (Table 15.13). -/
def fwStatusBytes (s : State) : Bytes :=
  let f := s.fw
  let o := if otherHeld s then f.other else []
  le 1 f.slot ++ le 1 f.st ++ le 1 s.trust.floor ++ le 1 (preferredSlot s) ++ le 4 (rd f.run 12 4) ++ le 1 (rd f.run 6 1) ++
    le 1 (rd o 6 1) ++ le 1 f.last ++ zeros 1 ++ le 4 (rd o 12 4) ++ le 4 f.flashed ++ le 4 f.count ++ measureOr f.run ++
    measureOr o

/-- FW.STATUS. -/
def fwStatusSpec : CmdSpec where
  need _ := 0
  run _ _ _ s := replyNow s (fwStatusBytes s)

/-- FW_STATUS. -/
def execFwStatus (m : Nat) (h : HostAnswer) (s : State) : Outc := acceptAs 0x0201 fwStatusSpec m h s

/-- Offset at which the next chunk must lie: that of the bytes loaded, 0 to begin anew (R439). -/
def nextChunk (s : State) : Nat := if s.fw.st = 1 then s.fw.staged.length else 0

/-- FW.STAGE (R438, R439). -/
def fwStageSpec : CmdSpec where
  need _ := 17
  run _ p h s :=
    let off := rd p 0 4
    let n := rd p 4 4
    require (s.fw.st == 0 || s.fw.st == 1 || s.fw.st == 4) stFwState
      (checks [(off == nextChunk s, 0), (decide (1 ≤ n) && decide (n ≤ 1048576) && decide (off + n ≤ 3145728), 4)]
        (withHost h s fun bs =>
          let got := (if s.fw.st = 1 then s.fw.staged else []) ++ part bs 0 n
          let done := bit (rd p 16 1) 0
          replyNow (s.modFw fun f => { f with
            st := if done then 2 else 1, staged := if done then [] else got, other := if done then got else []
            flashed := 0, checkDue := false }) []))

/-- FW_STAGE. -/
def execFwStage (m : Nat) (h : HostAnswer) (s : State) : Outc := acceptAs 0x0202 fwStageSpec m h s

/-- FW.VERIFY (R435, R448; log entry 152): checks 1 to 7, and check 8 for its flag. -/
def fwVerifySpec : CmdSpec where
  need _ := 0
  run _ _ _ s :=
    require (s.fw.st == 2) stFwState (
      let img := s.fw.other
      let first := imageFault s img
      let fault := if imageLen img != img.length && (first == 0 || decide (4 < first)) then 4 else first
      if fault != 0 then
        .accept (s.modFw fun f => { f with st := 0, other := [] }) (some (0x0202, le 1 fault ++ le 1 0))
      else replyNow (s.modFw fun f => { f with st := 3 })
        (le 1 0 ++ le 1 (b2n (stateFormatOk s img))))

/-- FW_VERIFY. -/
def execFwVerify (m : Nat) (h : HostAnswer) (s : State) : Outc := acceptAs 0x0203 fwVerifySpec m h s

/-- FW_FLASH_WRITE_DONE (R438): the write and the read-back of a VERIFIED image end. -/
def flashWriteDone (ok : Bool) (offset : Nat) (s : State) : State :=
  if s.fw.st != 3 then s
  else
    let o := otherSlot s
    if ok then
      raiseEvent 0x0201 (le 1 o ++ zeros 3 ++ le 4 (rd s.fw.other 12 4)) (s.modFw fun f => { f with
        st := 4, slots := f.slots.set o f.other, flashed := f.other.length })
    else
      detect 447 offset 0 [] (raiseEvent 0x0202 (le 1 o ++ zeros 3 ++ le 4 offset) (s.modFw fun f => { f with
        st := 0, other := [], slots := f.slots.set o [] }))

/-- FW_FLASH_WRITE_DONE. -/
def execFwFlashWriteDone (ok : Bool) (offset : Nat) (s : State) : Outc := .next (flashWriteDone ok offset s)

/-- The floor rises to the SVN of the image that runs (R436). -/
def raiseFloor (s : State) : State :=
  let n := rd s.fw.run 6 1
  if s.trust.floor < n then
    raiseEvent 0x0203 (le 1 s.trust.floor ++ le 1 n) (s.modTrust fun t => { t with floor := min 32 n })
  else s

/-- Steps of a roll during which a handover falls within it (R297). -/
def rolling (s : State) : Bool := decide (2 ≤ s.ledger.roll.step)

/-- H1: the window opens (R440, R441). A SIGN step in progress is abandoned. -/
def startHandover (order : Nat) (raise_ : Bool) (s : State) : State :=
  let s := s.modFw fun f => { f with
    hand := true, step := 1, us := 0, begun := s.beat, order := order, raise_ := raise_ }
  if rolling s then s.modLedger fun l => { l with roll := { l.roll with handed := true } } else s

/-- Window, beat and floor in the response of FW.ACTIVATE (Table 15.13). -/
def activateBytes (s : State) (us : Nat) : Bytes := le 4 us ++ le 8 s.beat ++ le 1 s.trust.floor

/-- FW.ACTIVATE in RECOVERY (R493): the other slot and a descriptor are written, and a core reset follows. -/
def activateRecovery (s : State) : Verdict :=
  let o := otherSlot s
  let s := writeDesc o (s.modFw fun f => { f with slots := f.slots.set o f.other, flashed := f.other.length })
  replyNow (s.modBoot fun b => { b with coreDue := true, dueAt := s.beat, coreCause := 5 }) (activateBytes s 0)

/-- FW.ACTIVATE (R297, R440). -/
def fwActivateSpec : CmdSpec where
  need _ := 1
  run c p _ s :=
    let fl := rd p 0 1
    let ready := s.fw.st == 4 || (inRecovery s && s.fw.st == 3)
    require ready stFwState
      (require (decide (s.trust.floor ≤ rd s.fw.other 6 1)) 0x0203
        (if inRecovery s then activateRecovery s
         else if bit fl 1 then replyNow (writeDesc (otherSlot s) s) (activateBytes s 0)
         else require (stateFormatOk s s.fw.other) 0x0204
          (if rolling s && s.ledger.roll.handed then
            replyLater (s.modLedger fun l => { l with
              roll := { l.roll with waiting := l.roll.waiting ++ [2 * c.order + b2n (bit fl 0)] } })
           else replyLater (startHandover c.order (bit fl 0) s))))

/-- FW_ACTIVATE. -/
def execFwActivate (m : Nat) (h : HostAnswer) (s : State) : Outc := acceptAs 0x0204 fwActivateSpec m h s

/-- An activation that waited for PUBLISH goes on: its conditions are tested anew (R297, R440). -/
def activateWaiting (s : State) : State :=
  match s.ledger.roll.waiting with
  | [] => s
  | w :: rest =>
    if s.fw.hand || (rolling s && s.ledger.roll.handed) then s
    else
      let s := s.modLedger fun l => { l with roll := { l.roll with waiting := rest } }
      if s.fw.st != 4 then answer (w / 2) stFwState 0 [] s
      else if decide (rd s.fw.other 6 1 < s.trust.floor) then answer (w / 2) 0x0203 0 [] s
      else if !stateFormatOk s s.fw.other then answer (w / 2) 0x0204 0 [] s
      else startHandover (w / 2) (w % 2 == 1) s

/-- ROLL_SIGN_DONE: SIGN ends and PUBLISH with it (R283, R297). -/
def execRollSignDone (s : State) : Outc := .next (activateWaiting (rollSignDone s))

/-- H5 is done: the incoming image runs, the outgoing one takes its place as WRITTEN (R438, R440, R441). -/
def handoverDone (us : Nat) (s : State) : State :=
  let old := rd s.fw.run 12 4
  let raise_ := s.fw.raise_
  let order := s.fw.order
  let s := s.modFw fun f => { f with
    slot := 1 - f.slot, run := f.other, other := f.run, hand := false, step := 0, us := us, last := 1, count := f.count + 1 }
  let s := s.modWick fun w => { w with kicked := s.beat }
  let s := raiseEvent 0x0105 (le 4 old ++ le 4 (rd s.fw.run 12 4) ++ le 4 us) s
  let s := s.modLedger fun l => { l with roll := { l.roll with
    handed := l.roll.handed || decide (2 ≤ l.roll.step), handover := l.roll.handover || l.roll.step == 5 } }
  let s := writeDesc s.fw.slot s
  let s := if raise_ then raiseFloor s else s
  answerOk order (activateBytes s us) s

/-- The handover is rolled back (R441): the outgoing Ittas runs on and answers. `kind` is 1 timer, 2 failed import,
3 measurement mismatch. -/
def handoverBack (kind : Nat) (s : State) : State :=
  let step := s.fw.step
  let order := s.fw.order
  let s := s.modFw fun f => { f with hand := false, step := 0, last := 2 }
  let s := s.modWick fun w => { w with kicked := s.beat }
  let s := raiseEvent 0x0204 (le 1 step ++ le 1 kind) (detect 432 step 0 [] s)
  answer order 0x0205 0 [] s

/-- HANDOVER_STEP_DONE (R441; log entry 159). `us` is what the step took. -/
def handoverStep (ok : Bool) (us : Nat) (s : State) : State :=
  if !s.fw.hand then s
  else
    let total := s.fw.us + us
    if 180000 < total then handoverBack 1 s
    else if !ok then handoverBack (if s.fw.step = 3 then 3 else 2) s
    else if s.fw.step < 5 then s.modFw fun f => { f with step := f.step + 1, us := total }
    else handoverDone total s

/-- HANDOVER_STEP_DONE. -/
def execHandoverStepDone (ok : Bool) (us : Nat) (s : State) : Outc := .next (handoverStep ok us s)

/-- HANDOVER_TIMER_EXPIRE (R441): H5 is not done within 180 ms. -/
def execHandoverTimerExpire (s : State) : Outc :=
  .next (if s.fw.hand && timeCome s (s.fw.begun + 180000) then handoverBack 1 s else s)

/-- FW.ABORT (R438, R439; log entries 158 and 160): in VERIFIED and WRITTEN the first 4 KiB of the slot are erased. -/
def fwAbortSpec : CmdSpec where
  need _ := 0
  run _ _ _ s :=
    require (s.fw.st != 0) stFwState (
      let o := otherSlot s
      let b := s.fw.slots.getD o []
      let erased : Bytes := List.replicate 4096 0xFF ++ b.drop 4096
      replyNow (s.modFw fun f => { f with
        st := 0, other := [], staged := [], flashed := 0
        slots := if 3 ≤ f.st then f.slots.set o erased else f.slots }) [])

/-- FW_ABORT. -/
def execFwAbort (m : Nat) (h : HostAnswer) (s : State) : Outc := acceptAs 0x0205 fwAbortSpec m h s

/-- OTHER_SLOT_CHECK: after core reset the other slot is read and checked (R438). -/
def otherSlotCheck (s : State) : State :=
  if !s.fw.checkDue || s.fw.st != 0 || !s.boot.ittasRun then s
  else
    let img := slotImage s (otherSlot s)
    let ok := imageFault s img == 0
    s.modFw fun f => { f with checkDue := false, st := if ok then 4 else 0, other := if ok then img else [] }

/-- OTHER_SLOT_CHECK. -/
def execOtherSlotCheck (s : State) : Outc := .next (otherSlotCheck s)

end Sys2Proof.Machine
end

