-- ==== Sys2Proof/Machine/Classify.lean ====
section
/-! DEFINITION. Classification: the action sets of stages C1 to C6, their merging, the lookups of domains, forwarding,
access and patterns, policing, hashes and learning. -/

namespace Sys2Proof.Machine

/-- The metadata as its 64 bytes (Table 4.4). -/
def Md.bytes (m : Md) : Bytes :=
  le 2 (m.port + 1024 * m.slice) ++ le 2 m.ver ++
  le 1 (m.bank + 2 * b2n m.tracer + 4 * b2n m.lantern + 8 * b2n m.mirrorCopy + 16 * b2n m.recirc +
    32 * b2n m.fragment + 64 * m.colour) ++
  le 1 m.queue ++ le 1 (m.tc + 8 * b2n m.drop + 16 * b2n m.csumBad + 32 * b2n m.geneveVer + 64 * b2n m.geneveCrit) ++
  le 1 m.exc ++ le 4 m.ts ++ le 4 m.minute ++ le 3 m.tenant ++ le 1 m.policy ++ le 2 m.vrf ++ le 2 m.bd ++
  le 4 m.flowHash ++ le 4 m.ecmpHash ++ le 4 m.lagHash ++ le 4 (m.dtype * 2 ^ 30 + m.dindex) ++ le 2 m.policer ++
  le 1 (m.mirrorA + 16 * m.mirrorB) ++ le 1 m.trap ++ le 1 m.reason ++ le 1 m.capture ++ le 2 m.l3 ++ le 2 m.l4 ++
  le 2 m.innerL3 ++ le 2 m.len ++ le 2 m.egress ++ zeros 8

/-- A later value where one is set, else the earlier. -/
def later {α : Type} (a m : Option α) : Option α := match a with | some v => some v | none => m

/-- The action set of a later stage joins the merged set (Table 4.6). -/
def ActionSet.merge (m a : ActionSet) : ActionSet :=
  { tenant := later a.tenant m.tenant, vrf := later a.vrf m.vrf, bd := later a.bd m.bd, tc := later a.tc m.tc
    queue := later a.queue m.queue, colour := later a.colour m.colour, redirect := later a.redirect m.redirect
    drop := later m.drop a.drop, trap := later a.trap m.trap, mirror := (m.mirror ++ a.mirror).eraseDups
    capture := later a.capture m.capture, policer := later a.policer m.policer, policy := later a.policy m.policy
    lantern := m.lantern || a.lantern, egress := later a.egress m.egress }

/-- Only C1 and C2 may set VRF and BD (Table 4.6). -/
def ActionSet.noDomain (a : ActionSet) : ActionSet := { a with vrf := none, bd := none }

/-- The ingress action entry of a bank; 0xFFFF names none (R149). -/
def actionOf (b : RuleBody) (i : Nat) : ActionSet := if i = 0xFFFF then {} else b.actions.get {} i

/-- What the stages of one packet read. -/
structure Ctx where
  /-- Tables of the beat of its slot (R39). -/
  t : Tables
  /-- Quadrant (R25). -/
  q : Nat
  /-- Contents of the stamped bank. -/
  body : RuleBody
  /-- Image hash of the bank. -/
  hash : Bytes
  /-- The packet. -/
  k : Packet
  /-- Its header instances. -/
  hdrs : List Hdr

/-- An Ethernet header of a layer, or the outer one. -/
def etherOff (layer : List Hdr) : Nat :=
  match layer.find? fun h => h.typ = .ethernet with | some h => h.off | none => 0

/-- The tags of the outer layer: outer and inner VID, 0 for none. -/
def Ctx.vids (x : Ctx) : Nat × Nat :=
  let tags := (outerLayer x.hdrs).filter fun h => h.typ = .ctag || h.typ = .stag
  let vid (i : Nat) : Nat := match tags[i]? with | some h => rdBe x.k.bytes h.off 2 % 4096 | none => 0
  (vid 0, vid 1)

/-- C1: the port default entry (Table 4.5). The version 0 drops what a front-panel port brings (R125). -/
def stage1 (x : Ctx) (builtin : Bool) : ActionSet :=
  if builtin then (if x.k.md.port < 768 then { drop := some 1 } else {}) else x.body.portDef.get {} x.k.md.port

/-- The traps of version 0: LLDP, ARP, PTP (R125). -/
def builtinTraps (x : Ctx) : ActionSet :=
  if etherType x.k.bytes (outerLayer x.hdrs) = 0x88CC then { trap := some 1 }
  else if x.hdrs.any fun h => h.typ = .arp then { trap := some 2 }
  else if x.hdrs.any fun h => h.typ = .ptp then { trap := some 3 } else {}

/-- Domain fields of a PORT_VLAN or VNI result with its action entry (Table 5.4). -/
def domainSet (b : RuleBody) (r : Nat) : ActionSet :=
  ({ tenant := some (fld r 63 44), vrf := some (fld r 43 32), bd := some (fld r 31 16) } : ActionSet).merge
    (actionOf b (fld r 15 0))

/-- C2: domain mapping by VNI, then by port and VLAN (Table 4.5; log entry 86): the set, and whether the VNI gave it. -/
def stage2 (x : Ctx) (m : ActionSet) (s : State) : ActionSet × Bool × State :=
  let byPort (s : State) : ActionSet × Bool × State :=
    let v := x.vids
    match emtLookup x.t x.q 2 (x.k.md.port * 2 ^ 24 + v.1 * 2 ^ 12 + v.2) s with
    | (some e, s) => (domainSet x.body e.result, false, s)
    | (none, s) => ({}, false, s)
  match vniOf x.k.bytes x.hdrs with
  | some vni =>
    match emtLookup x.t x.q 3 (m.vrf.getD 0 * 2 ^ 24 + vni) s with
    | (some e, s) => (domainSet x.body e.result, true, s)
    | (none, s) => byPort s
  | none => byPort s

/-- What C3 found. -/
structure Fwd where
  /-- Its action set. -/
  set : ActionSet := {}
  /-- C3 destination, if any. -/
  dest : Option (Nat × Nat) := none
  /-- The destination is a flood group (R150). -/
  flood : Bool := false
  /-- Source entry found. -/
  src : Option EmtEntry := none
  /-- Source key: BD and MAC. -/
  key : Nat := 0
  /-- Source learning runs (R167). -/
  learns : Bool := false
  /-- The source is over its port's learning limit (R171). -/
  exceeds : Bool := false

/-- Headers of the layer that C3 forwards by: the one inside the tunnel where the VNI gave the domain (log entry 86). -/
def Ctx.fwdLayer (x : Ctx) (inner : Bool) : List Hdr :=
  if inner then
    outerLayer ((x.hdrs.dropWhile fun h => !(h.typ = .vxlan || h.typ = .geneve)).drop 1)
  else outerLayer x.hdrs

/-- A MAC address that learning takes: neither zero nor a group address (Table 5.8). -/
def goodSource (mac : Nat) : Bool := mac != 0 && !bit mac 40

/-- Source learning runs on a frame: from a front-panel port, with learning on at the port, its LAG and the BD (R167;
log entry 81). -/
def learningOn (x : Ctx) (bd : Nat) : Bool :=
  let p := x.k.md.port
  x.k.origin = .front && (x.t.bd.get {} bd).learn && (x.t.learn.get {} p).on &&
    (match lagOf x.t p with | some g => (x.t.learn.get {} (1024 + g)).on | none => true)

/-- The events a slice has made in the beat (R168). -/
def sliceLearns (s : State) (q sl : Nat) : List Learn := (s.quad q).learns.filter fun e => e.slice == sl

/-- A source lookup that would add an address to the port or LAG (R171). -/
def addsAddress (dest : Nat) (e : Option EmtEntry) : Bool :=
  match e with
  | none => true
  | some e => !e.static && !e.frozen && !((destOf e.result).1 == 0 && (destOf e.result).2.1 == dest)

/-- The source lookup with its learning limit (R150, R167, R171). -/
def sourceLook (x : Ctx) (bd mac : Nat) (s : State) : Fwd × State :=
  let key := macKey bd mac
  let (e, s) := emtLookup x.t x.q 1 key s
  let dest := learnDest x.t x.k.md.port
  let learns := learningOn x bd
  let cfg := x.t.learn.get {} dest
  let made := ((sliceLearns s x.q x.k.md.slice).filter fun l => l.dest == dest).length
  let exceeds := learns && goodSource mac && addsAddress dest e &&
    decide (cfg.limit ≤ learnCount (x.t.quads.get {} x.q) dest + made)
  let s := if exceeds then modQuad x.q (fun y => { y with excess := y.excess.upd 0 dest (· + 1) }) (tabCount x.q 16 s) else s
  ({ src := e, key := key, learns := learns, exceeds := exceeds
     set := if exceeds && cfg.drop then { drop := some 10 } else {} }, s)

/-- The route of an L3 header in a VRF: a host entry, a prefix, or the VRF's MISS action (R150, R162). -/
def routeLook (x : Ctx) (h : Hdr) (vrf : Nat) (s : State) : Option Nat × ActionSet × Option (Nat × Nat) × State :=
  let addr := if h.typ = .ipv4 then rdBe x.k.bytes (h.off + 16) 4 else rdBe x.k.bytes (h.off + 24) 16
  let miss (s : State) : Option Nat × ActionSet × Option (Nat × Nat) × State :=
    match lpmLookup x.t (h.typ = .ipv6) vrf addr with
    | some e => (some e.result, {}, none, s)
    | none =>
      let v := x.t.vrf.get {} vrf
      if v.miss = 2 then (none, {}, some (3, v.nh), s)
      else if v.miss = 1 then (none, { drop := some 4, trap := some 5 }, none, s)
      else (none, { drop := some 4 }, none, s)
  if h.typ = .ipv4 then
    match emtLookup x.t x.q 4 (vrf * 2 ^ 32 + addr) s with
    | (some e, s) => (some e.result, {}, none, s)
    | (none, s) => miss s
  else miss s

/-- The flood group of a destination address in a BD (R150). -/
def floodGroup (b : Bd) (mac : Nat) : Nat :=
  if mac = 2 ^ 48 - 1 then b.bcGroup else if bit mac 40 then b.mcGroup else b.ucGroup

/-- A hit result's destination and action entry (R150). -/
def hitFwd (x : Ctx) (f : Fwd) (r : Nat) : Fwd :=
  let d := destOf r
  { f with dest := some (d.1, d.2.1), set := f.set.merge (actionOf x.body d.2.2).noDomain }

/-- C3: source lookup, then routing or bridging (R150). -/
def stage3 (x : Ctx) (m : ActionSet) (inner : Bool) (s : State) : Fwd × State :=
  let layer := x.fwdLayer inner
  let o := etherOff layer
  let bd := m.bd.getD 0
  let b := x.t.bd.get {} bd
  let dmac := rdBe x.k.bytes o 6
  let (f, s) := sourceLook x bd (rdBe x.k.bytes (o + 6) 6) s
  match if b.route && dmac == x.t.rmac.get 0 b.rmac then layer.find? isL3 else none with
  | some h =>
    let ttl := rd x.k.bytes (h.off + (if h.typ = .ipv4 then 8 else 7)) 1
    let (r, a, d, s) := routeLook x h b.vrf s
    let f := { f with set := f.set.merge a, dest := d }
    let f := match r with | some r => hitFwd x f r | none => f
    (if ttl ≤ 1 then { f with set := f.set.merge { drop := some 6, trap := some 4 } } else f, s)
  | none =>
    match emtLookup x.t x.q 1 (macKey bd dmac) s with
    | (some e, s) => (hitFwd x f e.result, s)
    | (none, s) =>
      let g := floodGroup b dmac
      if g = 0xFFFF then ({ f with set := f.set.merge { drop := some 5 } }, s)
      else ({ f with dest := some (2, g), flood := true }, s)

/-- The metadata after a merged set, for the key builders and for the end of classification. -/
def mdWith (m : ActionSet) (d : Md) : Md :=
  { d with
    tenant := m.tenant.getD d.tenant, vrf := m.vrf.getD 0, bd := m.bd.getD 0, tc := m.tc.getD 0
    queue := m.queue.getD 0, colour := m.colour.getD 0
    dtype := (m.redirect.getD (0, 0)).1, dindex := (m.redirect.getD (0, 0)).2
    drop := m.drop.isSome, reason := m.drop.getD 0, trap := m.trap.getD 0
    mirrorA := m.mirror.getD 0 0, mirrorB := m.mirror.getD 1 0, capture := m.capture.getD 0
    policer := m.policer.getD 0xFFFF, policy := m.policy.getD d.policy, lantern := d.lantern || m.lantern
    egress := m.egress.getD 0xFFFF }

/-- The tenant and ledger policy of a recirculated packet stay as they are (R267). -/
def keepStamps (recirc : Bool) (m : ActionSet) : ActionSet :=
  if recirc then { m with tenant := none, policy := none } else m

/-- One lookup of C4 (R185, R187, R199): the key is of its builder's length, with zeros above it. -/
def stage4 (x : Ctx) (i : Nat) (m : ActionSet) (s : State) : ActionSet × State :=
  match x.body.c4.getD i none with
  | none => (m, s)
  | some l =>
    let fields := (mdWith (keepStamps x.k.md.recirc m) x.k.md).bytes ++ x.k.bytes.take (afterHeaders x.hdrs)
    let key := Config.keyOf x.hash l.builder fields % 2 ^ nth x.body.builders l.builder
    let (a, lost, s) := ternLookup x.t x.q x.k.md.bank key l s
    let set : ActionSet := if lost then { drop := some 56 } else {}
    let set := match a with | some i => set.merge (actionOf x.body i).noDomain | none => set
    (m.merge set, s)

/-- C5: the automaton of the quadrant (R200 to R203, R206). -/
def stage5 (x : Ctx) (m : ActionSet) (s : State) : ActionSet × State :=
  let sel := x.body.autos.getD x.q {}
  let start := scanStart sel.start x.k.md.l3 x.k.md.l4 (afterHeaders x.hdrs)
  let (a, err, s) := autoScan x.t x.q sel (scanWindow x.k.bytes start) s
  let set : ActionSet := if err then { drop := some 57 } else {}
  let set := match a with | some i => set.merge (actionOf x.body i).noDomain | none => set
  (m.merge set, s)

/-- A parse exception's disposition as an action set (R116; log entry 121). -/
def excSet (b : RuleBody) (exc : Nat) : ActionSet :=
  if exc = 0 then {} else match nth b.disp exc with | 1 => { drop := some 48 } | 2 => { trap := some (0xF0 + exc) } | _ => {}

/-- Bytes of the frame that classification waits for beyond the header stack: the scan window's (R202). -/
def scanWait (b : RuleBody) (q : Nat) (k : Packet) (hdrs : List Hdr) : Nat :=
  let sel := b.autos.getD q {}
  if sel.slot = 0xFF then 0 else scanNeed k.bytes (scanStart sel.start k.md.l3 k.md.l4 (afterHeaders hdrs))

/-- C6 with the red action (R121, R251): colour after, which the policer only makes worse (Table 4.6), and the set with its
drop. -/
def stage6 (x : Ctx) (m : ActionSet) (s : State) : ActionSet × State :=
  let i := m.policer.getD 0xFFFF
  let (c, s) := police x.q i (m.colour.getD 0) x.k.bytes.length s
  let colour := max (m.colour.getD 0) c
  let red := colour == 2 && ((s.quad x.q).policers.get {} i).redDrop && i != 0xFFFF
  ({ m with colour := some colour, drop := if red && m.drop.isNone then some 2 else m.drop }, s)

/-- Headers that the packet's ledger policy hashes (R137, R265). -/
def policyLayer (s : State) (k : Packet) (hdrs : List Hdr) : List Hdr :=
  layerOf ((policyAt s k.slotBeat k.md.policy).2 == 1) hdrs

/-- Hashes and offsets of the final metadata (R118, R137, R138, R264). A recirculated packet keeps its flow (R267). -/
def hashPacket (x : Ctx) (k : Packet) (s : State) : Packet :=
  let d := k.md
  let layer := policyLayer s k x.hdrs
  let frag := d.fragment
  let block := if d.recirc then k.block else hashBlock k.bytes layer frag d.tenant
  { k with
    block := block, lh := if d.recirc then k.lh else sourceLower k.bytes layer frag
    md := { d with
      ecmpHash := spreadHash x.body.ecmp k.bytes x.hdrs frag d.tenant
      lagHash := spreadHash x.body.lag k.bytes x.hdrs frag d.tenant
      flowHash := if d.recirc then d.flowHash else seededHash s.ledger.seed block
      l4 := l4Offset layer } }

/-- The packet after parsing: the facts its headers give (R117, R118, R360, R379). -/
def parsedPacket (s : State) (b : RuleBody) (r : Parsed) (k : Packet) : Packet :=
  let outer := outerLayer r.hdrs
  let inner := innerLayer r.hdrs
  let ptpHdr := r.hdrs.find? fun h => h.typ = .ptp
  { k with
    payload := afterHeaders r.hdrs
    l3End := l3EndOf k.bytes outer
    etherVid := (etherType k.bytes outer, outerVid k.bytes r.hdrs)
    ptp := match ptpHdr with | some h => decide (rd k.bytes h.off 1 % 16 < 4) | none => false
    md := { k.md with
      exc := r.exc, fragment := r.hdrs.any (isFragment k.bytes), csumBad := r.hdrs.any (csumBad k.bytes)
      geneveVer := r.geneveVer, geneveCrit := r.hdrs.any (geneveCrit b.geneve k.bytes)
      l3 := l3Offset outer, l4 := l4Offset (policyLayer s k r.hdrs)
      innerL3 := if (layersRev r.hdrs).length ≤ 1 then 0x3FF else l3Offset inner
      len := k.bytes.length } }

/-- What classification decides: the packet, C3's findings, and the flood mark of the destination. -/
structure Decided where
  /-- The packet with its metadata. -/
  k : Packet
  /-- C3's findings. -/
  f : Fwd
  /-- The destination is C3's flood group. -/
  flood : Bool

/-- Classification: parse exceptions, C1 to C6 and the hashes (R116, R120). -/
def classify (x : Ctx) (builtin : Bool) (s : State) : Decided × State :=
  let m := (excSet x.body x.k.md.exc).merge (stage1 x builtin)
  let (a, inner, s) := stage2 x m s
  let m := m.merge a
  let (f, s) := stage3 x m inner s
  let m := if builtin then (m.merge f.set).merge (builtinTraps x) else m.merge f.set
  let (m, s) := stage4 x 0 m s
  let (m, s) := stage4 x 1 m s
  let (m, s) := stage4 x 2 m s
  let (m, s) := stage4 x 3 m s
  let (m, s) := stage5 x m s
  let (m, s) := stage6 x m s
  let excess := (m.mirror.filter (· != 0)).length - 2
  let s := if excess = 0 then s else
    s.modFlight fun y => { y with mirrorExcess := y.mirrorExcess.upd 0 x.k.md.port (· + excess) }
  let m := keepStamps x.k.md.recirc { m with mirror := m.mirror.filter (· != 0) }
  let flood := f.flood && m.redirect.isNone
  let m := { m with redirect := later m.redirect f.dest }
  let k := hashPacket x { x.k with md := mdWith m x.k.md } s
  ({ k := k, f := f, flood := flood }, s)

/-- The learn event of a packet at the end of the ingress half (R167, R168, Table 5.8). -/
def learnEnd (x : Ctx) (k : Packet) (f : Fwd) (s : State) : State :=
  let dest := learnDest x.t k.md.port
  if !f.learns then s
  else if !goodSource (f.key % 2 ^ 48) then tabCount x.q 17 s
  else if k.md.drop then s
  else
    let same := match f.src with | some e => (destOf e.result).1 == 0 && (destOf e.result).2.1 == dest | none => false
    let static := match f.src with | some e => e.static | none => false
    let frozen := match f.src with | some e => e.frozen | none => false
    let mine := sliceLearns s x.q k.md.slice
    if same then s
    else if frozen then tabCount x.q 18 s
    else if static then tabCount x.q 10 s
    else if f.exceeds then s
    else if mine.any fun l => l.key == f.key && l.dest == dest then s
    else if 256 ≤ mine.length then tabCount x.q 14 s
    else modQuad x.q (fun y => { y with
      learns := y.learns ++ [{ key := f.key, dest := dest, ns := 1000 * k.slotBeat + k.slotNs, slice := k.md.slice }] }) s

end Sys2Proof.Machine
end

