-- ==== Sys2Proof/Machine/Ingress.lean ====
section
/-! DEFINITION. The ingress half: arbitration of slots, stamping, classification, copies, resolution, admission and the
way into the crossing fabric or the local path. -/

namespace Sys2Proof.Machine

/-- Ingress slots of a slice in the beat in progress (R27, R34). -/
def slotsPerBeat (s : State) : Nat := 4 * (cyclesPerBeat s - s.glb.lostCycles)

/-- The ingress pipeline may start on a frame (R44). -/
def mayStart (k : Packet) : Bool := decide (128 ≤ k.arrived) || decide (k.bytes.length ≤ k.arrived)

/-- The octet of a slice whose front frame is next, round-robin (R29). -/
def nextOctet (s : State) (sl : Nat) : Option Nat :=
  let last := (s.arb sl).octet
  ((List.range 3).map fun i => (last + 1 + i) % 3).find? fun o =>
    match s.buf.fifo.get [] (3 * sl + o) with | i :: _ => mayStart (s.pkt i) | [] => false

/-- The other source of a slice that is next, round-robin (R29). -/
def nextOther (s : State) (sl : Nat) : Option Nat :=
  let last := (s.arb sl).other
  ((List.range 5).map fun i => (last + 1 + i) % 5).find? fun o => !(s.buf.inj.get [] (5 * sl + o)).isEmpty

/-- Bytes of the frames in an octet's ingress FIFO that have arrived by an instant in ns from the first beat (R30, R97). -/
def arriveUpTo (now octet : Nat) (s : State) : State :=
  eachDo (s.buf.fifo.get [] octet) (fun i => modPkt i fun k =>
    { k with arrived := max k.arrived (k.bytes.length - ceilDiv ((k.endAt - now) * portRate s k.md.port) 8000) }) s

/-- The packet that takes the slice's next slot, taken out of its queue (R29; log entry 119). -/
def takeSlot (sl ns : Nat) (s : State) : Option Nat × State :=
  let s := eachDo [3 * sl, 3 * sl + 1, 3 * sl + 2] (arriveUpTo (nowNs s ns)) s
  let a := s.arb sl
  let front := nextOctet s sl
  let other := nextOther s sl
  let reserved := decide (a.used % 512 = 511)
  if slotsPerBeat s ≤ a.used then (none, s)
  else match if reserved && other.isSome then none else front with
    | some o =>
      match s.buf.fifo.get [] (3 * sl + o) with
      | i :: rest =>
        let s := s.modBuf fun b => { b with fifo := b.fifo.put (3 * sl + o) rest }
        (some i, xoffRefresh (modArb sl (fun a => { a with octet := o, used := a.used + 1, front := a.front + 1 }) s))
      | [] => (none, s)
    | none =>
      match other with
      | some o =>
        match s.buf.inj.get [] (5 * sl + o) with
        | i :: rest =>
          let s := s.modBuf fun b => { b with inj := b.inj.put (5 * sl + o) rest }
          (some i, modArb sl (fun a => { a with other := o, used := a.used + 1, others := a.others + 1 }) s)
        | [] => (none, s)
      | none => (none, s)

/-- A packet that was stamped at an earlier slot: a recirculated one, or a mirror copy (R119). -/
def keepsStamp (k : Packet) : Bool := k.origin = .recirc || k.origin = .mirror

/-- The draw of R327 and R333 for a packet at its slot: sampled and tagged, with the arbiter after it. -/
def sampleDraw (s : State) (k : Packet) : Bool × Bool × Arb :=
  let a := s.arb k.md.slice
  let (n, trace, _) := s.lantern.ports.get (0, false, 0) k.md.port
  if k.md.mirrorCopy || k.origin = .exported || (n == 0 && !trace) then (false, false, a)
  else
    let x := lfsr32 a.lantern
    let tag := trace && s.lantern.m != 0 && decide (x % 2 ^ s.lantern.m = 0) && !a.tagged
    (n != 0 && decide (x % 2 ^ n = 0), tag, { a with lantern := x, tagged := a.tagged || tag })

/-- The stamp of a packet at its ingress slot (R45, R119, R129, R281, R295). -/
def stamp (i ns : Nat) (s : State) : State :=
  let k := s.pkt i
  let t := clockAt s ns
  let (sampled, tag, a) := sampleDraw s k
  let s := modArb k.md.slice (fun _ => a) s
  let k := { k with
    stamped := true, slotBeat := s.beat, born := if keepsStamp k then k.born else s.beat, slotNs := ns, sampled := sampled, stages := [clockNanos s ns]
    md := { k.md with tracer := (k.md.tracer && !k.md.mirrorCopy) || tag } }
  if keepsStamp k then modPkt i (fun _ => k) s
  else
    let b := s.rules.active
    let k := { k with
      inflight := true, counted := s.ledger.st == 1 && k.direct.isNone
      md := { k.md with ts := t.ns, minute := openMinute s t.sec, ver := (s.bank b).ver, bank := b } }
    modInflight b (· + 1) (modPkt i (fun _ => k) s)

/-- The port and rate-limited length of a mirror copy's destination (R234): the port it resolves to, none where it
resolves to no port, and the port's MAX. -/
def mirrorTarget (s : State) (m : Mirror) (lagHash : Nat) : Option Nat × Nat :=
  match (resolveUnicast s.tab s 0 m.dest 0 lagHash).2.2 with
  | .inl p => (some p, portMax s p)
  | .inr _ => (none, 16384)

/-- A mirror copy of a frame for a session, made at slice `sl` (R233, R234). -/
def makeMirror (k : Packet) (frame : Bytes) (session sl : Nat) (s : State) : State :=
  let m := s.buf.mirrors.get {} session
  let count (j : Nat) : State → State := fun s => s.modBuf fun b => { b with
    mirrors := b.mirrors.upd {} session fun m => { m with counts := addAt m.counts j 1 } }
  if session = 0 then s
  else if !m.on then count 2 s
  else
    let x := lfsr16 ((s.arb sl).mirror.get 0xFFFF session)
    let s := modArb sl (fun a => { a with mirror := a.mirror.put session x }) s
    if x % 2 ^ m.sample ≠ 0 then count 1 s
    else
      let (port, most) := mirrorTarget s m k.md.lagHash
      let h := m.template.length
      let n := min (frame.length - 4) (min (if m.trunc = 0 then frame.length else m.trunc) (most - h - 4))
      let body := frame.take n
      let bytes := withFcs (if h = 0 then body else encapsulate m.template body)
      let md := { k.md with
        mirrorCopy := true, tracer := false, lantern := false, drop := false, reason := 0, mirrorA := 0, mirrorB := 0
        trap := 0, capture := 0, policy := 0, colour := 1, tc := m.tc, dtype := 0, dindex := m.dest
        len := bytes.length }
      let copy : Packet := {
        md := md, bytes := bytes, arrived := bytes.length, origin := .mirror, rxTs := k.rxTs, inflight := true
        born := k.born
        session := session, direct := some (port.getD m.dest) }
      let (i, s) := newPkt copy (count 0 s)
      inject sl 3 i (modInflight k.md.bank (· + 1) s)

/-- The capture of a packet (R308, Table 10.7): SEQ and CAPTURED are filled in as it is written. -/
def makeCapture (q : Nat) (k : Packet) (s : State) : State :=
  if k.md.capture = 0 then s
  else
    let h := zeros 4 ++ le 2 k.md.len ++ zeros 2 ++ le 4 k.md.ts ++ le 4 k.md.minute ++ le 3 k.md.tenant ++
      le 1 k.md.capture ++ le 2 k.md.port ++ le 2 k.md.ver ++ le 8 k.born ++ le 1 (2 * b2n k.md.drop) ++
      le 1 (if k.md.drop then k.md.reason else 0) ++ zeros 30
    captureQueue q k.md.capture h k.bytes s

/-- Planes or local path: whether a copy for a port crosses the fabric from a slice (R223). -/
def crossesTo (sl p : Nat) : Bool := decide (p < 800) && quadOfSlice (egressSlice p) != quadOfSlice sl

/-- Cells of a slice's express frames that are still crossing to a quadrant (R225; log entry 122). -/
def expressFill (s : State) (sl q : Nat) : Nat :=
  let cs := s.buf.copies.filter fun e => e.2.stage = .crossing && e.2.express && e.2.crossed &&
    (s.pkt e.2.pkt).md.slice == sl && quadOfSlice (egressSlice e.2.port) == q
  total ((cs.map (·.2.pkt)).eraseDups.map fun i => cellsOf (s.pkt i).bytes.length)

/-- The reason for which a crossing frame cannot go: no plane in service, or no room in its express lane (R225, R228);
0 when it can. -/
def crossRefusal (s : State) (k : Packet) (p : Nat) : Nat :=
  if !crossesTo k.md.slice p then 0
  else if (planesUp s).isEmpty then 58
  else if isExpress s k && decide (128 < expressFill s k.md.slice (quadOfSlice (egressSlice p)) + cellsOf k.bytes.length) then 21
  else 0

/-- A refused crossing is counted at its slice (R225, R228). -/
def countRefusal (sl reason : Nat) (s : State) : State :=
  if reason = 58 then modArb sl (fun a => { a with noPlane := a.noPlane + 1 }) s
  else if reason = 21 then modArb sl (fun a => { a with expressOverrun := a.expressOverrun + 1 }) s else s

/-- The hold rules drop frames for a port and class at admission (R88, R102). -/
def holdRefuses (s : State) (p t : Nat) : Bool :=
  match s.ports.find p with
  | some q => !q.up && !(holding q && bit (holdMask q) t)
  | none => false

/-- A copy of an admitted packet. -/
def copyFor (s : State) (i p : Nat) (mc ecn : Bool) : Copy :=
  let k := s.pkt i
  { pkt := i, port := p, queue := joinQueue s p k.md.tc k.md.queue mc k.md.mirrorCopy, mc := mc, express := isExpress s k
    crossed := crossesTo k.md.slice p, plane := expressPlane s, ecn := ecn, dest := (k.md.dtype, k.md.dindex)
    ready := decide (k.endAt ≤ 1000 * s.beat) }

/-- A copy takes its stream's number and epoch; copies of one packet at one egress slice share it (R229). -/
def numberCopies (i : Nat) (s : State) : State :=
  let k := s.pkt i
  let mine := s.buf.copies.filter fun e => e.2.pkt == i && decide (e.2.port < 800) && !e.2.express
  let slices := (mine.map fun e => egressSlice e.2.port).eraseDups
  eachDo slices (fun e s =>
    let key := streamKey e k.md.slice k.md.tc
    let x := s.strm key
    let set (c : Copy) : Copy := if c.pkt == i && egressSlice c.port == e then { c with seq := x.next, epoch := x.epoch } else c
    let s := s.modBuf fun b => { b with copies := b.copies.mapAll fun _ c => set c }
    modStrm key (fun y => { y with
      next := (y.next + 1) % 65536
      expected := if crossesTo k.md.slice (24 * e) then y.expected else (y.expected + 1) % 65536 }) s) s

/-- Copies of an admitted packet set out: those on the local path, and those for the CPU and Ittas ports, reach their
queues at once; the others cross (R223, R224, R230; log entry 110). -/
def sendOff (i ns : Nat) (s : State) : State :=
  let k := s.pkt i
  let mine := s.buf.copies.filter fun e => e.2.pkt == i
  let s := numberCopies i s
  let quads := ((mine.filter fun e => e.2.crossed).map fun e => quadOfSlice (egressSlice e.2.port)).eraseDups
  let s := eachDo quads (fun q => sendCells (isExpress s k) i q (cellsOf k.bytes.length)) s
  let near := mine.filter fun e => !e.2.crossed
  let through := ((near.filter fun e => decide (e.2.port < 800) && !e.2.express).map fun e => egressSlice e.2.port).eraseDups
  let s := eachDo through
    (fun e => modReseq e fun r => { r with released := r.released + 1 }) s
  let t := clockNanos s (afterCycles s ns 272)
  eachDo (near.map (·.1)) (fun ci s =>
    enqueue ci ns (modCopy ci (fun c => { c with arrive := (s.beat, ns), stages := [t] }) s)) s

/-- Whether a unicast frame, of the copy that would be cut through, is forwarded so; TRAP's second copy forbids it (R46). -/
def cutThrough (s : State) (ci ns : Nat) : Bool :=
  let c := s.copy ci
  let k := s.pkt c.pkt
  let t := classOf c.port c.queue
  k.origin = .front && k.md.trap == 0 && bit (s.port k.md.port).flags 0 && decide (txRate s c.port ≤ txRate s k.md.port) &&
    (queueOf s c.port c.queue).isEmpty && !pausedClass s c.port t &&
    !(s.tmPort c.port).gates.latched.contains c.queue &&
    (match guardBand s c.port t ci ns with | .hold => false | _ => true)

/-- Unicast admission (R215): hold rules, crossing, then the pools. -/
def admitUnicast (i p ns : Nat) (s : State) : State :=
  let k := s.pkt i
  let refusal := crossRefusal s k p
  if holdRefuses s p k.md.tc then portCount p 59 1 (dropIngress i 32 ns s)
  else if refusal ≠ 0 then dropIngress i refusal ns (countRefusal k.md.slice refusal s)
  else
    let (ci, s) := newCopy { copyFor s i p false false with cut := true } s
    let cut := cutThrough s ci ns
    let s := dropCopy ci s
    let n := cellsOf (if cut then (s.port k.md.port).max else k.bytes.length)
    let (mark, s) := admitPkt i false n ns s
    match mark with
    | none => s
    | some ecn =>
      if k.bad && !cut then dropIngress i k.badReason ns s
      else
        let c := copyFor s i p false ecn
        let c := { c with cut := cut, ready := if cut then !c.crossed || c.express else c.ready }
        let s := modPkt i (fun k => { k with refs := 1, stages := k.stages ++ [clockNanos s (afterCycles s ns 248)] }) s
        let s := if k.endAt ≤ 1000 * s.beat + ns then trimCharge i s else s
        sendOff i ns (newCopy c s).2

/-- The members of a group that get a copy: pruned, each with the LAG rule applied; none where it resolves to no port
(R150, R151, R219, R220). -/
def copyPorts (s : State) (t : Tables) (k : Packet) (g : McGroup) (flood : Bool) : List (Option Nat) :=
  let home := lagOf t k.md.port
  let own (x : Nat) : Bool := x == k.md.port || (match home with | some h => x == 1024 + h | none => false)
  let kin (x : Nat) : Bool := match home with | some h => lagOf t x == some h | none => false
  let ms := g.members.filter fun x => !((g.prune || flood) && own x) && !(flood && decide (x < 768) && kin x)
  ms.map fun x =>
    match (resolveUnicast t s 0 x 0 k.md.lagHash).2.2 with
    | .inl p => some p
    | .inr _ => none

/-- Multicast admission, given the ports of the copies and the members without one (R220, R221, R222). A copy that cannot
cross is dropped at admission, and counted at the ingress slice (R228, R268). -/
def admitMulticast (i lost : Nat) (all : List Nat) (ns : Nat) (s : State) : State :=
  let k := s.pkt i
  let held := all.filter fun p => holdRefuses s p k.md.tc
  let ports := all.filter fun p => !holdRefuses s p k.md.tc
  let gone := lost + held.length
  let s := if gone = 0 then s else
    s.modBuf fun b => { b with groups := b.groups.upd {} k.md.dindex fun g => { g with drops := g.drops + gone } }
  let s := eachDo held (fun p => portCount p 59 1) s
  if ports.isEmpty then dropIngress i 9 ns s
  else
    let (mark, s) := admitPkt i true (cellsOf k.bytes.length) ns s
    match mark with
    | none => s
    | some ecn =>
      if k.bad then dropIngress i k.badReason ns s
      else
        let s := modPkt i (fun k => { k with
          refs := ports.length, stages := k.stages ++ [clockNanos s (afterCycles s ns 248)] }) s
        let s := eachDo ports (fun p s => (newCopy (copyFor s i p true ecn) s).2) s
        let refused := (s.buf.copies.filter fun e => e.2.pkt == i && crossRefusal s k e.2.port != 0).map fun e =>
          (e.1, crossRefusal s k e.2.port)
        let s := eachDo refused (fun x s => dropCopyAt k.md.slice x.1 x.2 ns (countRefusal k.md.slice x.2 s)) s
        sendOff i ns s

/-- An admission can be made: no copy of an ordinary frame is bound for a quadrant whose crossing queues are full (R228). -/
def admissible (s : State) (w : Waiting) : Bool :=
  let k := s.pkt w.pkt
  isExpress s k || !(w.ports.any fun p =>
    crossesTo k.md.slice p && crossingFull s k.md.slice (quadOfSlice (egressSlice p)))

/-- An admission is made. -/
def admitNow (ns : Nat) (w : Waiting) (s : State) : State :=
  if w.mc then admitMulticast w.pkt w.lost w.ports ns s
  else match w.ports with
    | p :: _ => admitUnicast w.pkt p ns s
    | [] => s

/-- A frame reaches admission: it is admitted or dropped, or back-pressure holds it, and what comes after it, at the end of
its slice's ingress half (R215, R228). -/
def reachAdmission (ns : Nat) (w : Waiting) (s : State) : State :=
  let sl := (s.pkt w.pkt).md.slice
  if (s.arb sl).waiting.isEmpty && admissible s w then admitNow ns w s
  else modArb sl (fun a => { a with waiting := a.waiting ++ [w] }) s

/-- The held admissions of a slice that can be made are made, in order (R228). -/
def admitWaiting (sl ns : Nat) : Nat → State → State
  | 0, s => s
  | fuel + 1, s =>
    match (s.arb sl).waiting with
    | [] => s
    | w :: r =>
      if admissible s w then admitWaiting sl ns fuel (admitNow ns w (modArb sl (fun a => { a with waiting := r }) s)) else s

/-- The held admissions of every slice, as far as the crossing queues have drained (R228). -/
def drainWaiting (ns : Nat) (s : State) : State :=
  eachDo (List.range 32) (fun sl s => admitWaiting sl ns (s.arb sl).waiting.length s) s

/-- CELL_ARRIVE_RESEQUENCER: the frame is placed, its cells leave the crossing queues, and frames that back-pressure held
go on (R228, R230). -/
def execCellArriveResequencer (pkt slice ns : Nat) (s : State) : Outc :=
  need (decide (slice < 32)) "slice" (.next (drainWaiting ns (cellArrive pkt slice ns s)))

/-- A multicast packet's copies are resolved against its group as committed for its slot's beat, and it reaches admission
(R220). -/
def reachMulticast (i : Nat) (t : Tables) (flood : Bool) (ns : Nat) (s : State) : State :=
  let k := s.pkt i
  let g := (if k.slotBeat = s.beat then s.buf.groups else s.buf.groupsPrev).get {} k.md.dindex
  let targets := copyPorts s t k g flood
  let ports := targets.filterMap id
  reachAdmission ns { pkt := i, mc := true, lost := targets.length - ports.length, ports := ports } s

/-- The CPU-port copy that TRAP makes (R120, R129). -/
def trapPacket (k : Packet) (ns : Nat) (s : State) : State :=
  if k.md.trap = 0 then s
  else
    let md := { k.md with dtype := 0, dindex := 800, drop := false, reason := 0, egress := 0xFFFF }
    let copy := { k with
      md := md, trapCopy := true, counted := false, inflight := true, charge := none, refs := 0 }
    let (i, s) := newPkt copy (modInflight k.md.bank (· + 1) s)
    reachAdmission ns { pkt := i, mc := false, lost := 0, ports := [800] } s

/-- The end of the ingress half: resolution, learning, mirror copies, CPU-port copy, capture, the ledger's ingress count,
and admission or drop (R121, R151, R168, R234, R268). -/
def ingressEnd (x : Ctx) (d : Decided) (i ns : Nat) (s : State) : State :=
  let md := d.k.md
  let (dt, di, r) :=
    if md.dtype = 2 then (2, md.dindex, Sum.inl 0) else resolveUnicast x.t s md.dtype md.dindex md.ecmpHash md.lagHash
  let fail := match r with | .inl _ => 0 | .inr n => n
  let md := { md with
    dtype := dt, dindex := di, drop := md.drop || fail != 0, reason := if md.drop then md.reason else fail }
  let k := { d.k with
    md := md, flagged := tenantFlag s d.k.slotBeat md.tenant, mode := if md.recirc then d.k.mode else (policyAt s d.k.slotBeat md.policy).1
    stages := d.k.stages ++ [clockNanos s (afterCycles s ns 224)] }
  let s := modPkt i (fun _ => k) s
  let s := if md.recirc then s else countPacket x.q k (inCount k.lh k.bytes.length) s
  let s := learnEnd x k d.f s
  let s := makeMirror k k.bytes md.mirrorA md.slice s
  let s := makeMirror k k.bytes md.mirrorB md.slice s
  let s := trapPacket k ns s
  let s := makeCapture x.q k s
  if md.drop then dropIngress i md.reason ns s
  else match r with
    | .inl p => if dt = 2 then reachMulticast i x.t d.flood ns s
      else reachAdmission ns { pkt := i, mc := false, lost := 0, ports := [p] } s
    | .inr n => dropIngress i n ns s

/-- A packet that skips classification goes to its port (R234, R340, R389). -/
def ingressDirect (i p ns : Nat) (s : State) : State :=
  let k := s.pkt i
  let r := parseFrame builtinBody k.bytes k.bytes.length
  let s := modPkt i (fun k => { k with
    l3End := l3EndOf k.bytes (outerLayer r.hdrs), flagged := tenantFlag s k.slotBeat k.md.tenant
    stages := k.stages ++ [clockNanos s (afterCycles s ns 224)]
    etherVid := (etherType k.bytes (outerLayer r.hdrs), outerVid k.bytes r.hdrs) }) s
  match (resolveUnicast s.tab s 0 p 0 k.md.lagHash).2.2 with
  | .inl p => reachAdmission ns { pkt := i, mc := false, lost := 0, ports := [p] } s
  | .inr n => dropIngress i n ns s

/-- The ingress half on a stamped packet: it waits in the parse buffer for bytes that have not arrived, or is classified
against the tables of its slot's beat (R39, R115, R202). -/
def ingressRun (i ns : Nat) (s : State) : State :=
  let k := s.pkt i
  match k.direct with
  | some p => ingressDirect i p ns s
  | none =>
    let b := s.bank k.md.bank
    let body := bankBody b
    let q := quadOfSlice k.md.slice
    let r := parseFrame body k.bytes k.arrived
    let scan := scanWait body q (parsedPacket s body r k) r.hdrs
    let wait := match r.wait with | some n => some n | none => if k.arrived < scan then some scan else none
    match wait with
    | some n => s.modBuf fun y => { y with parsing := y.parsing.put i n }
    | none =>
      let s := s.modBuf fun y => { y with parsing := y.parsing.del i }
      let s := if r.exc = 0 then s else
        s.modFlight fun y => { y with exc := y.exc.upd 0 (8 * k.md.port + r.exc) (· + 1) }
      let k := parsedPacket s body r k
      let x : Ctx := {
        t := if k.slotBeat = s.beat then s.tab else s.tabPrev
        q := q, body := body, hash := b.hash, k := k, hdrs := r.hdrs }
      let (d, s) := classify x b.builtin s
      ingressEnd x d i ns s

/-- INGRESS_SLOT: one slot of a slice's ingress half (R29, R44); a frame that back-pressure holds at the end of the ingress
half holds the slice's later slots (R228). -/
def ingressSlot (sl ns : Nat) (s : State) : State :=
  if !sliceServed s sl then s
  else
    let s := admitWaiting sl ns (s.arb sl).waiting.length s
    if !(s.arb sl).waiting.isEmpty then s
    else match takeSlot sl ns s with
      | (none, s) => s
      | (some i, s) => ingressRun i ns (stamp i ns s)

/-- INGRESS_SLOT. -/
def execIngressSlot (slice ns : Nat) (s : State) : Outc :=
  need (decide (slice < 32)) "slice" (.next (ingressSlot slice ns s))

/-- PARSE_RESUME: more bytes of a waiting packet have arrived (R115). -/
def parseResume (i arrived ns : Nat) (s : State) : State :=
  match s.buf.parsing.find i with
  | none => s
  | some n =>
    let s := modPkt i (fun k => { k with arrived := max k.arrived (min arrived k.bytes.length) }) s
    if (s.pkt i).arrived < n then s else ingressRun i ns s

/-- PARSE_RESUME. -/
def execParseResume (pkt arrived ns : Nat) (s : State) : Outc := .next (parseResume pkt arrived ns s)

end Sys2Proof.Machine
end

