-- ==== Sys2Proof/Machine/TableDma.lean ====
section
/-! DEFINITION. The four table DMA channels with their bucket locks. -/

namespace Sys2Proof.Machine

/-- A channel's record. -/
def State.tdcOf (s : State) (c : Nat) : Tdc := s.tdc.get {} c

/-- Replaces a channel's record by its image. -/
def modTdcOf (c : Nat) (f : Tdc → Tdc) (s : State) : State := s.modTdc fun t => t.upd {} c f

/-- OP of TDC_CTRL (Table 5.10). -/
def Tdc.op (x : Tdc) : Nat := fld x.ctrl 11 8

/-- TABLE of TDC_CTRL. -/
def Tdc.table (x : Tdc) : Nat := fld x.ctrl 19 16

/-- QUAD_MASK of TDC_CTRL. -/
def Tdc.mask (x : Tdc) : Nat := fld x.ctrl 23 20

/-- The channel's interrupt cause, at DONE or ERROR, when IRQ_EN is set (R374). -/
def tdcIrq (c : Nat) (s : State) : State := whenDo (bit (s.tdcOf c).ctrl 4) (irqCause (17 + c)) s

/-- The channel stops with a code (R176). -/
def tdcStop (c code fail : Nat) (s : State) : State :=
  tdcIrq c (markSet (0x2404 + 0x40 * c) 1 (modTdcOf c (fun x => { x with
    go := false, abort := false, lockDue := false, code := code, err := true, fail := fail, recs := [] }) s))

/-- The channel has completed its records; its lock goes with UNLOCK_AT_END (R175, R176). -/
def tdcFinish (c : Nat) (s : State) : State :=
  tdcIrq c (markSet (0x2404 + 0x40 * c) 0 (modTdcOf c (fun x => { x with
    go := false, abort := false, done := true, recs := [], locked := x.locked && !bit x.ctrl 1 }) s))

/-- Entries of a table by position or index, 2^32 where software does not number them. -/
def tableSize (code : Nat) : Nat := nth [1052672, 2 ^ 32, 2 ^ 32, 131072, 131072, 16384, 65536, 4096, 64] code

/-- The code an operation is refused with at its start, 0 for none (Tables 5.9 to 5.11). -/
def tdcRefusal (x : Tdc) : Nat :=
  let badMask := x.mask == 0 || (x.table != 0 && x.mask != 15)
  let byPosition := x.op == 0 || x.op == 4 || (x.op == 1 && x.table == 0)
  if decide (4 < x.op) || decide (8 < x.table) || badMask || (x.op == 4 && x.table != 0) ||
      x.count == 0 || decide (1052672 < x.count) || x.addr % 32 != 0 ||
      (byPosition && decide (tableSize x.table < x.start + x.count)) then 1
  else if bit x.ctrl 2 && x.op != 0 && decide (4096 < x.count) then 7
  else 0

/-- GO starts the operation (R174 to R176). The records that it will take from host memory are read with it, and the first
of them are accepted here, in order with the writes of the mailboxes (R174; log entry 218). -/
def tdcStart (c : Nat) (h : HostAnswer) (s : State) : State :=
  let x := s.tdcOf c
  let s := modTdcOf c (fun x => { x with code := 0, moved := 0, staged := 0, fail := 0, abort := false }) s
  if tdcRefusal x != 0 then tdcStop c (tdcRefusal x) 0 s
  else if !bmeOf s 0 then tdcStop c 6 0 s
  else
    let lock := bit x.ctrl 0 && x.table == 0
    let go (recs : List Bytes) : State :=
      let s := s.modPend fun l => l.filter fun w => !(w.kind == evTdcGo && rd w.req 0 1 == c)
      post 0 evTdcGo (le 1 c) [] (modTdcOf c (fun x => { x with go := true, lockDue := lock, goBeat := s.beat, recs := recs }) s)
    if x.op == 0 || x.op == 4 then go []
    else match h with
      | .data bs => go ((List.range x.count).map fun i => part bs (32 * i) 32)
      | _ => detect 409 c 0 [] (tdcStop c 4 0 s)

/-- A write to TDC_CTRL (Table 5.10). While an operation runs, ABORT and a cleared LOCK act and the rest does not
(log entry 83). -/
def tdcCtrlWrite (c v : Nat) (h : HostAnswer) (s : State) : State :=
  let x := s.tdcOf c
  let kept := Nat.land v 0x00FF0F1F
  let free (y : Tdc) : Tdc := if bit v 0 then y else { y with locked := false, lockDue := false }
  if !hostUp s then s
  else if x.go then modTdcOf c (fun y => free { y with abort := y.abort || bit v 30 }) s
  else
    let s := modTdcOf c (fun y => free { y with ctrl := kept }) s
    if bit v 31 then tdcStart c h s else s

/-- TDC_GO. -/
def execTdcGo (c value : Nat) (h : HostAnswer) (s : State) : Outc :=
  need (decide (c < 4)) "table DMA channel" (.next (tdcCtrlWrite c (Nat.lor value (2 ^ 31)) h s))

/-- ABORT: the channel will stop at the end of the beat (R176). -/
def tdcAbort (c : Nat) (s : State) : State :=
  whenDo (hostUp s && (s.tdcOf c).go) (modTdcOf c fun x => { x with abort := true }) s

/-- TDC_ABORT. -/
def execTdcAbort (c : Nat) (s : State) : Outc := need (decide (c < 4)) "table DMA channel" (.next (tdcAbort c s))

/-- Software clears LOCK (R175). -/
def tdcLockClear (c : Nat) (s : State) : State :=
  whenDo (hostUp s) (modTdcOf c fun x => { x with ctrl := setBit x.ctrl 0 false, locked := false, lockDue := false }) s

/-- TDC_LOCK_CLEAR. -/
def execTdcLockClear (c : Nat) (s : State) : Outc :=
  need (decide (c < 4)) "table DMA channel" (.next (tdcLockClear c s))

/-- A host completion timeout or unsupported request stops a running channel (R176). -/
def tdcHostError (c : Nat) (s : State) : State :=
  whenDo (s.tdcOf c).go (fun s => detect 409 c 0 [] (tdcStop c 4 (s.tdcOf c).moved s)) s

/-- TDC_HOST_ERROR. -/
def execTdcHostError (c : Nat) (s : State) : Outc := need (decide (c < 4)) "table DMA channel" (.next (tdcHostError c s))

/-- Whether a record is valid for a channel's operation; TYPE is tested in every one (R177, R179). -/
def tdcRecordOk (x : Tdc) (r : Bytes) : Bool :=
  let ok (l : List (Bool × Nat)) : Bool := l.all (·.1)
  if x.op == 3 then ok (keyChecks x.table r)
  else if x.op == 1 && x.table == 0 && !bit (rd r 16 2) 15 then ok ((emtChecks r).take 1)
  else ok (recordChecks x.table r)

/-- An EMT record written by position (R177): VALID 0 deletes it; a key must lie where its lookup searches and stand
nowhere else (log entry 90). -/
def emtPoke (mask : Nat) (r : Bytes) (s : State) : Wr :=
  let pos := rd r 20 4
  let c := rd r 16 2
  let typ := fld c 11 8
  let qs := bitsOf mask 4
  if overflowBase + 4096 ≤ pos then .fail 1
  else if !bit c 15 then .done (eachDo qs (fun q => emtRemove q pos) s) []
  else
    let elsewhere (q : Nat) : Bool := match emtFind s.tab (s.quad q) typ (rd r 0 8) with | some e => e.1 != pos | none => false
    if !searched (candidates s.tab typ (rd r 0 8)) pos || qs.any elsewhere then .fail 1
    else
      let e : EmtEntry := { typ := typ, key := rd r 0 8, result := rd r 8 8, static := bit c 14 }
      let put (q : Nat) (s : State) : State :=
        let thaw := typ == 1 && (s.quad q).frozen.has e.key
        let was := match (s.quad q).emt.find pos with | some e => e.result | none => 0
        let s := modQuad q (fun x => { x with emt := x.emt.put pos e }) (emtRemove q pos s)
        if thaw then notify 6 q e.key was e.result s else s
      .done (eachDo qs put s) []

/-- One record of a WRITE, INSERT or DELETE (R176, R177, R179). -/
def tdcRecord (x : Tdc) (r : Bytes) (s : State) : Wr :=
  if !tdcRecordOk x r then .fail 1
  else if x.op == 3 then tableDelete x.table x.mask r s
  else if x.op == 1 && x.table == 0 then emtPoke x.mask r s
  else tableWrite x.table x.mask r (bit (rd r 16 2) 14) (bit x.ctrl 3) s

/-- Records in order until one fails: the state, how many were applied, and the code of the failure. -/
def tdcRecords (x : Tdc) : List Bytes → Nat → State → State × Nat × Option Nat
  | [], n, s => (s, n, none)
  | r :: rest, n, s =>
    match tdcRecord x r s with
    | .done s _ => tdcRecords x rest (n + 1) s
    | .fail code => (s, n, some code)

/-- Dynamic entries among positions of a quadrant are removed (FLUSH_DYNAMIC). -/
def flushRange (q first n : Nat) (s : State) : State :=
  eachDo (((s.quad q).emt.filter fun e => decide (first ≤ e.1) && decide (e.1 < first + n) && !e.2.static).map (·.1))
    (emtRemove q) s

/-- The channel's last write was applied at this boundary (Table 5.9). -/
def tdcStamp (c : Nat) (s : State) : State := modTdcOf c (fun y => { y with apply := s.beat % 2 ^ 32 }) s

/-- Records or positions staged by an ATOMIC operation in a beat, and all of them applied with the last (R174). One that is
not valid stops the channel where it stands, and none is applied (R176). -/
def tdcAtomic (c : Nat) (s : State) : State :=
  let x := s.tdcOf c
  let n := min 256 (x.count - x.staged)
  let whole (s : State) : State := tdcFinish c (tdcStamp c (modTdcOf c (fun y => { y with moved := x.count, staged := x.count }) s))
  let bad := if x.op == 4 then none else (List.range n).find? fun i => !tdcRecordOk x (x.recs.getD (x.staged + i) [])
  match bad with
  | some i => tdcStop c 1 (x.staged + i) s
  | none =>
    if x.staged + n < x.count then modTdcOf c (fun y => { y with staged := x.staged + n }) s
    else if x.op == 4 then whole (eachDo (quadsOf x.mask) (fun q => flushRange q x.start x.count) s)
    else match tdcRecords x x.recs 0 s with
      | (t, _, none) => whole t
      | (_, i, some code) => tdcStop c code i s

/-- The channel's records of the beat at P3: up to 256, an ATOMIC operation's only staged until the last (R174). `pre` is
the state that the beat's reads saw. -/
def tdcMove (pre : Tables) (c : Nat) (s : State) : State :=
  let x := s.tdcOf c
  let n := min 256 (x.count - x.moved)
  let after (s : State) : State := if (s.tdcOf c).moved = x.count then tdcFinish c s else s
  if x.op == 0 then
    let q := (quadsOf x.mask).headD 0
    let s := eachDo (List.range n) (fun i => hostWrite 0 (x.addr + 32 * (x.moved + i)) (recordAt pre x.table q (x.start + x.moved + i))) s
    after (modTdcOf c (fun y => { y with moved := x.moved + n }) s)
  else if bit x.ctrl 2 then tdcAtomic c s
  else if x.op == 4 then
    let s := eachDo (quadsOf x.mask) (fun q => flushRange q (x.start + x.moved) n) s
    after (tdcStamp c (modTdcOf c (fun y => { y with moved := x.moved + n }) s))
  else
    match tdcRecords x ((x.recs.drop x.moved).take n) 0 s with
    | (t, i, fail) =>
      let t := modTdcOf c (fun y => { y with moved := x.moved + i }) (if i = 0 then t else tdcStamp c t)
      match fail with
      | some code => tdcStop c code (x.moved + i) t
      | none => after t

/-- A channel at P3: its records, then the stop that ABORT asked for, which leaves an ATOMIC operation with no record
applied (R176). A channel that waits for its lock moves nothing at the boundary that takes it (R175). -/
def tdcStep (pre : Tables) (c : Nat) (s : State) : State :=
  let x := s.tdcOf c
  let held := x.lockDue || (x.locked && x.lockAt == s.beat) || (x.abort && x.op != 0 && bit x.ctrl 2)
  if !x.go then s
  else
    let s := if held then s else tdcMove pre c s
    if (s.tdcOf c).go && (s.tdcOf c).abort then tdcStop c 6 (s.tdcOf c).moved s else s

/-- A channel that runs since an earlier beat accepted this beat's records at its start, before the writes of the mailboxes
(R174; log entry 218). -/
def tdcRunning (pre : Tables) (c : Nat) (s : State) : State :=
  if (s.tdcOf c).goBeat = s.beat then s else tdcStep pre c s

/-- A channel that GO started in this beat, in its place among the writes of the mailboxes (R174; log entry 218). -/
def tdcStarted (pre : Tables) (c : Nat) (s : State) : State :=
  if (s.tdcOf c).goBeat = s.beat then tdcStep pre c s else s

/-- TDC_DONE: a channel completes its records at P3 of the boundary that applies the last (R174, R176). -/
def execTdcDone (c : Nat) (s : State) : Outc :=
  need (decide (c < 4)) "table DMA channel" (.next (atBoundary evTdcDone (le 1 c) s))

/-- Locks that begin at P2 (R175). -/
def tdcLocks (s : State) : State :=
  eachDo [0, 1, 2, 3] (fun c s => if (s.tdcOf c).lockDue then modTdcOf c (fun x => { x with
    lockDue := false, locked := true, lockAt := s.beat, span := (x.start, x.count), lockMask := x.mask }) s else s) s

/-- A lock has been held for TDC_LOCK_BEATS: it is released, and the channel stops with CODE 5 (R175). -/
def tdcLockTimeout (c : Nat) (s : State) : State :=
  let x := s.tdcOf c
  if x.locked && decide (x.lockAt + x.lockBeats ≤ s.beat) then
    raiseEvent 0x0702 (le 1 c) (tdcStop c 5 x.moved (modTdcOf c (fun x => { x with locked := false }) s))
  else s

/-- TDC_LOCK_TIMEOUT: at P3 of the boundary (R175). -/
def execTdcLockTimeout (c : Nat) (s : State) : Outc :=
  need (decide (c < 4)) "table DMA channel" (.next (atBoundary evTdcLock (le 1 c) s))

/-- Running channels stop with CODE 6 when Bus Master Enable of PF0 is cleared (R395). -/
def tdcStopAll (s : State) : State :=
  eachDo [0, 1, 2, 3] (fun c s => if (s.tdcOf c).go then tdcStop c 6 (s.tdcOf c).moved s else s) s

end Sys2Proof.Machine
end

