-- ==== Sys2Proof/Machine/HostPort.lean ====
section
/-! DEFINITION. PCIe functions: MSI-X, the host rings with the CPU-port MAC, filters, queue statistics, and what FLR,
Bus Master Enable and hot reset do. -/

namespace Sys2Proof.Machine

/-- A ring's record. -/
def State.ring (s : State) (r : Nat) : Ring := s.host.rings.get {} r

/-- Replaces a ring's record by its image. -/
def modRing (r : Nat) (f : Ring → Ring) (s : State) : State :=
  s.modHost fun h => { h with rings := h.rings.upd {} r f }

/-- MSI-X vector of a ring: its number at reset (Table 13.10). -/
def ringVec (s : State) (r : Nat) : Nat := (s.ring r).vec.getD r

/-- Key of a ring's HRQ_STATUS among the RW1C registers. -/
def ringStatus (r : Nat) : Nat := 0x20000 + 0x20 * r + 0x0C

/-- The ring's vector becomes pending where the ring may raise it (R392). -/
def ringIrq (r : Nat) (s : State) : State :=
  if (s.ring r).irq then s.modHost fun h => { h with pba1 := setBit h.pba1 (ringVec s r) true } else s

/-- Adds to a queue statistic; a counter that passes half range sets HALF (R391). -/
def ringCount (r i n : Nat) (s : State) : State :=
  let v := nth (s.ring r).stats i
  let w := (v + n) % 2 ^ 32
  let s := modRing r (fun x => { x with stats := x.stats.set i w }) s
  if !bit v 31 && bit w 31 then
    ringIrq r (markSet (0x20400 + 0x20 * r + 4 * i) 31 (markSet (ringStatus r) 4 (modRing r (fun x => { x with half := true }) s)))
  else s

/-- The ring halts with a code at a HEAD-relative descriptor (R382, R388, R393). -/
def stopRing (r code err : Nat) (s : State) : State :=
  if (s.ring r).stopped || (s.ring r).frozen then s
  else ringIrq r (modRing r (fun x => { x with stopped := true, code := code, err := err }) s)

/-- Bus Master Enable has gone: an enabled ring freezes (R394). -/
def freezeRing (r : Nat) (s : State) : State :=
  if (s.ring r).on && !(s.ring r).frozen then ringIrq r (modRing r (fun x => { x with frozen := true, code := 5 }) s) else s

/-- Descriptors that belong to the device (R382). -/
def postedOf (x : Ring) : Nat := (x.tail + 65536 - x.head) % 65536

/-- The ring is in use and neither stopped nor frozen. -/
def ringLive (x : Ring) : Bool := x.on && !x.stopped && !x.frozen

/-- HRQ_TAIL_WRITE (R382). -/
def hrqTailWrite (r value : Nat) (s : State) : State :=
  if !hostUp s then s
  else
    let s := modRing r (fun x => { x with tail := value % 65536 }) s
    if 2 ^ (s.ring r).size < postedOf (s.ring r) then stopRing r 1 0 s else s

/-- HRQ_TAIL_WRITE. -/
def execHrqTailWrite (ring value : Nat) (s : State) : Outc :=
  need (decide (ring < 32)) "ring" (.next (hrqTailWrite ring value s))

/-- RESET of a ring (R384; log entry 144). -/
def resetRing (r : Nat) (s : State) : State :=
  modRing r (fun x => { x with
    resetting := true, code := 0, stopped := false, frozen := false, on := false, head := 0, tail := 0, err := 0
    since := 0, firstBeat := none }) s

/-- HRQ_RESET. -/
def execHrqReset (ring : Nat) (s : State) : Outc :=
  need (decide (ring < 32)) "ring" (.next (if hostUp s then resetRing ring s else s))

/-- Whether a ring's settings let it be enabled (R383). -/
def ringSettingsOk (r : Nat) (x : Ring) : Bool :=
  decide (6 ≤ x.size) && decide (x.size ≤ 15) && (decide (16 ≤ r) || (decide (1 ≤ x.buf) && decide (x.buf ≤ 64)))

/-- A write to HRQ_CTRL (R383, Table 13.10). -/
def ringCtrlWrite (r v : Nat) (s : State) : State :=
  if !hostUp s then s
  else if bit v 30 then resetRing r s
  else
    let was := s.ring r
    let s := modRing r (fun x => { x with
      vec := some (fld v 29 24), irq := bit v 23
      size := if x.on then x.size else fld v 19 16
      buf := if x.on then x.buf else fld v 14 8 }) s
    let s :=
      if !bit v 31 then modRing r (fun x => { x with on := false }) s
      else if was.on then s
      else if ringSettingsOk r (s.ring r) then modRing r (fun x => { x with on := true }) s
      else modRing r (fun x => { x with code := 1 }) s
    if !was.irq && (was.half || was.stopped || was.frozen) then ringIrq r s else s

/-- HRQ_ENABLE: the HRQ_CTRL write that sets ENABLE. -/
def execHrqEnable (ring value : Nat) (s : State) : Outc :=
  need (decide (ring < 32)) "ring" (.next (ringCtrlWrite ring (Nat.lor value (2 ^ 31)) s))

/-- THRESH or INTERVAL has been reached by the frames completed and not yet signalled (R392; log entry 150). -/
def completeDue (s : State) (x : Ring) : Bool :=
  decide (max 1 (fld x.itr 31 16) ≤ x.since) ||
    match x.firstBeat with
    | some b => decide (b + fld x.itr 15 0 ≤ s.beat)
    | none => false

/-- HRQ_INTERRUPT_INTERVAL (R392). -/
def hrqInterval (r : Nat) (s : State) : State := if completeDue s (s.ring r) then ringIrq r s else s

/-- HRQ_INTERRUPT_INTERVAL. -/
def execHrqInterruptInterval (ring : Nat) (s : State) : Outc :=
  need (decide (ring < 32)) "ring" (.next (hrqInterval ring s))

/-- A frame has completed on the ring (R386, R390, R392). -/
def ringComplete (r : Nat) (s : State) : State :=
  hrqInterval r (markSet (ringStatus r) 0 (modRing r (fun x => { x with
    complete := true, since := x.since + 1, firstBeat := some (x.firstBeat.getD s.beat) }) s))

/-- Bytes of a pattern filter's mask select delivered byte `n` (R378). -/
def patternBit (slot : Bytes) (n : Nat) : Bool := bit (rd slot (n / 8) 1) (n % 8)

/-- A pattern filter matches a delivered frame (R378). -/
def patternHits (slot frame : Bytes) : Bool :=
  let sel := (List.range 1024).filter (patternBit slot)
  bit (rd slot 130 1) 7 && !sel.isEmpty && sel.all (fun n => decide (n < frame.length)) &&
    crc16 (sel.map fun n => frame.getD n 0) == rd slot 128 2

/-- A steering filter matches a packet (R379). -/
def steerHits (f : Bytes) (k : Packet) : Bool :=
  let fl := rd f 5 1
  bit fl 7 && (!bit fl 0 || rd f 0 2 % 4096 == k.etherVid.2) && (!bit fl 1 || rd f 2 2 == k.etherVid.1) &&
    (!bit fl 2 || rd f 4 1 == k.md.trap)

/-- The first pattern filter that matches. -/
def patternOf (s : State) (frame : Bytes) : Option Nat :=
  (List.range 32).find? fun i => patternHits (s.host.pattern.get [] i) frame

/-- The first steering filter that matches. -/
def steerOf (s : State) (k : Packet) : Option Nat :=
  (List.range 64).find? fun i => steerHits (s.host.steer.get [] i) k

/-- A match of a pattern filter counts in its HITS (R378). -/
def countHit (i : Nat) (s : State) : State :=
  let up (b : Bytes) : Bytes := part b 0 132 ++ le 4 (rd b 132 4 + 1) ++ part b 136 120
  s.modHost fun h => { h with pattern := h.pattern.upd [] i up }

/-- The write-back of buffer `i` of `n` for a frame (Table 13.12). -/
def rxWriteBack (k : Packet) (byPattern : Bool) (filter len i n : Nat) (size : Nat) : Bytes :=
  let eof := decide (i + 1 = n)
  le 2 (min size (len - i * size)) ++ le 1 (1 + 2 * b2n (i == 0) + 4 * b2n eof + 8 * b2n byPattern) ++ le 1 k.md.trap ++
    le 2 k.md.port ++ le 2 (if eof then len else 0) ++ le 4 k.rxTs.2.1 ++ le 2 k.rxTs.1 ++ le 1 filter ++ le 1 k.md.tc ++
    le 4 k.md.flowHash ++ le 3 k.md.tenant ++ zeros 1

/-- The frame at the front of the CPU-port MAC leaves it. -/
def macPop (n : Nat) (s : State) : State :=
  s.modHost fun h => { h with mac := h.mac.drop 1, macFill := h.macFill - n }

/-- A frame is written into a ring's buffers, and its descriptors back from the last to the first (R386). -/
def rxWrite (r : Nat) (descs frame : Bytes) (k : Packet) (byPattern : Bool) (filter : Nat) (s : State) : State :=
  let x := s.ring r
  let size := 256 * x.buf
  let n := ceilDiv frame.length size
  let s := eachDo (List.range n)
    (fun i => hostWrite 1 (rd descs (32 * i) 8) ((frame.drop (i * size)).take size)) s
  let s := eachDo (List.range n).reverse
    (fun i => hostWrite 1 (x.base + 32 * ((x.head + i) % 2 ^ x.size) + 8)
      (rxWriteBack k byPattern filter frame.length i n size)) s
  let s := modRing r (fun y => { y with head := (y.head + n) % 65536 }) s
  ringComplete r (ringCount r 0 1 (ringCount r 1 frame.length (ringCount r 4 n s)))

/-- The frame at the front of the MAC goes to an RX ring, or is dropped there (R386, R387, R393; log entry 145). -/
def rxDeliver (r : Nat) (descs : HostAnswer) (byPattern : Bool) (filter ci ns : Nat) (s : State) : State :=
  let c := s.copy ci
  let n := c.out.length
  let frame := c.out.take (n - 4)
  let x := s.ring r
  let s := macPop n s
  let lost (i : Nat) (s : State) : State := dropCopyEnd ci 35 ns (ringCount r i 1 s)
  if !ringLive x || x.buf = 0 then lost 3 s
  else match descs with
    | .urca => lost 3 (detect 408 r 0 [] (stopRing r 4 0 s))
    | .timeout => lost 3 (detect 408 r 0 [] (stopRing r 3 0 s))
    | .data bs =>
      if postedOf x < ceilDiv frame.length (256 * x.buf) then lost 2 s
      else sentCopyEnd ci n ns (rxWrite r bs frame (s.pkt c.pkt) byPattern filter s)

/-- RX_FRAME_DELIVER: the MAC steers its front frame (R377). -/
def rxFrameDeliver (ns : Nat) (descs : HostAnswer) (s : State) : State :=
  match s.host.mac with
  | [] => s
  | ci :: _ =>
    let c := s.copy ci
    let frame := c.out.take (c.out.length - 4)
    match patternOf s frame with
    | some i =>
      let f := s.host.pattern.get [] i
      let s := countHit i s
      if bit (rd f 130 1) 0 then dropCopyEnd ci 3 ns (macPop c.out.length s)
      else rxDeliver (rd f 131 1 % 16) descs true i ci ns s
    | none =>
      match steerOf s (s.pkt c.pkt) with
      | some i => rxDeliver (rd (s.host.steer.get [] i) 6 1 % 16) descs false i ci ns s
      | none => rxDeliver 0 descs false 0xFF ci ns s

/-- RX_FRAME_DELIVER. -/
def execRxFrameDeliver (ns : Nat) (descs : HostAnswer) (s : State) : Outc := .next (rxFrameDeliver ns descs s)

/-- What the descriptors of a TX ring show: no whole frame yet, a frame of `n` descriptors and `len` bytes, or a stop
with a code at a descriptor (R388). -/
inductive TxSeen where
  | wait
  | frame (n len : Nat)
  | stop (code at_ : Nat)
  deriving DecidableEq, Repr

/-- The chain from descriptor `i` on, `len` bytes so far, of `posted` descriptors (R388). -/
def txWalk (ds : Bytes) (posted i len : Nat) : Nat → TxSeen
  | 0 => .stop 2 64
  | k + 1 =>
    if posted ≤ i then .wait
    else
      let d := part ds (32 * i) 32
      let l := rd d 8 2
      if (i = 0 && !bit (rd d 10 1) 0) || l = 0 || decide (16380 < len + l) then .stop 1 i
      else if bit (rd d 10 1) 1 then .frame (i + 1) (len + l)
      else txWalk ds posted (i + 1) (len + l) k

/-- What a TX ring holds, the port of its mode checked with the first descriptor (R388, Table 13.14). -/
def txSeen (x : Ring) (ds : Bytes) : TxSeen :=
  let port := rd ds 12 2
  let most := if bit (rd ds 10 1) 3 then 767 else 799
  match txWalk ds (postedOf x) 0 0 64 with
  | .frame n len => if most < port then .stop 1 0 else .frame n len
  | w => w

/-- Address of a descriptor, counted from HEAD. -/
def descAddr (x : Ring) (i : Nat) : Nat := x.base + 32 * ((x.head + i) % 2 ^ x.size)

/-- A TX frame stops its ring: the frame is discarded and the code written back (R388; log entry 143). -/
def txStop (r code i : Nat) (s : State) : State :=
  let x := s.ring r
  ringCount r 2 1 (hostWrite 1 (descAddr x i + 16) (le 1 0 ++ le 1 code) (stopRing r code i s))

/-- A failed read stops the ring (R393). -/
def txFail (r code : Nat) (s : State) : State := detect 408 r 0 [] (ringCount r 2 1 (stopRing r code 0 s))

/-- The packet a TX frame becomes (R388, R389). -/
def txPacket (ds data : Bytes) (len : Nat) : Packet :=
  let body := part data 0 len
  let bytes := withFcs (body ++ zeros (60 - len))
  let fl := rd ds 10 1
  let port := rd ds 12 2
  let pipe := bit fl 3
  { md := { port := 800, slice := sliceOfPort port, tc := if pipe then 0 else rd ds 11 1 % 8, len := bytes.length }
    bytes := bytes, arrived := bytes.length
    origin := if pipe then .cpuPipe else .cpuDirect
    direct := if pipe then none else some port
    tsId := if bit fl 2 then some (rd ds 14 2) else none }

/-- A whole TX frame is handed to its slice, and its descriptors are written back from the last to the first
(R389, R390; log entry 147). -/
def txHand (r n len : Nat) (ds data : Bytes) (s : State) : State :=
  let x := s.ring r
  let k := txPacket ds data len
  let (i, s) := newPkt k s
  let s := inject k.md.slice 1 i s
  let s := eachDo (List.range n).reverse (fun j => hostWrite 1 (descAddr x j + 16) (le 1 1 ++ le 1 0)) s
  let s := modRing r (fun y => { y with head := (y.head + n) % 65536 }) s
  let s := if k.tsId.isSome then ringCount r 3 1 s else s
  ringComplete r (ringCount r 0 1 (ringCount r 1 (k.bytes.length - 4) (ringCount r 4 n s)))

/-- TX rings that may hold a frame, highest first (R390). -/
def txReady (s : State) : List Nat :=
  (List.range 16).reverse.map (16 + ·) |>.filter fun r => ringLive (s.ring r) && postedOf (s.ring r) != 0

/-- A frame fetched earlier still waits for its slot and holds the MAC (R390). -/
def macHeld (s : State) : Bool := (List.range 32).any fun sl => !(s.buf.inj.get [] (5 * sl + 1)).isEmpty

/-- The MAC looks at the ready rings, highest first, until one has a whole frame or stops. -/
def txLook (data : HostAnswer) : List (Nat × HostAnswer) → State → State
  | [], s => s
  | (r, a) :: rest, s =>
    match a with
    | .urca => txFail r 4 s
    | .timeout => txFail r 3 s
    | .data ds =>
      match txSeen (s.ring r) ds with
      | .wait => txLook data rest s
      | .stop code i => txStop r code i s
      | .frame n len =>
        match data with
        | .data bs => txHand r n len ds bs s
        | .urca => txFail r 4 s
        | .timeout => txFail r 3 s

/-- TX_FRAME_FETCH (R390; log entry 146). -/
def txFrameFetch (descs : List HostAnswer) (data : HostAnswer) (s : State) : State :=
  if !dataUp s || macHeld s then s else txLook data ((txReady s).zip descs) s

/-- TX_FRAME_FETCH. -/
def execTxFrameFetch (descs : List HostAnswer) (data : HostAnswer) (s : State) : Outc := .next (txFrameFetch descs data s)

/-- HOST_READ_FAIL: a read made for a ring fails outside a frame's own fetch (R393). -/
def hostReadFail (r : Nat) (timeout : Bool) (s : State) : State :=
  if !ringLive (s.ring r) then s
  else
    let s := stopRing r (if timeout then 3 else 4) 0 s
    detect 408 r 0 [] (if 16 ≤ r then ringCount r 2 1 s else s)

/-- HOST_READ_FAIL. -/
def execHostReadFail (ring : Nat) (timeout : Bool) (s : State) : Outc :=
  need (decide (ring < 32)) "ring" (.next (hostReadFail ring timeout s))

/-- Where a PF1 offset lies in the filter tables: (is a pattern filter, index, byte) (Table 13.8). -/
def filterPlace (offset : Nat) : Option (Bool × Nat × Nat) :=
  if 0x1000 ≤ offset && offset < 0x1200 then some (false, (offset - 0x1000) / 8, (offset - 0x1000) % 8)
  else if 0x2000 ≤ offset && offset < 0x4000 then some (true, (offset - 0x2000) / 256, (offset - 0x2000) % 256)
  else none

/-- The bits that a word of a filter names: of a steering filter its two words, of a pattern filter the words of MASK and
the one with CHECK, FLAGS and RING (R16, R378, R379). -/
def filterMask (pat : Bool) (byte : Nat) : Nat :=
  if pat then (if byte < 128 then 0xFFFFFFFF else 0xFF81FFFF) else if byte < 4 then 0xFFFF0FFF else 0x000F87FF

/-- Four bytes written to a filter: held until the last word is written; HITS is not written, and reserved bits are not
kept (R16, R378, R380). -/
def filterHold (pat : Bool) (i byte value : Nat) (s : State) : State :=
  let put (n : Nat) (b : Bytes) : Bytes :=
    part b 0 byte ++ le 4 (Nat.land value (filterMask pat byte)) ++ part b (byte + 4) (n - byte - 4)
  if pat then
    if 132 ≤ byte then s
    else s.modHost fun h => { h with patternHeld := h.patternHeld.upd [] i (put 132) }
  else s.modHost fun h => { h with steerHeld := h.steerHeld.upd [] i (put 8) }

/-- A 4-byte write to a filter table; one to a filter's last word commits it at the next boundary (R380). -/
def filterWrite (offset value : Nat) (s : State) : State :=
  if !hostUp s || offset % 4 != 0 then s
  else match filterPlace offset with
    | none => s
    | some (pat, i, byte) =>
      let s := filterHold pat i byte value s
      let key := if pat then 64 + i else i
      if byte = (if pat then 128 else 4) && !s.host.commits.contains key then
        s.modHost fun h => { h with commits := h.commits ++ [key] }
      else s

/-- FILTER_COMMIT_WRITE. -/
def execFilterCommitWrite (offset value : Nat) (s : State) : Outc := .next (filterWrite offset value s)

/-- The boundary at which written filters take effect (R380); HITS keeps its count. -/
def filterCommits (s : State) : State :=
  let one (key : Nat) (h : HostIf) : HostIf :=
    if 64 ≤ key then
      let set (b : Bytes) : Bytes := part (h.patternHeld.get [] (key - 64)) 0 132 ++ part b 132 124
      { h with pattern := h.pattern.upd [] (key - 64) set }
    else { h with steer := h.steer.put key (part (h.steerHeld.get [] key) 0 8) }
  s.modHost fun h => { h.commits.foldl (fun h k => one k h) h with commits := [] }

/-- The rings at a boundary: a RESET is over, and an INTERVAL that has passed makes its vector pending (R384, R392). -/
def ringBoundary (s : State) : State :=
  let s := s.modHost fun h => { h with rings := h.rings.mapAll fun _ x => { x with resetting := false } }
  eachDo (s.host.rings.keys.filter fun r => (s.ring r).firstBeat.isSome) hrqInterval s

/-- A write to a queue statistic: 1 written to bit 31 clears it, unless it was set in this beat (R17, R391). -/
def statFold (ring counter value : Nat) (s : State) : State :=
  if hostUp s && clearsBit s (0x20400 + 0x20 * ring + 4 * counter) value 31 then
    modRing ring (fun x => { x with stats := x.stats.set counter (nth x.stats counter % 2 ^ 31) }) s
  else s

/-- QUEUE_STAT_FOLD_WRITE: 1 written to bit 31 of a counter. -/
def execQueueStatFoldWrite (ring counter : Nat) (s : State) : Outc :=
  need (decide (ring < 32) && decide (counter < 5)) "ring or counter" (.next (statFold ring counter (2 ^ 31) s))

/-- Pending vectors of a function. -/
def pbaOf (s : State) (pf : Nat) : Nat := if pf = 0 then s.host.pba0 else s.host.pba1

/-- Something enabled still asks for a vector (R376, R392). -/
def vectorAsked (s : State) (pf v : Nat) : Bool :=
  if pf = 0 then (List.range 64).any fun c => bit s.host.status c && bit s.host.enable c && vectorOf s c == v
  else (List.range 32).any fun r =>
    let x := s.ring r
    x.irq && ringVec s r == v && (x.complete || x.half || x.stopped || x.frozen)

/-- Moderation interval of a vector in beats: IRQ_ITR on PF0; a PF1 vector's rings have their own (R375, R392). -/
def moderation (s : State) (pf v : Nat) : Nat :=
  if pf = 0 then (if v % 2 = 0 then fld (s.host.itrs.get 0 (v / 2)) 15 0 else fld (s.host.itrs.get 0 (v / 2)) 31 16) else 0

/-- A vector stops being pending. -/
def clearPending (pf v : Nat) (s : State) : State :=
  s.modHost fun h => if pf = 0 then { h with pba0 := setBit h.pba0 v false } else { h with pba1 := setBit h.pba1 v false }

/-- MSIX_MESSAGE: one message for a pending vector (R376, R392). -/
def msixMessage (pf v : Nat) (s : State) : State :=
  let key := 64 * pf + v
  if !bit (pbaOf s pf) v then s
  else if !vectorAsked s pf v then clearPending pf v s
  else if !(bmeOf s pf && s.host.msix.getD pf false && s.host.unmasked.contains key &&
      mayTell (s.host.sent.get 0 key) (moderation s pf v) s.beat) then s
  else
    let t := if pf = 0 then s.host.table0 else s.host.table1
    let quiet (r : Nat) (x : Ring) : Ring := if x.vec.getD r = v then { x with since := 0, firstBeat := none } else x
    let s := hostWrite pf (leOf (t.readN (16 * v) 8)) (t.readN (16 * v + 8) 4) s
    let s := s.modHost fun h => { h with
      sent := h.sent.put key (s.beat + 1)
      rings := if pf = 0 then h.rings else h.rings.mapAll quiet }
    clearPending pf v s

/-- MSIX_MESSAGE. -/
def execMsixMessage (pf vector : Nat) (s : State) : Outc :=
  need (decide (pf < 2) && decide (vector < 64)) "function or vector" (.next (msixMessage pf vector s))

/-- IRQ_TEST_WRITE: the status bits are set as hardware sets them; reserved causes are never set (R374, R375). -/
def irqTestWrite (hi value : Nat) (s : State) : State :=
  if !hostUp s then s
  else eachDo ((bitsOf value 32).filter fun b => decide (32 * (hi % 2) + b < 34)) (fun b => irqCause (32 * (hi % 2) + b)) s

/-- IRQ_TEST_WRITE. -/
def execIrqTestWrite (hi value : Nat) (s : State) : Outc := .next (irqTestWrite hi value s)

/-- Sets Bus Master Enable of a function. -/
def setBme (pf : Nat) (b : Bool) (s : State) : State := s.modHost fun h => { h with bme := h.bme.set pf b }

/-- Every enabled ring is frozen (R394). -/
def freezeRings (s : State) : State := eachDo (List.range 32) freezeRing s

/-- What the loss of Bus Master Enable of PF1 does (R373, R394). -/
def busOff1 (s : State) : State := hostErrBit 2 (freezeRings s)

/-- What the loss of Bus Master Enable of PF0 does (R395): channels stop with CODE 6 and Lantern's host rings stop. -/
def busOff0 (s : State) : State := lanternStopHost (xdcStopHost (tdcStopAll s))

/-- BME_CLEAR_PF1 (R373, R394). -/
def bmeClear1 (s : State) : State :=
  if bmeOf s 1 then busOff1 (setBme 1 false s) else setBme 1 false s

/-- BME_CLEAR_PF1. -/
def execBmeClearPf1 (s : State) : Outc := .next (bmeClear1 s)

/-- BME_CLEAR_PF0 (R395). -/
def bmeClear0 (s : State) : State :=
  if bmeOf s 0 then busOff0 (setBme 0 false s) else setBme 0 false s

/-- BME_CLEAR_PF0. -/
def execBmeClearPf0 (s : State) : Outc := .next (bmeClear0 s)

/-- BME_SET: Bus Master Enable, and MSI-X Enable with it (R416; log entry 38). No ring is unfrozen (R394). -/
def execBmeSet (pf : Nat) (msix : Bool) (s : State) : Outc :=
  need (decide (pf < 2)) "function" (.next (
    if hostUp s then (setBme pf true s).modHost fun h => { h with msix := h.msix.set pf msix } else s))

/-- The configuration of a function after an FLR (log entry 148). -/
def functionOff (pf : Nat) (s : State) : State :=
  (setBme pf false s).modHost fun h => { h with
    msix := h.msix.set pf false
    unmasked := h.unmasked.filter fun k => k / 64 != pf
    sent := h.sent.filter fun e => e.1 / 64 != pf }

/-- FLR of PF1 (R396): the rings stop, and the PF1 registers, statistics, filters and MSI-X table return to reset. -/
def flr1 (s : State) : State :=
  let s := functionOff 1 s
  let s := s.modHost fun h => { h with
    rings := [], steer := [], steerHeld := [], pattern := [], patternHeld := [], commits := [], table1 := [], pba1 := 0 }
  hostErrBit 1 (s.modFreshSet fun l => l.filter fun p => decide (p.1 < 0x20000))

/-- FLR_PF1. -/
def execFlrPf1 (s : State) : Outc := .next (flr1 s)

/-- FLR of PF0 at the other slot: its STAGING ends (R438). -/
def flrFirmware (s : State) : State :=
  if s.fw.st = 1 then s.modFw fun f => { f with st := 0, staged := [], other := [] } else s

/-- FLR of PF0 at the engines that the host drives: they stop, and TDC_ and the host's XDC_ channels return to reset (R395). -/
def flrEngines (s : State) : State :=
  (((lanternStopHost (xdcStopHost (tdcStopAll s))).modTdc fun _ => []).modXdc fun t => (t.del 6).del 7)

/-- FLR of PF0 at the host interface: the IRQ_ group, GLB_SCRATCH, GLB_HOST_ERR and the MSI-X table return to reset (R395). -/
def flrRegisters (s : State) : State :=
  let s := functionOff 0 s
  let s := s.modHost fun h => { h with status := 0, enable := 0, vecs := [], itrs := [], pba0 := 0, table0 := [] }
  let s := s.modGlb fun g => { g with scratch := 0, hostErr := 0 }
  s.modFreshSet fun l => l.filter fun p =>
    !((decide (0x2400 ≤ p.1) && decide (p.1 < 0x3100)) || p.1 == 0x18)

/-- FLR of PF0 (R395, R397, R415, R438): mailbox commands are aborted, the other slot's STAGING ends, the host's channels
stop, and the registers of PF0 return to reset. -/
def flr0 (s : State) : State :=
  flrRegisters (flrEngines (flrFirmware (abandonAutoLoads (abandonRuleLoad (flrMailboxes s)))))

/-- FLR_PF0. -/
def execFlrPf0 (s : State) : Outc := .next (flr0 s)

/-- PCIE_HOT_RESET: an FLR of both functions, and the link trains again (R397; log entry 149). -/
def hotReset (s : State) : State :=
  (flr1 (flr0 s)).modGlb fun g => { g with linkRate := 0, linkWidth := 0 }

/-- PCIE_HOT_RESET. -/
def execPcieHotReset (s : State) : Outc := .next (hotReset s)

/-- PCIE_LINK_TRAINED (R368, R369, R373): the rate and width that GLB_LINK shows. -/
def execPcieLinkTrained (rate width : Nat) (s : State) : Outc :=
  .next (if hostUp s && decide (1 ≤ rate) && decide (rate ≤ 5) && [1, 2, 4, 8].contains width then
    s.modGlb fun g => { g with linkRate := rate, linkWidth := width } else s)

/-- PCIE_PARTNER_VIOLATION (R464). -/
def execPciePartnerViolation (pf code : Nat) (s : State) : Outc :=
  need (decide (pf < 2)) "function" (.next (if hostUp s then partnerLog 3 pf code s else s))

/-- GLB_BEAT_LO_READ (R37): the upper half of the same counter value is latched. -/
def execGlbBeatLoRead (s : State) : Outc :=
  .next (if hostUp s then
    readOut (s.beat % 2 ^ 32) (s.modGlb fun g => { g with beatHi := g.beat / 2 ^ 32 % 2 ^ 32 }) else s)

end Sys2Proof.Machine
end

