-- ==== Sys2Proof/Machine/Egress.lean ====
section
/-! DEFINITION. The egress half: the scheduler's start of a frame, the egress action, the rewrite, ECN and PTP fields,
preempted remainders, and the end of a transmission. -/

namespace Sys2Proof.Machine

/-- A 16-bit one's complement checksum after bytes of its data have changed, both runs at an even offset. -/
def csumUpdate (c : Nat) (old new : Bytes) : Nat :=
  onesCsum (be 2 (65535 - c % 65536) ++ old.map (fun b => 255 - b) ++ new)

/-- The headers of a frame as version 0 reads them (log entry 123). -/
def sentHeaders (frame : Bytes) : List Hdr := (parseFrame builtinBody (frame ++ zeros 4) (frame.length + 4)).hdrs

/-- The ECN field of the outer IP header becomes CE where it holds ECT(0) or ECT(1); the IPv4 checksum is corrected
(R216). -/
def markEcn (frame : Bytes) : Bytes :=
  match (outerLayer (sentHeaders frame)).find? isL3 with
  | none => frame
  | some h =>
    let v := rd frame (h.off + 1) 1
    if h.typ = .ipv4 then
      if v % 4 = 1 || v % 4 = 2 then
        let old := part frame h.off 2
        let new := le 1 (rd frame h.off 1) ++ le 1 (v - v % 4 + 3)
        patch (patch frame h.off new) (h.off + 10) (be 2 (csumUpdate (rdBe frame (h.off + 10) 2) old new))
      else frame
    else
      let e := v / 16 % 4
      if e = 1 || e = 2 then patch frame (h.off + 1) (le 1 (setFld v 5 4 3)) else frame

/-- Bytes of a PTP message changed at an offset, with the UDP checksum that covers them updated: over IPv4 where it is not
zero, over IPv6 always (R360). -/
def patchPtp (frame : Bytes) (o : Nat) (new : Bytes) : Bytes :=
  let layer := innerLayer (sentHeaders frame)
  let out := patch frame o new
  match layer.find? fun h => h.typ = .udp with
  | none => out
  | some u =>
    let c := rdBe frame (u.off + 6) 2
    let v6 := layer.any fun h => h.typ = .ipv6
    if c = 0 && !v6 then out
    else
      let c' := csumUpdate c (part frame o new.length) new
      patch out (u.off + 6) (be 2 (if c' = 0 && v6 then 65535 else c'))

/-- PTP settings of a port: transparent clock, one-step Sync (R360, R367). -/
def ptpOf (s : State) (p : Nat) : Bool × Bool := (bit (s.time.ptp.get 0 p) 0, bit (s.time.ptp.get 0 p) 1)

/-- The residence time of a PTP event message is added to its correctionField (R360). -/
def correctPtp (s : State) (k : Packet) (p ns : Nat) (frame : Bytes) : Bytes :=
  if k.ptp && k.origin = .front && !k.trapCopy && decide (p < 768) && (ptpOf s p).1 && (ptpOf s k.md.port).1 then
    match (sentHeaders frame).find? fun h => h.typ = .ptp with
    | some h =>
      let gain := ((txStamp s p ns).2.2 + 2 ^ 64 - k.rxTs.2.2 % 2 ^ 64) % 2 ^ 64
      patchPtp frame (h.off + 8) (be 8 ((rdBe frame (h.off + 8) 8 + gain) % 2 ^ 64))
    | none => frame
  else frame

/-- One-step Sync: originTimestamp is written, and a UDP checksum over IPv4 becomes 0 (Table 12.2; log entry 127). -/
def oneStep (s : State) (k : Packet) (p ns : Nat) (frame : Bytes) : Bytes :=
  let injected := k.origin = .cpuDirect || k.origin = .cpuPipe || k.origin = .ittas
  if injected && decide (p < 768) && (ptpOf s p).2 then
    let hs := sentHeaders frame
    match hs.find? fun h => h.typ = .ptp with
    | some h =>
      if rd frame h.off 1 % 16 != 0 || decide (frame.length < h.off + 44) || hs.any fun x => x.typ = .ipv6 then frame
      else
        let t := txStamp s p ns
        let out := patch frame (h.off + 34) (be 6 t.1 ++ be 4 t.2.1)
        match hs.find? fun x => x.typ = .udp with
        | some u => patch out (u.off + 6) (be 2 0)
        | none => out
    | none => frame
  else frame

/-- The frame as the template of its next hop rewrites it, without FCS (R123, R163, R166; log entry 125). -/
def rewritten (s : State) (k : Packet) (c : Copy) : Bytes :=
  let frame := k.bytes.take (k.bytes.length - 4)
  match templateOf s c with
  | some n =>
    let ops := be 6 n.dmac ++ be 6 (s.tab.rmac.get 0 n.smac) ++ le 2 n.vid ++ le 3 n.encap ++ k.md.bytes
    Config.rewrite (s.bank k.md.bank).hash n.template ops frame
  | none => frame

/-- The egress action entry of a packet, in its stamped bank (R123). -/
def egressAct (s : State) (k : Packet) : EgressAct :=
  if k.md.egress = 0xFFFF then {} else (bankBody (s.bank k.md.bank)).egress.get {} k.md.egress

/-- The mirror copy of an egress action: into a free session field (R123, R234; log entry 126). -/
def egressMirror (k : Packet) (p session : Nat) (frame : Bytes) (s : State) : State :=
  if session = 0 || session == k.md.mirrorA || session == k.md.mirrorB || k.md.mirrorCopy then s
  else if k.md.mirrorA != 0 && k.md.mirrorB != 0 then
    s.modFlight fun y => { y with mirrorExcess := y.mirrorExcess.upd 0 k.md.port (· + 1) }
  else makeMirror k frame session (endSlice k p) s

/-- A bad frame that has not been started when its end has come, or that is stored whole, is dropped (R92, R94). -/
def badAtStart (s : State) (k : Packet) (c : Copy) (ns : Nat) : Bool := k.bad && (!c.cut || decide (k.endAt ≤ nowNs s ns))

/-- The frame as it goes out, whether it is stomped, and whether it is dropped as EGRESS_OVERSIZE (R47, R93, R95). -/
def wireForm (s : State) (k : Packet) (c : Copy) (body : Bytes) : Bytes × Bool × Bool :=
  let max := portMax s c.port
  if max < body.length + 4 then (if c.cut then (withStomp (body.take (max - 4)), true, false) else ([], false, true))
  else if k.bad then (withStomp body, true, false)
  else (withFcs body, false, false)

/-- The egress half of a port's slice can start another packet in this beat: four per core cycle (R27). -/
def egressRoom (s : State) (p : Nat) : Bool := decide (800 ≤ p) || decide ((s.arb (egressSlice p)).egress < slotsPerBeat s)

/-- Start delimiters of 802.3br: express, verify and respond, and by frame count the starts and the continuations of
preemptable frames; the continuations' fragment counts (R101; PRESUMED from the standard, log entry 199). -/
def smdExpress : Nat := 0xD5
def smdVerify : Nat := 0x07
def smdRespond : Nat := 0x19
def smdStart (i : Nat) : Nat := nth [0xE6, 0x4C, 0x7F, 0xB3] (i % 4)
def smdContinue (i : Nat) : Nat := nth [0x61, 0x52, 0x9E, 0x2A] (i % 4)

/-- The mPacket that begins a frame on a port where preemption is active: an express one, or the start of the next
preemptable frame (R101). -/
def mmBegin (pre : Bool) (q : Port) : Port :=
  if pre then { q with mmFrame := (q.mmFrame + 1) % 4, mmFrag := 0, mmSmd := (smdStart (q.mmFrame + 1), 0) }
  else { q with mmSmd := (smdExpress, 0) }

/-- The mPacket that continues a preempted frame (R101). -/
def mmContinue (q : Port) : Port :=
  { q with mmFrag := (q.mmFrag + 1) % 4, mmSmd := (smdContinue q.mmFrame, smdStart q.mmFrag) }

/-- Transmission begins: the frame leaves its queue, and its wait is noted (R248, R260, R334). -/
def beginSend (p q ci ns : Nat) (lantern : Bool) (s : State) : State :=
  let c := s.copy ci
  let depth := queueDepth s p q
  let soj := (tsDiff (s.pkt c.pkt).md.ts (clockNanos s ns) (some (s.beat - (s.pkt c.pkt).born))).toNat
  let s := queueStat p q (fun x => { x with sojournHigh := max x.sojournHigh soj }) s
  let s := countAct 3 (cellsOf (s.pkt c.pkt).bytes.length) (unqueue p q ci s)
  let s := modCopy ci (fun c => { c with
    stage := .sending, depth := depth, lantern := lantern, start := nowNs s ns
    stages := c.stages ++ [clockNanos s (afterCycles s ns 16)] }) s
  let s := modTmPort p (fun t => { t with sending := some ci }) s
  let s := if p < 800 then modArb (egressSlice p) (fun a => { a with egress := a.egress + 1 }) s else s
  let s := if preempting s p then modPort p (mmBegin (preemptable s p (classOf p q))) s else s
  modPort p (fun x => { x with busyBeat := s.beat }) s

/-- The frame as it goes onto the wire, or its drop where rewriting made it too long; a requested timestamp is queued
(R92, R257, R361). -/
def sendBody (p ci ns tx : Nat) (k : Packet) (c : Copy) (body : Bytes) (s : State) : State :=
  let w := wireForm s k c body
  let s := if portMax s p < body.length + 4 then portCount p 63 1 s else s
  if w.2.2 then dropCopyEnd ci 52 ns s
  else
    let s := modCopy ci (fun c => { c with
      out := w.1, stomp := w.2.1, stompReason := if w.2.1 then 51 else 0, txTs := clockNanos s tx
      stages := c.stages ++ [clockNanos s tx] }) s
    let t := txStamp s p tx
    match k.tsId with
    | some i => addTxts { id := i, port := p, sec := t.1, ns := t.2.1 } s
    | none => s

/-- The egress half starts the frame of a queue's head (R123, R216, R242, R361). -/
def startFrame (p q ci ns : Nat) (s : State) : State :=
  let c := s.copy ci
  let k := s.pkt c.pkt
  let tx := afterCycles s ns 112
  let act := egressAct s k
  let s := beginSend p q ci ns act.lantern s
  if badAtStart s k c ns then dropCopyEnd ci k.badReason ns s
  else
    let body := rewritten s k c
    let body := if c.ecn then markEcn body else body
    let s := match act.mirror with | some m => egressMirror k p m (withFcs body) s | none => s
    if act.drop then dropCopyEnd ci 3 ns s
    else sendBody p ci ns tx k c (oneStep s k p tx (correctPtp s k p tx body)) s

/-- Queued copies of a port that can start now: stored frames that have arrived whole, and sprayed cut-through frames 128
cycles after their first cell, or all of whose cells are there (R46, R226). -/
def refreshReady (p ns : Nat) (s : State) : State :=
  let now := nowNs s ns
  let wait := 128 * 1000 / cyclesPerBeat s + 1
  let rdy (c : Copy) : Bool :=
    decide ((s.pkt c.pkt).endAt ≤ now) || (c.cut && decide (1000 * c.arrive.1 + c.arrive.2 + wait ≤ now))
  s.modBuf fun b => { b with copies := b.copies.mapAll fun _ c =>
    if c.port = p && c.stage = .queued && !c.ready then { c with ready := rdy c } else c }

/-- The port can send: it is up and awake, its slice works, and no planned switch holds it (R74, R78, R102, R501). -/
def portSends (s : State) (p : Nat) : Bool :=
  if p < 768 then
    let l := (s.lane p).quiet
    let x := s.slices.get {} (p / 24)
    (s.port p).up && s.ports.has p && l.tx == 0 && l.lpiTx == .off && sliceServed s (p / 24) && x.quietBeat != s.beat
  else if p < 800 then sliceServed s (p - 768) && (s.slices.get {} (p - 768)).quietBeat != s.beat
  else dataUp s

/-- A preempted remainder can go on: its gate is open and the rest, or a fragment of it, fits (R258). -/
def remainderReady (s : State) (p ci ns : Nat) : Bool :=
  let c := s.copy ci
  let t := classOf p c.queue
  let g := (s.tmPort p).gates
  bit g.states t && !(s.port p).mmHeld &&
    match timeToClose g t (clockNs s ns) with
    | none => true
    | some left =>
      let len := c.out.length - c.sent
      fitsIn (len + 20) (txRate s p) left ||
        (fitsIn (minFragment s p) (txRate s p) left && decide (minFragment s p + 40 ≤ len))

/-- The remainder of a preempted frame goes on: the rest of it where that fits, else a fragment (R258). -/
def resume (p ci ns : Nat) (s : State) : State :=
  let c := s.copy ci
  let fits := match timeToClose (s.tmPort p).gates (classOf p c.queue) (clockNs s ns) with
    | none => true
    | some left => fitsIn (c.out.length - c.sent + 20) (txRate s p) left
  let s := modCopy ci (fun c => { c with stage := .sending, start := nowNs s ns, last := fits }) s
  modTmPort p (fun t => { t with sending := some ci }) (modPort p (fun q => mmContinue { q with remainder := none }) s)

/-- Express queues of a port, in the 802.3br sense, of which one could start now. -/
def expressWaits (s : State) (p ns : Nat) : Bool :=
  (portQueues p).any fun q => !preemptable s p (classOf p q) && eligibleQueue s p q ns

/-- The CPU-port MAC has room for the frame (R369; log entry 129). -/
def macRoom (s : State) (p q : Nat) : Bool :=
  p != 800 || match queueOf s p q with
    | ci :: _ => decide (s.host.macFill + (s.pkt (s.copy ci).pkt).bytes.length ≤ 65536)
    | [] => false

/-- The scheduler's choice at a port that can start a frame (R242 to R245). -/
def chooseAndStart (p ns : Nat) (s : State) : State :=
  match chooseQueue s p ns with
  | none => s
  | some (q, tags) =>
    if !macRoom s p q || !egressRoom s p then s
    else match queueOf s p q with
      | [] => s
      | ci :: _ => startFrame p q ci ns (chargeShapers p q (headLen s p q) (recordTags p tags s))

/-- SCHEDULER_DECISION (R242, R258): an express frame may preempt; a waiting remainder goes on before any other
preemptable frame. -/
def schedulerDecision (p ns : Nat) (s : State) : State :=
  if !portSends s p then s
  else
    let s := latchHeld p ns (refreshReady p ns (eachDo (portQueues p) (purgeQueue p ns) s))
    let s := if (s.tmPort p).sending.isSome && expressWaits s p ns then preemptNow p ns s else s
    if (s.tmPort p).sending.isSome then s
    else match (s.port p).remainder with
      | some ci =>
        if !expressWaits s p ns && remainderReady s p ci ns then resume p ci ns s else chooseAndStart p ns s
      | none => chooseAndStart p ns s

/-- SCHEDULER_DECISION. -/
def execSchedulerDecision (port ns : Nat) (s : State) : Outc :=
  need (decide (port < 802)) "port" (.next (schedulerDecision port ns s))

/-- The cast type of a destination address: 0 unicast, 1 multicast, 2 broadcast (R106). -/
def castOf (frame : Bytes) : Nat :=
  if rdBe frame 0 6 = 2 ^ 48 - 1 then 2 else if bit (rd frame 0 1) 0 then 1 else 0

/-- Counters of a frame sent complete (R106, R261). -/
def countSent (p q : Nat) (out : Bytes) (s : State) : State :=
  let n := out.length
  let s := portCount p 32 n (portCount p 33 1 (portCount p (34 + castOf out) 1 (portCount p (37 + sizeBucket n) 1 s)))
  queueStat p q (fun x => { x with frames := x.frames + 1, bytes := x.bytes + n }) s

/-- Bytes of frame data that a started copy has sent by an instant, in ns from the first beat. -/
def sentBy (s : State) (c : Copy) (now : Nat) : Nat :=
  min (c.out.length - 4)
    (if c.stage == .sending then c.sent + ((now - c.start) * txRate s c.port / 8000 - 8) else c.sent)

/-- A started copy is ended early: the bytes it has sent by an instant, and the complement of the CRC-32 over them (R47). -/
def endEarly (reason now : Nat) (ci : Nat) (s : State) : State :=
  modCopy ci (fun c => { c with out := withStomp (c.out.take (sentBy s c now)), stomp := true, stompReason := reason }) s

/-- A frame is ended with a stomped FCS at its port: its counters (R47, R106). -/
def countStomped (p n : Nat) (s : State) : State := portCount p 47 1 (portCount p (37 + sizeBucket n) 1 s)

/-- TRANSMIT_COMPLETE: the last byte of a port's frame leaves, or it reaches the recirculation, CPU or Ittas port
(R47, R129, R259, R268, R377). -/
def transmitComplete (p ns : Nat) (s : State) : State :=
  match (s.tmPort p).sending with
  | none => s
  | some ci =>
    let c := s.copy ci
    let k := s.pkt c.pkt
    let t := classOf p c.queue
    let stomp := c.stomp || (k.bad && c.cut)
    let s := if c.cut && decide (assumedLength s k c + growthOf s k c < c.out.length) then
        modTmPort p (fun x => { x with overrun := addAt x.overrun t 1 }) s else s
    if stomp then
      let s := countStomped p c.out.length s
      dropCopyEnd ci (if c.stomp then c.stompReason else 51) ns s
    else
      let s := countSent p c.queue c.out s
      if p < 768 then sentCopyEnd ci c.out.length ns s
      else if p < 800 then recirculate ci ns s
      else if p = 801 then sentCopyEnd ci c.out.length ns s
      else
        let s := modTmPort p (fun x => { x with sending := none }) s
        s.modHost fun h => { h with mac := h.mac ++ [ci], macFill := h.macFill + c.out.length }

/-- TRANSMIT_COMPLETE. -/
def execTransmitComplete (port ns : Nat) (s : State) : Outc :=
  need (decide (port < 802)) "port" (.next (transmitComplete port ns s))

/-- Stored frames that have turned out bad before they were started are discarded (R47, R94). -/
def discardBad (s : State) : State :=
  let bad := s.buf.copies.filter fun e =>
    (s.pkt e.2.pkt).bad && (e.2.stage = .queued || e.2.stage = .crossing || e.2.stage = .waiting) &&
      badAtStart s (s.pkt e.2.pkt) e.2 1000
  eachDo bad (fun e => dropCopyEnd e.1 (s.pkt e.2.pkt).badReason 0) s

end Sys2Proof.Machine
end

