-- ==== Sys2Proof/Machine/PortFrames.lean ====
section
/-! DEFINITION. Front-panel ports: frames at the MAC, flow control, the PFC watchdog, preemption verification, link
state with the hold window, and the PORT service. -/

namespace Sys2Proof.Machine

/-- Priorities a port honours received pause for, before the express class is taken out: its PFC mask, or all under PAUSE
receive (R96, Table 3.8). -/
def pauseMask (q : Port) : Nat := if bit q.flags 1 then 0xFF else q.pfcMask

/-- A received pause time for one priority, from instant `at_` in ns from the first beat (R96, R98, R99, R100; log entry
131). -/
def loadPause (e at_ p time : Nat) (q : Port) : Port :=
  if !bit (pauseMask q) p || p == e then q
  else
    let beat := at_ / 1000
    let q := if time = 0 then q else { q with pauseLast := q.pauseLast.set p beat }
    if bit q.wdTrip p then q
    else { q with
      pause := q.pause.set p time
      pauseAt := q.pauseAt.set p at_
      pauseFrom := if nth q.pause p = 0 then q.pauseFrom.set p beat else q.pauseFrom }

/-- Whether a received flow-control frame for the priorities `vec` counts as ignored (R96, R99, R100; log entry 131). -/
def pauseIgnored (e vec mask : Nat) (q : Port) : Bool :=
  let ask := (bitsOf vec 8).filter fun p => bit mask p
  ask.any (fun p => p == e || bit q.wdTrip p) || bit vec e || ask.isEmpty

/-- The counts of a received PFC frame (R96, R99, R106). -/
def pfcCounts (e vec : Nat) (q : Port) : List (Nat × Nat) :=
  (bitsOf vec 8).map (fun p => (23 + p, 1)) ++ (if pauseIgnored e vec q.pfcMask q then [(31, 1)] else [])

/-- A PFC frame has been received by instant `at_`, in ns from the first beat (R96, R99). -/
def pfcReceive (port vec : Nat) (times : List Nat) (at_ : Nat) (s : State) : State :=
  match s.ports.find port with
  | none => s
  | some q =>
    if !q.up then s
    else
      let e := s.tm.expressTc
      let s := countAt port at_ s.buf.nextPkt (pfcCounts e vec q) s
      eachDo ((bitsOf vec 8).filter fun p => bit q.pfcMask p)
        (fun p => modPort port (loadPause e at_ p (nth times p % 65536))) s

/-- The counts of a MAC control frame of `n` bytes with cast type `c`: bytes and cast, no good frame and no bucket
(R106; DEDUCED, log entry 201). -/
def controlCounts (n c : Nat) : List (Nat × Nat) := [(0, n), (1, n), (3 + c, 1)]

/-- The octets and the multicast count of a control frame that a row of its own brings, 64 bytes long, where its port is up
(R106). -/
def controlOctets (port at_ : Nat) (s : State) : State :=
  if (s.port port).up then countAt port at_ s.buf.nextPkt (controlCounts 64 1) s else s

/-- PFC_FRAME_RECEIVE: its last byte passes the MAC `ns` into the beat. -/
def execPfcFrameReceive (port vec : Nat) (times : List Nat) (ns : Nat) (s : State) : Outc :=
  need (decide (port < 768)) "port"
    (.next (pfcReceive port vec times (nowNs s ns) (controlOctets port (nowNs s ns) s)))

/-- An Annex 31B PAUSE frame has been received by instant `at_` (R96, R99): it pauses every class but the express class where
PAUSE receive is set. -/
def pauseReceive (port time at_ : Nat) (s : State) : State :=
  match s.ports.find port with
  | none => s
  | some q =>
    if !q.up then s
    else
      let e := s.tm.expressTc
      let vec := if bit q.flags 1 then 0xFF else 0
      let s := countAt port at_ s.buf.nextPkt ([(22, 1)] ++ (if pauseIgnored e vec vec q then [(31, 1)] else [])) s
      eachDo (bitsOf vec 8) (fun p => modPort port (loadPause e at_ p (time % 65536))) s

/-- PAUSE_FRAME_RECEIVE: its last byte passes the MAC `ns` into the beat. -/
def execPauseFrameReceive (port time ns : Nat) (s : State) : Outc :=
  need (decide (port < 768)) "port"
    (.next (pauseReceive port time (nowNs s ns) (controlOctets port (nowNs s ns) s)))

/-- A received pause time has run out `ns` into the beat: quanta of 512 bit times at the port rate (R98). -/
def pauseOver (s : State) (port : Nat) (q : Port) (p ns : Nat) : Bool :=
  nth q.pause p != 0 && decide (nth q.pause p * 512000 ≤ (nowNs s ns - nth q.pauseAt p) * portRate s port)

/-- PAUSE_TIMER_EXPIRE: the priority is eligible again. -/
def pauseExpire (port p ns : Nat) (s : State) : State :=
  if pauseOver s port (s.port port) p ns then modPort port (fun q => { q with pause := q.pause.set p 0 }) s else s

/-- PAUSE_TIMER_EXPIRE. -/
def execPauseTimerExpire (port prio ns : Nat) (s : State) : Outc :=
  need (decide (port < 768) && decide (prio < 8)) "port or priority" (.next (pauseExpire port prio ns s))

/-- The flow-control frame that a port's state asks for: PFC with 0xFFFF for each asserted priority and 0 for each released
one, or PAUSE with 0xFFFF or 0 (R97, R98; log entry 140). -/
def flowFrame (q : Port) : FlowFrame :=
  if q.pfcMask != 0 || Nat.lor q.xoffSet q.pfcRelease != 0 then
    { pause := false, vec := Nat.lor q.xoffSet q.pfcRelease
      times := (List.range 8).map fun p => if bit q.xoffSet p then 0xFFFF else 0 }
  else { pause := true, vec := 0, times := [if q.pauseOn then 0xFFFF else 0] }

/-- A flow-control frame leaves, and is counted (R97, R98, R106). -/
def sendFlow (port : Nat) (s : State) : State :=
  let f := flowFrame (s.port port)
  let s := modPort port (fun q => { q with pfcDue := false, pfcRelease := 0, pfcBeat := s.beat, flow := some f }) s
  portCounts port ([(35, 1), (32, 64)] ++ (if f.pause then [] else (bitsOf f.vec 8).map fun p => (48 + p, 1))) s

/-- The port can put a flow-control frame on the wire: it is up and no frame is being sent (R98). -/
def flowFree (s : State) (port : Nat) : Bool :=
  s.ports.has port && (s.port port).up && (s.tmPort port).sending.isNone

/-- PFC_FRAME_SEND: the frame that a change of the XOFF set, or of PAUSE, asks for. -/
def pfcFrameSend (port : Nat) (s : State) : State :=
  if flowFree s port && (s.port port).pfcDue then sendFlow port s else s

/-- PFC_FRAME_SEND. -/
def execPfcFrameSend (port : Nat) (s : State) : Outc := need (decide (port < 768)) "port" (.next (pfcFrameSend port s))

/-- PFC_RESEND: every 8 beats while XOFF or PAUSE holds (R98). -/
def pfcResend (port : Nat) (s : State) : State :=
  let q := s.port port
  if flowFree s port && (q.xoffSet != 0 || q.pauseOn) && decide (q.pfcBeat + 8 ≤ s.beat) then sendFlow port s else s

/-- PFC_RESEND. -/
def execPfcResend (port : Nat) (s : State) : Outc := need (decide (port < 768)) "port" (.next (pfcResend port s))

/-- Copies queued at a port in the classes of a mask. -/
def queuedAt (s : State) (p mask : Nat) : List Nat :=
  (s.buf.copies.filter fun e => e.2.port == p && e.2.stage = .queued && bit mask (classOf p e.2.queue)).map (·.1)

/-- Flushes the queues of a port's classes with a ledger reason and a port counter (R88, R102, R104). -/
def flushQueues (p mask reason counter : Nat) (s : State) : State :=
  eachDo (queuedAt s p mask) (fun ci s => dropCopyEnd ci reason 0 (portCount p counter 1 s)) s

/-- EV_PORT_PFC_WD. -/
def tellWatchdog (p prio : Nat) (tripped : Bool) (s : State) : State :=
  raiseEvent 0x0403 (le 2 p ++ le 1 prio ++ le 1 (b2n tripped)) s

/-- The watchdog of a priority trips at the first boundary at which its received pause has been non-zero without a break
for WD_BEATS beats (R100). -/
def watchdogTrip (port p : Nat) (s : State) : State :=
  let q := s.port port
  if s.ports.has port && q.wd != 0 && bit q.pfcMask p && !bit q.wdTrip p && nth q.pause p != 0 &&
      decide (nth q.pauseFrom p + q.wd ≤ s.beat) then
    let s := modPort port (fun q => { q with wdTrip := setBit q.wdTrip p true }) s
    let cs := queuedAt s port (2 ^ p)
    tellWatchdog port p true
      (eachDo cs (fun ci s => dropCopyEnd ci 22 0 (portCount port 62 1 (portCount port (65 + p) 1 s))) s)
  else s

/-- PFC_WATCHDOG_TRIP: a watchdog trips at a boundary (R100; log entry 197). -/
def execPfcWatchdogTrip (port prio : Nat) (s : State) : Outc :=
  need (decide (port < 768) && decide (prio < 8)) "port or priority"
    (.next (atBoundary evWatchdogTrip (le 2 port ++ le 1 prio) s))

/-- The watchdog of a priority is restored (R100; log entry 132). -/
def unTrip (port p : Nat) (s : State) : State :=
  tellWatchdog port p false (modPort port (fun q => { q with
    wdTrip := setBit q.wdTrip p false, pauseFrom := q.pauseFrom.set p s.beat }) s)

/-- The watchdog restores at the first boundary after which no PFC frame with a non-zero time has come for RESTORE_BEATS
beats (R100). -/
def watchdogRestore (port p : Nat) (s : State) : State :=
  let q := s.port port
  if bit q.wdTrip p && decide (nth q.pauseLast p + q.restore ≤ s.beat) then unTrip port p s else s

/-- PFC_WATCHDOG_RESTORE: a watchdog restores at a boundary (R100; log entry 197). -/
def execPfcWatchdogRestore (port prio : Nat) (s : State) : Outc :=
  need (decide (port < 768) && decide (prio < 8)) "port or priority"
    (.next (atBoundary evWatchdogRestore (le 2 port ++ le 1 prio) s))

/-- The watchdogs of a port at a boundary. -/
def portWatchdogs (port : Nat) (s : State) : State :=
  eachDo (List.range 8) (fun p s => watchdogTrip port p (watchdogRestore port p s)) s

/-- The watchdogs of every port at a boundary, those told in the beat among them (R100). -/
def watchdogsBoundary (todo : List Pend) (s : State) : State :=
  let s := runPosted evWatchdogRestore todo (fun r => watchdogRestore (rd r 0 2) (rd r 2 1)) s
  let s := runPosted evWatchdogTrip todo (fun r => watchdogTrip (rd r 0 2) (rd r 2 1)) s
  eachDo s.ports.keys portWatchdogs s

/-- MM_VERIFY_RESPONSE (R101): verification succeeds. -/
def execMmVerifyResponse (port : Nat) (s : State) : Outc :=
  need (decide (port < 768)) "port" (.next (
    if (s.port port).mmStatus == 1 then modPort port (fun q => { q with mmStatus := 2 }) s else s))

/-- A verify mPacket is sent (R101). -/
def sendVerify (beat : Nat) (q : Port) : Port := { q with mmBeat := beat, mmSmd := (smdVerify, 0) }

/-- MM_VERIFY_TIMEOUT (R101, Table 3.4): no response within the verify time; three attempts, then FAILED. -/
def execMmVerifyTimeout (port : Nat) (s : State) : Outc :=
  need (decide (port < 768)) "port" (.next (
    if (s.port port).mmStatus == 1 && decide ((s.port port).mmBeat + 1000 * (s.port port).verifyMs ≤ s.beat) then
      modPort port (fun q =>
        let q := { q with mmTries := min 3 (q.mmTries + 1), mmStatus := if 2 ≤ q.mmTries then 3 else 1 }
        if q.mmStatus == 1 then sendVerify s.beat q else q) s
    else s))

/-- Verification starts anew when preemption is enabled and verified (R101; log entry 136). -/
def mmStart (beat : Nat) (q : Port) : Port :=
  let q := { q with mmTries := 0, mmStatus := if bit q.mmFlags 0 && !bit q.mmFlags 1 then 1 else 0 }
  if q.mmStatus == 1 then sendVerify beat q else q

/-- HOLD_WINDOW_EXPIRE: at boundary d + HOLD with the port still down, the held frames are flushed and the window ends
(R104). -/
def holdExpire (p : Nat) (s : State) : State :=
  let q := s.port p
  match q.holdStart with
  | none => s
  | some d =>
    if !q.up && decide (d + q.hold ≤ s.beat) then
      let s := flushQueues p 0xFF 34 60 s
      raiseEvent 0x0404 (le 2 p) (modPort p (fun q => { q with holdStart := none }) s)
    else s

/-- HOLD_WINDOW_EXPIRE: the window expires in P7 of its boundary (R104; log entry 197). -/
def execHoldWindowExpire (port : Nat) (s : State) : Outc :=
  need (decide (port < 768)) "port" (.next (atBoundary evHoldExpire (le 2 port) s))

/-- P7 for a port that went down at this boundary: the queues outside the hold mask are flushed (R102). -/
def downFlush (p : Nat) (s : State) : State :=
  let q := s.port p
  if !q.up && decide (q.linkBeat = s.beat) && decide (q.born < s.beat) then
    flushQueues p (clearBits 0xFF (if holding q then holdMask q else 0)) 32 59 s
  else s

/-- What a port's reconciliation sublayer sends to the partner. -/
inductive RsSignal where
  | data | idle | remoteFault | localFault
  deriving DecidableEq, Repr

/-- The signal a port's reconciliation sublayer sends (R70, R72, R89): Local Fault while the Snuffer holds the port in it;
Remote Fault while it receives Local Fault or a lane is in RELINK; idle while it receives Remote Fault; else data. Of two
that hold together the first named is sent (DESIGN CHOICE, log entry 204). -/
def rsSends (s : State) (p : Nat) : RsSignal :=
  let q := s.port p
  if !q.lfHold.isEmpty then .localFault
  else if q.lf || (portLanes s p).any (fun l => (s.lane l).state == 8) then .remoteFault
  else if q.rf then .idle
  else .data

/-- Whether a port's conditions for being up hold (R89). -/
def linkWanted (s : State) (p : Nat) (q : Port) : Bool :=
  q.admin && !q.lf && !q.rf && q.lfHold.isEmpty && (portLanes s p).all fun l => (s.lane l).state == 6

/-- A frame in transmission, or begun and preempted, is lost with the link (R91). -/
def abortSending (p : Nat) (s : State) : State :=
  let gone := (s.tmPort p).sending.toList ++ (s.port p).remainder.toList
  eachDo gone (fun ci s => dropCopyEnd ci 35 0 (portCount p 56 1 s)) s

/-- The port comes up (R90, R98, R104). -/
def portUp (p : Nat) (s : State) : State :=
  raiseEvent 0x0401 (le 2 p) (modPort p (fun q => mmStart s.beat { q with
    up := true, linkBeat := s.beat, holdStart := none
    holdDone := if q.holdStart.isSome then some s.beat else q.holdDone
    pfcDue := q.xoffSet != 0 || q.pauseOn, pfcRelease := 0 }) s)

/-- The port goes down (R47, R77, R90, R91, R102). -/
def portDown (p : Nat) (s : State) : State :=
  let s := quietEnd p (cutArrivals p (abortSending p s))
  raiseEvent 0x0402 (le 2 p) (modPort p (fun q => { q with
    up := false, linkBeat := s.beat, pfcDue := false, pfcRelease := 0, mmHeld := false
    holdStart := if holdMask q = 0 then none else some s.beat }) s)

/-- A port's link state follows its conditions at P3, after the software writes (R90). -/
def linkChange (p : Nat) (s : State) : State :=
  match s.ports.find p with
  | none => s
  | some q =>
    let w := linkWanted s p q
    if w == q.up then s else if w then portUp p s else portDown p s

/-- The link changes of a boundary, with the LAGs' active lists (R90, R164). -/
def linkChanges (s : State) : State :=
  lagRebuild (eachDo s.ports.keys linkChange s)

/-- HALF_RANGE_FOLD: 2^47 moves from a counter to its accumulator in one operation (R107). -/
def halfRangeFold (p i : Nat) (s : State) : State :=
  if bit ((s.port p).counts.get 0 i) 47 && decide (i < 64) then
    modPort p (fun q => { q with
      counts := q.counts.upd 0 i fun v => v - 2 ^ 47
      accs := q.accs.upd 0 i fun v => (v + 2 ^ 47) % 2 ^ 64 }) s
  else s

/-- HALF_RANGE_FOLD. -/
def execHalfRangeFold (port counter : Nat) (s : State) : Outc :=
  need (decide (port < 768) && decide (counter < 64)) "port or counter" (.next (halfRangeFold port counter s))

/-- A MAC control frame whose last byte passes the MAC at `at_`: its counters and what it asks for (R96, R106). -/
def controlFrame (port : Nat) (frame : Bytes) (at_ : Nat) (s : State) : State :=
  let s := countAt port at_ s.buf.nextPkt (controlCounts frame.length (castOf frame)) s
  if rdBe frame 14 2 = 0x0101 then
    pfcReceive port (rdBe frame 16 2 % 256) ((List.range 8).map fun p => rdBe frame (18 + 2 * p) 2) at_ s
  else if rdBe frame 14 2 = 0x0001 then pauseReceive port (rdBe frame 16 2) at_ s
  else countAt port at_ s.buf.nextPkt [(64, 1)] s

/-- The counts of a frame of 64 bytes or more that is no MAC control frame (R92, R106). -/
def receivedCounts (max : Nat) (frame : Bytes) (fcs ok : Bool) : List (Nat × Nat) :=
  let n := frame.length
  [(1, n)] ++ (if fcs then [] else [(16, 1)]) ++
    (if max < n then [(19, 1)]
     else [(6 + sizeBucket n, 1)] ++ (if ok then [(0, n), (2, 1), (3 + castOf frame, 1)] else []))

/-- Instant at which the last of `n` bytes comes, `arrived` of which are there `ns` into the beat. -/
def arrivalEnd (s : State) (port n arrived ns : Nat) : Nat :=
  nowNs s ns + (n - arrived) * 8000 / Nat.max 1 (portRate s port)

/-- A received frame joins its octet's FIFO, or finds no room (R30, R44, R92, R94; log entries 118 and 130). -/
def queueFrame (port max : Nat) (frame : Bytes) (arrived : Nat) (ok : Bool) (ns : Nat) (s : State) : State :=
  let kept := frame.take max
  let giant := decide (max < frame.length)
  let s := arriveUpTo (nowNs s ns) (port / 8) s
  let k : Packet := {
    md := { port := port, slice := sliceOfPort port, len := kept.length }
    bytes := kept, arrived := min arrived kept.length
    endAt := arrivalEnd s port kept.length arrived ns
    bad := giant || !ok, badReason := if giant then 50 else 49
    origin := .front, rxTs := rxStamp s port ns }
  if 65536 < fifoTaken s (port / 8) + kept.length then
    countAt port (arrivalEnd s port frame.length arrived ns) s.buf.nextPkt [(21, 1)] s
  else
    let (i, s) := newPkt k s
    xoffRefresh (s.modBuf fun b => { b with fifo := b.fifo.upd [] (port / 8) (· ++ [i]) })

/-- An uncorrectable codeword in a frame counts on every lane of the port, whose codeword is interleaved across them, and
their known-good second starts anew (R54, R69, R82; log entry 64). -/
def codeword (port : Nat) (s : State) : State :=
  if (s.lane port).fec = 0 then s
  else eachDo (portLanes s port) (fun l s => laneCount l 1 1 (modLane l (fun x => { x with goodBeat := s.beat }) s)) s

/-- FRAME_RECEIVE: the MAC's checks, the control frames, and the octet FIFO (R44, R92, R94, R101, R106). `ns` is the
instant at which the frame's timestamp point passes the ball. A frame of EtherType 0x8808 with a bad FCS or over MAX is
handled as a data frame, and one under 128 bytes with a good FCS and a code error is queued and dropped later as FCS_ERROR
(DESIGN CHOICE, log entries 202 and 203). -/
def frameReceive (port : Nat) (frame : Bytes) (arrived : Nat) (codeErr : Bool) (mm : MmKind) (ns : Nat) (s : State) :
    State :=
  match s.ports.find port with
  | none => s
  | some q =>
    if !q.up || !dataUp s then s
    else match mm with
      | .badAssembly => portCount port 58 1 s
      | .verify => modPort port (fun q => { q with mmSmd := (smdRespond, 0) }) s
      | .whole =>
        let n := frame.length
        let fcs := fcsOk frame
        let ok := fcs && !codeErr
        let at_ := arrivalEnd s port n arrived ns
        let i := s.buf.nextPkt
        let s := if codeErr then countAt port at_ i [(20, 1)] (codeword port s) else s
        if n < 64 then countAt port at_ i [(if fcs then 17 else 18, 1)] s
        else if rdBe frame 12 2 = 0x8808 && ok && decide (n ≤ q.max) then controlFrame port frame at_ s
        else
          let s := countAt port at_ i (receivedCounts q.max frame fcs ok) s
          if !fcs && decide (n < 128) && decide (n ≤ q.max) then s
          else queueFrame port q.max frame arrived ok ns s

/-- FRAME_RECEIVE. -/
def execFrameReceive (port : Nat) (frame : Bytes) (arrived : Nat) (codeErr : Bool) (mm : MmKind) (ns : Nat) (s : State) :
    Outc :=
  need (decide (port < 768) && decide (ns < 1000)) "port or instant"
    (.next (frameReceive port frame arrived codeErr mm ns s))

end Sys2Proof.Machine
end

