-- ==== Sys2Proof/Machine/PortCmds.lean ====
section
/-! DEFINITION. The PORT service: checks at acceptance and effects at the boundary. -/

namespace Sys2Proof.Machine

/-- ST_PORT_OVERLAP. -/
def stPortOverlap : Nat := 0x0401

/-- ST_PORT_STATE. -/
def stPortState : Nat := 0x0402

/-- Port a PORT request names (R109). -/
def portArg (p : Bytes) : Nat := rd p 0 2

/-- The requests of a kind that wait for a port. -/
def waitingFor (s : State) (kind p : Nat) : List Bytes := (waitingReqs s kind).filter fun r => portArg r == p

/-- The port exists and no accepted PORT.DELETE waits for it (R109; log entry 139). -/
def portThere (s : State) (p : Nat) : Bool := s.ports.has p && (waitingFor s 0x0402 p).isEmpty

/-- The port field's check (R109). -/
def portCheck (s : State) (p : Bytes) : Bool × Nat := (decide (portArg p < 768) && portThere s (portArg p), 0)

/-- The administrative state the accepted commands leave (log entry 139). -/
def adminAhead (s : State) (p : Nat) : Bool :=
  (waitingFor s 0x0403 p).foldl (fun _ r => rd r 2 1 == 1) (s.port p).admin

/-- Two lane ranges share a lane. -/
def rangesMeet (a n b m : Nat) : Bool := decide (a < b + m) && decide (b < a + n)

/-- A lane of a range belongs to a port, or will (R87; log entry 139). -/
def lanesTaken (s : State) (p w : Nat) : Bool :=
  s.ports.any (fun e => rangesMeet p w e.1 e.2.width) ||
    (waitingReqs s 0x0401).any fun r => rangesMeet p w (portArg r) (rd r 2 1)

/-- The checks of PORT.CREATE's fields (R85, R87, R109). -/
def createChecks (p w mode fec method : Nat) : List (Bool × Nat) :=
  [(decide (p < 768), 0), ([1, 2, 4, 8].contains w, 2), (decide (p % w = 0), 0), (widthAllowed w mode, 3),
   (fecAllowed mode fec, 4), (decide (method ≤ 2), 5)]

/-- PORT.CREATE (R85, R87). -/
def portCreateSpec : CmdSpec where
  need _ := 6
  run c p _ s :=
    checks (createChecks (portArg p) (rd p 2 1) (rd p 3 1) (rd p 4 1) (rd p 5 1))
      (require (!lanesTaken s (portArg p) (rd p 2 1)) stPortOverlap (postCmd c p [] s))

/-- PORT_CREATE. -/
def execPortCreate (m : Nat) (h : HostAnswer) (s : State) : Outc := acceptAs 0x0401 portCreateSpec m h s

/-- Mode, FEC and method of a lane as PORT.CREATE sets them (R54, R83, R87; log entry 135). -/
def setupLane (mode fec method l : Nat) (s : State) : State :=
  let was := (s.lane l).state
  let s := modLane l (fun x => { x with
    known := if x.mode == mode then x.known else none
    set := if mode == 1 || mode == 2 then { x.set with taps := (x.set.taps.set 0 0).set 1 0 } else x.set
    mode := mode, fec := fec, method := method, loopback := 0 }) (disableLane l 5 s)
  if was == 0 then s else enableLane l s

/-- The new port with its defaults (R87, R218). -/
def createPort (p w mode fec method : Nat) (s : State) : State :=
  let s := s.modPorts fun t => t.put p { width := w, born := s.beat, lfHold := lfHolders s p }
  let s := s.modTm fun t => { t with ports := t.ports.del p }
  eachDo (portLanes s p) (setupLane mode fec method) s

/-- PORT.CREATE at the boundary. -/
def applyPortCreate (order : Nat) (p : Bytes) (s : State) : State :=
  answerOk order [] (createPort (portArg p) (rd p 2 1) (rd p 3 1) (rd p 4 1) (rd p 5 1) s)

/-- PORT.DELETE (R88). -/
def portDeleteSpec : CmdSpec where
  need _ := 2
  run c p _ s :=
    checks [portCheck s p] (require (!adminAhead s (portArg p)) stPortState (postCmd c p [] s))

/-- PORT_DELETE. -/
def execPortDelete (m : Nat) (h : HostAnswer) (s : State) : Outc := acceptAs 0x0402 portDeleteSpec m h s

/-- The port is gone: its queues are flushed, its lanes disabled and its ID freed (R88, R218); cells its frames hold count
for no port any more. -/
def deletePort (p : Nat) (s : State) : State :=
  let ls := portLanes s p
  let s := flushQueues p 0xFF 32 59 (abortSending p s)
  let s := s.modBuf fun b => { b with pkts := b.pkts.mapAll fun _ k =>
    if k.chargePort.1 = p then { k with chargePort := (1023, k.chargePort.2) } else k }
  let s := eachDo ls (fun l => disableLane l 5) s
  lagRebuild ((s.modPorts fun t => t.del p).modTm fun t => { t with ports := t.ports.del p })

/-- PORT.DELETE at the boundary. -/
def applyPortDelete (order : Nat) (p : Bytes) (s : State) : State := answerOk order [] (deletePort (portArg p) s)

/-- PORT.ADMIN (R89, R109). -/
def portAdminSpec : CmdSpec where
  need _ := 3
  run c p _ s := checks [portCheck s p, (decide (rd p 2 1 ≤ 1), 2)] (postCmd c p [] s)

/-- PORT_ADMIN. -/
def execPortAdmin (m : Nat) (h : HostAnswer) (s : State) : Outc := acceptAs 0x0403 portAdminSpec m h s

/-- PORT.ADMIN at the boundary (log entry 134). -/
def applyPortAdmin (order : Nat) (p : Bytes) (s : State) : State :=
  answerOk order [] (modPort (portArg p) (fun q => { q with admin := rd p 2 1 == 1 }) s)

/-- PORT.CONFIG (R110). -/
def portConfigSpec : CmdSpec where
  need _ := 16
  run c p _ s :=
    checks [portCheck s p, (decide (rd p 2 1 < 8), 2), (decide (1518 ≤ rd p 4 2) && decide (rd p 4 2 ≤ 16384), 4),
      (decide (rd p 8 4 ≤ 1000000), 8)] (postCmd c p [] s)

/-- PORT_CONFIG. -/
def execPortConfig (m : Nat) (h : HostAnswer) (s : State) : Outc := acceptAs 0x0404 portConfigSpec m h s

/-- After new flow-control settings: watchdogs that no longer apply are restored, pause no longer honoured ends, and the
XOFF set follows (R96, R97, R100; log entry 133). -/
def settleFlow (p : Nat) (s : State) : State :=
  let q := s.port p
  let back := (List.range 8).filter fun i => bit q.wdTrip i && (q.wd == 0 || !bit q.pfcMask i)
  let s := modPort p (fun q => { q with
    pause := (List.range 8).map fun i => if bit (pauseMask q) i then nth q.pause i else 0 }) s
  xoffPort p (eachDo back (unTrip p) s)

/-- PORT.CONFIG at the boundary (R96, R110): PAUSE clears PFC. -/
def applyPortConfig (order : Nat) (p : Bytes) (s : State) : State :=
  let fl := rd p 2 1
  answerOk order [] (settleFlow (portArg p) (modPort (portArg p) (fun q => { q with
    flags := fl, holdMask := some (rd p 3 1), max := rd p 4 2, hold := rd p 8 4
    pfcMask := if bit fl 1 || bit fl 2 then 0 else q.pfcMask }) s))

/-- PORT.PFC_CONFIG (R96, R97, R99, R100), checked against the express class in force at acceptance (DESIGN CHOICE, log
entry 205). -/
def portPfcConfigSpec : CmdSpec where
  need _ := 16
  run c p _ s :=
    checks [portCheck s p, (!bit (rd p 2 1) s.tm.expressTc, 2), (decide (rd p 6 2 < rd p 4 2), 6),
      (decide (rd p 8 4 ≤ 1000000), 8), (decide (1 ≤ rd p 12 4) && decide (rd p 12 4 ≤ 1000000), 12)] (postCmd c p [] s)

/-- PORT_PFC_CONFIG. -/
def execPortPfcConfig (m : Nat) (h : HostAnswer) (s : State) : Outc := acceptAs 0x0407 portPfcConfigSpec m h s

/-- PORT.PFC_CONFIG at the boundary (R96): PFC clears PAUSE. -/
def applyPortPfcConfig (order : Nat) (p : Bytes) (s : State) : State :=
  let mask := rd p 2 1
  answerOk order [] (settleFlow (portArg p) (modPort (portArg p) (fun q => { q with
    pfcMask := mask, xoff := rd p 4 2, xon := rd p 6 2, wd := rd p 8 4, restore := rd p 12 4
    flags := if mask = 0 then q.flags else q.flags % 2 }) s))

/-- PORT.PREEMPT_CONFIG (R101). -/
def portPreemptConfigSpec : CmdSpec where
  need _ := 6
  run c p _ s :=
    checks [portCheck s p, (decide (rd p 2 1 < 4), 2), (!bit (rd p 3 1) s.tm.expressTc, 3), (decide (rd p 4 1 ≤ 3), 4),
      (decide (1 ≤ rd p 5 1) && decide (rd p 5 1 ≤ 128), 5)] (postCmd c p [] s)

/-- PORT_PREEMPT_CONFIG. -/
def execPortPreemptConfig (m : Nat) (h : HostAnswer) (s : State) : Outc := acceptAs 0x0408 portPreemptConfigSpec m h s

/-- PORT.PREEMPT_CONFIG at the boundary (log entry 136). -/
def applyPortPreemptConfig (order : Nat) (p : Bytes) (s : State) : State :=
  answerOk order [] (modPort (portArg p) (fun q => mmStart s.beat { q with
    mmFlags := rd p 2 1, mmMask := rd p 3 1, addFrag := rd p 4 1, verifyMs := rd p 5 1 }) s)

/-- PORT.FLUSH (R109): only while the port is down. -/
def portFlushSpec : CmdSpec where
  need _ := 3
  run c p _ s := checks [portCheck s p] (require (!(s.port (portArg p)).up) stPortState (postCmd c p [] s))

/-- PORT_FLUSH. -/
def execPortFlush (m : Nat) (h : HostAnswer) (s : State) : Outc := acceptAs 0x0409 portFlushSpec m h s

/-- PORT.FLUSH at the boundary. -/
def applyPortFlush (order : Nat) (p : Bytes) (s : State) : State :=
  answerOk order [] (flushQueues (portArg p) (rd p 2 1) 32 59 s)

/-- Beats left of a port's hold window (Table 3.9; log entry 138). -/
def holdLeft (s : State) (q : Port) : Nat :=
  if holding q then (q.holdStart.getD 0) + q.hold + 1 - s.beat else 0

/-- The response of PORT.STATUS (Table 3.9). -/
def portStatusBytes (s : State) (p : Nat) : Bytes :=
  let q := s.port p
  le 1 q.width ++
    le 1 (b2n q.admin + 2 * b2n q.up + 4 * b2n q.lf + 8 * b2n q.rf + 16 * b2n (!q.lfHold.isEmpty)) ++
    le 1 q.xoffSet ++ le 1 (maskOf ((List.range 8).filter fun i => nth q.pause i != 0)) ++ le 1 q.wdTrip ++
    le 1 (q.mmStatus % 4 + 4 * b2n (preempting s p)) ++ zeros 2 ++ le 8 q.linkBeat ++ le 4 (holdLeft s q) ++ zeros 4

/-- PORT.STATUS (R111). -/
def portStatusSpec : CmdSpec where
  need _ := 2
  run _ p _ s := checks [portCheck s p] (replyNow s (portStatusBytes s (portArg p)))

/-- PORT_STATUS. -/
def execPortStatus (m : Nat) (h : HostAnswer) (s : State) : Outc := acceptAs 0x0405 portStatusSpec m h s

/-- PORT.STATS (R108). -/
def portStatsSpec : CmdSpec where
  need _ := 3
  run c p _ s := checks [portCheck s p] (postCmd c p [] s)

/-- PORT_STATS. -/
def execPortStats (m : Nat) (h : HostAnswer) (s : State) : Outc := acceptAs 0x0406 portStatsSpec m h s

/-- The value of a port counter: the accumulator and the hardware count (R107). -/
def counterValue (q : Port) (i : Nat) : Nat := (q.accs.get 0 i + q.counts.get 0 i) % 2 ^ 64

/-- PORT.STATS at the boundary: a snapshot, cleared with it where the flag asks (R107, R108). -/
def applyPortStats (order : Nat) (p : Bytes) (s : State) : State :=
  let q := s.port (portArg p)
  let s := answerOk order (le 8 s.beat ++ (List.range 73).flatMap fun i => le 8 (counterValue q i)) s
  if bit (rd p 2 1) 0 then modPort (portArg p) (fun q => { q with counts := [], accs := [] }) s else s

end Sys2Proof.Machine
end

