-- ==== Sys2Proof/Machine/Slices.lean ====
section
/-! DEFINITION. Slices and the Ember: their states, the takeover of a failed slice and its losses, planned moves and
self-checks, and the SLICE commands (R22 to R24, R498 to R505). -/

namespace Sys2Proof.Machine

/-- A slice's record; 32 is the Ember (R498). -/
def State.slice (s : State) (i : Nat) : Slice := s.slices.get {} i

/-- Replaces a slice's record by its image. -/
def modSlice (i : Nat) (f : Slice → Slice) (s : State) : State := s.modSlices fun t => t.upd {} i f

/-- The slice of a source of domain slice (Table 16.2). -/
def sliceOfSource (src : Nat) : Nat := if src < 132 then src % 33 else (src - 132) % 96 / 3

/-- A slice or the Ember changes state, told with its cause: 1 fault, 2 command, 3 Ember failure (R505). -/
def setSlice (i st cause : Nat) (s : State) : State :=
  if (s.slice i).st == st then s
  else raiseEvent 0x1001 (le 1 i ++ le 1 (s.slice i).st ++ le 1 st ++ le 1 cause)
    (modSlice i (fun x => { x with st := st, beat := s.beat }) s)

/-- The same where the slice may be under self-check: it takes the state when the check ends (log entry 165). -/
def putSlice (i st cause : Nat) (s : State) : State :=
  if (s.slice i).st == 4 then modSlice i (fun x => { x with prev := st }) s else setSlice i st cause s

/-- The front-panel ports of a slice's lanes. -/
def portsOfSlice (s : State) (sl : Nat) : List Nat := s.ports.keys.filter fun p => p / 24 == sl

/-- Local Fault is held on, or released from, every port of a slice's lanes (R456, R499, R502). -/
def sliceFault (sl : Nat) (on : Bool) (s : State) : State :=
  eachDo (portsOfSlice s sl) (fun p => modPort p fun q => { q with
    lfHold := q.lfHold.filter (· != 1000 + sl) ++ (if on then [1000 + sl] else []) }) s

/-- T1: what is lost with a slice's halves (R500): packets in the ingress pipeline, frames queued for its ports, waiting
in its resequencer or being sent, each EMBER_LOSS; a frame being sent is ended with the complement of its CRC. -/
def loseSlice (sl : Nat) (s : State) : State :=
  let parsing := s.buf.parsing.keys.filter fun i => (s.pkt i).md.slice == sl
  let s := eachDo parsing (fun i s => dropIngress i 36 0 (s.modBuf fun b => { b with parsing := b.parsing.del i })) s
  let s := eachDo (s.arb sl).waiting (fun w => dropIngress w.pkt 36 0) (modArb sl (fun a => { a with waiting := [] }) s)
  let mine := s.buf.copies.filter fun e => egressSlice e.2.port == sl && decide (e.2.port < 800) && e.2.stage != .crossing
  let s := eachDo mine (fun e s =>
    let cut := (e.2.stage == .sending || e.2.stage == .remainder) && decide (e.2.port < 768)
    dropCopyEnd e.1 36 0 (if cut then
      countStomped e.2.port (sentBy s e.2 (nowNs s 1000) + 4) (endEarly 36 (nowNs s 1000) e.1 s) else s)) s
  reseqLost sl s

/-- Slice `sl` becomes DOWN, with Local Fault on its ports (R499). -/
def sliceDown (sl cause : Nat) (s : State) : State := sliceFault sl true (putSlice sl 3 cause s)

/-- A move of slice `sl` begins (R499, R501): both halves become MOVING. -/
def startMove (sl cause : Nat) (s : State) : State :=
  let s := setSlice 32 1 cause (setSlice sl 1 cause s)
  modSlice 32 (fun x => { x with peer := sl }) (modSlice sl (fun x => { x with peer := 32, loaded := false }) s)

/-- The Snuffer isolates slice `sl` (R456, R499, R501). -/
def isolateSlice (sl : Nat) (s : State) : State :=
  let x := s.slice sl
  if x.st == 0 then
    let s := loseSlice sl (modSlice sl (fun x => { x with passed := false, planned := false, releasing := false, order := 0, prev := 0 }) s)
    if (s.slice 32).st == 0 then startMove sl 1 s else sliceDown sl 1 s
  else if x.st == 1 && x.releasing then
    let s := answer x.order 0x1003 0 [] s
    let s := modSlice sl (fun x => { x with passed := false, releasing := false, order := 0, loaded := false }) s
    setSlice 32 2 1 (setSlice sl 2 1 s)
  else if x.st == 1 && x.planned then
    let s := loseSlice sl (modSlice sl (fun y => { y with
      passed := false, planned := false, loaded := false, prev := 0, homeDue := false }) s)
    if x.homeDue then sliceDown sl 1 s else s
  else s

/-- The slice that the Ember served or was taking on loses it (R499): it goes HOME at the next boundary when it moves, or
moved, under a planned move and has raised no fault since; else it becomes DOWN. What the Ember held is lost, and the
streams close its gaps; a slice that still forwards from home loses nothing. -/
def emberLeaves (t : Nat) (s : State) : State :=
  let x := s.slice t
  let moving := x.st == 1 && !x.releasing
  let s := answer x.order 0x1002 0 [] s
  let home := (x.planned || x.releasing) && !x.faulted
  let s := if moving && home then s else changeEpoch t (loseSlice t s)
  let s := modSlice t (fun y => { y with
    peer := 0xFF, releasing := false, order := 0, loaded := false, planned := moving && home }) s
  if home then modSlice t (fun x => { x with homeDue := true }) s else sliceDown t 3 s

/-- The Snuffer isolates the Ember (R499). -/
def isolateEmber (s : State) : State :=
  let t := (s.slice 32).peer
  let s := putSlice 32 3 1 (modSlice 32 (fun x => { x with peer := 0xFF }) s)
  if t < 32 then emberLeaves t s else s

/-- Slices isolated in one P9: the Ember first, then the others by number, so that the lowest takes a SPARE Ember (R499;
log entry 166). -/
def isolateAll (l : List Nat) (s : State) : State :=
  let s := if l.contains 32 then isolateEmber s else s
  eachDo ((List.range 32).filter l.contains) isolateSlice s

/-- A real fault event of a slice is noted for R499. -/
def noteSliceFault (src : Nat) (s : State) : State :=
  if sourceDomain src == 3 then modSlice (sliceOfSource src) (fun x => { x with faulted := true }) s else s

/-- EMBER_CONFIG_LOADED: T3 ends; the switch comes at P3 of the boundary that ends it (R499, R501). -/
def emberLoaded (s : State) : State :=
  if (s.slice 32).st == 1 then modSlice (s.slice 32).peer (fun x => { x with loaded := true }) s else s

/-- EMBER_CONFIG_LOADED. -/
def execEmberConfigLoaded (s : State) : Outc := .next (emberLoaded s)

/-- The selectors switch to the Ember (R499, R501, R232). -/
def switchToEmber (t : Nat) (s : State) : State :=
  let x := s.slice t
  let cause := if x.planned || x.prev == 3 then 2 else 1
  let s := if x.planned then modSlice t (fun x => { x with quietBeat := s.beat + 1, faulted := false }) s
    else sliceFault t false (changeEpoch t s)
  let s := answerBeat x.order (modSlice t (fun x => { x with loaded := false, order := 0, prev := 0 }) s)
  setSlice 32 2 cause (setSlice t 2 cause s)

/-- The selectors switch back to the home paths (R501). -/
def switchHome (t : Nat) (s : State) : State :=
  let order := (s.slice t).order
  let s := modSlice t (fun x => { x with
    loaded := false, releasing := false, planned := false, order := 0, peer := 0xFF, quietBeat := s.beat + 1 }) s
  let s := answerBeat order (modSlice 32 (fun x => { x with peer := 0xFF }) s)
  setSlice 32 0 2 (setSlice t 0 2 s)

/-- EMBER_SWITCH: at P3 of the boundary that ends T3 (R499, R501). -/
def emberSwitch (s : State) : State :=
  let t := (s.slice 32).peer
  if (s.slice 32).st == 1 && decide (t < 32) && (s.slice t).loaded then
    (if (s.slice t).releasing then switchHome t s else switchToEmber t s)
  else s

/-- EMBER_SWITCH: the switch is P3's (log entry 197). -/
def execEmberSwitch (s : State) : Outc := .next (atBoundary evEmberSwitch [] s)

/-- A slice that the Ember has left goes HOME at the next boundary (R499). -/
def goHome (t : Nat) (s : State) : State :=
  if (s.slice t).homeDue then
    putSlice t 0 3 (modSlice t (fun x => { x with homeDue := false, planned := false }) s)
  else s

/-- The slices at P3: a finished T3 switches, and a slice the Ember left goes home. -/
def slicesBoundary (s : State) : State := emberSwitch (eachDo (List.range 32) goHome s)

/-- A self-check ends with a failing check code, 0 for none (R502). -/
def selfCheckDone (i code : Nat) (s : State) : State :=
  let x := s.slice i
  let boot := i == 32 && x.st == 0 && s.boot.emberCheck
  if x.st != 4 && !boot then s
  else
    let ok := code == 0
    let s := s.modBoot fun b => { b with emberCheck := b.emberCheck && i != 32 }
    let s := modSlice i (fun x => { x with check := if ok then 1 else 2, passed := x.passed || ok }) s
    let s := if boot then s else setSlice i (if ok && i == 32 && x.prev == 3 then 0 else x.prev) 2 s
    let s := if ok then s else detect (99 + i) code 0 [] s
    raiseEvent 0x1002 (le 1 i ++ le 1 (if ok then 1 else 2) ++ zeros 2 ++ le 4 code) s

/-- SELF_CHECK_DONE. -/
def execSelfCheckDone (slice code : Nat) (s : State) : Outc :=
  need (decide (slice < 33)) "slice" (.next (selfCheckDone slice code s))

/-- ST_SLICE_STATE. -/
def stSliceState : Nat := 0x1001

/-- The slice field's check. -/
def sliceCheck (p : Bytes) (n : Nat) : Bool × Nat := (decide (rd p 0 1 < n), 0)

/-- An entry of SLICE.STATUS (R504). -/
def sliceBytes (x : Slice) : Bytes := le 1 x.st ++ le 1 x.peer ++ le 1 x.check ++ zeros 1 ++ le 8 x.beat

/-- SLICE.STATUS (R504). -/
def sliceStatusSpec : CmdSpec where
  need _ := 0
  run _ _ _ s := replyNow s ((List.range 33).flatMap fun i => sliceBytes (s.slice i))

/-- SLICE_STATUS. -/
def execSliceStatus (m : Nat) (h : HostAnswer) (s : State) : Outc := acceptAs 0x1001 sliceStatusSpec m h s

/-- SLICE.TAKEOVER (R501, R504): answered after the switch. -/
def sliceTakeoverSpec : CmdSpec where
  need _ := 1
  run c p _ s :=
    let t := rd p 0 1
    let st := (s.slice t).st
    checks [sliceCheck p 32] (require ((st == 0 || st == 3) && !(s.slice t).homeDue) stSliceState
      (require ((s.slice 32).st == 0) 0x1002
        (replyLater (startMove t 2 (modSlice t (fun x => { x with
          planned := st == 0, releasing := false, order := c.order, prev := st
          passed := x.passed && st == 3, faulted := false }) s)))))

/-- SLICE_TAKEOVER. -/
def execSliceTakeover (m : Nat) (h : HostAnswer) (s : State) : Outc := acceptAs 0x1002 sliceTakeoverSpec m h s

/-- Octets of a slice as sources of OCTET_PATH_FAIL, with its other sources that R502 names. -/
def releaseSources (t : Nat) : List Nat := [t, 66 + t, 99 + t, 132 + 3 * t, 133 + 3 * t, 134 + 3 * t]

/-- The three conditions of R502. -/
def mayRelease (s : State) (t : Nat) : Bool :=
  (s.slice t).passed && !(releaseSources t).any (realLatched s) && (s.slice 32).st != 1

/-- SLICE.RELEASE (R501, R502, R504). -/
def sliceReleaseSpec : CmdSpec where
  need _ := 1
  run c p _ s :=
    let t := rd p 0 1
    let st := (s.slice t).st
    checks [sliceCheck p 32] (require ((st == 2 || st == 3) && !(s.slice t).homeDue) stSliceState
      (require (mayRelease s t) 0x1003
        (if st == 3 then postCmd c p [] s
         else replyLater (startMove t 2 (modSlice t (fun x => { x with releasing := true, order := c.order, faulted := false }) s)))))

/-- SLICE_RELEASE. -/
def execSliceRelease (m : Nat) (h : HostAnswer) (s : State) : Outc := acceptAs 0x1003 sliceReleaseSpec m h s

/-- SLICE.RELEASE of a DOWN slice at the boundary: HOME, and its Local Fault is released (R502). One that has left DOWN
since stays as it is. -/
def applySliceRelease (order : Nat) (p : Bytes) (s : State) : State :=
  let t := rd p 0 1
  if (s.slice t).st == 3 then answerBeat order (changeEpoch t (sliceFault t false (setSlice t 0 2 s)))
  else answer order stSliceState 0 [] s

/-- SLICE.SELF_CHECK (R502, R504): the result follows in EV_SLICE_CHECKED. -/
def sliceSelfCheckSpec : CmdSpec where
  need _ := 1
  run _ p _ s :=
    let t := rd p 0 1
    let st := (s.slice t).st
    checks [sliceCheck p 33] (require ((st == 3 || (if t == 32 then st == 0 else st == 2)) && !(s.slice t).homeDue) stSliceState
      (replyNow (setSlice t 4 2 (modSlice t (fun x => { x with prev := st }) s)) []))

/-- SLICE_SELF_CHECK. -/
def execSliceSelfCheck (m : Nat) (h : HostAnswer) (s : State) : Outc := acceptAs 0x1004 sliceSelfCheckSpec m h s

end Sys2Proof.Machine
end

