-- ==== Sys2Proof/Machine/Faults.lean ====
section
/-! DEFINITION. The fault collector, the Snuffer and WICK: latches, escalation, grace timers, safe states, clearing, force
bits, the logs, the WICK pin and the Ittas watchdog, and the FAULT commands (R450 to R469, R522). -/

namespace Sys2Proof.Machine

/-- A source's record (R451). -/
def State.src (s : State) (i : Nat) : Src := s.fault.srcs.get {} i

/-- Replaces a source's record by its image. -/
def modSrc (i : Nat) (f : Src → Src) (s : State) : State :=
  s.modFault fun c => { c with srcs := c.srcs.upd {} i f }

/-- The REAL latch of a source, or the FORCED one (R452). -/
def Src.latch (r : Src) (real : Bool) : Latch := if real then r.real else r.forced

/-- Replaces one of a source's latches. -/
def putLatch (i : Nat) (real : Bool) (l : Latch) (s : State) : State :=
  modSrc i (fun r => if real then { r with real := l } else { r with forced := l }) s

/-- An entry joins the fault log (R463). -/
def logFault (src cls eff kind flags inst : Nat) (detail : Bytes) (s : State) : State :=
  let e := le 8 s.beat ++ le 2 src ++ le 1 cls ++ le 1 eff ++ le 1 kind ++ le 1 flags ++ zeros 2 ++ le 4 inst ++ part detail 0 12
  s.modFault fun f => { f with
    log := (e :: f.log).take 1024
    logHead := satAdd 32 f.logHead 1
    logLost := if f.log.length < 1024 then f.logLost else satAdd 32 f.logLost 1 }

/-- FLT_CTRL.GRACE_MODE is set and so is the source's GRACE (R459). -/
def graced (s : State) (i : Nat) : Bool := s.fault.graceMode && bit (sourceCfg s i) 2

/-- An event of an instance and a class meets this latch unacknowledged (R453). -/
def Latch.meets (l : Latch) (inst cls : Nat) : Bool := l.set && !l.acked && l.inst == inst && l.cls == cls

/-- An event is due for the Snuffer, when it, or the one it escalated against, is real or FORCE_ACT is set (R456). -/
def queueAct (i inst : Nat) (act real : Bool) (s : State) : State :=
  if act || s.fault.forceAct then s.modFault fun f => { f with act := f.act ++ [(i, inst, real)] } else s

/-- The latch of an event's origin takes it: set with its class and instance, or counted, its class at most raised (R452,
R453). -/
def Latch.take (l : Latch) (inst eff : Nat) : Latch :=
  if l.set then { l with cls := max l.cls eff, count := satAdd 16 l.count 1 }
  else { set := true, cls := eff, inst := inst, count := 1 }

/-- A real or forced event: escalation, latch, grace timer or Snuffer, and log entry (R452, R453, R456, R459, R463). -/
def latchEvent (i inst cls : Nat) (real : Bool) (detail : Bytes) (s : State) : State :=
  let r := s.src i
  let onReal := r.real.meets inst cls
  let esc := (onReal || r.forced.meets inst cls) && decide (cls < 3)
  let g := graced s i
  let eff := if esc && !g then cls + 1 else cls
  let hold := g && (esc || eff == 3)
  let act := real || (esc && onReal)
  let flags := b2n (!real) + 2 * b2n (esc && !g) + 8 * b2n hold
  let was := r.latch real
  let s := putLatch i real (was.take inst eff) s
  let s := if was.set then s else s.modFault fun f => { f with
    fresh := f.fresh ++ [{ src := i, cls := cls, eff := eff, flags := flags, inst := inst }] }
  let now := s.src i
  let wait := if esc then [onReal] else [true, false].filter fun b => (now.latch b).set
  let s := if hold then s.modFault fun f => { f with timers := f.timers ++ [
      { src := i, left := f.grace, esc := esc, real := real, act := act, inst := inst, cls := cls, wait := wait, detail := detail }] }
    else if eff == 3 then queueAct i inst act real s else s
  logFault i cls eff 1 flags inst detail s

/-- A latch has been acknowledged or cleared: grace timers that wait for it no longer do (R459). `esc`: those of
escalations, `action`: those of Snuffer actions. -/
def unwait (i : Nat) (real esc action : Bool) (s : State) : State :=
  s.modFault fun f => { f with timers := f.timers.map fun t =>
    if t.src == i && (if t.esc then esc else action) then { t with wait := t.wait.filter (· != real) } else t }

/-- The way out that a clear opens (Table 16.4, R72): lanes and ports are no longer held for the source. -/
def releaseSafe (i : Nat) (s : State) : State :=
  let d := sourceDomain i
  if d == 1 || d == 8 then s.modLanes fun t => t.mapAll fun _ x => { x with held := x.held.filter (· != i) }
  else if d == 2 || d == 4 then s.modPorts fun t => t.mapAll fun _ q => { q with lfHold := q.lfHold.filter (· != i) }
  else s

/-- A latch is cleared for good: what it supported is released (R460). -/
def dropLatch (i : Nat) (real : Bool) (s : State) : State :=
  let had := safeHeld s i
  let s := unwait i real true true (putLatch i real {} s)
  let s := modSrc i (fun r => { r with safe := r.safe.filter (· != real) }) s
  if had && !safeHeld s i then releaseSafe i s else s

/-- A latch is acknowledged (R454). -/
def ackLatch (i : Nat) (real auto : Bool) (s : State) : State :=
  let l := (s.src i).latch real
  logFault i l.cls l.cls 2 (b2n (!real) + 16 * b2n auto) l.inst []
    (unwait i real true false (putLatch i real { l with acked := true } s))

/-- Whether a cleared latch is set again: the level source's condition is present, or the force bit is set (R460, R461;
log entry 167). -/
def causeStays (s : State) (i : Nat) (real : Bool) : Bool :=
  if real then sourceLevel i && !(s.src i).causes.isEmpty else (s.src i).force

/-- A latch is cleared; a lasting cause sets it again, unacknowledged (R460). -/
def clearLatch (i : Nat) (real : Bool) (s : State) : State :=
  let l := (s.src i).latch real
  let s := logFault i l.cls l.cls 3 (b2n (!real)) l.inst [] s
  if causeStays s i real then
    raiseEvent 0x0E03 (le 2 i ++ le 1 (b2n (!real)) ++ zeros 5 ++ le 4 l.inst)
      (logFault i l.cls l.cls 4 (b2n (!real) + 32) l.inst [] (putLatch i real { l with acked := false, pers := true } s))
  else dropLatch i real s

/-- A force bit is set or cleared (R461): a set raises the forced event with its class and instance; a clear removes the
cause and the FORCED latch. -/
def setForce (i : Nat) (on : Bool) (cls inst : Nat) (s : State) : State :=
  let r := s.src i
  if on == r.force then s
  else if on then
    latchEvent i inst (if cls == 0 then sourceClass i else cls) false []
      (modSrc i (fun r => { r with force := true, forceAs := (cls, inst) }) s)
  else
    let s := logFault i r.forced.cls r.forced.cls 6 1 r.forced.inst [] (modSrc i (fun r => { r with force := false }) s)
    if r.forced.set then dropLatch i false s else s

/-- Kinds of waiting settings that belong to the collector: FAULT commands, and the FLT_ and WICK_ registers (R467,
R468). -/
def isFaultKind (k : Nat) : Bool :=
  (decide (0x0E00 ≤ k) && decide (k < 0x0F00)) || (decide (0x13400 ≤ k) && decide (k < 0x13580))

/-- The latches a mask names that are SET, bit 0 REAL and bit 1 FORCED. -/
def namedLatches (s : State) (i mask : Nat) : List Bool :=
  (if bit mask 0 && (s.src i).real.set then [true] else []) ++ (if bit mask 1 && (s.src i).forced.set then [false] else [])

/-- Sets bits of the source settings: HOST_REPORT, AUTO_ACK, GRACE (R467). -/
def setSrcCfg (i v : Nat) (s : State) : State := if i < 448 then modSrc i (fun r => { r with cfg := some (v % 8) }) s else s

/-- F1, and the settings of the group (R455, R461, R467, R468; log entry 164). -/
def faultStep1 (w : Pend) (s : State) : State :=
  let v := rd w.req 0 4
  let o := w.kind - 0x10000
  if w.kind == 0x0E04 then
    answerBeat w.order (setForce (rd w.req 0 2) (rd w.req 2 1 == 1) (rd w.req 3 1) (rd w.req 4 4) s)
  else if w.kind == 0x0E06 then
    let i := rd w.req 0 2
    let s := eachDo (if i == 0xFFFF then List.range 448 else [i]) (fun j => setSrcCfg j (rd w.req 2 1)) s
    answerBeat w.order (s.modFault fun f => { f with
      graceMode := bit (rd w.req 3 1) 0, forceAct := bit (rd w.req 3 1) 1, grace := clampTo 1000 1000000 (rd w.req 4 4) })
  else if w.kind < 0x10000 then s
  else if o == 0x3400 then s.modFault fun f => { f with graceMode := bit v 0, forceAct := bit v 1 }
  else if o == 0x3408 then s.modFault fun f => { f with grace := clampTo 1000 1000000 v }
  else if o == 0x340C then s.modFault fun f => { f with sel := v % 512 }
  else if o == 0x341C then setSrcCfg s.fault.sel v s
  else if o == 0x342C then s.modFault fun f => { f with forceCfg := v % 4 }
  else if o == 0x3430 then s.modFault fun f => { f with forceInst := v }
  else if o == 0x3504 then s.modWick fun x => { x with limit := clampTo 200000 10000000 v }
  else if 0x34C0 ≤ o && o < 0x34F8 && o % 4 == 0 then
    eachDo (List.range 32) (fun b s => setForce (8 * (o - 0x34C0) + b) (bit v b) s.fault.forceCfg s.fault.forceInst s) s
  else s

/-- F2: acknowledgements and clears (R455, R460, R468). -/
def faultStep2 (w : Pend) (s : State) : State :=
  let cmd := w.kind == 0x0E02 || w.kind == 0x0E03
  let reg := w.kind == 0x13424 || w.kind == 0x13428
  let v := rd w.req 0 4
  let i := if cmd then rd w.req 0 2 else v % 512
  let named := namedLatches s i (if cmd then rd w.req 2 1 else v / 65536)
  if !cmd && !reg then s
  else if named.isEmpty then answer w.order 0x0E01 0 [] s
  else if w.kind == 0x0E02 || w.kind == 0x13424 then answerBeat w.order (eachDo named (fun b => ackLatch i b false) s)
  else
    let stays := named.any (causeStays s i)
    let s := eachDo named (clearLatch i) s
    answerOk w.order (if cmd then le 8 s.beat ++ le 1 (b2n stays) else []) s

/-- F3: the real events, in detection order (R455). -/
def faultStep3 (s : State) : State :=
  let evs := s.fault.evs
  eachDo evs (fun e s => noteSliceFault e.src (latchEvent e.src e.inst e.cls true e.detail s))
    (s.modFault fun f => { f with evs := [] })

/-- The end of a grace timer (R459). -/
def graceEnd (t : GraceTimer) (s : State) : State :=
  let flags := 8 + b2n (!t.real)
  let on := !t.wait.isEmpty
  if t.esc then
    if on then
      let eff := t.cls + 1
      let was := (s.src t.src).latch t.real
      let s := putLatch t.src t.real (if was.set then { was with cls := max was.cls eff } else was.take t.inst eff) s
      let s := if was.set then s else s.modFault fun f => { f with
        fresh := f.fresh ++ [{ src := t.src, cls := t.cls, eff := eff, flags := flags + 2, inst := t.inst }] }
      let s := if eff == 3 then queueAct t.src t.inst t.act t.real s else s
      logFault t.src t.cls eff 5 (flags + 2) t.inst t.detail s
    else logFault t.src t.cls t.cls 5 flags t.inst t.detail s
  else
    logFault t.src t.cls t.cls 5 flags t.inst t.detail (if on then queueAct t.src t.inst t.act t.real s else s)

/-- The grace timers that end at this P9 and that a test names end (R459). -/
def graceEnds (which : Nat → Bool) (s : State) : State :=
  let due := s.fault.timers.filter fun t => t.left == 0 && which t.src
  eachDo due graceEnd (s.modFault fun f => { f with timers := f.timers.filter fun t => !(t.left == 0 && which t.src) })

/-- F4: timers end, and the others count this P9 or run (R455, R459, R522). -/
def faultStep4 (s : State) : State :=
  (graceEnds (fun _ => true) s).modFault fun f => { f with timers := f.timers.map fun t => { t with left := t.left - 1 } }

/-- A lane is held in electrical idle for a source (R72, R456). -/
def snuffLane (i l : Nat) (s : State) : State :=
  modLane l (fun x => { x with held := x.held.filter (· != i) ++ [i] }) (disableLane l 6 s)

/-- Local Fault is held on a port for a source (R72, R456). -/
def snuffPort (i p : Nat) (s : State) : State :=
  modPort p (fun q => { q with lfHold := q.lfHold.filter (· != i) ++ [i] }) s

/-- The four cores are halted, and 100 ms later a restart follows (R456, R495). -/
def haltIttas (i : Nat) (s : State) : State :=
  if s.boot.halted && !s.boot.restarting then s
  else s.modBoot fun b => { b with
    halted := true, haltCause := i % 256, ittasDue := true, dueAt := s.beat + 100000, auto := true, restarting := false }

/-- The safe state of the domain that a source and an instance name, but for a slice, which is isolated with the others
of its P9 (Table 16.4, R481, R482). -/
def enterSafe (i inst : Nat) (s : State) : State :=
  let d := sourceDomain i
  if d == 1 then
    let ls := if 364 ≤ i then (List.range 192).map (192 * (i - 364) + ·) else if inst < 768 then [inst] else []
    eachDo ((ls.flatMap (groupOfLane s)).eraseDups) (snuffLane i) s
  else if d == 2 then snuffPort i inst s
  else if d == 4 then eachDo (s.ports.keys.filter fun p => p / 192 == (i - 324) % 4) (snuffPort i) s
  else if d == 5 then memLoss ((i - 387) % 4) (memLosing ((i - 387) % 4) 0 s)
  else if d == 6 then haltIttas i s
  else if d == 7 then (if [408, 413, 415].contains i then busOff1 s else busOff0 s)
  else if d == 8 then
    let s := eachDo (List.range 768) (snuffLane i) s
    s.modTime fun t => { t with pulse := false }
  else s

/-- A real THERMAL_TRIP or COOLANT_STOP also stops the core PLL and the dies in the same P9, which is the Dimmer's doing and
follows no forced event (R462, R481, R482; log entry 185). -/
def tripStop (i : Nat) (real : Bool) (s : State) : State :=
  if real && (i == 437 || i == 438) then s.modBoot fun b => { b with stopped := true } else s

/-- One action of the Snuffer (R456, R463). -/
def snuff (a : Nat × Nat × Bool) (s : State) : State :=
  let (i, inst, real) := a
  let s := modSrc i (fun r => { r with safe := r.safe.filter (· != real) ++ [real] }) s
  let s := raiseEvent 0x0E02 (le 2 i ++ le 1 (sourceDomain i) ++ zeros 5 ++ le 4 inst) s
  tripStop i real (enterSafe i inst (logFault i 3 3 1 (4 + b2n (!real)) inst [] s))

/-- F5: the Snuffer acts (R455, R456). -/
def faultStep5 (s : State) : State :=
  let acts := s.fault.act
  let s := eachDo acts snuff (s.modFault fun f => { f with act := [] })
  isolateAll ((acts.filter fun a => sourceDomain a.1 == 3).map fun a => sliceOfSource a.1) s

/-- F6: automatic acknowledgement (R454). -/
def faultStep6 (s : State) : State :=
  eachDo (s.fault.srcs.keys.filter fun i => bit (sourceCfg s i) 1) (fun i s =>
    eachDo ([true, false].filter fun b => ((s.src i).latch b).set && !((s.src i).latch b).acked)
      (fun b => ackLatch i b true) s) s

/-- F7: a latch newly set is reported where its source has HOST_REPORT (R455, R469). -/
def faultReport (x : FreshLatch) (s : State) : State :=
  if !bit (sourceCfg s x.src) 0 then s
  else
    let s := irqCause 31 s
    if mayTell (s.src x.src).told 1000 s.beat then
      raiseEvent 0x0E01 (le 2 x.src ++ le 1 x.cls ++ le 1 x.eff ++ le 1 x.flags ++ zeros 3 ++ le 4 x.inst)
        (modSrc x.src (fun r => { r with told := s.beat + 1 }) s)
    else s

/-- F7. -/
def faultStep7 (s : State) : State :=
  let l := s.fault.fresh
  eachDo l faultReport (s.modFault fun f => { f with fresh := [] })

/-- WICK_WDOG beats have passed without a restart of the armed watchdog; it is suspended during a handover (R442,
R466). -/
def wdogExpire (s : State) : State :=
  if s.wick.armed && !s.wick.expired && !s.fw.hand && decide (s.wick.kicked + s.wick.limit ≤ s.beat) then
    detect 433 0 0 [] (s.modWick fun w => { w with expired := true })
  else s

/-- P9, or a run of the collector while the beat is stopped (R455, R522). -/
def phase9 (s : State) : State :=
  let todo := s.pend.filter fun w => isFaultKind w.kind
  let s := s.modPend fun l => l.filter fun w => !isFaultKind w.kind
  let s := eachDo todo faultStep1 s
  let s := eachDo todo faultStep2 s
  faultStep7 (faultStep6 (faultStep5 (faultStep4 (faultStep3 (wdogExpire s)))))

/-- A REAL latch holds FATAL (R467). -/
def fatalReal (s : State) : Bool := s.fault.srcs.any fun e => e.2.real.set && e.2.real.cls == 3

/-- A FORCED latch holds FATAL (R467). -/
def fatalForced (s : State) : Bool := s.fault.srcs.any fun e => e.2.forced.set && e.2.forced.cls == 3

/-- A FATAL latch stops WICK (R465). -/
def fatalStops (s : State) : Bool := fatalReal s || (s.fault.forceAct && fatalForced s)

/-- A condition of R465 that stops WICK holds. -/
def wickStopped (s : State) : Bool := fatalStops s || s.wick.expired

/-- WICK is driven low while a stopping condition holds (R465). -/
def wickStop (s : State) : State :=
  if !wickStopped s then s
  else if !s.wick.running then s.modWick fun w => { w with level := false }
  else
    raiseEvent 0x0E05 (le 1 1 ++ le 1 (b2n (fatalStops s) + 2 * b2n s.wick.expired)) (s.modWick fun w => { w with
      level := false, running := false, stops := satAdd 32 w.stops 1, stopBeat := s.beat })

/-- WICK_TOGGLE: at P11 of a boundary k for which k + 1 is a multiple of 500, WICK toggles, or starts, high (R465). -/
def wickToggle (s : State) : State :=
  if decide ((s.beat + 1) % 500 ≠ 0) || s.wick.last == s.beat + 1 || !s.wick.armed || wickStopped s then s
  else
    let w := s.wick
    let s := s.modWick fun w => { w with
      level := if w.running then !w.level else true, running := true, ran := true, last := s.beat + 1 }
    if !w.running && w.ran then raiseEvent 0x0E05 (zeros 2) s else s

/-- WICK at P11 (R465). -/
def wickBoundary (s : State) : State := wickToggle (wickStop s)

/-- WICK_TOGGLE: the edge is P11's (log entry 197). -/
def execWickToggle (s : State) : Outc := .next (atBoundary evWick [] s)

/-- ITTAS_WDOG_EXPIRE (R466). -/
def execIttasWdogExpire (s : State) : Outc := .next (wdogExpire s)

/-- ITTAS_WDOG_RESTART: a running Ittas restarts its watchdog before it has expired (R466). -/
def execIttasWdogRestart (s : State) : Outc :=
  .next (if s.wick.armed && !s.wick.expired && s.boot.ittasRun && !s.boot.halted then
    s.modWick fun w => { w with kicked := s.beat } else s)

/-- GRACE_TIMER_EXPIRE: the timers of the source end in F4 of P9, and the Snuffer acts in F5 (R455, R459; log entry 197). -/
def execGraceTimerExpire (src : Nat) (s : State) : Outc :=
  need (decide (src < 448)) "fault source" (.next (atBoundary evGrace (le 2 src) s))

/-- The core PLL, in the model's numbering of PLLs (log entry 168). -/
def corePll : Nat := 0

/-- PLL_UNLOCK: the core PLL's stops the beat (R457, R514). -/
def pllUnlock (pll : Nat) (s : State) : State :=
  detect 443 pll 0 [] (s.modBoot fun b => { b with pllLost := b.pllLost || pll == corePll })

/-- PLL_UNLOCK. -/
def execPllUnlock (pll : Nat) (s : State) : Outc := .next (if s.boot.pwrgood then pllUnlock pll s else s)

/-- REFCLK_LOSS (R514): REFCLK_ETH, instance 0, stops the beat and the hardware clock, with TIME_CLK_FAIL; without
REFCLK_PCIE, instance 1, the host link and the CXL links go down, and every module is lost. -/
def refclkLoss (inst : Nat) (s : State) : State :=
  if inst == 0 then
    detect 445 0 0 [] (detect 444 0 0 [] (s.modBoot fun b => { b with ethLost := true }))
  else
    let s := detect 444 inst 0 [] (s.modBoot fun b => { b with pcieLost := true })
    eachDo (List.range 4) (fun p => memLosing p 16) (if hostUp s then hotReset s else s)

/-- REFCLK_LOSS. -/
def execRefclkLoss (inst : Nat) (s : State) : Outc :=
  need (decide (inst < 2)) "reference clock" (.next (if s.boot.pwrgood then refclkLoss inst s else s))

/-- The bytes of cell `j` of a frame being sent as read with an uncorrectable error, which may be any (log entry 115): the
frame goes out with them and is ended with the complement of its CRC-32 (R211, R47). -/
def badCell (reason : Nat) (ci : Nat) (j : Nat) (s : State) : State :=
  let c := s.copy ci
  let body := c.out.take (c.out.length - 4)
  let (bad, s) := takeFreeBytes (min 128 (body.length - 128 * j)) s
  modCopy ci (fun c => { c with
    out := withStomp (body.take (128 * j) ++ bad ++ body.drop (128 * j + 128)), stomp := true, stompReason := reason }) s

/-- BUF_ECC_UNCORR of cell `j` of a stored frame (R211; log entry 115): copies not yet started are dropped, and those being
sent go out with the bad bytes and are ended as R47 states. -/
def eccUncorr (i j : Nat) (s : State) : State :=
  let s := s.modBuf fun b => { b with eccUncorr := (b.eccUncorr + 1) % 2 ^ 64 }
  eachDo (s.buf.copies.filter fun e => e.2.pkt == i) (fun e s =>
    if e.2.stage == .sending || e.2.stage == .remainder then badCell 53 e.1 j s
    else dropCopyEnd e.1 53 0 s) s

/-- What a detected fault does beside its event, by the rule that owns its source: whether the event is still to be
raised, and the state (R159, R199, R206, R210, R211, R227, R457, R514). -/
def faultEffect (src inst : Nat) (detail : Bytes) (s : State) : Bool × State :=
  if 66 ≤ src && src < 99 then (true, s.modBuf fun b => { b with doubleFree := (b.doubleFree + 1) % 2 ^ 64 })
  else if 324 ≤ src && src < 328 then
    if (s.quad (src - 324)).emt.has inst then
      (false, modQuad (src - 324) (fun x => { x with badPos := if x.badPos.contains inst then x.badPos else x.badPos ++ [inst] }) s)
    else (true, s)
  else if 328 ≤ src && src < 332 then
    if detail.isEmpty then (true, post 0 evScrub (le 1 (src - 328) ++ le 4 inst) [] s) else (false, ternUpset (src - 328) inst detail s)
  else if 336 ≤ src && src < 340 then (true, autoWeakWord (src - 336) (inst / 2 ^ 24) (inst % 2 ^ 24) s)
  else if 332 ≤ src && src < 336 then (true, post 0 0x20001 [] (le 1 (src - 332) ++ le 4 inst) s)
  else if 340 ≤ src && src < 344 then (true, autoBadWord (src - 340) (inst / 2 ^ 24) (inst % 2 ^ 24) s)
  else if 377 ≤ src && src < 381 then (false, planeFail (src - 377) inst s)
  else if src == 381 then (true, s.modBuf fun b => { b with eccCorr := (b.eccCorr + 1) % 2 ^ 64 })
  else if src == 382 then
    (true, if rd detail 0 4 = 0 then s.modBuf fun b => { b with eccUncorr := (b.eccUncorr + 1) % 2 ^ 64 }
      else eccUncorr (rd detail 0 4 - 1) (rd detail 4 4) s)
  else if src == 443 then (false, pllUnlock inst s)
  else if src == 444 then (false, refclkLoss inst s)
  else (true, s)

/-- FAULT_DETECT (R450, R451): an event with an instance, the class its owning rule raises it at (0 for the source's; a
rule never lowers it), and detail. -/
def execFaultDetect (src inst cls : Nat) (detail : Bytes) (s : State) : Outc :=
  need (decide (src < 448) && decide (cls ≤ 3)) "fault source or class" (.next (
    if !s.boot.pwrgood then s
    else
      let (raise, t) := faultEffect src (inst % 2 ^ 32) detail s
      if raise then detect src (inst % 2 ^ 32) (if cls < sourceClass src then 0 else cls) detail t else t))

/-- FAULT_CAUSE_END (R451, R460): the condition of a level source ends; the beat resumes with the core PLL's lock and
with REFCLK_ETH (R522), the time clock with its reference (R514). -/
def faultCauseEnd (src inst : Nat) (s : State) : State :=
  let s := causeEnd src inst s
  if src == 443 && inst == corePll then s.modBoot fun b => { b with pllLost := false }
  else if src == 444 && inst == 0 then causeEnd 445 0 (s.modBoot fun b => { b with ethLost := false })
  else if src == 444 then s.modBoot fun b => { b with pcieLost := false }
  else s

/-- FAULT_CAUSE_END. -/
def execFaultCauseEnd (src inst : Nat) (s : State) : Outc :=
  need (decide (src < 448)) "fault source" (.next (faultCauseEnd src (inst % 2 ^ 32) s))

/-- FLT_STATUS (Table 16.8). -/
def fltStatus (s : State) : Nat :=
  let l := s.fault.srcs
  let unacked := (l.map fun e => b2n (e.2.real.set && !e.2.real.acked) + b2n (e.2.forced.set && !e.2.forced.acked)).foldl (· + ·) 0
  (l.filter fun e => e.2.real.set || e.2.forced.set).length + 2 ^ 16 * min 255 unacked +
    2 ^ 24 * b2n (!s.fault.timers.isEmpty) + 2 ^ 25 * b2n (l.any fun e => !e.2.safe.isEmpty) +
    2 ^ 26 * b2n (fatalForced s) + 2 ^ 27 * b2n (fatalReal s)

/-- FLT_SRC_STATUS of a source (Table 16.9). -/
def srcStatus (s : State) (i : Nat) : Nat :=
  let r := s.src i
  b2n (sourceLevel i) + 2 * b2n r.real.set + 4 * b2n r.real.acked + 8 * b2n r.real.pers + 16 * r.real.cls +
    2 ^ 8 * b2n (s.fault.timers.any fun t => t.src == i) + 2 ^ 9 * b2n (!r.safe.isEmpty) +
    2 ^ 10 * b2n (sourceLevel i && !r.causes.isEmpty) + 2 ^ 11 * b2n r.forced.set + 2 ^ 12 * b2n r.forced.acked +
    2 ^ 13 * b2n r.forced.pers + 2 ^ 14 * r.forced.cls

/-- A bitmap of the sources for which a test holds, 56 bytes (R468). -/
def srcMap (s : State) (f : Src → Bool) : Bytes := le 56 (maskOf ((s.fault.srcs.filter fun e => f e.2).map (·.1)))

/-- A source that a FAULT command may name (R468). -/
def srcArg (p : Bytes) (all : Bool) : Bool × Nat := (decide (rd p 0 2 < 448) || (all && rd p 0 2 == 0xFFFF), 0)

/-- The response of FAULT.STATUS: of one source, or the maps of all. -/
def faultStatusBytes (s : State) (i : Nat) : Bytes :=
  let r := s.src i
  if i == 0xFFFF then
    le 4 (fltStatus s) ++ srcMap s (·.real.set) ++ srcMap s (·.forced.set) ++ srcMap s (fun r => !r.safe.isEmpty)
  else le 4 (srcStatus s i) ++ le 4 r.real.inst ++ le 4 r.forced.inst ++ le 4 (r.forced.count * 65536 + r.real.count) ++
    le 4 (sourceCfg s i)

/-- FAULT.STATUS (R468). -/
def faultStatusSpec : CmdSpec where
  need _ := 2
  run _ p _ s :=
    checks [srcArg p true] (replyNow s (faultStatusBytes s (rd p 0 2)))

/-- FAULT_STATUS. -/
def execFaultStatus (m : Nat) (h : HostAnswer) (s : State) : Outc := acceptAs 0x0E01 faultStatusSpec m h s

/-- FAULT.ACK (R460, R468): tested at F2. -/
def faultAckSpec : CmdSpec where
  need _ := 3
  run c p _ s := checks [srcArg p false] (postCmd c p [] s)

/-- FAULT_ACK. -/
def execFaultAck (m : Nat) (h : HostAnswer) (s : State) : Outc := acceptAs 0x0E02 faultAckSpec m h s

/-- FAULT.CLEAR (R460, R468): tested at F2. -/
def faultClearSpec : CmdSpec where
  need _ := 3
  run c p _ s := checks [srcArg p false] (postCmd c p [] s)

/-- FAULT_CLEAR. -/
def execFaultClear (m : Nat) (h : HostAnswer) (s : State) : Outc := acceptAs 0x0E03 faultClearSpec m h s

/-- FAULT.FORCE (R461, R468). -/
def faultForceSpec : CmdSpec where
  need _ := 8
  run c p _ s := checks [srcArg p false, (decide (rd p 2 1 ≤ 1), 2), (decide (rd p 3 1 ≤ 3), 3)] (postCmd c p [] s)

/-- FAULT_FORCE. -/
def execFaultForce (m : Nat) (h : HostAnswer) (s : State) : Outc := acceptAs 0x0E04 faultForceSpec m h s

/-- FAULT.LOG (R463, R464, R468): newest first; FLT_LOG_LOST is cleared by its own read alone (log entry 169). -/
def faultLogSpec : CmdSpec where
  need _ := 16
  run _ p _ s :=
    let log := if rd p 0 1 = 0 then s.fault.log else s.fault.partner
    let lost := if rd p 0 1 = 0 then s.fault.logLost else s.fault.partnerLost
    checks [(decide (rd p 0 1 ≤ 1), 0)] (hostReady s (
      let t := hostWrite 0 (rd p 8 8) log.flatten s
      let t := if !bit (rd p 1 1) 0 then t
        else if rd p 0 1 = 0 then t.modFault fun f => { f with log := [], logHead := 0 }
        else t.modFault fun f => { f with partner := [], partnerLost := 0 }
      replyNow t (le 4 log.length ++ le 4 lost)))

/-- FAULT_LOG. -/
def execFaultLog (m : Nat) (h : HostAnswer) (s : State) : Outc := acceptAs 0x0E05 faultLogSpec m h s

/-- FAULT.CONFIG (R467, R468): FLT_GRACE is saturated. -/
def faultConfigSpec : CmdSpec where
  need _ := 8
  run c p _ s := checks [srcArg p true] (postCmd c p [] s)

/-- FAULT_CONFIG. -/
def execFaultConfig (m : Nat) (h : HostAnswer) (s : State) : Outc := acceptAs 0x0E06 faultConfigSpec m h s

/-- A write to a register of the group waits for the next P9 (R467; log entry 164). -/
def fltWrite (offset value : Nat) (s : State) : State :=
  if hostUp s then post 0 (0x10000 + offset) (le 4 value) [] s else s

/-- FLT_ACK_WRITE. -/
def execFltAckWrite (value : Nat) (s : State) : Outc := .next (fltWrite 0x3424 value s)

/-- FLT_CLEAR_WRITE. -/
def execFltClearWrite (value : Nat) (s : State) : Outc := .next (fltWrite 0x3428 value s)

/-- FLT_FORCE_WRITE (R461). -/
def execFltForceWrite (n value : Nat) (s : State) : Outc :=
  need (decide (n < 14)) "FLT_FORCE register" (.next (fltWrite (0x34C0 + 4 * n) value s))

/-- FLT_LOG_LOST_READ: a read-clear counter (R15, R467). -/
def execFltLogLostRead (s : State) : Outc :=
  .next (if hostUp s then (readOut s.fault.logLost s).modFault fun f => { f with logLost := 0 } else s)

/-- FLT_PARTNER_CNT_READ: a read-clear counter (R15, R467). -/
def execFltPartnerCntRead (s : State) : Outc :=
  .next (if hostUp s then (readOut s.fault.partnerCnt s).modFault fun f => { f with partnerCnt := 0 } else s)

/-- WICK_STOPS_READ: a read-clear counter (R15, R467). -/
def execWickStopsRead (s : State) : Outc :=
  .next (if hostUp s then (readOut s.wick.stops s).modWick fun w => { w with stops := 0 } else s)

end Sys2Proof.Machine
end

