-- ==== Sys2Proof/Machine/Dimmer.lean ====
section
/-! DEFINITION. The Dimmer: regulators, the activity estimate, levels and clock states, droop, temperature, coolant, the
health port, and the POWER commands (R470 to R487). -/

namespace Sys2Proof.Machine

/-- The PWR_ registers' RW1C bits. -/
def pwrReasonReg : Nat := 0x4030

/-- PWR_IRQ_STATUS. -/
def pwrIrqReg : Nat := 0x4064

/-- Sets a bit of PWR_IRQ_STATUS; an enabled one sets cause POWER (R485). -/
def pwrIrq (b : Nat) (s : State) : State :=
  let s := markSet pwrIrqReg b (s.modPower fun p => { p with irqSt := setBit p.irqSt b true })
  if bit s.power.irqEn b then irqCause 32 s else s

/-- A regulator's record. -/
def regOf (s : State) (i : Nat) : Reg := s.power.regs.getD i {}

/-- Replaces a regulator's record by its image. -/
def modReg (i : Nat) (f : Reg → Reg) (s : State) : State :=
  s.modPower fun p => { p with regs := p.regs.set i (f (p.regs.getD i {})) }

/-- The condition of a level source is present, for an instance. -/
def causeFor (s : State) (src inst : Nat) : Bool := (s.src src).causes.contains inst

/-- The condition of a level source is present. -/
def causeAny (s : State) (src : Nat) : Bool := !(s.src src).causes.isEmpty

/-- The value of a LINEAR11 word in thousandths, negative ones as 0 (R470, PMBus 1.3; log entry 173). -/
def linear11 (v : Nat) : Nat :=
  let y := (toInt 11 v).toNat * 1000
  let n := toInt 5 (v / 2048)
  if 0 ≤ n then y * 2 ^ n.toNat else y / 2 ^ (-n).toNat

/-- STATUS_WORD shows a VOUT, IOUT/POUT, INPUT or TEMPERATURE bit (R472, PMBus 1.3; log entry 173). -/
def statusFaulty (v : Nat) : Bool := bit v 15 || bit v 14 || bit v 13 || bit v 2

/-- EV_POWER_REGULATOR, where the regulator's causes have changed (R487; log entry 174). -/
def tellRegulator (i : Nat) (before : Bool × Bool) (s : State) : State :=
  let now := (causeFor s 442 i, causeFor s 441 i)
  if now == before then s
  else
    let s := if (now.1 && !before.1) || (now.2 && !before.2) then pwrIrq 4 s else s
    raiseEvent 0x0F04 (le 1 i ++ le 1 (b2n (!now.1) + 2 * b2n now.2) ++ le 2 (regOf s i).status) s

/-- What a successful transaction read (R470, R472). -/
def regRead (i : Nat) (cmd : PmbusCmd) (value : Nat) (s : State) : State :=
  let v := value % 65536
  match cmd with
  | .readPout => modReg i (fun r => { r with pout := linear11 v }) s
  | .readVout => modReg i (fun r => { r with vout := v }) s
  | .readIout => modReg i (fun r => { r with iout := v }) s
  | .readTemp => modReg i (fun r => { r with temp := v }) s
  | .voutMode => modReg i (fun r => { r with mode := some (v % 256) }) s
  | .statusWord =>
    let s := modReg i (fun r => { r with status := v }) s
    if statusFaulty v then detect 441 i 0 [] s else causeEnd 441 i s

/-- A PMBus transaction with a named regulator (R471, R472). -/
def pmbusDone (i : Nat) (cmd : PmbusCmd) (ok : Bool) (value : Nat) (s : State) : State :=
  if (regOf s i).addr == 0 || decide (s.boot.stage < 3) then s
  else
    let before := (causeFor s 442 i, causeFor s 441 i)
    let s := if ok then
        regRead i cmd value (causeEnd 442 i (modReg i (fun r => { r with fails := 0, responding := true }) s))
      else
        let s := modReg i (fun r => { r with fails := min 3 (r.fails + 1), responding := false }) s
        if (regOf s i).fails = 3 then detect 442 i 0 [] s else s
    tellRegulator i before s

/-- The named regulators (R470). -/
def namedRegs (s : State) : List Nat := (List.range 8).filter fun i => (regOf s i).addr != 0

/-- The regulator at a place of the rotation (R471). -/
def regAt (s : State) (n : Nat) : Nat := (namedRegs s).getD (n % max 1 (namedRegs s).length) 8

/-- Slot of the poll cycle in progress, 62.5 μs each (R471). -/
def pollSlot (s : State) : Nat := min 3 (nth s.power.eBeats 0 * 2 / 125)

/-- It is a transaction's turn: READ_POUT once in each of slots 0 to 2, the others in a slot 3 that no alert takes, of the
regulator due; VOUT_MODE once after configuration (R471, Table 17.1). -/
def pollTurn (s : State) (i : Nat) : PmbusCmd → Bool
  | .voutMode => (regOf s i).mode.isNone
  | .readPout => decide (pollSlot s < 3) && decide (s.power.polled ≤ pollSlot s) && regAt s s.power.turn == i
  | _ => pollSlot s == 3 && s.power.alerts.isEmpty && regAt s s.power.scan == i

/-- A READ_POUT takes its slot and passes the turn on (R471). -/
def takeTurn (cmd : PmbusCmd) (s : State) : State :=
  if cmd = .readPout then s.modPower fun p => { p with
    polled := pollSlot s + 1, turn := (p.turn + 1) % max 1 (namedRegs s).length }
  else s

/-- PMBUS_TRANSACTION, in its turn of the rotation (R471). -/
def execPmbusTransaction (reg : Nat) (cmd : PmbusCmd) (ok : Bool) (value : Nat) (s : State) : Outc :=
  need (decide (reg < 8)) "regulator"
    (.next (if pollTurn s reg cmd then pmbusDone reg cmd ok value (takeTurn cmd s) else s))

/-- PMB_ALERT: the next two slot-3 turns find the regulator that answers and read its STATUS_WORD (R471; log entry 175). -/
def execPmbAlert (reg status : Nat) (s : State) : Outc :=
  need (decide (reg < 8)) "regulator"
    (.next (if (regOf s reg).addr != 0 then s.modPower fun p => { p with alerts := p.alerts ++ [(2, reg, status)] } else s))

/-- A slot-3 turn is over: an alert's first finds the regulator, its second reads STATUS_WORD; with no alert the rotation
goes on (R471). -/
def slotThreeEnd (s : State) : State :=
  match s.power.alerts with
  | [] => s.modPower fun p => { p with polled := 0, scan := (p.scan + 1) % max 1 (namedRegs s).length }
  | (n, reg, status) :: rest =>
    if 2 ≤ n then s.modPower fun p => { p with polled := 0, alerts := (n - 1, reg, status) :: rest }
    else pmbusDone reg .statusWord true status (s.modPower fun p => { p with polled := 0, alerts := rest })

/-- The disagreement in 0.1 %, rounded down (R474, R485). -/
def disagreement (m e : Nat) : Nat :=
  if m = 0 then Config.disagreeZero e else ((max m e) - (min m e)) * 1000 / m

/-- The disagreement exceeds 15 % (R474). -/
def disagrees (m e : Nat) : Bool :=
  if m = 0 then decide (150 < Config.disagreeZero e) else decide (15 * m < ((max m e) - (min m e)) * 100)

/-- Beats the disagreement has exceeded 15 % at every cycle end. -/
def overBeats (s : State) : Nat := match s.power.exceeds with | some b => s.beat - b | none => 0

/-- Mismatch steering begins when the disagreement has lasted 100 ms (R474). -/
def mismatchBegin (s : State) : State :=
  if s.power.exceeds.isSome && decide (100000 ≤ overBeats s) && !s.power.mismatch then
    detect 440 0 0 [] (pwrIrq 5 (s.modPower fun p => { p with mismatch := true }))
  else s

/-- MISMATCH_STEER_BEGIN. -/
def execMismatchSteerBegin (s : State) : Outc := .next (mismatchBegin s)

/-- The disagreement has lasted beyond 10 s: CONTAINED, once (R474). -/
def mismatchContained (s : State) : State :=
  if s.power.mismatch && !s.power.contained && decide (10000000 < overBeats s) then
    detect 440 0 2 [] (s.modPower fun p => { p with contained := true })
  else s

/-- MISMATCH_CONTAINED. -/
def execMismatchContained (s : State) : Outc := .next (mismatchContained s)

/-- The disagreement test of a cycle end, suspended while M is incomplete (R474). -/
def mismatchTest (s : State) : State :=
  let p := s.power
  if p.incomplete then s
  else if disagrees p.meas p.est then
    mismatchContained (mismatchBegin (s.modPower fun p => { p with exceeds := some (p.exceeds.getD s.beat) }))
  else if p.mismatch then causeEnd 440 0 (s.modPower fun p => { p with exceeds := none, mismatch := false, contained := false })
  else s.modPower fun p => { p with exceeds := none }

/-- Poll cycles of a refresh interval: three READ_POUT slots a cycle among the named regulators (R471). -/
def refreshCycles (s : State) : Nat := max 1 (ceilDiv (s.power.regs.filter fun r => r.addr != 0).length 3)

/-- Sum of the first `n` of a list. -/
def sumFirst (n : Nat) (l : List Nat) : Nat := (l.take n).foldl (· + ·) 0

/-- E_c in mW: the mean of E over the refresh interval that ends with the cycle (R473). An interval without a beat leaves it
(log entry 235). -/
def meanEstimate (s : State) : Nat :=
  let n := sumFirst (refreshCycles s) s.power.eBeats
  if n = 0 then s.power.est else sumFirst (refreshCycles s) s.power.eSums / (1000 * n)

/-- M in mW: the sum of the latest readings (R470). -/
def measuredPower (s : State) : Nat := (s.power.regs.map fun r => if r.addr = 0 then 0 else r.pout).foldl (· + ·) 0

/-- A poll cycle ends: M, E_c, the disagreement test, the steering power, and the next cycle begins (R470 to R474). -/
def pollEnd (s : State) : State :=
  let m := measuredPower s
  let e := meanEstimate s
  let inc := causeAny s 442
  let s := mismatchTest (s.modPower fun p => { p with
    meas := m, est := e, incomplete := inc, disagree := min 65535 (disagreement m e)
    eSums := 0 :: p.eSums.take 2, eBeats := 0 :: p.eBeats.take 2 })
  s.modPower fun p => { p with steer := if p.incomplete then p.est else if p.mismatch then max p.est p.meas else p.meas }

/-- The poll cycle's end, 250 beats after the one before, at P10 before the decision (R471, R474, Table 17.4). -/
def pollBoundary (s : State) : State := if 250 ≤ nth s.power.eBeats 0 then pollEnd (slotThreeEnd s) else s

/-- A sensor's record. -/
def sensorOf (s : State) (i : Nat) : Sensor := s.power.sensors.get {} i

/-- Replaces a sensor's record by its image. -/
def modSensor (i : Nat) (f : Sensor → Sensor) (s : State) : State :=
  s.modPower fun p => { p with sensors := p.sensors.upd {} i f }

/-- T_max with its sensor, the lowest-numbered of equals; none while no sensor that is not excluded has a value (R480). -/
def tMax (s : State) : Option (Nat × Int) :=
  s.power.sensors.foldl (fun a e =>
    if e.2.out then a
    else match e.2.val, a with
      | none, _ => a
      | some v, none => some (e.1, v)
      | some v, some (j, w) => if w < v then some (e.1, v) else some (j, w)) none

/-- T_max is at or above THROTTLE (R476). -/
def tooHot (s : State) : Bool := match tMax s with | some (_, v) => decide (((16 * s.power.throttle : Nat) : Int) ≤ v) | none => false

/-- A reading, or 0x8000 where none exists (R483). -/
def readingBytes (v : Option Int) : Bytes := le 2 (match v with | some x => ofInt 16 x | none => 0x8000)

/-- T_max crosses THROTTLE (R480). -/
def thermalCross (s : State) : State :=
  let hot := tooHot s
  if hot == s.power.hot then s
  else
    let t := tMax s
    raiseEvent 0x0F03 (le 1 (match t with | some (i, _) => i | none => 0) ++ le 1 (b2n hot) ++ readingBytes (t.map (·.2)))
      (pwrIrq 2 (s.modPower fun p => { p with hot := hot }))

/-- A sensor is excluded, or its exclusion ends (R480). -/
def excludeSensor (i : Nat) (out : Bool) (s : State) : State :=
  let s := modSensor i (fun x => { x with out := out }) s
  if out then detect 446 i 0 [] s else causeEnd 446 i s

/-- SENSOR_CONVERSION in 1/16 °C (R480, R481): the trip's comparator looks first, excluded or not. -/
def sensorConverts (i : Nat) (reading : Int) (s : State) : State :=
  let s := modSensor i (fun x => { x with val := some reading, beat := s.beat }) s
  let s := if 2160 ≤ reading then detect 437 i 0 [] s else causeEnd 437 i s
  thermalCross (excludeSensor i (decide (reading < -1120) || decide (2720 < reading)) s)

/-- SENSOR_CONVERSION. -/
def execSensorConversion (sensor : Nat) (reading : Int) (s : State) : Outc :=
  need (decide (sensor < 64)) "sensor" (.next (if s.boot.pwrgood then sensorConverts sensor reading s else s))

/-- SENSOR_STALE: no conversion for 1,000 beats (R480). -/
def sensorStale (i : Nat) (s : State) : State :=
  if !(sensorOf s i).out && decide ((sensorOf s i).beat + 1000 ≤ s.beat) then thermalCross (excludeSensor i true s) else s

/-- SENSOR_STALE. -/
def execSensorStale (sensor : Nat) (s : State) : Outc := need (decide (sensor < 64)) "sensor" (.next (sensorStale sensor s))

/-- An episode may begin at an instant: the one before began at least 1 μs earlier (R34). -/
def droopMay (s : State) (ns : Nat) : Bool :=
  match s.glb.droopAt with
  | some t => decide (t + 1000 ≤ nowNs s ns)
  | none => true

/-- DROOP_EPISODE (R34, R479). -/
def droopEpisode (cycles ns : Nat) (s : State) : State :=
  let s := s.modGlb fun g => { g with
    stretched := true, lostCycles := g.lostCycles + cycles, droopAt := some (nowNs s ns) }
  markSet 0x48 16 (s.modPower fun p => { p with droopCnt := satAdd 32 p.droopCnt 1, droops := p.droops ++ [s.beat] })

/-- DROOP_EPISODE: an episode takes at most nine cycles from its beat; one that would begin within 1 μs of the last does
not occur (R34). -/
def execDroopEpisode (cycles ns : Nat) (s : State) : Outc :=
  need (decide (cycles ≤ 9) && decide (ns < 1000)) "cycles or instant of a droop episode"
    (.next (if beatRuns s && droopMay s ns then droopEpisode cycles ns s else s))

/-- COOLANT_LOW (R482). -/
def coolantLow (s : State) : State :=
  if 10000 ≤ s.power.low && !causeAny s 439 then pwrIrq 3 (raiseEvent 0x0F02 (le 1 1) (detect 439 0 0 [] s)) else s

/-- COOLANT_LOW. -/
def execCoolantLow (s : State) : Outc := .next (coolantLow s)

/-- COOLANT_STOP (R482). -/
def coolantStop (s : State) : State :=
  if 500000 ≤ s.power.low && !causeAny s 438 then pwrIrq 3 (raiseEvent 0x0F02 (le 1 2) (detect 438 0 0 [] s)) else s

/-- COOLANT_STOP. -/
def execCoolantStop (s : State) : Outc := .next (coolantStop s)

/-- COOLANT_RESTORE (R482). -/
def coolantRestore (s : State) : State :=
  if 100000 ≤ s.power.high && causeAny s 439 then pwrIrq 3 (raiseEvent 0x0F02 (le 1 0) (causeEnd 439 0 s)) else s

/-- COOLANT_RESTORE. -/
def execCoolantRestore (s : State) : Outc := .next (coolantRestore s)

/-- A sample of FLOW_OK (R482). -/
def flowSample (ok : Bool) (s : State) : State :=
  let s := s.modPower fun p => { p with
    flow := ok, low := if ok then 0 else satAdd 32 p.low 1, high := if ok then satAdd 32 p.high 1 else 0 }
  let s := if ok && causeAny s 438 then causeEnd 438 0 s else s
  coolantRestore (coolantStop (coolantLow s))

/-- Droop episodes of the last 1,000 beats (R476). -/
def droopCount (s : State) : Nat := (s.power.droops.filter fun b => decide (s.beat < b + 1000)).length

/-- Sensors of a die are all excluded, or more than eight in all (R476, R480). -/
def sensorsLost (s : State) : Bool :=
  let out (i : Nat) : Bool := (sensorOf s i).out
  decide (8 < ((List.range 64).filter out).length) || (List.range 36).all out ||
    ((List.range 4).any fun d => (List.range 5).all fun i => out (36 + 5 * d + i)) || (List.range 8).all fun i => out (56 + i)

/-- A reason raises (Table 17.3). -/
def reasonRaises (s : State) (r : Nat) : Bool :=
  if r = 0 then decide (s.power.cap * 1000 < s.power.steer)
  else if r = 1 then tooHot s
  else if r = 2 then decide (s.power.droopLimit < droopCount s) && decide (s.power.level < 3)
  else false

/-- A reason releases (Table 17.3); POWER_CAP, THERMAL and DROOP alone can. -/
def reasonReleases (s : State) (r : Nat) : Bool :=
  if r = 0 then decide (s.power.steer < s.power.cap * 1000 * (100 - s.power.hyst) / 100)
  else if r = 1 then match tMax s with
    | some (_, v) => decide (v < ((16 * (s.power.throttle - s.power.tHyst) : Nat) : Int))
    | none => false
  else if r = 2 then decide (4 * droopCount s < s.power.droopLimit)
  else false

/-- A reason's minimum level (Table 17.3). -/
def reasonMin (s : State) (r : Nat) : Nat :=
  if r = 1 then if sensorsLost s then 3 else 0
  else if r = 3 then if causeAny s 439 then 4 else 0
  else if r = 4 then max (min 4 s.power.minLevel) (max s.power.ext (if causeAny s 441 then 3 else 0))
  else 0

/-- The floor of R477. -/
def levelFloor (s : State) : Nat := max (reasonMin s 1) (max (reasonMin s 3) (reasonMin s 4))

/-- Whether a reason raises or holds: it does not release (R476). -/
def reasonStands (s : State) (r : Nat) : Bool := reasonRaises s r || !reasonReleases s r

/-- The reasons active at the level that now holds (R476). -/
def activeReasons (s : State) : Nat :=
  let on (r : Nat) : Bool :=
    if r = 5 then s.power.mismatch && reasonStands s 0
    else decide (0 < reasonMin s r) || (decide (r < 3) && (reasonRaises s r || (decide (1 ≤ s.power.level) && !reasonReleases s r)))
  maskOf ((List.range 6).filter on)

/-- The level after the procedure of R477, with its run and its last raise. -/
def levelStep (s : State) : Power :=
  let p := s.power
  let floor := levelFloor s
  let raises := (List.range 3).any (reasonRaises s)
  let releases := (List.range 3).all (reasonReleases s)
  let up : Power := { p with level := p.level + 1, run := 0, raised := s.beat + 1 }
  if p.level < floor then up
  else if raises && decide (p.level < 4) && (p.raised == 0 || decide (p.raised + p.esc ≤ s.beat + 1)) then up
  else if releases && decide (floor < p.level) then
    (if p.release ≤ p.run + 1 then { p with level := p.level - 1, run := 0 } else { p with run := p.run + 1 })
  else { p with run := 0 }

/-- Clock state of a level (Table 17.2). -/
def levelClock (l : Nat) : Nat := if l = 4 then 2 else if l = 3 then 1 else 0

/-- One step of the clock state towards a target (R35). -/
def clockStep (now target : Nat) : Nat := if now < target then now + 1 else if target < now then now - 1 else now

/-- The end of a beat at the reason counters, and the reasons of the next (R476, R485). -/
def reasonsBoundary (s : State) : State :=
  let was := s.power.active
  let now := activeReasons s
  let new := bitsOf (clearBits now was) 6
  let s := s.modPower fun p => { p with
    beats := (List.range 6).map fun r => (nth p.beats r + b2n (bit was r)) % 2 ^ 64
    active := now, latched := Nat.lor p.latched now }
  let s := eachDo (bitsOf now 6) (fun r => markSet pwrReasonReg (16 + r)) s
  if new.isEmpty then s else pwrIrq 1 s

/-- A unit has no work now (R478): slice s is s, the automaton engine of quadrant q is 64 + q, mover channel c is 80 + c, the
Lantern unit of slice s is 96 + s. A slice also works while it has packets to take or has taken one (log entry 177). -/
def unitIdle (s : State) (u : Nat) : Bool :=
  if u < 32 then
    ((List.range 24).all fun i => decide ((s.lane (24 * u + i)).state ≤ 1)) &&
      ((List.range 5).all fun k => (s.buf.inj.get [] (5 * u + k)).isEmpty) && (s.arb u).used == 0
  else if 64 ≤ u && u < 68 then !autoSelected s (u - 64) 0 && !autoSelected s (u - 64) 1
  else if u = 86 || u = 87 then !(s.xdcOf (u - 80)).go
  else if 96 ≤ u && u < 128 then s.lantern.streams.all fun e => e.2.kind == 0
  else false

/-- The units that may be gated (R478). -/
def gateUnits : List Nat := List.range 32 ++ [64, 65, 66, 67, 86, 87] ++ (List.range 32).map (96 + ·)

/-- Idle-unit gating is on (R475). -/
def gatingOn (s : State) : Bool := decide (1 ≤ s.power.level) || s.power.gateAlways

/-- Beats each unit has had no work, as the beat ends (R478). -/
def idleBeats (s : State) : Tab Nat :=
  gateUnits.filterMap fun u => if unitIdle s u then some (u, min 100 (s.power.idle.get 0 u + 1)) else none

/-- Idle-unit gating at a boundary: units that have had no work for 100 beats are gated, units with work ungated (R478). -/
def gateBoundary (s : State) : State :=
  let idle := idleBeats s
  s.modPower fun p => { p with
    idle := idle
    gated := if gatingOn s then (idle.filter fun e => e.2 == 100 || p.gated.contains e.1).map (·.1) else [] }

/-- IDLE_UNIT_GATE: a unit that has had no work for 100 beats (R478; log entry 177). -/
def execIdleUnitGate (unit : Nat) (s : State) : Outc :=
  need (gateUnits.contains unit) "unit that may be gated" (.next (
    if gatingOn s && unitIdle s unit && s.power.idle.get 0 unit == 100 && !s.power.gated.contains unit then
      s.modPower fun p => { p with gated := insertBy id unit p.gated } else s))

/-- UNIT_UNGATE: work, or a lane's change of state, has arrived at a gated unit (R478). -/
def execUnitUngate (unit : Nat) (s : State) : Outc :=
  .next (if gatingOn s && unitIdle s unit then s else
    s.modPower fun p => { p with gated := p.gated.filter (· != unit), idle := p.idle.del unit })

/-- The Dimmer's own registers after its decision (R35, R477, R487). -/
def dimmerPower (s : State) : Power :=
  let p := levelStep s
  { p with clk := clockStep p.clk (levelClock p.level), droops := p.droops.filter fun b => decide (s.beat < b + 1000) }

/-- The Dimmer's decision at P10 (R35, R476, R477, R487). -/
def dimmerStep (s : State) : State :=
  let old := s.power.level
  let p := levelStep s
  let s := s.modPower fun _ => dimmerPower s
  let s := gateBoundary (reasonsBoundary s)
  if p.level == old then s
  else
    let s := pwrIrq 0 s
    if mayTell s.power.told 1000 s.beat then
      raiseEvent 0x0F01 (le 1 old ++ le 1 p.level ++ le 1 s.power.active) (s.modPower fun q => { q with told := s.beat + 1 })
    else s

/-- The hottest value among sensors of a die that are not excluded, in 1/16 °C (R473, R480). -/
def hottest (s : State) (l : List Nat) : Option Int :=
  l.foldl (fun a i =>
    if (sensorOf s i).out then a
    else match (sensorOf s i).val, a with
      | some v, some w => some (max v w)
      | some v, none => some v
      | none, _ => a) none

/-- The hottest sensor of each die: the core die, the four lane dies, the service die (R480). -/
def dieTemps (s : State) : List (Option Int) :=
  hottest s (List.range 36) ::
    ([0, 1, 2, 3].map fun d => hottest s ((List.range 5).map (36 + 5 * d + ·))) ++ [hottest s ((List.range 8).map (56 + ·))]

/-- What the lanes add to the estimate, each by its mode and quiet state (R473). -/
def lanePower (s : State) : Nat :=
  s.lanes.foldl (fun n e =>
    let q := (s.lane (quietLane s e.1)).quiet
    n + Config.laneWeight e.2.mode (q.tx == 1) q.rx) 0

/-- The unit activity counts of the beat (R473): slots used are the arbiters' own. -/
def beatActivity (s : State) : List Nat := s.power.act.set 0 (s.buf.arbs.foldl (fun n e => n + e.2.used) 0)

/-- The estimate E of the beat in μW (R473). -/
def powerEstimate (s : State) : Nat :=
  Config.staticPower (dieTemps s) (s.power.regs.map (·.vout)) +
    ((List.range 6).foldl (fun n i => n + Config.actWeight i * nth (beatActivity s) i) 0 + lanePower s)

/-- The estimate of the beat joins its poll cycle, and the counts start anew (R473). -/
def estimateBeat (s : State) : State :=
  s.modPower fun p => { p with
    eSums := addAt p.eSums 0 (powerEstimate s), eBeats := addAt p.eBeats 0 1, act := [0, 0, 0, 0, 0, 0] }

/-- P10 (R41): the estimate, the poll cycle, stale sensors, then the decision. -/
def phase10 (s : State) : State :=
  dimmerStep (thermalCross (eachDo (List.range 64) sensorStale (pollBoundary (estimateBeat s))))

/-- PWR_STATUS (Table 17.9). -/
def pwrStatus (s : State) : Nat :=
  let p := s.power
  b2n p.flow + 2 * b2n (causeAny s 439) + 4 * b2n p.incomplete + 8 * b2n p.mismatch + 16 * p.clk + 256 * p.level + 65536 * p.active

/-- PWR_TMAX (Table 17.7). -/
def pwrTmax (s : State) : Nat := match tMax s with | some (i, v) => 65536 * i + ofInt 16 v | none => 0x8000

/-- PWR_MISMATCH (Table 17.7). -/
def pwrMismatch (s : State) : Nat := 65536 * s.power.disagree + min 65535 (overBeats s / 1000)

/-- POWER.STATUS (R486). -/
def powerStatusSpec : CmdSpec where
  need _ := 0
  run _ _ _ s :=
    let p := s.power
    replyNow s (le 4 (pwrStatus s) ++ le 4 p.meas ++ le 4 p.est ++ le 4 p.steer ++ le 4 p.cap ++ le 4 (pwrTmax s) ++
      le 4 p.low ++ le 4 (pwrMismatch s) ++ le 1 p.ext)

/-- POWER_STATUS. -/
def execPowerStatus (m : Nat) (h : HostAnswer) (s : State) : Outc := acceptAs 0x0F01 powerStatusSpec m h s

/-- POWER.CAP (R486). -/
def powerCapSpec : CmdSpec where
  need _ := 2
  run c p _ s := checks [(decide (300 ≤ rd p 0 2) && decide (rd p 0 2 ≤ 1160), 0)] (postCmd c p [] s)

/-- POWER_CAP. -/
def execPowerCap (m : Nat) (h : HostAnswer) (s : State) : Outc := acceptAs 0x0F02 powerCapSpec m h s

/-- POWER.CAP at P3. -/
def applyPowerCap (order : Nat) (p : Bytes) (s : State) : State :=
  answerBeat order (s.modPower fun q => { q with cap := rd p 0 2 })

/-- A regulator address of POWER.CONFIG that is new and needs its STATUS_WORD read (R486). -/
def newAddress (s : State) (p : Bytes) (i : Nat) : Bool :=
  let a := rd p (16 + i) 1
  a != 0 && !(s.power.regs.any fun r => r.addr == a)

/-- The checks of POWER.CONFIG's fields. -/
def powerChecks (p : Bytes) : List (Bool × Nat) :=
  [(decide (85 ≤ rd p 0 1) && decide (rd p 0 1 ≤ 115), 0), (decide (1 ≤ rd p 1 1) && decide (rd p 1 1 ≤ 20), 1),
    (decide (1 ≤ rd p 2 1) && decide (rd p 2 1 ≤ 20), 2), (decide (250 ≤ rd p 4 2), 4), (decide (rd p 6 1 < 8), 6),
    (decide (4 ≤ rd p 7 1), 7), (decide (1000 ≤ rd p 8 4) && decide (rd p 8 4 ≤ 10000000), 8)] ++
    (List.range 8).map fun i => (decide (rd p (16 + i) 1 < 128), 16 + i)

/-- POWER.CONFIG (R486): `h` tells whether every new regulator address acknowledges, as data, or not (log entry 172). -/
def powerConfigSpec : CmdSpec where
  need _ := 24
  run c p h s :=
    let acked := match h with | .data _ => true | _ => false
    checks (powerChecks p)
      (require (acked || !(List.range 8).any (newAddress s p)) 0x0F01 (postCmd c p [] s))

/-- POWER_CONFIG. -/
def execPowerConfig (m : Nat) (h : HostAnswer) (s : State) : Outc := acceptAs 0x0F03 powerConfigSpec m h s

/-- A regulator entry takes an address: a new one starts without readings, and the causes of the old one end. -/
def setRegulator (i a : Nat) (s : State) : State :=
  if (regOf s i).addr == a then s else causeEnd 441 i (causeEnd 442 i (modReg i (fun _ => { addr := a }) s))

/-- POWER.CONFIG at P3. -/
def applyPowerConfig (order : Nat) (p : Bytes) (s : State) : State :=
  let s := s.modPower fun q => { q with
    throttle := rd p 0 1, tHyst := rd p 1 1, hyst := rd p 2 1, gateAlways := bit (rd p 3 1) 0, quietAlways := bit (rd p 3 1) 1
    esc := rd p 4 2, minLevel := rd p 6 1, droopLimit := rd p 7 1, release := rd p 8 4 }
  answerBeat order (thermalCross (eachDo (List.range 8) (fun i => setRegulator i (rd p (16 + i) 1)) s))

/-- POWER.REASONS (R486): a snapshot at the boundary. -/
def powerReasonsSpec : CmdSpec where
  need _ := 1
  run c p _ s := postCmd c p [] s

/-- POWER_REASONS. -/
def execPowerReasons (m : Nat) (h : HostAnswer) (s : State) : Outc := acceptAs 0x0F04 powerReasonsSpec m h s

/-- POWER.REASONS at P3, with the clear it may carry (R476). -/
def applyPowerReasons (order : Nat) (p : Bytes) (s : State) : State :=
  let bs := le 8 s.beat ++ s.power.beats.flatMap (le 8) ++ le 1 s.power.latched
  answerOk order bs (if bit (rd p 0 1) 0 then s.modPower fun q => { q with beats := [0, 0, 0, 0, 0, 0], latched := 0 } else s)

/-- Die group of a sensor (R480, R485). -/
def dieGroup (i : Nat) : Nat := if i < 36 then 0 else if i < 56 then 1 else 2

/-- An entry of POWER.SENSORS (R486). -/
def sensorBytes (s : State) (i : Nat) : Bytes :=
  let x := sensorOf s i
  let hot := match x.val with | some v => decide (((16 * s.power.throttle : Nat) : Int) ≤ v) | none => false
  readingBytes x.val ++ le 1 (b2n x.out + 2 * b2n hot) ++ le 1 (dieGroup i)

/-- POWER.SENSORS (R486). -/
def powerSensorsSpec : CmdSpec where
  need _ := 0
  run _ _ _ s := replyNow s ((List.range 64).flatMap (sensorBytes s))

/-- POWER_SENSORS. -/
def execPowerSensors (m : Nat) (h : HostAnswer) (s : State) : Outc := acceptAs 0x0F05 powerSensorsSpec m h s

/-- A configuration register of the PWR_ group at P3 (R485): out of a stated range, it is saturated. -/
def applyPwrWrite (o v : Nat) (s : State) : State :=
  if o == 0x4000 then s.modPower fun p => { p with
    hyst := clampTo 1 20 (fld v 20 16), tHyst := clampTo 1 20 (fld v 12 8), quietAlways := bit v 1, gateAlways := bit v 0 }
  else if o == 0x4008 then s.modPower fun p => { p with cap := clampTo 300 1160 (v % 2048) }
  else if o == 0x400C then thermalCross (s.modPower fun p => { p with throttle := clampTo 85 115 (v % 256) })
  else if o == 0x4010 then s.modPower fun p => { p with esc := clampTo 250 65535 (v % 65536) }
  else if o == 0x4014 then s.modPower fun p => { p with release := clampTo 1000 10000000 (v % 2 ^ 24) }
  else if o == 0x4018 then s.modPower fun p => { p with minLevel := v % 8 }
  else if o == 0x405C then s.modPower fun p => { p with droopLimit := clampTo 4 255 (v % 256) }
  else s

/-- Registers of the group that take effect at P3 (R485). -/
def pwrConfigRegs : List Nat := [0x4000, 0x4008, 0x400C, 0x4010, 0x4014, 0x4018, 0x405C]

/-- A write to a register of the PWR_ group: configuration waits for P3; selectors, enables and RW1C bits act at once
(R15, R485). -/
def pwrWrite (o v : Nat) (s : State) : State :=
  if pwrConfigRegs.contains o then post 0 (0x10000 + o) (le 4 v) [] s
  else if o == pwrReasonReg then s.modPower fun p => { p with latched := clearBits p.latched (w1c s o v / 65536 % 64) }
  else if o == 0x4034 then s.modPower fun p => { p with reasonSel := v % 8 }
  else if o == 0x4040 then s.modPower fun p => { p with sensSel := v % 64 }
  else if o == 0x4048 then s.modPower fun p => { p with regSel := v % 8 }
  else if o == 0x4060 then s.modPower fun p => { p with irqEn := v % 64 }
  else if o == pwrIrqReg then s.modPower fun p => { p with irqSt := clearBits p.irqSt (w1c s o v % 64) }
  else s

/-- PWR_REASON_BEATS_LO_READ: the upper half is latched (R485). -/
def execPwrReasonBeatsLoRead (s : State) : Outc :=
  .next (if hostUp s then
    let v := nth s.power.beats s.power.reasonSel
    readOut (v % 2 ^ 32) (s.modPower fun p => { p with beatsHi := v / 2 ^ 32 }) else s)

/-- PWR_DROOP_CNT_READ: a read-clear counter (R15, R485). -/
def execPwrDroopCntRead (s : State) : Outc :=
  .next (if hostUp s then (readOut s.power.droopCnt s).modPower fun p => { p with droopCnt := 0 } else s)

/-- The health port answers from stage 1 on (R483, R491). -/
def healthUp (s : State) : Bool := s.boot.pwrgood && decide (1 ≤ s.boot.stage)

/-- What a health-port read returns; nothing is acknowledged before stage 1 (R483; log entries 42 and 171). -/
def healthOut (bs : Bytes) (s : State) : State := s.modOut fun o => { o with health := if healthUp s then bs else [] }

/-- HP_VERSION. -/
def execHpVersion (s : State) : Outc := .next (healthOut (le 1 1) s)

/-- The summary word (Table 17.5). -/
def summaryWord (s : State) : Nat :=
  let p := s.power
  b2n s.wick.level + 2 * b2n s.wick.running + 4 * b2n (fatalReal s) + 8 * b2n (s.fault.srcs.any fun e => !e.2.safe.isEmpty) +
    16 * p.level + 128 * p.clk + 512 * p.active + 32768 * b2n s.boot.stopped

/-- The lowest source with a FATAL latch, 0xFFFF for none (R483). -/
def lowestFatal (s : State) : Nat :=
  match s.fault.srcs.find? fun e => (e.2.real.set && e.2.real.cls == 3) || (e.2.forced.set && e.2.forced.cls == 3) with
  | some e => e.1
  | none => 0xFFFF

/-- FLOW (Table 17.5). -/
def flowByte (s : State) : Nat := b2n s.power.flow + 2 * b2n (causeAny s 439) + 4 * b2n (latched s 438)

/-- The values that the health port answers with, as they stand now (R483). -/
def healthNow (s : State) : Health :=
  { summary := summaryWord s, tmax := tMax s, power := s.power.steer, meas := s.power.meas, est := s.power.est
    flow := flowByte s, flt := fltStatus s, fatal := lowestFatal s
    sensors := (List.range 64).map fun i => (sensorOf s i).val }

/-- The snapshot is taken (R483). -/
def healthSnap (s : State) : State := s.modPower fun p => { p with snap := healthNow s }

/-- POLL_CYCLE_END: it comes at P10 of its boundary (log entry 197), or, while the beat is stopped, at once, where the health
port's values are those of the last poll cycle's end (R483; log entry 235). -/
def execPollCycleEnd (s : State) : Outc :=
  .next (if s.boot.pwrgood && !beatRuns s then healthSnap (pollEnd (slotThreeEnd s)) else atBoundary evPollEnd [] s)

/-- HP_SUMMARY. -/
def execHpSummary (s : State) : Outc := .next (healthOut (le 2 s.power.snap.summary) s)

/-- HP_TMAX. -/
def execHpTmax (s : State) : Outc := .next (healthOut (readingBytes (s.power.snap.tmax.map (·.2))) s)

/-- HP_TMAX_SENSOR: 0 where no value exists. -/
def execHpTmaxSensor (s : State) : Outc :=
  .next (healthOut (le 1 (match s.power.snap.tmax with | some (i, _) => i | none => 0)) s)

/-- A power in W as a word. -/
def wattsBytes (mw : Nat) : Bytes := le 2 (min 65535 (mw / 1000))

/-- HP_POWER. -/
def execHpPower (s : State) : Outc := .next (healthOut (wattsBytes s.power.snap.power) s)

/-- HP_MEAS. -/
def execHpMeas (s : State) : Outc := .next (healthOut (wattsBytes s.power.snap.meas) s)

/-- HP_EST. -/
def execHpEst (s : State) : Outc := .next (healthOut (wattsBytes s.power.snap.est) s)

/-- HP_FLOW. -/
def execHpFlow (s : State) : Outc := .next (healthOut (le 1 s.power.snap.flow) s)

/-- HP_FAULTS. -/
def execHpFaults (s : State) : Outc :=
  .next (healthOut (le 4 s.power.snap.flt ++ le 2 s.power.snap.fatal ++ zeros 2) s)

/-- HP_SENSOR. -/
def execHpSensor (sensor : Nat) (s : State) : Outc :=
  need (decide (sensor < 64)) "sensor" (.next (healthOut (readingBytes (s.power.snap.sensors.getD sensor none)) s))

/-- HP_EXT_LEVEL_READ. -/
def execHpExtLevelRead (s : State) : Outc := .next (healthOut (le 1 s.power.ext) s)

/-- HP_EXT_LEVEL_WRITE: 5 or more is ignored (R483). -/
def execHpExtLevelWrite (level : Nat) (s : State) : Outc :=
  .next (if healthUp s && decide (level < 5) then s.modPower fun p => { p with ext := level } else s)

end Sys2Proof.Machine
end

