-- ==== Sys2Proof/Machine/PmcOps.lean ====
section
/-! DEFINITION. The performance counters: what a beat adds, snapshots, the PMC_ registers with effects, and
LANTERN.PMC_DUMP. -/

namespace Sys2Proof.Machine

/-- A unit's record. -/
def State.punit (s : State) (u : Nat) : PmcUnit := s.pmc.units.get {} u

/-- Replaces a unit's record by its image. -/
def modUnit (u : Nat) (f : PmcUnit → PmcUnit) (s : State) : State :=
  s.modPmc fun p => { p with units := p.units.upd {} u f }

/-- Key under which a unit's PMC_OVF bits are noted as set by hardware: the register is windowed by PMC_SEL (R347). -/
def ovfKey (u : Nat) : Nat := 0x50000 + u

/-- Whether a unit has an event (Table 11.9). -/
def unitHas (u code : Nat) : Bool :=
  decide (code ≤ 3) ||
    (if u ≤ 32 then decide (0x10 ≤ code) && decide (code ≤ 0x1C)
     else
       let last := nth [0x25, 0x34, 0x43, 0x53, 0x63, 0x73, 0x83] (u - 33)
       decide (last / 16 * 16 ≤ code) && decide (code ≤ last))

/-- Events whose count depends on QUAL (Table 11.9). -/
def hasQual (code : Nat) : Bool :=
  [0x10, 0x14, 0x15, 0x16, 0x18, 0x20, 0x21, 0x30, 0x34, 0x40, 0x41, 0x42, 0x50, 0x51, 0x60, 0x61, 0x73, 0x80].contains code

/-- What the beat's samples give for an event of a unit: sum of values, and edges. -/
def sampleOf (events : List PmcSample) (u code qual : Nat) : Nat × Nat :=
  match events.find? fun e => e.unit == u && e.code == code && (!hasQual code || e.qual == qual) with
  | some e => (e.sum, e.edges)
  | none => (0, 0)

/-- What a counter's event register makes it add in a beat of `cycles` cycles (R343; log entry 141). -/
def eventGain (events : List PmcSample) (u cycles evt : Nat) : Nat :=
  let code := fld evt 7 0
  let v :=
    if !unitHas u code || code == 0 then (0, 0)
    else if code == 1 then (cycles, (sampleOf events u 1 0).2)
    else if code == 3 then (1, 1)
    else sampleOf events u code (fld evt 23 16)
  match fld evt 29 28 with
  | 0 => v.1
  | 1 => v.2
  | _ => 0

/-- Whether counter `n` counts the carries of the one below (R343). -/
def chained (x : PmcUnit) (n : Nat) : Bool := decide (1 ≤ n) && decide (n ≤ 7) && bit (nth x.evt n) 31

/-- Adds to counter `n`: the unit after it, and the carries out (R344: the lower of a chained pair sets no bit). -/
def addCounter (x : PmcUnit) (n gain : Nat) : PmcUnit × Nat :=
  let v := nth x.cnt n + gain
  let carries := v / 2 ^ 32
  ({ x with
      cnt := x.cnt.set n (v % 2 ^ 32)
      ovf := if carries != 0 && !chained x (n + 1) then setBit x.ovf n true else x.ovf }, carries)

/-- The counters of a unit from `n` on take their gains, lowest first, each chained one the carries of the one below
(R343). -/
def addAll (gain : Nat → Nat) (x : PmcUnit) (n carry : Nat) : Nat → PmcUnit
  | 0 => x
  | k + 1 =>
    let r := addCounter x n (if chained x n then carry else gain n)
    addAll gain r.1 (n + 1) r.2 k

/-- A unit's record after an addition, with PMC_OVF bits newly set noted and the PMC cause raised where asked (R17,
R344). -/
def putUnit (u : Nat) (x : PmcUnit) (s : State) : State :=
  let new := clearBits x.ovf (s.punit u).ovf
  let s := eachDo (bitsOf new 8) (markSet (ovfKey u)) (modUnit u (fun _ => x) s)
  if Nat.land new x.irq = 0 then s else irqCause 30 s

/-- Cycles of a unit in the beat that ends; none while it is gated (R34, R342, R478). -/
def unitCycles (s : State) (u : Nat) : Nat :=
  if u = 39 then 6400
  else if u < 32 && s.power.gated.contains u then 0
  else cyclesPerBeat s - s.glb.lostCycles

/-- What one unit counts in the beat that ends (R342, R343). -/
def pmcUnitBeat (events : List PmcSample) (u : Nat) (s : State) : State :=
  let n := unitCycles s u
  let x := s.punit u
  let x := { x with cyc := (x.cyc + n) % 2 ^ 64 }
  putUnit u (if s.pmc.running && n != 0 then addAll (fun i => eventGain events u n (nth x.evt i)) x 0 0 8 else x) s

/-- What the 40 units count in the beat that ends; counts of the cycle with the boundary belong to it (R345). -/
def pmcBeat (events : List PmcSample) (s : State) : State := eachDo (List.range 40) (pmcUnitBeat events) s

/-- A carry into counter `n`, passed on by wraps along a chain of counters (R343, R344). -/
def carryUp (x : PmcUnit) (n carry : Nat) : Nat → PmcUnit
  | 0 => x
  | k + 1 =>
    if carry = 0 then x
    else
      let r := addCounter x n carry
      if chained r.1 (n + 1) then carryUp r.1 (n + 1) r.2 k else r.1

/-- PMC_COUNTER_WRAP: a running counter at its greatest value goes on to 0 (R344). -/
def pmcWrap (u n : Nat) (s : State) : State :=
  let x := s.punit u
  if s.pmc.running && nth x.cnt n == 2 ^ 32 - 1 then
    putUnit u (carryUp x n 1 (8 - n)) s
  else s

/-- PMC_COUNTER_WRAP. -/
def execPmcCounterWrap (unit counter : Nat) (s : State) : Outc :=
  need (decide (unit < 40) && decide (counter < 8)) "unit or counter" (.next (pmcWrap unit counter s))

/-- A write to PMC_GCTRL (Table 11.11, R345): VIEW at once, the actions at the next P3. -/
def gctrlWrite (v : Nat) (s : State) : State :=
  if !hostUp s then s
  else s.modPmc fun p => { p with
    view := bit v 2, snap := p.snap || bit v 1, clear := p.clear || bit v 3, run := bit v 0, runDue := bit v 0 != p.running }

/-- PMC_SNAP: the PMC_GCTRL write that sets SNAP. -/
def execPmcSnap (value : Nat) (s : State) : Outc := .next (gctrlWrite (Nat.lor value 2) s)

/-- PMC_CLEAR: the PMC_GCTRL write that sets CLEAR. -/
def execPmcClear (value : Nat) (s : State) : Outc := .next (gctrlWrite (Nat.lor value 8) s)

/-- PMC_RUN: the PMC_GCTRL write that changes RUN. -/
def execPmcRun (value : Nat) (s : State) : Outc := .next (gctrlWrite value s)

/-- Every counter of every unit is copied (R345). -/
def pmcSnapshot (s : State) : State :=
  eachDo (List.range 40) (fun u => modUnit u fun x => { x with snapCyc := x.cyc, snap := x.cnt })
    (s.modPmc fun p => { p with snapBeat := s.beat })

/-- The actions of PMC_GCTRL at P3: SNAP, CLEAR, RUN (R345). -/
def pmcActions (s : State) : State :=
  let s := if s.pmc.snap then pmcSnapshot s else s
  let s := if s.pmc.clear then
      s.modPmc fun p => { p with units := p.units.mapAll fun _ x => { x with cnt := [0, 0, 0, 0, 0, 0, 0, 0], ovf := 0 } }
    else s
  s.modPmc fun p => { p with snap := false, clear := false, running := p.run, runDue := false }

/-- A write to PMC_EVTn or PMC_CNTn of the selected unit (R346, R347, Table 11.12). -/
def pmcWrite (offset value : Nat) (s : State) : State :=
  let counter := decide (0x4450 ≤ offset)
  if !hostUp s || offset % 4 != 0 || decide (offset < 0x4430) || decide (0x4470 ≤ offset) then s
  else if s.pmc.run || s.pmc.running || s.pmc.runDue || (counter && s.pmc.view) then
    markSet 0x4408 2 (s.modPmc fun p => { p with ignored := true })
  else if 40 ≤ s.pmc.sel then s
  else modUnit s.pmc.sel (fun x =>
    if counter then { x with cnt := x.cnt.set ((offset - 0x4450) / 4) (value % 2 ^ 32) }
    else { x with evt := x.evt.set ((offset - 0x4430) / 4) (Nat.land value 0xB0FF00FF) }) s

/-- PMC_COUNTER_WRITE. -/
def execPmcCounterWrite (offset value : Nat) (s : State) : Outc := .next (pmcWrite offset value s)

/-- The cycle counter that PMC_CYC_LO shows (R347). -/
def shownCycles (s : State) : Nat :=
  if 40 ≤ s.pmc.sel then 0
  else if s.pmc.view then (s.punit s.pmc.sel).snapCyc else (s.punit s.pmc.sel).cyc

/-- PMC_CYC_LO_READ (R347): the upper half is latched. -/
def execPmcCycLoRead (s : State) : Outc :=
  .next (if hostUp s then
    readOut (shownCycles s % 2 ^ 32) (s.modPmc fun p => { p with cycHi := shownCycles s / 2 ^ 32 }) else s)

/-- PMC_SNAP_BEAT_LO_READ (R347). -/
def execPmcSnapBeatLoRead (s : State) : Outc :=
  .next (if hostUp s then
    readOut (s.pmc.snapBeat % 2 ^ 32) (s.modPmc fun p => { p with snapHi := p.snapBeat / 2 ^ 32 }) else s)

/-- An entry of LANTERN.PMC_DUMP (log entry 142). -/
def pmcEntry (x : PmcUnit) : Bytes :=
  le 8 x.snapCyc ++ x.snap.flatMap (le 4) ++ x.evt.flatMap (le 4) ++ le 4 x.ovf ++ zeros 20

/-- LANTERN.PMC_DUMP. -/
def lanternPmcDumpSpec : CmdSpec where
  need _ := 9
  run c p _ s := hostReady s (postCmd c p [] s)

/-- LANTERN_PMC_DUMP. -/
def execLanternPmcDump (m : Nat) (h : HostAnswer) (s : State) : Outc := acceptAs 0x0C08 lanternPmcDumpSpec m h s

/-- LANTERN.PMC_DUMP at the boundary: bit 0 takes a snapshot first. -/
def applyPmcDump (order : Nat) (p : Bytes) (s : State) : State :=
  let s := if bit (rd p 8 1) 0 then pmcSnapshot s else s
  answerOk order (le 8 s.pmc.snapBeat)
    (hostWrite 0 (rd p 0 8) ((List.range 40).flatMap fun u => pmcEntry (s.punit u)) s)

end Sys2Proof.Machine
end

