-- ==== Sys2Proof/Machine/Startup.lean ====
section
/-! DEFINITION. Start-up and resets: power, straps, boot stages, the board configuration, core reset, the PCIe reset pin and
the Ittas restart, with the SYS commands that go with them (R488 to R495, R504). -/

namespace Sys2Proof.Machine

/-- The flash slots that a reset leaves: one whose write a reset cut short fails its check at boot (R447). -/
def slotsAfterReset (s : State) : List Bytes := if s.fw.st = 3 then s.fw.slots.set (otherSlot s) [] else s.fw.slots

/-- What a cold start and a core reset leave (Table 18.5): the fuses and the boot flash of the device; pins; the model's
own fields; and, outside the device, host memory. -/
def afterReset (s : State) (mods : MemPort → MemPort) : State :=
  { State.reset with
    boot := { pwrgood := s.boot.pwrgood, perstHigh := s.boot.perstHigh, everUp := s.boot.everUp, pcieLost := s.boot.pcieLost
              ethLost := s.boot.ethLost }
    trust := { lc := s.trust.lc, floor := s.trust.floor, seeds := s.trust.seeds }
    fw := { slots := slotsAfterReset s, desc := s.fw.desc, certArea := s.fw.certArea, board := s.fw.board }
    host := { mem := s.host.mem }
    mem := { ports := s.mem.ports.map fun e => (e.1, mods e.2) }
    out := s.out
    freeCtr := s.freeCtr
    pending := s.pending }

/-- A memory port at a cold start: whether a module is plugged outlasts it. -/
def coldModule (m : MemPort) : MemPort := { present := m.present }

/-- A memory port at core reset (R300): EMPTY, or TRAINING when a module is present; its contents are kept and not trusted
(Table 18.5). -/
def resetModule (m : MemPort) : MemPort := { present := m.present, st := if m.present then 1 else 0, mem := m.mem }

/-- PWRGOOD low: a cold start (R494, R512). -/
def pwrgoodFall (s : State) : State := (afterReset s coldModule).modBoot fun b => { b with pwrgood := false }

/-- PWRGOOD_FALL. -/
def execPwrgoodFall (s : State) : Outc := .next (if s.boot.pwrgood then pwrgoodFall s else s)

/-- PWRGOOD rises: the straps are sampled and boot stage 1 runs (R489, R491); the memory ports leave reset (R300). -/
def pwrgoodRise (straps : Nat) (s : State) : State :=
  let s := s.modMem fun m => { m with ports := m.ports.map fun e => (e.1, resetModule e.2) }
  s.modBoot fun b => { b with
    pwrgood := true, everUp := true, cause := if b.everUp then 2 else 1, straps := straps % 16, stage := 1 }

/-- PWRGOOD_RISE. -/
def execPwrgoodRise (straps : Nat) (s : State) : Outc := .next (if s.boot.pwrgood then s else pwrgoodRise straps s)

/-- A core reset with its cause code: boot restarts at stage 2 (R494, R504). The seal key stays in the security block (R292; log
entry 157). -/
def coreReset (cause : Nat) (s : State) : State :=
  let straps := s.boot.straps
  let key := s.ledger.key
  ((afterReset (ledgerToBytes s) resetModule).modLedger fun l => { l with key := key }).modBoot fun b => { b with
    straps := straps, stage := 2, cause := cause }

/-- CORE_RESET_START: 10 ms after the response that announced it (R493, R504). -/
def execCoreResetStart (s : State) : Outc :=
  .next (if s.boot.coreDue && timeCome s s.boot.dueAt && !(s.mbx.cmds.any fun c => c.reply.isSome && (c.op == 0x0112 || c.op == 0x0204)) then
    coreReset s.boot.coreCause s else s)

/-- PERST_N is asserted (R489, R494): a core reset with STRAP[1] set, which a stopped device ignores; else a reset of the
host interface. -/
def perstAssert (s : State) : State :=
  let s' := s.modBoot fun b => { b with perstHigh := false }
  if !s.boot.perstHigh || !s.boot.pwrgood then s'
  else if bit s.boot.straps 1 then (if s.boot.stopped || s.boot.stage == 1 then s' else coreReset 3 s')
  else hotReset s'

/-- PERST_N_ASSERT. -/
def execPerstNAssert (s : State) : Outc := .next (perstAssert s)

/-- PERST_N_DEASSERT: the endpoint may train (R492). -/
def execPerstNDeassert (s : State) : Outc := .next (s.modBoot fun b => { b with perstHigh := true })

/-- A boot log entry (R504; log entry 179: result 0 good, 1 failed). -/
def bootLog (stage result slot detail : Nat) (s : State) : State :=
  s.modBoot fun b => { b with
    log := b.log ++ [{ stage := stage, result := result, slot := slot, ms := b.ms, detail := detail }] }

/-- The image of a slot boots (R437). -/
def bootSlot (slot : Nat) (s : State) : State :=
  bootLog 2 0 slot 0 ((s.modFw fun f => { f with slot := slot, run := slotImage s slot }).modBoot fun b => { b with stage := 3 })

/-- Boot enters RECOVERY (R493): the preferred slot counts as the one that does not get a new image. -/
def enterRecovery (s : State) : State :=
  (s.modFw fun f => { f with slot := preferredSlot s }).modBoot fun b => { b with stage := 15 }

/-- Stage 2 ends: the preferred slot, then the other one, is verified; RECOVERY where neither passes or STRAP[0] is set
(R437, R489, R493). -/
def stageRom (s : State) : State :=
  let p := preferredSlot s
  let f0 := imageFault s (slotImage s p)
  let f1 := imageFault s (slotImage s (1 - p))
  if bit s.boot.straps 0 then enterRecovery (bootLog 2 0 p 0 s)
  else if f0 == 0 then bootSlot p s
  else
    let s := bootLog 2 1 p f0 s
    if f1 == 0 then bootSlot (1 - p) s else enterRecovery (bootLog 2 1 (1 - p) f1 s)

/-- Bytes that BODY_HASH of a board record covers (R490). -/
def boardBody (b : Bytes) : Bytes := part b 64 (8 * rd b 6 2 + 768 * 16)

/-- A board configuration record is valid (R490). -/
def boardOk (b : Bytes) : Bool :=
  rd b 0 4 == 0x42444346 && rd b 4 2 == 1 && decide (rd b 6 2 ≤ 768) && part b 32 32 == sha256 (boardBody b)

/-- An auto-port entry of a board record (R490). -/
def autoPortOf (e : Bytes) : AutoPort :=
  { lane := rd e 0 2, width := rd e 2 1, mode := rd e 3 1, fec := rd e 4 1, method := rd e 5 1, adminUp := bit (rd e 6 1) 0 }

/-- A coefficient set of a board record is loaded as LANE.SET_COEFF would load it (R69, R490). -/
def boardSet (b : Bytes) (l : Nat) (s : State) : State :=
  let e := part b (64 + 8 * rd b 6 2 + 16 * l) 16
  let t := tapsOf e
  if bit (rd e 6 1) 0 && (badTap (s.lane l).mode t).isNone && tapsJoint t && decide (rd e 5 1 ≤ 20) then loadSet l e s else s

/-- The board configuration (R490): a valid record's, or the defaults, with BOOT_FLASH and the area's offset. -/
def readBoard (s : State) : State :=
  let b := s.fw.board
  if boardOk b then
    let s := s.modBoot fun x => { x with
      boardValid := true, subsys := [rd b 8 4, rd b 12 4], hpAddr := rd b 16 1 % 128
      autoPorts := (List.range (rd b 6 2)).map fun i => autoPortOf (part b (64 + 8 * i) 8) }
    eachDo (List.range 768) (boardSet b) (eachDo (List.range 8) (fun i => setRegulator i (rd b (17 + i) 1 % 128)) s)
  else detect 447 0x8000 0 [] (s.modBoot fun x => { x with boardValid := false, autoPorts := [] })

/-- Stage 3 ends: board configuration, ITTAS_RUN, and the check of the other slot is due (R438, R491). -/
def stageIttas (s : State) : State :=
  let s := bootLog 3 0 s.fw.slot 0 (readBoard s)
  (s.modFw fun f => { f with checkDue := true }).modBoot fun b => { b with stage := 4, ittasRun := true }

/-- An auto port is created as PORT.CREATE would create it, and set admin up with its lanes started when its flag asks; one
that PORT.CREATE would refuse is recorded (R490; log entry 180). -/
def autoPort (a : AutoPort) (s : State) : State :=
  if ((createChecks a.lane a.width a.mode a.fec a.method).all fun c => c.1) && !lanesTaken s a.lane a.width then
    let s := createPort a.lane a.width a.mode a.fec a.method s
    if a.adminUp then
      eachDo (portLanes s a.lane) enableLane (modPort a.lane (fun q => { q with admin := true }) s)
    else s
  else bootLog 6 1 s.fw.slot a.lane s

/-- Stage 5 ends: READY (R465, R491). -/
def stageInit (s : State) : State :=
  let s := bootLog 5 0 s.fw.slot 0 s
  let s := s.modBoot fun b => { b with stage := 6, dpReady := true, emberCheck := true }
  let s := s.modWick fun w => { w with armed := true, kicked := s.beat }
  let s := if bit s.boot.straps 2 then eachDo s.boot.autoPorts autoPort s else s
  raiseEvent 0x0106 (le 1 s.boot.cause ++ le 1 s.fw.slot ++ zeros 2 ++ le 4 s.boot.ms) (bootLog 6 0 s.fw.slot 0 s)

/-- BOOT_STAGE_COMPLETE, `ms` milliseconds after PWRGOOD rose (R491). -/
def bootStage (ms : Nat) (s : State) : State :=
  let t := s.modBoot fun b => { b with ms := ms }
  if !s.boot.pwrgood then s
  else if s.boot.stage = 1 then bootLog 1 0 0 0 (t.modBoot fun b => { b with stage := 2 })
  else if s.boot.stage = 2 then stageRom t
  else if s.boot.stage = 3 then stageIttas t
  else if s.boot.stage = 4 then bootLog 4 0 t.fw.slot 0 (t.modBoot fun b => { b with stage := 5 })
  else if s.boot.stage = 5 then stageInit t
  else s

/-- BOOT_STAGE_COMPLETE. -/
def execBootStageComplete (ms : Nat) (s : State) : Outc := .next (bootStage ms s)

/-- Automatic restarts within the last 600 s (R495). -/
def recentRestarts (s : State) : List Nat := s.boot.autoBeats.filter fun b => decide (s.beat < b + 600000000)

/-- Ittas stops for its restart: commands in flight are left to the guard (R412, R495). -/
def stopIttas (s : State) : State :=
  let s := s.modMbx fun b => { b with cmds := b.cmds.map fun c =>
    if c.accepted || c.reply.isSome then { c with accepted := true, reply := none } else c }
  s.modBoot fun b => { b with ittasRun := false, halted := true, restarting := true, ittasDue := false, restarts := satAdd 32 b.restarts 1 }

/-- The other slot is booted at a restart whose measurement fails (R495). -/
def bootOther (s : State) : State :=
  s.modFw fun f => { f with slot := 1 - f.slot, run := f.other, other := [], st := 0 }

/-- ITTAS_RESTART_START (R495): the fourth automatic restart within 600 s is not made. `measured`: the running image's code
region measures as it should. -/
def ittasRestart (measured : Bool) (s : State) : State :=
  let recent := recentRestarts s
  if !s.boot.ittasDue || !timeCome s s.boot.dueAt || !s.boot.pwrgood || (!s.boot.auto && (s.mbx.cmds.any fun c => c.reply.isSome && c.op == 0x0112)) then s
  else if s.boot.auto && decide (3 ≤ recent.length) then s.modBoot fun b => { b with ittasDue := false }
  else
    let s := s.modBoot fun b => { b with autoBeats := if b.auto then s.beat :: recent else b.autoBeats }
    if measured then stopIttas s
    else if s.fw.st == 4 && decide (s.trust.floor ≤ rd s.fw.other 6 1) then stopIttas (bootOther s)
    else coreReset 6 s

/-- ITTAS_RESTART_START. -/
def execIttasRestartStart (measured : Bool) (s : State) : Outc := .next (ittasRestart measured s)

/-- ITTAS_RESTART_DONE (R465, R466, R495): without the preserved section the accumulators start from the hardware counts; the
latches of sources 433 to 436 are acknowledged and cleared at the next P9. -/
def ittasRestarted (imported : Bool) (s : State) : State :=
  if !s.boot.restarting then s
  else
    let s := s.modBoot fun b => { b with ittasRun := true, halted := false, restarting := false }
    let s := if imported then s else s.modPorts fun t => t.mapAll fun _ q => { q with accs := [] }
    let s := (causeEnd 433 0 s).modWick fun w => { w with armed := w.armed || s.boot.dpReady, expired := false, kicked := s.beat }
    let s := eachDo ((List.range 21).map (416 + ·)) (fun i s =>
      if safeHeld s i then modSrc i (fun r => { r with safe := [] }) s else s) s
    let s := eachDo [433, 434, 435, 436] (fun i s =>
      post 0 0x13428 (le 4 (i + 0x30000)) [] (post 0 0x13424 (le 4 (i + 0x30000)) [] s)) s
    raiseEvent 0x0107 (le 1 s.boot.haltCause ++ le 1 (b2n imported) ++ le 1 (recentRestarts s).length) s

/-- ITTAS_RESTART_DONE. -/
def execIttasRestartDone (imported : Bool) (s : State) : Outc := .next (ittasRestarted imported s)

/-- GLB_STATE (R373). -/
def glbState (s : State) : Nat :=
  b2n s.boot.dpReady + 2 * b2n s.boot.ittasRun + 4 * b2n s.fw.hand + 16 * s.boot.stage

/-- SYS.INFO (R504). -/
def sysInfoSpec : CmdSpec where
  need _ := 0
  run _ _ _ s := replyNow s (le 4 (0x0768 * 65536 + Config.partRev % 65536) ++ serialBytes ++ le 4 (rd s.fw.run 12 4) ++
    le 1 s.boot.straps ++ le 1 s.boot.cause ++ le 1 (b2n (!s.boot.boardValid)))

/-- SYS_INFO. -/
def execSysInfo (m : Nat) (h : HostAnswer) (s : State) : Outc := acceptAs 0x0110 sysInfoSpec m h s

/-- SYS.STATUS (R504). -/
def sysStatusSpec : CmdSpec where
  need _ := 0
  run _ _ _ s := replyNow s (le 1 s.boot.stage ++ le 4 (glbState s) ++ le 8 s.beat ++ le 4 s.boot.restarts ++
    le 1 (s.slice 32).st ++ le 1 (s.slice 32).peer ++
    le 5 (maskOf ((List.range 33).filter fun i => (s.slice i).st != 0)) ++ le 1 (b2n s.boot.stopped))

/-- SYS_STATUS. -/
def execSysStatus (m : Nat) (h : HostAnswer) (s : State) : Outc := acceptAs 0x0111 sysStatusSpec m h s

/-- SYS.RESET (R494, R504): the response is posted before the reset. -/
def sysResetSpec : CmdSpec where
  need p := if rd p 0 1 = 3 then 8 else 1
  run _ p _ s :=
    let level := rd p 0 1
    if level == 1 then
      replyNow (s.modBoot fun b => { b with ittasDue := true, dueAt := s.beat + 10000, auto := false, haltCause := 0xFF }) []
    else if level == 3 then
      require (rd p 4 4 == 0x434F5245) 0x0102 (require (!s.boot.stopped) 0x0103
        (replyNow (s.modBoot fun b => { b with coreDue := true, dueAt := s.beat + 10000, coreCause := 4 }) []))
    else badArg 0

/-- SYS_RESET. -/
def execSysReset (m : Nat) (h : HostAnswer) (s : State) : Outc := acceptAs 0x0112 sysResetSpec m h s

/-- An entry of SYS.BOOT_LOG (R504). -/
def bootEntryBytes (e : BootEntry) : Bytes :=
  le 1 e.stage ++ le 1 e.result ++ le 1 e.slot ++ zeros 1 ++ le 4 e.ms ++ le 4 e.detail ++ zeros 4

/-- SYS.BOOT_LOG (R504). -/
def sysBootLogSpec : CmdSpec where
  need _ := 8
  run _ p _ s := hostReady s
    (replyNow (hostWrite 0 (rd p 0 8) (s.boot.log.flatMap bootEntryBytes) s) (le 4 s.boot.log.length))

/-- SYS_BOOT_LOG. -/
def execSysBootLog (m : Nat) (h : HostAnswer) (s : State) : Outc := acceptAs 0x0113 sysBootLogSpec m h s

end Sys2Proof.Machine
end

