-- ==== Sys2Proof/Machine/TmCmds.lean ====
section
/-! DEFINITION. The TM commands. -/

namespace Sys2Proof.Machine

/-- A port that TM.SCHED and TM.QUEUE_STATS may name: an existing front-panel port or one of the others (R109, R263). -/
def tmPortOk (s : State) (p : Nat) : Bool := s.ports.has p || (decide (768 ≤ p) && decide (p < 802))

/-- The checks of TM.CONFIG's fields. -/
def tmConfigChecks (s : State) (p : Bytes) : List (Bool × Nat) :=
  let e := rd p 0 1
  [((decide (e < 8) && !s.ports.any fun q => bit q.2.pfcMask e) || e == 0xFF, 0),
    (decide (100 ≤ rd p 4 4) && decide (rd p 4 4 ≤ 1000000), 4)]

/-- TM.CONFIG (R240, R248, R263). -/
def tmConfigSpec : CmdSpec where
  need _ := 8
  run c p _ s := checks (tmConfigChecks s p) (postCmd c p [] s)

/-- TM_CONFIG. -/
def execTmConfig (m : Nat) (h : HostAnswer) (s : State) : Outc := acceptAs 0x0801 tmConfigSpec m h s

/-- Applies TM.CONFIG (R240, R250). -/
def applyTmConfig (order : Nat) (p : Bytes) (s : State) : State :=
  let s := s.modTm fun t => { t with expressTc := rd p 0 1, s := rd p 4 4 }
  answerBeat order (eachDo s.ports.keys expressAwake s)

/-- The checks of TM.SCHED's fields. -/
def schedChecks (s : State) (p : Bytes) : List (Bool × Nat) :=
  let port := rd p 0 2
  let ws := if port < 768 then (List.range 80).map (8 + ·) else (List.range 8).map (16 + ·)
  (tmPortOk s port, 0) :: ws.map fun o => (decide (1 ≤ rd p o 1), o)

/-- TM.SCHED (R240, R244, R263). -/
def tmSchedSpec : CmdSpec where
  need _ := 88
  run c p _ s := checks (schedChecks s p) (postCmd c p [] s)

/-- TM_SCHED. -/
def execTmSched (m : Nat) (h : HostAnswer) (s : State) : Outc := acceptAs 0x0802 tmSchedSpec m h s

/-- Applies TM.SCHED. -/
def applyTmSched (order : Nat) (p : Bytes) (s : State) : State :=
  let port := rd p 0 2
  let set (t : Tab Wfq) (i o : Nat) : Tab Wfq := t.upd {} i fun c => { c with weight := rd p o 1 }
  answerBeat order (expressAwake port (modTmPort port (fun t =>
    let w := if port < 768 then (List.range 8).foldl (fun w g => set w g (8 + g)) t.wfq else t.wfq
    let w := (portQueues port).foldl (fun w q => set w (8 + q) (16 + q)) w
    { t with wfq := w, express := bit (rd p 2 1) 0 }) s))

/-- A shaper that a port has: level and index (R246). -/
def shaperOk (port level i : Nat) : Bool :=
  if port < 768 then (level == 0 && decide (i < 72)) || (level == 1 && decide (i < 8)) || (level == 2 && i == 0)
  else (level == 0 && decide (i < 8)) || (level == 2 && i == 0)

/-- The checks of TM.SHAPER's fields. -/
def shaperChecks (s : State) (p : Bytes) : List (Bool × Nat) :=
  let port := rd p 0 2; let rate := rd p 8 4; let burst := rd p 12 4
  [(s.ports.has port || port == 800, 0),
    (decide (rd p 2 1 ≤ 2) && (port != 800 || rd p 2 1 != 1), 2), (shaperOk port (rd p 2 1) (rd p 3 1), 3),
    (decide (1 ≤ rate) && decide (rate ≤ 51200000), 8),
    (decide (64 ≤ burst) && decide (burst ≤ 16777215) && decide (rate ≤ burst * 256), 12)]

/-- TM.SHAPER (R246, R263). -/
def tmShaperSpec : CmdSpec where
  need _ := 16
  run c p _ s := checks (shaperChecks s p) (postCmd c p [] s)

/-- TM_SHAPER. -/
def execTmShaper (m : Nat) (h : HostAnswer) (s : State) : Outc := acceptAs 0x0803 tmShaperSpec m h s

/-- Applies TM.SHAPER: a shaper that becomes enabled begins with credit 0 (R247). -/
def applyTmShaper (order : Nat) (p : Bytes) (s : State) : State :=
  let i := 128 * rd p 2 1 + rd p 3 1
  let on := bit (rd p 4 1) 0
  answerBeat order (modTmPort (rd p 0 2) (fun t => { t with shapers := t.shapers.upd {} i fun x =>
    { x with on := on, rate := rd p 8 4, burst := rd p 12 4, credit := if on && !x.on then 0 else x.credit } }) s)

/-- The checks of TM.POLICER_WRITE's fields. -/
def policerChecks (p : Bytes) : List (Bool × Nat) :=
  let rate (o : Nat) : Bool := decide (1 ≤ rd p o 4) && decide (rd p o 4 ≤ 51200000)
  let size (o : Nat) : Bool := decide (64 ≤ rd p o 4) && decide (rd p o 4 ≤ 16777215)
  [(decide (1 ≤ rd p 0 1) && decide (rd p 0 1 < 16), 0), (decide (rd p 2 2 ≤ 65534), 2), (rate 8, 8),
    (rate 12 && decide (rd p 8 4 ≤ rd p 12 4), 12), (size 16, 16), (size 20 && decide (rd p 16 4 ≤ rd p 20 4), 20)]

/-- TM.POLICER_WRITE (R251, R263). -/
def tmPolicerWriteSpec : CmdSpec where
  need _ := 24
  run c p _ s := checks (policerChecks p) (postCmd c p [] s)

/-- TM_POLICER_WRITE. -/
def execTmPolicerWrite (m : Nat) (h : HostAnswer) (s : State) : Outc := acceptAs 0x0804 tmPolicerWriteSpec m h s

/-- Applies TM.POLICER_WRITE: buckets begin full (Table 8.4). -/
def applyPolicerWrite (order : Nat) (p : Bytes) (s : State) : State :=
  let f := rd p 4 1
  let w (x : Policer) : Policer := { x with
    aware := bit f 0, packet := bit f 1, redDrop := bit f 2, cir := rd p 8 4, pir := rd p 12 4
    cbs := rd p 16 4, pbs := rd p 20 4, tc := rd p 16 4 * 256, tp := rd p 20 4 * 256 }
  answerBeat order (eachDo (quadsOf (rd p 0 1)) (fun q => modQuad q fun x =>
    { x with policers := x.policers.upd {} (rd p 2 2) w }) s)

/-- TM.POLICER_READ (R263). -/
def tmPolicerReadSpec : CmdSpec where
  need _ := 5
  run c p _ s := oneQuad p fun _ => postCmd c p [] s

/-- TM_POLICER_READ. -/
def execTmPolicerRead (m : Nat) (h : HostAnswer) (s : State) : Outc := acceptAs 0x0805 tmPolicerReadSpec m h s

/-- Takes the snapshot of TM.POLICER_READ. -/
def applyPolicerRead (order : Nat) (p : Bytes) (s : State) : State :=
  let i := rd p 2 2
  match quadsOf (rd p 0 1) with
  | q :: _ =>
    let x := (s.quad q).policers.get {} i
    let head := if i = 65535 then zeros 28 else
      le 1 (b2n x.aware + 2 * b2n x.packet + 4 * b2n x.redDrop) ++ zeros 3 ++ le 4 x.cir ++ le 4 x.pir ++ le 4 x.cbs ++
        le 4 x.pbs ++ le 4 x.tc ++ le 4 x.tp
    let x0 := { x with counts := List.replicate 6 0 }
    let s := if bit (rd p 4 1) 0 then modQuad q (fun y => { y with policers := y.policers.put i x0 }) s else s
    answerOk order (head ++ zeros 4 ++ x.counts.flatMap (le 8)) s
  | [] => s

/-- Entries of a gate list as host memory gives them (Table 8.6). -/
def gateEntries (n : Nat) (bs : Bytes) : List (Nat × Nat × Nat) :=
  (List.range n).map fun i => (rd bs (8 * i) 4, rd bs (8 * i + 4) 1, rd bs (8 * i + 5) 1)

/-- ConfigChangeTime of a base time (Table 8.5): the base, or the next whole cycle after the present. -/
def configChange (base cycle now : Nat) : Nat :=
  if now < base then base else base + ((now - base) / cycle + 1) * cycle

/-- The checks of TM.GATE_LIST's fields for a list. -/
def gateChecks (s : State) (p : Bytes) : List (Bool × Nat) :=
  let n := rd p 4 2; let cycle := rd p 28 4
  [(s.ports.has (rd p 0 2), 0), (decide (1 ≤ n) && decide (n ≤ 256), 4), (decide (rd p 22 4 < 10 ^ 9), 22),
    (decide (1000 ≤ cycle) && decide (cycle ≤ 10 ^ 9), 28), (decide (rd p 32 4 ≤ 10 ^ 9), 32)]

/-- Every entry lasts 64 ns or more and has a known operation. -/
def gatesOk (es : List (Nat × Nat × Nat)) : Bool := es.all fun e => decide (64 ≤ e.1) && decide (e.2.2 ≤ 2)

/-- The new gate list waits for its configuration change time. -/
def pendGates (p : Bytes) (es : List (Nat × Nat × Nat)) (s : State) : State :=
  let base := rd p 16 6 * 10 ^ 9 + rd p 22 4
  let l : GateList := { entries := es, base := base, cycle := rd p 28 4, ext := rd p 32 4 }
  let t := configChange base (rd p 28 4) (clockNs s 0)
  modTmPort (rd p 0 2) (fun x => { x with gates := { x.gates with
    adminStates := rd p 3 1, pend := some (l, t), changeTime := t } }) s

/-- TM.GATE_LIST (R253, R254, R263). Disabling needs no list. -/
def tmGateListSpec : CmdSpec where
  need _ := 36
  run _ p h s :=
    if !bit (rd p 2 1) 0 then
      checks [(s.ports.has (rd p 0 2), 0)] (replyNow (post 0 0x0806 p [] s) (le 8 s.beat))
    else
      checks (gateChecks s p) (withHost h s fun bs =>
        if !gatesOk (gateEntries (rd p 4 2) bs) then badArg 8
        else replyNow (pendGates p (gateEntries (rd p 4 2) bs) s) (le 8 s.beat))

/-- TM_GATE_LIST. -/
def execTmGateList (m : Nat) (h : HostAnswer) (s : State) : Outc := acceptAs 0x0806 tmGateListSpec m h s

/-- A gate list is disabled: the gates take AdminGateStates, and no queue stays held for a gate to open (R253; log entry
206). -/
def applyGateOff (p : Bytes) (s : State) : State :=
  modPort (rd p 0 2) (fun q => { q with mmHeld := false })
    (modTmPort (rd p 0 2) (fun x => { x with gates := { x.gates with
      adminStates := rd p 3 1, states := rd p 3 1, oper := none, pend := none, entry := 0, latched := [] } }) s)

/-- The response of TM.GATE_STATUS. -/
def gateStatusBytes (s : State) (port : Nat) : Bytes :=
  let g := (s.tmPort port).gates
  le 1 (b2n g.oper.isSome + 2 * b2n g.pend.isSome) ++ le 1 g.states ++ le 2 g.entry ++
    le 6 (g.changeTime / 10 ^ 9) ++ le 4 (g.changeTime % 10 ^ 9) ++ zeros 2 ++ (s.tmPort port).overrun.flatMap (le 8)

/-- TM.GATE_STATUS (R263): a snapshot at the boundary. -/
def tmGateStatusSpec : CmdSpec where
  need _ := 2
  run c p _ s :=
    checks [(s.ports.has (rd p 0 2), 0)] (postCmd c p [] s)

/-- Takes the snapshot of TM.GATE_STATUS. -/
def applyGateStatus (order : Nat) (p : Bytes) (s : State) : State := answerOk order (gateStatusBytes s (rd p 0 2)) s

/-- TM_GATE_STATUS. -/
def execTmGateStatus (m : Nat) (h : HostAnswer) (s : State) : Outc := acceptAs 0x0807 tmGateStatusSpec m h s

/-- The checks of TM.MAX_SDU's fields. -/
def maxSduChecks (s : State) (p : Bytes) : List (Bool × Nat) :=
  (s.ports.has (rd p 0 2), 0) :: (List.range 8).map fun i =>
    let v := rd p (2 + 2 * i) 2
    (v == 0 || (decide (64 ≤ v) && decide (v ≤ 16384)), 2 + 2 * i)

/-- TM.MAX_SDU (R253, R263): 64 to 16,384, or 0. -/
def tmMaxSduSpec : CmdSpec where
  need _ := 18
  run c p _ s := checks (maxSduChecks s p) (postCmd c p [] s)

/-- TM_MAX_SDU. -/
def execTmMaxSdu (m : Nat) (h : HostAnswer) (s : State) : Outc := acceptAs 0x0808 tmMaxSduSpec m h s

/-- Applies TM.MAX_SDU. -/
def applyMaxSdu (order : Nat) (p : Bytes) (s : State) : State :=
  answerBeat order (modTmPort (rd p 0 2) (fun x => { x with sdu := (List.range 8).map fun i => rd p (2 + 2 * i) 2 }) s)

/-- TM.QUEUE_STATS (R263). -/
def tmQueueStatsSpec : CmdSpec where
  need _ := 4
  run c p _ s :=
    checks [(tmPortOk s (rd p 0 2), 0), ((portQueues (rd p 0 2)).contains (rd p 2 1), 2)] (postCmd c p [] s)

/-- TM_QUEUE_STATS. -/
def execTmQueueStats (m : Nat) (h : HostAnswer) (s : State) : Outc := acceptAs 0x0809 tmQueueStatsSpec m h s

/-- Takes the snapshot of TM.QUEUE_STATS (R261, R263). -/
def applyQueueStats (order : Nat) (p : Bytes) (s : State) : State :=
  let port := rd p 0 2; let q := rd p 2 1
  let x := (s.tmPort port).stats.get {} q
  let s := if bit (rd p 3 1) 0 then queueStat port q (fun x => { sample := x.sample }) s else s
  answerOk order (le 8 x.frames ++ le 8 x.bytes ++ le 8 x.sojourn ++ le 8 x.sdu ++ x.sample ++ le 4 x.depthHigh ++
    le 4 x.sojournHigh) s

/-- The checks of TM.SAMPLE_RING's fields. -/
def sampleChecks (s : State) (p : Bytes) : List (Bool × Nat) :=
  let n := rd p 12 1
  [(powerOfTwo 64 65536 (rd p 8 4), 8), (decide (n ≤ 32), 12)] ++
    (List.range n).map fun i => (tmPortOk s (rd p (16 + 2 * i) 2), 16 + 2 * i)

/-- TM.SAMPLE_RING (R260, R263). -/
def tmSampleRingSpec : CmdSpec where
  need _ := 80
  run c p _ s := checks (sampleChecks s p) (postCmd c p [] s)

/-- TM_SAMPLE_RING. -/
def execTmSampleRing (m : Nat) (h : HostAnswer) (s : State) : Outc := acceptAs 0x080A tmSampleRingSpec m h s

/-- Applies TM.SAMPLE_RING. -/
def applySampleRing (order : Nat) (p : Bytes) (s : State) : State :=
  answerOk order [] (s.modTm fun t => { t with
    ring := (rd p 0 8, rd p 8 4, 0), ringPorts := (List.range (rd p 12 1)).map fun i => rd p (16 + 2 * i) 2 })

end Sys2Proof.Machine
end

