-- ==== Sys2Proof/Machine/Accept.lean ====
section
/-! DEFINITION. The opcode index: every mailbox command with its checks and effect (R425), and the acceptance of
whatever command waits in a mailbox. -/

namespace Sys2Proof.Machine

/-- Commands of service 0x01, SYS. -/
def opsSys : List (Nat × CmdSpec) := [
  (0x0101, sysEventRingSpec), (0x0102, sysEventMaskSpec), (0x0110, sysInfoSpec), (0x0111, sysStatusSpec),
  (0x0112, sysResetSpec), (0x0113, sysBootLogSpec)]

/-- Commands of service 0x02, FW. -/
def opsFw : List (Nat × CmdSpec) := [
  (0x0201, fwStatusSpec), (0x0202, fwStageSpec), (0x0203, fwVerifySpec), (0x0204, fwActivateSpec),
  (0x0205, fwAbortSpec)]

/-- Commands of service 0x03, TRUST. -/
def opsTrust : List (Nat × CmdSpec) := [
  (0x0301, trustIdentitySpec), (0x0302, trustProvisionSpec), (0x0303, trustAttestSpec), (0x0304, trustLcStatusSpec),
  (0x0305, trustLcAdvanceSpec), (0x0306, trustReturnSpec), (0x0307, trustConsentSpec)]

/-- Commands of service 0x04, PORT. -/
def opsPort : List (Nat × CmdSpec) := [
  (0x0401, portCreateSpec), (0x0402, portDeleteSpec), (0x0403, portAdminSpec), (0x0404, portConfigSpec),
  (0x0405, portStatusSpec), (0x0406, portStatsSpec), (0x0407, portPfcConfigSpec), (0x0408, portPreemptConfigSpec),
  (0x0409, portFlushSpec)]

/-- Commands of service 0x05, LANE. -/
def opsLane : List (Nat × CmdSpec) := [
  (0x0501, laneConfigSpec), (0x0502, laneEnableSpec), (0x0503, laneDisableSpec), (0x0504, laneStatusSpec),
  (0x0505, laneGetCoeffSpec), (0x0506, laneSetCoeffSpec), (0x0507, laneRetrainSpec), (0x0508, laneLoopbackSpec),
  (0x0509, lanePrbsSpec), (0x050A, laneEyeSpec), (0x050B, laneCountersSpec), (0x050C, laneTrainLogSpec),
  (0x050D, laneQuietTlvSpec), (0x050E, laneQuietPeerSpec), (0x050F, laneQuietConfigSpec)]

/-- Commands of service 0x06, RULE. -/
def opsRule : List (Nat × CmdSpec) := [
  (0x0601, ruleOpenSpec), (0x0602, ruleLoadSpec), (0x0603, ruleCommitSpec), (0x0604, ruleAbortSpec),
  (0x0605, ruleRevertSpec), (0x0606, ruleStatusSpec), (0x0607, ruleHashProbeSpec), (0x0608, ruleParseStatsSpec)]

/-- Commands of service 0x07, TABLE. -/
def opsTable : List (Nat × CmdSpec) := [
  (0x0701, tableConfigSpec), (0x0702, tableInsertSpec), (0x0703, tableDeleteSpec), (0x0704, tableReadSpec),
  (0x0705, tableFlushSpec), (0x0706, tableLearnConfigSpec), (0x0707, tableLearnStatusSpec),
  (0x0708, tableNotifyRingSpec), (0x0709, tableStatsSpec), (0x070A, tableNhStatusSpec), (0x0710, ternGroupSpec),
  (0x0711, ternWriteSpec), (0x0712, ternMoveSpec), (0x0713, ternBlockMoveSpec), (0x0714, ternReadSpec),
  (0x0715, ternStatusSpec), (0x0716, ternStatsSpec), (0x0720, autoLoadSpec), (0x0721, autoStatusSpec),
  (0x0722, autoStatsSpec), (0x0723, autoRepairSpec)]

/-- Commands of service 0x08, TM. -/
def opsTm : List (Nat × CmdSpec) := [
  (0x0801, tmConfigSpec), (0x0802, tmSchedSpec), (0x0803, tmShaperSpec), (0x0804, tmPolicerWriteSpec),
  (0x0805, tmPolicerReadSpec), (0x0806, tmGateListSpec), (0x0807, tmGateStatusSpec), (0x0808, tmMaxSduSpec),
  (0x0809, tmQueueStatsSpec), (0x080A, tmSampleRingSpec)]

/-- Commands of service 0x09, BUF. -/
def opsBuf : List (Nat × CmdSpec) := [
  (0x0901, bufPoolConfigSpec), (0x0902, bufPoolMapSpec), (0x0903, bufHeadroomSpec), (0x0904, bufStatusSpec),
  (0x0905, bufStatsSpec), (0x0906, bufMcWriteSpec), (0x0907, bufMcReadSpec), (0x0908, bufFabricStatusSpec),
  (0x0909, bufPlaneAdminSpec), (0x090A, bufReseqStatsSpec), (0x090B, bufAuditSpec), (0x090C, bufMirrorSpec)]

/-- Commands of service 0x0A, LEDGER. -/
def opsLedger : List (Nat × CmdSpec) := [
  (0x0A01, ledgerConfigSpec), (0x0A02, ledgerPolicySpec), (0x0A03, ledgerRingsSpec), (0x0A04, ledgerKeyCreateSpec),
  (0x0A05, ledgerStartSpec), (0x0A06, ledgerStopSpec), (0x0A07, ledgerStatusSpec), (0x0A08, ledgerSealGetSpec),
  (0x0A09, ledgerTenantGetSpec), (0x0A0A, ledgerFlowGetSpec), (0x0A0B, ledgerStatsSpec)]

/-- Commands of service 0x0B, MEM. -/
def opsMem : List (Nat × CmdSpec) := [
  (0x0B01, memStatusSpec), (0x0B02, memLayoutSpec), (0x0B03, memRegionSpec), (0x0B04, memOnlineSpec),
  (0x0B05, memOfflineSpec), (0x0B06, memRebuildRateSpec), (0x0B07, memCaptureSpec), (0x0B08, memCaptureAckSpec),
  (0x0B09, memStatsSpec)]

/-- Commands of service 0x0C, LANTERN. -/
def opsLantern : List (Nat × CmdSpec) := [
  (0x0C01, lanternStreamSpec), (0x0C02, lanternPortSpec), (0x0C03, lanternTriggerSpec), (0x0C04, lanternTenantSpec),
  (0x0C05, lanternIpfixSpec), (0x0C06, lanternAckSpec), (0x0C07, lanternStatsSpec), (0x0C08, lanternPmcDumpSpec)]

/-- Commands of service 0x0D, TIME. -/
def opsTime : List (Nat × CmdSpec) := [
  (0x0D01, timeStatusSpec), (0x0D02, timeStepSpec), (0x0D03, timeRateSpec), (0x0D04, timeStateSpec),
  (0x0D05, timePortDelaySpec), (0x0D06, timePortPtpSpec), (0x0D07, timePpsSpec), (0x0D08, timeSynceSpec),
  (0x0D09, timeTxtsReadSpec)]

/-- Commands of service 0x0E, FAULT. -/
def opsFault : List (Nat × CmdSpec) := [
  (0x0E01, faultStatusSpec), (0x0E02, faultAckSpec), (0x0E03, faultClearSpec), (0x0E04, faultForceSpec),
  (0x0E05, faultLogSpec), (0x0E06, faultConfigSpec)]

/-- Commands of service 0x0F, POWER. -/
def opsPower : List (Nat × CmdSpec) := [
  (0x0F01, powerStatusSpec), (0x0F02, powerCapSpec), (0x0F03, powerConfigSpec), (0x0F04, powerReasonsSpec),
  (0x0F05, powerSensorsSpec)]

/-- Commands of service 0x10, SLICE. -/
def opsSlice : List (Nat × CmdSpec) := [
  (0x1001, sliceStatusSpec), (0x1002, sliceTakeoverSpec), (0x1003, sliceReleaseSpec), (0x1004, sliceSelfCheckSpec)]

/-- Commands of service 0x11, DIAG. -/
def opsDiag : List (Nat × CmdSpec) := [
  (0x1101, diagEchoSpec), (0x1102, diagDelaySpec), (0x1103, diagProtoLogSpec)]

/-- The opcode index (R425). -/
def opcodeIndex : List (Nat × CmdSpec) :=
  opsSys ++ opsFw ++ opsTrust ++ opsPort ++ opsLane ++ opsRule ++
  opsTable ++ opsTm ++ opsBuf ++ opsLedger ++ opsMem ++ opsLantern ++
  opsTime ++ opsFault ++ opsPower ++ opsSlice ++ opsDiag

/-- The checks and effect of an opcode; none for an opcode that is not in the index (R410). -/
def specOf (op : Nat) : Option CmdSpec := (opcodeIndex.find? fun e => e.1 == op).map (·.2)

/-- COMMAND_ACCEPT (R406): the command that waits in mailbox `m`, of whatever opcode, is accepted or refused. -/
def execCommandAccept (m : Nat) (h : HostAnswer) (s : State) : Outc :=
  need (decide (m < 16)) "mailbox" (.next (acceptAny specOf m h s))

end Sys2Proof.Machine
end

