-- ==== Sys2Proof/Machine/Settings.lean ====
section
/-! DEFINITION. What a posted setting does at P3 of its boundary: one line per opcode or register (R40, R41). -/

namespace Sys2Proof.Machine

/-- A posted setting and its effect. -/
abbrev Setting := Nat × (Pend → State → State)

/-- A setting whose effect needs the command's order and payload. -/
def bySetting (k : Nat) (f : Nat → Bytes → State → State) : Setting := (k, fun w => f w.order w.req)

/-- A setting whose effect also needs the bytes read from host memory. -/
def byData (k : Nat) (f : Nat → Bytes → Bytes → State → State) : Setting := (k, fun w => f w.order w.req w.data)

/-- A setting that is answered with the beat of its boundary. -/
def beatAnswered (k : Nat) (f : Bytes → State → State) : Setting := (k, fun w s => answerBeat w.order (f w.req s))

/-- A register write's effect. -/
def byWrite (k : Nat) (f : Bytes → State → State) : Setting := (k, fun w => f w.req)

/-- PORT and RULE settings. A commit only answers here; its switch is P5's (R127). -/
def settingsPort : List Setting := [
  bySetting 0x0401 applyPortCreate, bySetting 0x0402 applyPortDelete, bySetting 0x0403 applyPortAdmin,
  bySetting 0x0404 applyPortConfig, bySetting 0x0406 applyPortStats, bySetting 0x0407 applyPortPfcConfig,
  bySetting 0x0408 applyPortPreemptConfig, bySetting 0x0409 applyPortFlush,
  bySetting 0x0601 applyRuleOpen, bySetting 0x0602 applyRuleLoad, bySetting 0x0603 (fun o _ => answerBeat o),
  bySetting 0x0605 (fun o _ => applyRuleRevert o)]

/-- TABLE settings; `pre` is the state that the beat's reads saw (R38). -/
def settingsTable (pre : Tables) : List Setting := [
  bySetting 0x0701 applyTableConfig, bySetting 0x0702 applyTableInsert, bySetting 0x0703 applyTableDelete,
  bySetting 0x0705 applyTableFlush, bySetting 0x0706 applyLearnConfig, bySetting 0x0709 applyTableStats,
  bySetting 0x0710 applyTernGroup, byData 0x0711 applyTernWrite, byData 0x0712 (applyTernMove pre),
  bySetting 0x0716 applyTernStats, byWrite evTdcGo (fun p => tdcStarted pre (rd p 0 1)), byData 0x0720 applyAutoLoad, byData 0x0723 applyAutoRepair]

/-- TM and BUF settings. -/
def settingsTraffic : List Setting := [
  bySetting 0x0801 applyTmConfig, bySetting 0x0802 applyTmSched, bySetting 0x0803 applyTmShaper,
  bySetting 0x0804 applyPolicerWrite, bySetting 0x0805 applyPolicerRead, byWrite 0x0806 applyGateOff, bySetting 0x0807 applyGateStatus,
  bySetting 0x0808 applyMaxSdu, bySetting 0x0809 applyQueueStats, bySetting 0x080A applySampleRing,
  bySetting 0x0901 applyPoolConfig, bySetting 0x0902 applyPoolMap, bySetting 0x0903 applyHeadroom,
  bySetting 0x0904 applyBufStatus, bySetting 0x0905 applyBufStats, byData 0x0906 applyMcWrite, bySetting 0x0907 applyMcRead,
  bySetting 0x0908 applyFabricStatus, bySetting 0x0909 applyPlaneAdmin, bySetting 0x090A applyReseqStats,
  byData 0x090C applyMirror]

/-- LEDGER, LANTERN, TIME, POWER and SLICE settings. -/
def settingsServices : List Setting := [
  bySetting 0x0A01 applyLedgerConfig, bySetting 0x0A02 applyLedgerPolicy, bySetting 0x0A03 applyLedgerRings,
  bySetting 0x0B03 applyMemRegion, bySetting 0x0A05 (fun o _ => applyLedgerStart o), bySetting 0x0A06 (fun o _ => applyLedgerStop o),
  bySetting 0x0C01 applyLanternStream, bySetting 0x0C02 applyLanternPort, bySetting 0x0C03 applyLanternTrigger,
  bySetting 0x0C04 applyLanternTenant, byData 0x0C05 applyLanternIpfix, bySetting 0x0C07 applyLanternStats,
  bySetting 0x0C08 applyPmcDump,
  bySetting 0x0D02 applyTimeStep, beatAnswered 0x0D03 applyRate, beatAnswered 0x0D04 (fun p => applyState (rd p 0 1 == 1)),
  beatAnswered 0x0D05 applyPortDelay, beatAnswered 0x0D06 applyPortPtp, beatAnswered 0x0D07 applyPps,
  beatAnswered 0x0D08 applySynce,
  bySetting 0x0F02 applyPowerCap, bySetting 0x0F03 applyPowerConfig, bySetting 0x0F04 applyPowerReasons,
  bySetting 0x1003 applySliceRelease]

/-- Register writes that wait for the boundary, and Ittas's own rewrites. -/
def settingsRegister : List Setting :=
  [byWrite 0x13C00 applyHckCtrl, byWrite 0x13C64 applyRate, byWrite 0x20002 applyRestore,
    byWrite evScrub (fun p => scrubRepair (rd p 0 1) (rd p 1 4)), byWrite evAutoRewrite applyAutoRewrite,
    byWrite 0x20001 (fun p => ternLose (rd p 0 1) (rd p 1 4))] ++
  pwrConfigRegs.map fun o => byWrite (0x10000 + o) (fun p => applyPwrWrite o (leOf p))

/-- Every setting. -/
def settings (pre : Tables) : List Setting :=
  settingsPort ++ settingsTable pre ++ settingsTraffic ++ settingsServices ++ settingsRegister

/-- A posted setting takes effect; a step of the clock marks its minute and may end it (R281, R289). -/
def applySetting (pre : Tables) (w : Pend) (s : State) : State :=
  match (settings pre).find? fun e => e.1 == w.kind with
  | none => s
  | some e =>
    let t := e.2 w s
    if t.time.steps = s.time.steps then t else minuteCross s.time.sec t.time.sec (minuteStepped s.time.sec t)

end Sys2Proof.Machine
end

