-- ==== Sys2Proof/Machine/Beat.lean ====
section
/-! DEFINITION. The beat boundary: phases P1 to P11 in order (R41), and the collector's own runs while the beat is
stopped (R522). -/

namespace Sys2Proof.Machine

/-- One microsecond of REFCLK_ETH: PPS_OUT's edges in it, the clock, and the end of a minute that the clock passes
(R350, R363, R282). -/
def microsecond (s : State) : State :=
  let s := ppsRise (ppsFall s)
  let t := advanceClock s
  minuteCross s.time.sec t.time.sec t

/-- Frames whose last byte has come in the beat are whole, and cells they do not use return to their pool (R92, R215). -/
def endArrivals (s : State) : State :=
  let done := (s.buf.pkts.filter fun e => decide (e.2.endAt ≤ 1000 * (s.beat + 1))).map (·.1)
  let s := eachDo done (fun i s => trimCharge i (modPkt i (fun k => { k with arrived := max k.arrived k.bytes.length }) s)) s
  xoffRefresh (eachDo s.buf.fifo.keys (arriveUpTo (nowNs s 1000)) s)

/-- What the beat brought before its boundary: events counted, the FLOW_OK sample, what the lanes measured, whole frames,
pause times that ran out. -/
def beatEnds (inp : BeatInput) (s : State) : State :=
  let s := endArrivals (flowSample inp.flowOk (pmcBeat inp.events (microsecond s)))
  let s := eachDo s.lanes.keys measureLane s
  eachDo s.ports.keys (fun p s =>
    eachDo (List.range 8) (fun pr => pauseExpire p pr 1000) (quietBeat p (lateCounts p s))) s

/-- Whether a posted item is a setting of P3; the fault collector's wait for P9, the report of R431 for the end, and the
happenings of the phases for theirs. -/
def isP3Kind (k : Nat) : Bool := !isFaultKind k && k != 0x0303 && !isHappening k

/-- What the ECC of the tables and the automaton memories has found: losses, restores, rewrites, the first settings of P3
(R188, R206, R207). -/
def isRepairKind (k : Nat) : Bool := k == 0x20001 || k == 0x20002 || k == evScrub || k == evAutoRewrite

/-- P3: repairs first; then table DMA that has run since an earlier beat, and the settings accepted in the beat in acceptance
order, GO of a channel among them; block moves; then what follows from the new settings (R41, R90, R174, R188). `todo` holds
everything posted to this boundary. -/
def phase3 (pre : Tables) (todo : List Pend) (s : State) : State :=
  let l := todo.filter fun w => isP3Kind w.kind
  let s := eachDo (l.filter fun w => isRepairKind w.kind) (applySetting pre) (eachDo [0, 1, 2, 3] scrubQuad s)
  let s := eachDo [0, 1, 2, 3] (tdcRunning pre) s
  let s := eachDo (l.filter fun w => !isRepairKind w.kind) (applySetting pre) s
  let s := pmcActions (eachDo [0, 1, 2, 3] tdcLockTimeout s)
  let s := applyOpenClear (eachDo [0, 1, 2, 3] ternMoveStep s)
  let s := slicesBoundary (memBoundary todo s)
  let s := linkChanges (watchdogsBoundary todo s)
  gatesRefresh (nhQuarantines s)

/-- P7 (R41, R102 to R104, R248, R260). -/
def phase7 (s : State) : State :=
  let s := eachDo s.ports.keys holdSojourn (sojournDiscard s)
  let s := eachDo s.ports.keys (fun p s => holdExpire p (downFlush p s)) s
  sampleAll (discardBad s)

/-- P8, and what else takes effect at a boundary without a phase of its own: skip timers of the resequencers, audits of the
cells, filters, rings, a pending return's end, and the message builders whose time has come. -/
def phase8 (todo : List Pend) (s : State) : State :=
  let s := auditBoundary todo (reseqBoundary todo (rollStart (releaseFlushes (ledgerBoundary s))))
  ipfixBoundary (returnExpire (ringBoundary (filterCommits s)))

/-- TRUST.ATTEST's reports, after every phase (R431). -/
def attestEnd (todo : List Pend) (s : State) : State :=
  eachDo (todo.filter fun w => w.kind == 0x0303) (fun w => applyTrustAttest w.order w.req) s

/-- P11: WICK; the boundary's events go out and the health port's values are kept; then the next beat begins (R36, R41, R420,
R483): its counts within a beat start anew. `old` is the state that the
beat's lookups read (R39): its tables, ledger policies and tenant flags are kept. -/
def phase11 (old : State) (s : State) : State :=
  let s := (healthSnap (releaseEvents (wickBoundary s))).modFreshSet fun _ => []
  let s := s.modTab fun t => { t with notify := { t.notify with now := 0 } }
  let s := s.modBuf fun b => { b with arbs := b.arbs.mapAll fun _ a => { a with
    used := 0, front := 0, others := 0, egress := 0, tagged := false, records := 0 } }
  let s := (s.modTabPrev fun _ => old.tab).modLedger fun l => { l with policiesPrev := old.ledger.policies }
  let s := s.modLantern fun l => { l with flagsPrev := old.lantern.flags }
  s.modGlb fun g => { g with lostCycles := 0, beat := (g.beat + 1) % 2 ^ 64 }

/-- The items posted to this boundary: all but the collector's waits. -/
def dueItems (s : State) : List Pend := s.pend.filter fun w => !isFaultKind w.kind

/-- The end of the beat and phases P1 to P4 (R41). -/
def beforeP5 (inp : BeatInput) (s : State) : State :=
  let pre := s.tab
  let todo := dueItems s
  let groups := s.buf.groups
  let s := gatherEvents (beatEnds inp (s.modPend fun l => l.filter fun w => isFaultKind w.kind))
  let s := phase2 (tdcLocks (phase1 s))
  phase4 (phase3 pre todo (s.modBuf fun b => { b with groupsPrev := groups }))

/-- Phases P6 to P10, and lanes whose quiet run ends them (R41). `todo` holds what was posted to this boundary. -/
def afterP5 (todo : List Pend) (s : State) : State :=
  let s := phase10 (phase9 (phase8 todo (phase7 (phase6 s))))
  eachDo s.ports.keys quietEnter s

/-- Boundary k of a running beat (R41). -/
def beatBoundary (inp : BeatInput) (s : State) : State :=
  phase11 s (attestEnd (dueItems s) (afterP5 (dueItems s) (phase5 (beforeP5 inp s))))

/-- BEAT_BOUNDARY: while the beat is stopped there is no boundary, and only the reference passes (log entry 163). -/
def execBeatBoundary (inp : BeatInput) (s : State) : Outc :=
  .next (if beatRuns s then beatBoundary inp s
    else if s.boot.pwrgood && !s.boot.ethLost then microsecond s else s)

/-- COLLECTOR_RUN_STOPPED_BEAT (R457, R482, R522): FLOW_OK is sampled, and the collector does what it does at P9. -/
def execCollectorRunStoppedBeat (flowOk : Bool) (s : State) : Outc :=
  .next (if s.boot.pwrgood && !beatRuns s then wickStop (phase9 (flowSample flowOk s)) else s)

end Sys2Proof.Machine
end

