-- ==== Sys2Proof/Machine/Registers.lean ====
section
/-! DEFINITION. Register writes (R371, R372): what a 4-byte write does in each register group of PF0 BAR0 and PF1 BAR0.
Fields written outside their range are held as written where the spec does not say that they are saturated (log entry
181). -/

namespace Sys2Proof.Machine

/-- The lower or upper 32 bits of a 64-bit register pair replaced. -/
def half64 (hi : Bool) (w v : Nat) : Nat := if hi then setFld w 63 32 v else setFld w 31 0 v

/-- Vectors that nothing asks for any more stop being pending (R376). -/
def dropUnasked (pf : Nat) (s : State) : State :=
  let keep := maskOf ((bitsOf (pbaOf s pf) 64).filter (vectorAsked s pf))
  s.modHost fun h => if pf = 0 then { h with pba0 := keep } else { h with pba1 := keep }

/-- A write to IRQ_STATUS (R374, R376). -/
def irqStatusWrite (hi : Bool) (v : Nat) (s : State) : State :=
  let c := w1c s (if hi then 0x3004 else 0x3000) v % 2 ^ 32
  dropUnasked 0 (s.modHost fun h => { h with status := clearBits h.status (if hi then c * 2 ^ 32 else c) })

/-- A write to IRQ_ENABLE: a cause enabled while set makes its vector pending (R376). -/
def irqEnableWrite (hi : Bool) (v : Nat) (s : State) : State :=
  let was := s.host.enable
  let s := s.modHost fun h => { h with enable := half64 hi h.enable (v % 2 ^ 32) }
  let new := (List.range 64).filter fun c => bit s.host.enable c && !bit was c && bit s.host.status c
  dropUnasked 0 (eachDo new (fun c s => s.modHost fun h => { h with pba0 := setBit h.pba0 (vectorOf s c) true }) s)

/-- The IRQ_ group (Table 13.6). -/
def irqWrite (o v : Nat) (s : State) : State :=
  if o = 0x3000 then irqStatusWrite false v s
  else if o = 0x3004 then irqStatusWrite true v s
  else if o = 0x3008 then irqEnableWrite false v s
  else if o = 0x300C then irqEnableWrite true v s
  else if o = 0x3010 then irqTestWrite 0 v s
  else if o = 0x3014 then irqTestWrite 1 v s
  else if 0x3020 ≤ o && o < 0x3060 then
    s.modHost fun h => { h with vecs := h.vecs.put ((o - 0x3020) / 4) (Nat.land v 0x3F3F3F3F) }
  else if 0x3080 ≤ o then s.modHost fun h => { h with itrs := h.itrs.put ((o - 0x3080) / 4) (v % 2 ^ 32) }
  else s

/-- The GLB_ group (Tables 13.4 and 1.2): GLB_SCRATCH, GLB_HOST_ERR and GLB_CLOCK.STRETCHED can be written. -/
def glbWrite (o v : Nat) (s : State) : State :=
  if o = 0x0C then s.modGlb fun g => { g with scratch := v % 2 ^ 32 }
  else if o = 0x18 then s.modGlb fun g => { g with hostErr := clearBits g.hostErr (w1c s 0x18 v) }
  else if o = 0x48 then s.modGlb fun g => { g with stretched := g.stretched && !clearsBit s 0x48 v 16 }
  else s

/-- The MBX_ group (Table 14.3, R418). -/
def mbxWrite (o v : Nat) (s : State) : State :=
  let m := (o - 0x400) / 0x40
  let r := (o - 0x400) % 0x40
  if r = 0x00 then doorbell m v s
  else if r = 0x04 then statusWrite m v s
  else if r = 0x18 then modBox m (fun x => { x with guard := clampTo 10 60000 (v % 65536) }) s
  else if r = 0x34 then if m = 0 then evtTailWrite v s else s
  else s

/-- The TDC_ group (Tables 5.9 to 5.11); while an operation runs, its other fields do not change (log entry 83). The
host's answer is that of an operation which the write starts. -/
def tdcWrite (o v : Nat) (h : HostAnswer) (s : State) : State :=
  let c := (o - 0x2400) / 0x40
  let r := (o - 0x2400) % 0x40
  let clear (x : Tdc) : Tdc := { x with
    done := x.done && !clearsBit s (0x2404 + 0x40 * c) v 0, err := x.err && !clearsBit s (0x2404 + 0x40 * c) v 1 }
  if r = 0 then tdcCtrlWrite c v h s
  else if r = 4 then modTdcOf c clear s
  else if (s.tdcOf c).go then s
  else modTdcOf c (fun x =>
    if r = 0x08 then { x with start := v % 2 ^ 32 }
    else if r = 0x0C then { x with count := v % 2 ^ 32 }
    else if r = 0x10 then { x with addr := half64 false x.addr (v % 2 ^ 32) }
    else if r = 0x14 then { x with addr := half64 true x.addr (v % 2 ^ 32) }
    else if r = 0x24 then { x with lockBeats := v % 2 ^ 32 }
    else x) s

/-- A write to XDC_TIMEOUT; channel 0's applies to all ports, within 50 to 10,000 μs (R309, R322; log entry 229). -/
def xdcTimeoutWrite (c v : Nat) (s : State) : State :=
  let s := modXdcOf c (fun x => { x with timeout := v % 2 ^ 14 }) s
  whenDo (c == 0) (fun s => s.modMem fun m => { m with timeout := min 10000 (max 50 (v % 2 ^ 14)) }) s

/-- The XDC_ group (Tables 10.11 to 10.13); XDC_DESC is ignored on channels 0 to 5 (R322). -/
def xdcWrite (o v : Nat) (s : State) : State :=
  let c := (o - 0x2800) / 0x40
  let r := (o - 0x2800) % 0x40
  if r = 0x00 then xdcCtrlWrite c v s
  else if r = 0x04 then xdcStatusWrite c v s
  else if r = 0x08 then if 6 ≤ c then modXdcOf c (fun x => { x with desc := half64 false x.desc (v % 2 ^ 32) }) s else s
  else if r = 0x0C then if 6 ≤ c then modXdcOf c (fun x => { x with desc := half64 true x.desc (v % 2 ^ 32) }) s else s
  else if r = 0x24 then xdcTimeoutWrite c v s
  else s

/-- A SyncE output as HCK_SYNCEn selects it; the frequency stays (Table 12.7). -/
def synceSelect (v : Nat) (y : Synce) : Synce := { y with on := bit v 12, lane := v % 1024 }

/-- The HCK_ group (Tables 12.3 to 12.7). -/
def hckWrite (o v : Nat) (s : State) : State :=
  let w := v % 2 ^ 32
  let cl := fun b => clearsBit s 0x3C04 v b
  if o = 0x3C00 then hckCtrlWrite v s
  else if o = 0x3C04 then s.modTime fun t => { t with
      refused := t.refused && !cl 2, txtsOvf := t.txtsOvf && !cl 8, ppsEvent := t.ppsEvent && !cl 9, clamp := t.clamp && !cl 10 }
  else if o = 0x3C1C then rateLoWrite v s
  else if o = 0x3C20 then s.modTime fun t => { t with stepNs := w }
  else if o = 0x3C24 then s.modTime fun t => { t with stepSec := setFld t.stepSec 31 0 w }
  else if o = 0x3C28 then s.modTime fun t => { t with stepSec := setFld t.stepSec 47 32 (w % 65536) }
  else if o = 0x3C2C then s.modTime fun t => { t with width := w % 512 }
  else if o = 0x3C30 then s.modTime fun t => { t with offset := toInt 32 w }
  else if o = 0x3C50 then s.modTime fun t => { t with txts := t.txts.drop 1 }
  else if o = 0x3C58 then synceRefresh (s.modTime fun t => { t with s0 := synceSelect w t.s0 })
  else if o = 0x3C5C then synceRefresh (s.modTime fun t => { t with s1 := synceSelect w t.s1 })
  else if o = 0x3C60 then s.modTime fun t => { t with irqEn := w % 16 }
  else if o = 0x3C64 then rateHiWrite v s
  else s

/-- The PMC_ group (Tables 11.10 to 11.12): the registers from 0x4414 up are those of the selected unit (R347). -/
def pmcRegWrite (o v : Nat) (s : State) : State :=
  let u := s.pmc.sel
  if o = 0x4400 then s.modPmc fun p => { p with sel := v % 64 }
  else if o = 0x4404 then gctrlWrite v s
  else if o = 0x4408 then s.modPmc fun p => { p with ignored := p.ignored && !clearsBit s 0x4408 v 2 }
  else if 0x4430 ≤ o then pmcWrite o v s
  else if 40 ≤ u then s
  else if o = 0x441C then modUnit u (fun x => { x with ovf := clearBits x.ovf (w1c s (ovfKey u) v % 256) }) s
  else if o = 0x4420 then modUnit u (fun x => { x with irq := v % 256 }) s
  else s

/-- A write to an MSI-X table: address and data are kept as bytes, bit 0 of the vector control is the mask (R376; log
entry 39). -/
def msixWrite (pf o v : Nat) (s : State) : State :=
  let key := 64 * pf + o / 16
  if o % 16 = 12 then
    s.modHost fun h => { h with
      unmasked := if bit v 0 then h.unmasked.filter (· != key)
                  else if h.unmasked.contains key then h.unmasked else h.unmasked ++ [key] }
  else s.modHost fun h =>
    if pf = 0 then { h with table0 := h.table0.writeN o (le 4 v) } else { h with table1 := h.table1.writeN o (le 4 v) }

/-- The registers of PF0 BAR0 (Table 13.3) and its MSI-X table (Table 13.2). -/
def pf0Write (o v : Nat) (h : HostAnswer) (s : State) : State :=
  if o < 0x80 then glbWrite o v s
  else if 0x400 ≤ o && o < 0x800 then mbxWrite o v s
  else if 0x2400 ≤ o && o < 0x2500 then tdcWrite o v h s
  else if 0x2800 ≤ o && o < 0x2A00 then xdcWrite o v s
  else if 0x3000 ≤ o && o < 0x3100 then irqWrite o v s
  else if 0x3400 ≤ o && o < 0x3580 then fltWrite o v s
  else if 0x3C00 ≤ o && o < 0x3CC0 then hckWrite o v s
  else if 0x4000 ≤ o && o < 0x4080 then pwrWrite o v s
  else if 0x4400 ≤ o && o < 0x4480 then pmcRegWrite o v s
  else if 0xE000 ≤ o && o < 0xE400 then msixWrite 0 (o - 0xE000) v s
  else s

/-- The HRQ_ registers of a ring (Tables 13.9 to 13.11): BASE only while ENABLE is clear (R383). -/
def hrqWrite (o v : Nat) (s : State) : State :=
  let r := o / 0x20
  let x := s.ring r
  let k := ringStatus r
  let f := o % 0x20
  if f = 0x00 then if x.on then s else modRing r (fun x => { x with base := half64 false x.base (v % 2 ^ 32 / 128 * 128) }) s
  else if f = 0x04 then if x.on then s else modRing r (fun x => { x with base := half64 true x.base (v % 2 ^ 32) }) s
  else if f = 0x08 then ringCtrlWrite r v s
  else if f = 0x0C then dropUnasked 1 (modRing r (fun x => { x with
      complete := x.complete && !clearsBit s k v 0, half := x.half && !clearsBit s k v 4 }) s)
  else if f = 0x14 then hrqTailWrite r v s
  else if f = 0x18 then modRing r (fun x => { x with itr := v % 2 ^ 32 }) s
  else s

/-- PF1 BAR0 (Table 13.8). -/
def pf1Write (o v : Nat) (s : State) : State :=
  if o < 0x400 then hrqWrite o v s
  else if o < 0x800 then
    if (o - 0x400) % 0x20 < 20 then statFold ((o - 0x400) / 0x20) ((o - 0x400) % 0x20 / 4) v s else s
  else if o < 0xC00 then msixWrite 1 (o - 0x800) v s
  else filterWrite o v s

/-- A 4-byte write (R371). -/
def write4 (pf o v : Nat) (h : HostAnswer) (s : State) : State :=
  if pf = 0 then pf0Write o (v % 2 ^ 32) h s else pf1Write o (v % 2 ^ 32) s

/-- A write of any size: 4 bytes aligned, 8 bytes aligned as two, and else discarded whole with BAD_SIZE (R371). -/
def registerWrite (pf o size v : Nat) (h : HostAnswer) (s : State) : State :=
  if !hostUp s then s
  else if size = 4 && o % 4 = 0 then write4 pf o v h s
  else if size = 8 && o % 8 = 0 then write4 pf (o + 4) (v / 2 ^ 32) h (write4 pf o v h s)
  else hostErrBit 0 s

/-- REGISTER_WRITE, inside the BAR0 of a function (Table 13.2). -/
def execRegisterWrite (pf offset size value : Nat) (host : HostAnswer) (s : State) : Outc :=
  need (decide (pf < 2) && decide (offset < (if pf = 0 then 65536 else 16384))) "offset"
    (.next (registerWrite pf offset size value host s))

end Sys2Proof.Machine
end

