-- ==== Sys2Proof/Machine/Dispatch.lean ====
section
/-! DEFINITION. The dispatch: one arm per command, each one call of its meaning. -/

namespace Sys2Proof.Machine

def exec (i : Instr) (s : State) : Host.Outcome State Fault Refusal :=
  match i with
  | .beatBoundary inp => Sys2Proof.Machine.execBeatBoundary inp s
  | .frameReceive port frame arrived codeErr mm ns => Sys2Proof.Machine.execFrameReceive port frame arrived codeErr mm ns s
  | .pfcFrameReceive port vec times ns => Sys2Proof.Machine.execPfcFrameReceive port vec times ns s
  | .pauseFrameReceive port time ns => Sys2Proof.Machine.execPauseFrameReceive port time ns s
  | .pauseTimerExpire port prio ns => Sys2Proof.Machine.execPauseTimerExpire port prio ns s
  | .pfcFrameSend port => Sys2Proof.Machine.execPfcFrameSend port s
  | .pfcResend port => Sys2Proof.Machine.execPfcResend port s
  | .pfcWatchdogTrip port prio => Sys2Proof.Machine.execPfcWatchdogTrip port prio s
  | .pfcWatchdogRestore port prio => Sys2Proof.Machine.execPfcWatchdogRestore port prio s
  | .mmVerifyResponse port => Sys2Proof.Machine.execMmVerifyResponse port s
  | .mmVerifyTimeout port => Sys2Proof.Machine.execMmVerifyTimeout port s
  | .ingressSlot slice ns => Sys2Proof.Machine.execIngressSlot slice ns s
  | .parseResume pkt arrived ns => Sys2Proof.Machine.execParseResume pkt arrived ns s
  | .cellArriveResequencer pkt slice ns => Sys2Proof.Machine.execCellArriveResequencer pkt slice ns s
  | .reseqSkipTimeout slice stream => Sys2Proof.Machine.execReseqSkipTimeout slice stream s
  | .crossingCellCrcFail plane quad pkt cell => Sys2Proof.Machine.execCrossingCellCrcFail plane quad pkt cell s
  | .xbarPlaneFail plane quad late => Sys2Proof.Machine.execXbarPlaneFail plane quad late s
  | .egressCutThroughStart copy ns => Sys2Proof.Machine.execEgressCutThroughStart copy ns s
  | .schedulerDecision port ns => Sys2Proof.Machine.execSchedulerDecision port ns s
  | .transmitComplete port ns => Sys2Proof.Machine.execTransmitComplete port ns s
  | .sojournDiscard => Sys2Proof.Machine.execSojournDiscard s
  | .holdSojournDrop port => Sys2Proof.Machine.execHoldSojournDrop port s
  | .holdWindowExpire port => Sys2Proof.Machine.execHoldWindowExpire port s
  | .gateEvent port ns => Sys2Proof.Machine.execGateEvent port ns s
  | .gateConfigChange port ns => Sys2Proof.Machine.execGateConfigChange port ns s
  | .laneEnergyDetect lane => Sys2Proof.Machine.execLaneEnergyDetect lane s
  | .anResolved lane page => Sys2Proof.Machine.execAnResolved lane page s
  | .partnerTrainingRequest lane req => Sys2Proof.Machine.execPartnerTrainingRequest lane req s
  | .trainReceiverReady lane => Sys2Proof.Machine.execTrainReceiverReady lane s
  | .laneLockAchieved lane => Sys2Proof.Machine.execLaneLockAchieved lane s
  | .capexComplete lane check => Sys2Proof.Machine.execCapexComplete lane check s
  | .trainingLimitExpire lane => Sys2Proof.Machine.execTrainingLimitExpire lane s
  | .lockLimitExpire lane => Sys2Proof.Machine.execLockLimitExpire lane s
  | .capabilityLimitExpire lane deskew => Sys2Proof.Machine.execCapabilityLimitExpire lane deskew s
  | .blindLimitExpire lane => Sys2Proof.Machine.execBlindLimitExpire lane s
  | .relinkWindowExpire lane => Sys2Proof.Machine.execRelinkWindowExpire lane s
  | .relinkLimitExpire lane => Sys2Proof.Machine.execRelinkLimitExpire lane s
  | .retryBackoffExpire lane => Sys2Proof.Machine.execRetryBackoffExpire lane s
  | .losDetect lane => Sys2Proof.Machine.execLosDetect lane s
  | .cdrLockLoss lane => Sys2Proof.Machine.execCdrLockLoss lane s
  | .fecAlignLoss lane => Sys2Proof.Machine.execFecAlignLoss lane s
  | .hiSer lane => Sys2Proof.Machine.execHiSer lane s
  | .rsFaultReceive port lf rf => Sys2Proof.Machine.execRsFaultReceive port lf rf s
  | .partnerTrainingSeen lane => Sys2Proof.Machine.execPartnerTrainingSeen lane s
  | .knownGoodStore lane dsp => Sys2Proof.Machine.execKnownGoodStore lane dsp s
  | .quietIdleThreshold port => Sys2Proof.Machine.execQuietIdleThreshold port s
  | .quietWake port => Sys2Proof.Machine.execQuietWake port s
  | .quietWakeComplete port => Sys2Proof.Machine.execQuietWakeComplete port s
  | .quietRefresh port => Sys2Proof.Machine.execQuietRefresh port s
  | .partnerQuietSignal port signal => Sys2Proof.Machine.execPartnerQuietSignal port signal s
  | .quietRefreshMiss port => Sys2Proof.Machine.execQuietRefreshMiss port s
  | .eeeLpiReceive port lpi => Sys2Proof.Machine.execEeeLpiReceive port lpi s
  | .ageingVisit quad => Sys2Proof.Machine.execAgeingVisit quad s
  | .flapRelease quad key => Sys2Proof.Machine.execFlapRelease quad key s
  | .flapWindowEnd quad key => Sys2Proof.Machine.execFlapWindowEnd quad key s
  | .nhQuarantineEnd index => Sys2Proof.Machine.execNhQuarantineEnd index s
  | .tdcLockTimeout ch => Sys2Proof.Machine.execTdcLockTimeout ch s
  | .tdcDone ch => Sys2Proof.Machine.execTdcDone ch s
  | .tdcHostError ch => Sys2Proof.Machine.execTdcHostError ch s
  | .deferredLearnRelease quad => Sys2Proof.Machine.execDeferredLearnRelease quad s
  | .ternBlockMoveDone quad => Sys2Proof.Machine.execTernBlockMoveDone quad s
  | .ruleDrainComplete => Sys2Proof.Machine.execRuleDrainComplete s
  | .ruleDrainStuck => Sys2Proof.Machine.execRuleDrainStuck s
  | .bufAuditComplete => Sys2Proof.Machine.execBufAuditComplete s
  | .minuteEnd => Sys2Proof.Machine.execMinuteEnd s
  | .rollStart => Sys2Proof.Machine.execRollStart s
  | .rollFlushDone => Sys2Proof.Machine.execRollFlushDone s
  | .rollScanDone => Sys2Proof.Machine.execRollScanDone s
  | .rollTenantDone => Sys2Proof.Machine.execRollTenantDone s
  | .rollSignDone => Sys2Proof.Machine.execRollSignDone s
  | .flushRequestApply quad => Sys2Proof.Machine.execFlushRequestApply quad s
  | .memPresenceStable port => Sys2Proof.Machine.execMemPresenceStable port s
  | .memPerstRelease port => Sys2Proof.Machine.execMemPerstRelease port s
  | .memLinkL0 port rate width cxl => Sys2Proof.Machine.execMemLinkL0 port rate width cxl s
  | .memTrainingTimeout port => Sys2Proof.Machine.execMemTrainingTimeout port s
  | .memEnumerationDone port ident => Sys2Proof.Machine.execMemEnumerationDone port ident s
  | .memLinkDown port => Sys2Proof.Machine.execMemLinkDown port s
  | .memPresenceLost port => Sys2Proof.Machine.execMemPresenceLost port s
  | .memRequestTimeout port => Sys2Proof.Machine.execMemRequestTimeout port s
  | .memPoisonRead port addr reader => Sys2Proof.Machine.execMemPoisonRead port addr reader s
  | .memBadCompletion port code => Sys2Proof.Machine.execMemBadCompletion port code s
  | .memHealthRecord port record => Sys2Proof.Machine.execMemHealthRecord port record s
  | .memOfflineReached port => Sys2Proof.Machine.execMemOfflineReached port s
  | .resilverComplete port => Sys2Proof.Machine.execResilverComplete port s
  | .zeroingComplete port => Sys2Proof.Machine.execZeroingComplete port s
  | .moverChainDone ch => Sys2Proof.Machine.execMoverChainDone ch s
  | .moverDescriptor ch desc table data => Sys2Proof.Machine.execMoverDescriptor ch desc table data s
  | .moverChannelStop ch code addr => Sys2Proof.Machine.execMoverChannelStop ch code addr s
  | .captureRecordWrite quad => Sys2Proof.Machine.execCaptureRecordWrite quad s
  | .lanternRingWrite => Sys2Proof.Machine.execLanternRingWrite s
  | .ipfixFlushTimeout stream slice => Sys2Proof.Machine.execIpfixFlushTimeout stream slice s
  | .ipfixTemplateRefresh stream slice => Sys2Proof.Machine.execIpfixTemplateRefresh stream slice s
  | .ppsInEdge falling ns => Sys2Proof.Machine.execPpsInEdge falling ns s
  | .ppsOutSecond => Sys2Proof.Machine.execPpsOutSecond s
  | .ppsOutWidthEnd => Sys2Proof.Machine.execPpsOutWidthEnd s
  | .refclkLoss inst => Sys2Proof.Machine.execRefclkLoss inst s
  | .pllUnlock pll => Sys2Proof.Machine.execPllUnlock pll s
  | .collectorRunStoppedBeat flowOk => Sys2Proof.Machine.execCollectorRunStoppedBeat flowOk s
  | .faultDetect src inst cls detail => Sys2Proof.Machine.execFaultDetect src inst cls detail s
  | .faultCauseEnd src inst => Sys2Proof.Machine.execFaultCauseEnd src inst s
  | .graceTimerExpire src => Sys2Proof.Machine.execGraceTimerExpire src s
  | .ittasWdogExpire => Sys2Proof.Machine.execIttasWdogExpire s
  | .ittasWdogRestart => Sys2Proof.Machine.execIttasWdogRestart s
  | .wickToggle => Sys2Proof.Machine.execWickToggle s
  | .pollCycleEnd => Sys2Proof.Machine.execPollCycleEnd s
  | .pmbusTransaction reg cmd ok value => Sys2Proof.Machine.execPmbusTransaction reg cmd ok value s
  | .pmbAlert reg status => Sys2Proof.Machine.execPmbAlert reg status s
  | .mismatchSteerBegin => Sys2Proof.Machine.execMismatchSteerBegin s
  | .mismatchContained => Sys2Proof.Machine.execMismatchContained s
  | .sensorConversion sensor reading => Sys2Proof.Machine.execSensorConversion sensor reading s
  | .sensorStale sensor => Sys2Proof.Machine.execSensorStale sensor s
  | .droopEpisode cycles ns => Sys2Proof.Machine.execDroopEpisode cycles ns s
  | .coolantLow => Sys2Proof.Machine.execCoolantLow s
  | .coolantStop => Sys2Proof.Machine.execCoolantStop s
  | .coolantRestore => Sys2Proof.Machine.execCoolantRestore s
  | .idleUnitGate unit => Sys2Proof.Machine.execIdleUnitGate unit s
  | .unitUngate unit => Sys2Proof.Machine.execUnitUngate unit s
  | .hpVersion => Sys2Proof.Machine.execHpVersion s
  | .hpSummary => Sys2Proof.Machine.execHpSummary s
  | .hpTmax => Sys2Proof.Machine.execHpTmax s
  | .hpTmaxSensor => Sys2Proof.Machine.execHpTmaxSensor s
  | .hpPower => Sys2Proof.Machine.execHpPower s
  | .hpMeas => Sys2Proof.Machine.execHpMeas s
  | .hpEst => Sys2Proof.Machine.execHpEst s
  | .hpFlow => Sys2Proof.Machine.execHpFlow s
  | .hpFaults => Sys2Proof.Machine.execHpFaults s
  | .hpSensor sensor => Sys2Proof.Machine.execHpSensor sensor s
  | .hpExtLevelRead => Sys2Proof.Machine.execHpExtLevelRead s
  | .hpExtLevelWrite level => Sys2Proof.Machine.execHpExtLevelWrite level s
  | .pwrgoodRise straps => Sys2Proof.Machine.execPwrgoodRise straps s
  | .pwrgoodFall => Sys2Proof.Machine.execPwrgoodFall s
  | .perstNAssert => Sys2Proof.Machine.execPerstNAssert s
  | .perstNDeassert => Sys2Proof.Machine.execPerstNDeassert s
  | .bootStageComplete ms => Sys2Proof.Machine.execBootStageComplete ms s
  | .otherSlotCheck => Sys2Proof.Machine.execOtherSlotCheck s
  | .fwFlashWriteDone ok offset => Sys2Proof.Machine.execFwFlashWriteDone ok offset s
  | .identityCertWrite => Sys2Proof.Machine.execIdentityCertWrite s
  | .handoverStepDone ok us => Sys2Proof.Machine.execHandoverStepDone ok us s
  | .handoverTimerExpire => Sys2Proof.Machine.execHandoverTimerExpire s
  | .ittasRestartStart measured => Sys2Proof.Machine.execIttasRestartStart measured s
  | .ittasRestartDone imported => Sys2Proof.Machine.execIttasRestartDone imported s
  | .coreResetStart => Sys2Proof.Machine.execCoreResetStart s
  | .emberConfigLoaded => Sys2Proof.Machine.execEmberConfigLoaded s
  | .emberSwitch => Sys2Proof.Machine.execEmberSwitch s
  | .selfCheckDone slice code => Sys2Proof.Machine.execSelfCheckDone slice code s
  | .returnPendingExpire => Sys2Proof.Machine.execReturnPendingExpire s
  | .debugTokenShift token => Sys2Proof.Machine.execDebugTokenShift token s
  | .registerWrite pf offset size value host => Sys2Proof.Machine.execRegisterWrite pf offset size value host s
  | .mailboxAreaWrite offset bytes => Sys2Proof.Machine.execMailboxAreaWrite offset bytes s
  | .mbxDoorbell m value => Sys2Proof.Machine.execMbxDoorbell m value s
  | .commandAccept m h => Sys2Proof.Machine.execCommandAccept m h s
  | .responsePost m => Sys2Proof.Machine.execResponsePost m s
  | .mbxGuardExpire m => Sys2Proof.Machine.execMbxGuardExpire m s
  | .eventRingWrite => Sys2Proof.Machine.execEventRingWrite s
  | .mbxEvtTailWrite value => Sys2Proof.Machine.execMbxEvtTailWrite value s
  | .msixMessage pf vector => Sys2Proof.Machine.execMsixMessage pf vector s
  | .irqTestWrite hi value => Sys2Proof.Machine.execIrqTestWrite hi value s
  | .hrqTailWrite ring value => Sys2Proof.Machine.execHrqTailWrite ring value s
  | .hrqReset ring => Sys2Proof.Machine.execHrqReset ring s
  | .hrqEnable ring value => Sys2Proof.Machine.execHrqEnable ring value s
  | .rxFrameDeliver ns descs => Sys2Proof.Machine.execRxFrameDeliver ns descs s
  | .txFrameFetch descs data => Sys2Proof.Machine.execTxFrameFetch descs data s
  | .hrqInterruptInterval ring => Sys2Proof.Machine.execHrqInterruptInterval ring s
  | .hostReadFail ring timeout => Sys2Proof.Machine.execHostReadFail ring timeout s
  | .filterCommitWrite offset value => Sys2Proof.Machine.execFilterCommitWrite offset value s
  | .queueStatFoldWrite ring counter => Sys2Proof.Machine.execQueueStatFoldWrite ring counter s
  | .flrPf0 => Sys2Proof.Machine.execFlrPf0 s
  | .flrPf1 => Sys2Proof.Machine.execFlrPf1 s
  | .bmeClearPf0 => Sys2Proof.Machine.execBmeClearPf0 s
  | .bmeClearPf1 => Sys2Proof.Machine.execBmeClearPf1 s
  | .bmeSet pf msix => Sys2Proof.Machine.execBmeSet pf msix s
  | .pcieHotReset => Sys2Proof.Machine.execPcieHotReset s
  | .glbBeatLoRead => Sys2Proof.Machine.execGlbBeatLoRead s
  | .hckNsRead => Sys2Proof.Machine.execHckNsRead s
  | .hckTxtsInfoRead => Sys2Proof.Machine.execHckTxtsInfoRead s
  | .hckTxtsPop => Sys2Proof.Machine.execHckTxtsPop s
  | .hckStep value => Sys2Proof.Machine.execHckStep value s
  | .hckLock value => Sys2Proof.Machine.execHckLock value s
  | .hckRelease value => Sys2Proof.Machine.execHckRelease value s
  | .hckRateWrite value => Sys2Proof.Machine.execHckRateWrite value s
  | .hckRateHiWrite value => Sys2Proof.Machine.execHckRateHiWrite value s
  | .hckTxtsOvfCntRead => Sys2Proof.Machine.execHckTxtsOvfCntRead s
  | .pmcSnap value => Sys2Proof.Machine.execPmcSnap value s
  | .pmcClear value => Sys2Proof.Machine.execPmcClear value s
  | .pmcRun value => Sys2Proof.Machine.execPmcRun value s
  | .pmcCounterWrite offset value => Sys2Proof.Machine.execPmcCounterWrite offset value s
  | .pmcCycLoRead => Sys2Proof.Machine.execPmcCycLoRead s
  | .pmcSnapBeatLoRead => Sys2Proof.Machine.execPmcSnapBeatLoRead s
  | .pmcCounterWrap unit counter => Sys2Proof.Machine.execPmcCounterWrap unit counter s
  | .pwrReasonBeatsLoRead => Sys2Proof.Machine.execPwrReasonBeatsLoRead s
  | .pwrDroopCntRead => Sys2Proof.Machine.execPwrDroopCntRead s
  | .tdcGo ch value h => Sys2Proof.Machine.execTdcGo ch value h s
  | .tdcAbort ch => Sys2Proof.Machine.execTdcAbort ch s
  | .tdcLockClear ch => Sys2Proof.Machine.execTdcLockClear ch s
  | .xdcGo ch value => Sys2Proof.Machine.execXdcGo ch value s
  | .xdcAbort ch => Sys2Proof.Machine.execXdcAbort ch s
  | .mbxOverrunCntRead m => Sys2Proof.Machine.execMbxOverrunCntRead m s
  | .mbxLateCntRead m => Sys2Proof.Machine.execMbxLateCntRead m s
  | .mbxEvtLostRead => Sys2Proof.Machine.execMbxEvtLostRead s
  | .fltAckWrite value => Sys2Proof.Machine.execFltAckWrite value s
  | .fltClearWrite value => Sys2Proof.Machine.execFltClearWrite value s
  | .fltForceWrite n value => Sys2Proof.Machine.execFltForceWrite n value s
  | .fltLogLostRead => Sys2Proof.Machine.execFltLogLostRead s
  | .fltPartnerCntRead => Sys2Proof.Machine.execFltPartnerCntRead s
  | .wickStopsRead => Sys2Proof.Machine.execWickStopsRead s
  | .sysEventRing m h => Sys2Proof.Machine.execSysEventRing m h s
  | .sysEventMask m h => Sys2Proof.Machine.execSysEventMask m h s
  | .sysInfo m h => Sys2Proof.Machine.execSysInfo m h s
  | .sysStatus m h => Sys2Proof.Machine.execSysStatus m h s
  | .sysReset m h => Sys2Proof.Machine.execSysReset m h s
  | .sysBootLog m h => Sys2Proof.Machine.execSysBootLog m h s
  | .fwStatus m h => Sys2Proof.Machine.execFwStatus m h s
  | .fwStage m h => Sys2Proof.Machine.execFwStage m h s
  | .fwVerify m h => Sys2Proof.Machine.execFwVerify m h s
  | .fwActivate m h => Sys2Proof.Machine.execFwActivate m h s
  | .fwAbort m h => Sys2Proof.Machine.execFwAbort m h s
  | .trustIdentity m h => Sys2Proof.Machine.execTrustIdentity m h s
  | .trustProvision m h => Sys2Proof.Machine.execTrustProvision m h s
  | .trustAttest m h => Sys2Proof.Machine.execTrustAttest m h s
  | .trustLcStatus m h => Sys2Proof.Machine.execTrustLcStatus m h s
  | .trustLcAdvance m h => Sys2Proof.Machine.execTrustLcAdvance m h s
  | .trustReturn m h => Sys2Proof.Machine.execTrustReturn m h s
  | .trustConsent m h => Sys2Proof.Machine.execTrustConsent m h s
  | .portCreate m h => Sys2Proof.Machine.execPortCreate m h s
  | .portDelete m h => Sys2Proof.Machine.execPortDelete m h s
  | .portAdmin m h => Sys2Proof.Machine.execPortAdmin m h s
  | .portConfig m h => Sys2Proof.Machine.execPortConfig m h s
  | .portStatus m h => Sys2Proof.Machine.execPortStatus m h s
  | .portStats m h => Sys2Proof.Machine.execPortStats m h s
  | .portPfcConfig m h => Sys2Proof.Machine.execPortPfcConfig m h s
  | .portPreemptConfig m h => Sys2Proof.Machine.execPortPreemptConfig m h s
  | .portFlush m h => Sys2Proof.Machine.execPortFlush m h s
  | .laneConfig m h => Sys2Proof.Machine.execLaneConfig m h s
  | .laneEnable m h => Sys2Proof.Machine.execLaneEnable m h s
  | .laneDisable m h => Sys2Proof.Machine.execLaneDisable m h s
  | .laneStatus m h => Sys2Proof.Machine.execLaneStatus m h s
  | .laneGetCoeff m h => Sys2Proof.Machine.execLaneGetCoeff m h s
  | .laneSetCoeff m h => Sys2Proof.Machine.execLaneSetCoeff m h s
  | .laneRetrain m h => Sys2Proof.Machine.execLaneRetrain m h s
  | .laneLoopback m h => Sys2Proof.Machine.execLaneLoopback m h s
  | .lanePrbs m h => Sys2Proof.Machine.execLanePrbs m h s
  | .laneEye m h => Sys2Proof.Machine.execLaneEye m h s
  | .laneCounters m h => Sys2Proof.Machine.execLaneCounters m h s
  | .laneTrainLog m h => Sys2Proof.Machine.execLaneTrainLog m h s
  | .laneQuietTlv m h => Sys2Proof.Machine.execLaneQuietTlv m h s
  | .laneQuietPeer m h => Sys2Proof.Machine.execLaneQuietPeer m h s
  | .laneQuietConfig m h => Sys2Proof.Machine.execLaneQuietConfig m h s
  | .ruleOpen m h => Sys2Proof.Machine.execRuleOpen m h s
  | .ruleLoad m h => Sys2Proof.Machine.execRuleLoad m h s
  | .ruleCommit m h => Sys2Proof.Machine.execRuleCommit m h s
  | .ruleAbort m h => Sys2Proof.Machine.execRuleAbort m h s
  | .ruleRevert m h => Sys2Proof.Machine.execRuleRevert m h s
  | .ruleStatus m h => Sys2Proof.Machine.execRuleStatus m h s
  | .ruleHashProbe m h => Sys2Proof.Machine.execRuleHashProbe m h s
  | .ruleParseStats m h => Sys2Proof.Machine.execRuleParseStats m h s
  | .tableConfig m h => Sys2Proof.Machine.execTableConfig m h s
  | .tableInsert m h => Sys2Proof.Machine.execTableInsert m h s
  | .tableDelete m h => Sys2Proof.Machine.execTableDelete m h s
  | .tableRead m h => Sys2Proof.Machine.execTableRead m h s
  | .tableFlush m h => Sys2Proof.Machine.execTableFlush m h s
  | .tableLearnConfig m h => Sys2Proof.Machine.execTableLearnConfig m h s
  | .tableLearnStatus m h => Sys2Proof.Machine.execTableLearnStatus m h s
  | .tableNotifyRing m h => Sys2Proof.Machine.execTableNotifyRing m h s
  | .tableStats m h => Sys2Proof.Machine.execTableStats m h s
  | .tableNhStatus m h => Sys2Proof.Machine.execTableNhStatus m h s
  | .tableTernGroup m h => Sys2Proof.Machine.execTableTernGroup m h s
  | .tableTernWrite m h => Sys2Proof.Machine.execTableTernWrite m h s
  | .tableTernMove m h => Sys2Proof.Machine.execTableTernMove m h s
  | .tableTernBlockMove m h => Sys2Proof.Machine.execTableTernBlockMove m h s
  | .tableTernRead m h => Sys2Proof.Machine.execTableTernRead m h s
  | .tableTernStatus m h => Sys2Proof.Machine.execTableTernStatus m h s
  | .tableTernStats m h => Sys2Proof.Machine.execTableTernStats m h s
  | .tableAutoLoad m h => Sys2Proof.Machine.execTableAutoLoad m h s
  | .tableAutoStatus m h => Sys2Proof.Machine.execTableAutoStatus m h s
  | .tableAutoStats m h => Sys2Proof.Machine.execTableAutoStats m h s
  | .tableAutoRepair m h => Sys2Proof.Machine.execTableAutoRepair m h s
  | .tmConfig m h => Sys2Proof.Machine.execTmConfig m h s
  | .tmSched m h => Sys2Proof.Machine.execTmSched m h s
  | .tmShaper m h => Sys2Proof.Machine.execTmShaper m h s
  | .tmPolicerWrite m h => Sys2Proof.Machine.execTmPolicerWrite m h s
  | .tmPolicerRead m h => Sys2Proof.Machine.execTmPolicerRead m h s
  | .tmGateList m h => Sys2Proof.Machine.execTmGateList m h s
  | .tmGateStatus m h => Sys2Proof.Machine.execTmGateStatus m h s
  | .tmMaxSdu m h => Sys2Proof.Machine.execTmMaxSdu m h s
  | .tmQueueStats m h => Sys2Proof.Machine.execTmQueueStats m h s
  | .tmSampleRing m h => Sys2Proof.Machine.execTmSampleRing m h s
  | .bufPoolConfig m h => Sys2Proof.Machine.execBufPoolConfig m h s
  | .bufPoolMap m h => Sys2Proof.Machine.execBufPoolMap m h s
  | .bufHeadroom m h => Sys2Proof.Machine.execBufHeadroom m h s
  | .bufStatus m h => Sys2Proof.Machine.execBufStatus m h s
  | .bufStats m h => Sys2Proof.Machine.execBufStats m h s
  | .bufMcWrite m h => Sys2Proof.Machine.execBufMcWrite m h s
  | .bufMcRead m h => Sys2Proof.Machine.execBufMcRead m h s
  | .bufFabricStatus m h => Sys2Proof.Machine.execBufFabricStatus m h s
  | .bufPlaneAdmin m h => Sys2Proof.Machine.execBufPlaneAdmin m h s
  | .bufReseqStats m h => Sys2Proof.Machine.execBufReseqStats m h s
  | .bufAudit m h => Sys2Proof.Machine.execBufAudit m h s
  | .bufMirror m h => Sys2Proof.Machine.execBufMirror m h s
  | .ledgerConfig m h => Sys2Proof.Machine.execLedgerConfig m h s
  | .ledgerPolicy m h => Sys2Proof.Machine.execLedgerPolicy m h s
  | .ledgerRings m h => Sys2Proof.Machine.execLedgerRings m h s
  | .ledgerKeyCreate m h => Sys2Proof.Machine.execLedgerKeyCreate m h s
  | .ledgerStart m h => Sys2Proof.Machine.execLedgerStart m h s
  | .ledgerStop m h => Sys2Proof.Machine.execLedgerStop m h s
  | .ledgerStatus m h => Sys2Proof.Machine.execLedgerStatus m h s
  | .ledgerSealGet m h => Sys2Proof.Machine.execLedgerSealGet m h s
  | .ledgerTenantGet m h => Sys2Proof.Machine.execLedgerTenantGet m h s
  | .ledgerFlowGet m h => Sys2Proof.Machine.execLedgerFlowGet m h s
  | .ledgerStats m h => Sys2Proof.Machine.execLedgerStats m h s
  | .memStatus m h => Sys2Proof.Machine.execMemStatus m h s
  | .memLayout m h => Sys2Proof.Machine.execMemLayout m h s
  | .memRegion m h => Sys2Proof.Machine.execMemRegion m h s
  | .memOnline m h => Sys2Proof.Machine.execMemOnline m h s
  | .memOffline m h => Sys2Proof.Machine.execMemOffline m h s
  | .memRebuildRate m h => Sys2Proof.Machine.execMemRebuildRate m h s
  | .memCapture m h => Sys2Proof.Machine.execMemCapture m h s
  | .memCaptureAck m h => Sys2Proof.Machine.execMemCaptureAck m h s
  | .memStats m h => Sys2Proof.Machine.execMemStats m h s
  | .lanternStream m h => Sys2Proof.Machine.execLanternStream m h s
  | .lanternPort m h => Sys2Proof.Machine.execLanternPort m h s
  | .lanternTrigger m h => Sys2Proof.Machine.execLanternTrigger m h s
  | .lanternTenant m h => Sys2Proof.Machine.execLanternTenant m h s
  | .lanternIpfix m h => Sys2Proof.Machine.execLanternIpfix m h s
  | .lanternAck m h => Sys2Proof.Machine.execLanternAck m h s
  | .lanternStats m h => Sys2Proof.Machine.execLanternStats m h s
  | .lanternPmcDump m h => Sys2Proof.Machine.execLanternPmcDump m h s
  | .timeStatus m h => Sys2Proof.Machine.execTimeStatus m h s
  | .timeStep m h => Sys2Proof.Machine.execTimeStep m h s
  | .timeRate m h => Sys2Proof.Machine.execTimeRate m h s
  | .timeState m h => Sys2Proof.Machine.execTimeState m h s
  | .timePortDelay m h => Sys2Proof.Machine.execTimePortDelay m h s
  | .timePortPtp m h => Sys2Proof.Machine.execTimePortPtp m h s
  | .timePps m h => Sys2Proof.Machine.execTimePps m h s
  | .timeSynce m h => Sys2Proof.Machine.execTimeSynce m h s
  | .timeTxtsRead m h => Sys2Proof.Machine.execTimeTxtsRead m h s
  | .faultStatus m h => Sys2Proof.Machine.execFaultStatus m h s
  | .faultAck m h => Sys2Proof.Machine.execFaultAck m h s
  | .faultClear m h => Sys2Proof.Machine.execFaultClear m h s
  | .faultForce m h => Sys2Proof.Machine.execFaultForce m h s
  | .faultLog m h => Sys2Proof.Machine.execFaultLog m h s
  | .faultConfig m h => Sys2Proof.Machine.execFaultConfig m h s
  | .powerStatus m h => Sys2Proof.Machine.execPowerStatus m h s
  | .powerCap m h => Sys2Proof.Machine.execPowerCap m h s
  | .powerConfig m h => Sys2Proof.Machine.execPowerConfig m h s
  | .powerReasons m h => Sys2Proof.Machine.execPowerReasons m h s
  | .powerSensors m h => Sys2Proof.Machine.execPowerSensors m h s
  | .sliceStatus m h => Sys2Proof.Machine.execSliceStatus m h s
  | .sliceTakeover m h => Sys2Proof.Machine.execSliceTakeover m h s
  | .sliceRelease m h => Sys2Proof.Machine.execSliceRelease m h s
  | .sliceSelfCheck m h => Sys2Proof.Machine.execSliceSelfCheck m h s
  | .diagEcho m h => Sys2Proof.Machine.execDiagEcho m h s
  | .diagDelay m h => Sys2Proof.Machine.execDiagDelay m h s
  | .diagProtoLog m h => Sys2Proof.Machine.execDiagProtoLog m h s
  | .deepDebugOpen kind => Sys2Proof.Machine.execDeepDebugOpen kind s
  | .memViralIndication port => Sys2Proof.Machine.execMemViralIndication port s
  | .pciePartnerViolation pf code => Sys2Proof.Machine.execPciePartnerViolation pf code s
  | .xbarPlaneRetrained plane => Sys2Proof.Machine.execXbarPlaneRetrained plane s
  | .pcieLinkTrained rate width => Sys2Proof.Machine.execPcieLinkTrained rate width s
  | .mbxRespValidClear m value => Sys2Proof.Machine.execMbxRespValidClear m value s
  | .xdcErrorClear ch => Sys2Proof.Machine.execXdcErrorClear ch s
  | .halfRangeFold port counter => Sys2Proof.Machine.execHalfRangeFold port counter s
  | .eeeLpiTransmit port lpi => Sys2Proof.Machine.execEeeLpiTransmit port lpi s

end Sys2Proof.Machine
end

