-- ==== Sys2Proof/Machine/RegisterReads.lean ====
section
/-! DEFINITION. What a 4-byte read of each register returns (R15, R371, R372): the value a reader sees, without the side
effects of the few registers whose reads have rows of their own. An offset that holds no register reads as zero
(R16). -/

namespace Sys2Proof.Machine

/-- The lower or upper half of a 64-bit value. -/
def half (hi : Bool) (v : Nat) : Nat := if hi then v / 2 ^ 32 % 2 ^ 32 else v % 2 ^ 32

/-- GLB_CLOCK (Table 1.3). -/
def glbClock (s : State) : Nat := cyclesPerBeat s + 2 ^ 14 * s.power.clk + 2 ^ 16 * b2n s.glb.stretched

/-- GLB_LINK (Table 13.4): downtrained below 32 GT/s × 8 is shown while the link is up. -/
def glbLink (s : State) : Nat :=
  s.glb.linkRate + 16 * s.glb.linkWidth +
    2 ^ 16 * b2n (s.glb.linkRate != 0 && (decide (s.glb.linkRate < 5) || decide (s.glb.linkWidth < 8)))

/-- The GLB_ group. -/
def glbRead (s : State) (o : Nat) : Nat :=
  if o = 0x00 then 0x0768 * 65536 + Config.partRev % 65536
  else if o = 0x04 then s.boot.straps
  else if o = 0x08 then glbState s
  else if o = 0x0C then s.glb.scratch
  else if o = 0x10 then rd s.fw.run 12 4
  else if o = 0x14 then glbLink s
  else if o = 0x18 then s.glb.hostErr
  else if o = 0x40 then half false s.beat
  else if o = 0x44 then s.glb.beatHi
  else if o = 0x48 then glbClock s
  else if o = 0x4C then s.rules.reg
  else if o = 0x50 then s.rules.inflReg
  else 0

/-- The MBX_ group (Tables 14.3 and 14.4) with the event registers. -/
def mbxRead (s : State) (o : Nat) : Nat :=
  let m := (o - 0x400) / 0x40
  let x := s.box m
  let ev (v : Nat) : Nat := if m = 0 then v else 0
  let r := (o - 0x400) % 0x40
  if r = 0x04 then x.st + 2 ^ 3 * b2n x.valid + 2 ^ 8 * b2n x.overrun + 2 ^ 9 * b2n x.discarded + 2 ^ 10 * b2n x.guarded +
      2 ^ 11 * b2n s.fw.hand
  else if r = 0x08 then x.opcode
  else if r = 0x0C then x.result
  else if r = 0x10 then x.door
  else if r = 0x14 then x.accept
  else if r = 0x18 then x.guard
  else if r = 0x1C then x.overrunCnt
  else if r = 0x20 then x.lateCnt
  else if r = 0x30 then ev s.evt.head
  else if r = 0x34 then ev s.evt.tail
  else if r = 0x38 then ev (b2n (s.evt.size != 0) + 2 * b2n (!s.evt.held.isEmpty) + 2 ^ 16 * s.evt.held.length)
  else if r = 0x3C then ev s.evt.lost
  else 0

/-- The TDC_ group (Tables 5.9 to 5.11). -/
def tdcRead (s : State) (o : Nat) : Nat :=
  let x := s.tdcOf ((o - 0x2400) / 0x40)
  let r := (o - 0x2400) % 0x40
  if r = 0x00 then x.ctrl + 2 ^ 31 * b2n x.go
  else if r = 0x04 then b2n x.done + 2 * b2n x.err + 4 * b2n x.locked + 2 ^ 24 * x.code
  else if r = 0x08 then x.start
  else if r = 0x0C then x.count
  else if r = 0x10 then half false x.addr
  else if r = 0x14 then half true x.addr
  else if r = 0x18 then x.moved
  else if r = 0x1C then x.fail
  else if r = 0x20 then x.apply
  else if r = 0x24 then x.lockBeats
  else 0

/-- LINE of a mover channel (Table 10.12, R315, R320): channels 0 to 3 LEDGER, 4 CAPTURE, 5 LANTERN, 6 and 7 HOST. -/
def lineOf (c : Nat) : Nat := if c < 4 then 0 else if c = 4 then 1 else if c = 5 then 2 else 3

/-- BUSY: a chain runs, or the channel's own work waits (R322). -/
def xdcBusy (s : State) (c : Nat) : Bool :=
  if c < 4 then (s.ledger.quads.get {} c).queue.any (·.released)
  else if c = 4 then s.mem.capq.any fun e => !e.2.isEmpty
  else if c = 5 then !s.lantern.queue.isEmpty
  else (s.xdcOf c).go

/-- The XDC_ group (Tables 10.11 to 10.13). -/
def xdcRead (s : State) (o : Nat) : Nat :=
  let c := (o - 0x2800) / 0x40
  let x := s.xdcOf c
  let r := (o - 0x2800) % 0x40
  if r = 0x00 then b2n x.irq + 2 ^ 8 * lineOf c + 2 ^ 31 * b2n x.go
  else if r = 0x04 then b2n x.done + 2 * b2n x.err + 4 * b2n (xdcBusy s c) + 8 * b2n x.halted + 2 ^ 24 * x.code
  else if r = 0x08 then half false x.desc
  else if r = 0x0C then half true x.desc
  else if r = 0x10 then half false x.cur
  else if r = 0x14 then half true x.cur
  else if r = 0x18 then x.fin
  else if r = 0x1C then half false x.bytes
  else if r = 0x20 then half true x.bytes
  else if r = 0x24 then x.timeout
  else if r = 0x28 then half false x.errAddr
  else if r = 0x2C then half true x.errAddr
  else 0

/-- The IRQ_ group (Table 13.6). -/
def irqRead (s : State) (o : Nat) : Nat :=
  if o = 0x3000 then half false s.host.status
  else if o = 0x3004 then half true s.host.status
  else if o = 0x3008 then half false s.host.enable
  else if o = 0x300C then half true s.host.enable
  else if 0x3020 ≤ o && o < 0x3060 then s.host.vecs.get (0x03020100 + 0x04040404 * ((o - 0x3020) / 4)) ((o - 0x3020) / 4)
  else if 0x3080 ≤ o && o < 0x3100 then s.host.itrs.get 0 ((o - 0x3080) / 4)
  else 0

/-- 32 latches or force bits of the sources from 32n on (Table 16.6). -/
def srcBits (s : State) (n : Nat) (f : Src → Bool) : Nat :=
  maskOf ((List.range 32).filter fun i => f (s.src (32 * n + i)))

/-- The FLT_ and WICK_ group (Tables 16.6 to 16.9). -/
def fltRead (s : State) (o : Nat) : Nat :=
  let f := s.fault
  let r := s.src f.sel
  let one (v : Nat) : Nat := if f.sel < 448 then v else 0
  if 0x3440 ≤ o && o < 0x3478 then srcBits s ((o - 0x3440) / 4) fun x => x.real.set
  else if 0x3480 ≤ o && o < 0x34B8 then srcBits s ((o - 0x3480) / 4) fun x => x.forced.set
  else if 0x34C0 ≤ o && o < 0x34F8 then srcBits s ((o - 0x34C0) / 4) fun x => x.force
  else
    if o = 0x3400 then b2n f.graceMode + 2 * b2n f.forceAct
    else if o = 0x3404 then fltStatus s
    else if o = 0x3408 then f.grace
    else if o = 0x340C then f.sel
    else if o = 0x3410 then one (srcStatus s f.sel)
    else if o = 0x3414 then one r.real.inst
    else if o = 0x3418 then one r.forced.inst
    else if o = 0x341C then one (sourceCfg s f.sel)
    else if o = 0x3420 then one (r.real.count + 65536 * r.forced.count)
    else if o = 0x342C then f.forceCfg
    else if o = 0x3430 then f.forceInst
    else if o = 0x3434 then f.logHead
    else if o = 0x3438 then f.logLost
    else if o = 0x343C then f.partnerCnt
    else if o = 0x3500 then b2n s.wick.level + 2 * b2n s.wick.running + 4 * b2n (fatalReal s) + 8 * b2n s.wick.expired
    else if o = 0x3504 then s.wick.limit
    else if o = 0x3508 then if s.wick.armed && !s.wick.expired then s.wick.kicked + s.wick.limit - s.beat else 0
    else if o = 0x350C then half false s.wick.stopBeat
    else if o = 0x3510 then half true s.wick.stopBeat
    else if o = 0x3514 then s.wick.stops
    else 0

/-- HCK_STATUS (Table 12.5). -/
def hckStatus (s : State) : Nat :=
  let t := s.time
  t.st + 2 ^ 2 * b2n t.refused + 2 ^ 8 * b2n t.txtsOvf + 2 ^ 9 * b2n t.ppsEvent + 2 ^ 10 * b2n t.clamp +
    2 ^ 11 * b2n t.s0.squelch + 2 ^ 12 * b2n t.s1.squelch + 2 ^ 16 * t.txts.length

/-- The HCK_ group (Tables 12.3 to 12.7). -/
def hckRead (s : State) (o : Nat) : Nat :=
  let t := s.time
  if o = 0x3C00 then b2n (t.stepDue != 0) + 2 ^ 8 * b2n t.ppsOut + 2 ^ 9 * b2n t.ppsIn + 2 ^ 10 * b2n t.ppsFall
  else if o = 0x3C04 then hckStatus s
  else if o = 0x3C08 then t.ns
  else if o = 0x3C0C then half false t.latSec
  else if o = 0x3C10 then half true t.latSec
  else if o = 0x3C14 then t.latFrac
  else if o = 0x3C18 then t.latBeat
  else if o = 0x3C1C then t.rateLo
  else if o = 0x3C20 then t.stepNs
  else if o = 0x3C24 then half false t.stepSec
  else if o = 0x3C28 then half true t.stepSec
  else if o = 0x3C2C then t.width
  else if o = 0x3C30 then ofInt 32 t.offset
  else if o = 0x3C34 then t.inNs
  else if o = 0x3C38 then half false t.inSec
  else if o = 0x3C3C then half true t.inSec
  else if o = 0x3C40 then txtsInfo s
  else if o = 0x3C44 then t.latTx.1
  else if o = 0x3C48 then half false t.latTx.2
  else if o = 0x3C4C then half true t.latTx.2
  else if o = 0x3C54 then t.ovfCnt
  else if o = 0x3C58 then t.s0.lane + 2 ^ 12 * b2n t.s0.on
  else if o = 0x3C5C then t.s1.lane + 2 ^ 12 * b2n t.s1.on
  else if o = 0x3C60 then t.irqEn
  else if o = 0x3C64 then t.rateHi
  else 0

/-- The PWR_ group (Tables 17.7 to 17.9). -/
def pwrRead (s : State) (o : Nat) : Nat :=
  let p := s.power
  let g := p.regs.getD p.regSel {}
  if o = 0x4000 then b2n p.gateAlways + 2 * b2n p.quietAlways + 2 ^ 8 * p.tHyst + 2 ^ 16 * p.hyst
  else if o = 0x4004 then pwrStatus s
  else if o = 0x4008 then p.cap
  else if o = 0x400C then p.throttle
  else if o = 0x4010 then p.esc
  else if o = 0x4014 then p.release
  else if o = 0x4018 then p.minLevel
  else if o = 0x401C then p.meas
  else if o = 0x4020 then p.est
  else if o = 0x4024 then p.steer
  else if o = 0x4028 then pwrTmax s
  else if o = 0x402C then p.low
  else if o = 0x4030 then p.active + 2 ^ 16 * p.latched
  else if o = 0x4034 then p.reasonSel
  else if o = 0x4038 then half false (nth p.beats p.reasonSel)
  else if o = 0x403C then p.beatsHi
  else if o = 0x4040 then p.sensSel
  else if o = 0x4044 then leOf (readingBytes (sensorOf s p.sensSel).val) + 2 ^ 16 * b2n (sensorOf s p.sensSel).out +
      2 ^ 17 * dieGroup p.sensSel
  else if o = 0x4048 then p.regSel
  else if o = 0x404C then g.pout
  else if o = 0x4050 then g.status + 2 ^ 16 * b2n g.responding + 2 ^ 17 * b2n (causeFor s 441 p.regSel) + 2 ^ 24 * g.addr
  else if o = 0x4054 then pwrMismatch s
  else if o = 0x4058 then p.droopCnt
  else if o = 0x405C then p.droopLimit
  else if o = 0x4060 then p.irqEn
  else if o = 0x4064 then p.irqSt
  else 0

/-- The PMC_ group (Tables 11.10 to 11.12); a selection of 40 or more shows no unit (R347). -/
def pmcRead (s : State) (o : Nat) : Nat :=
  let p := s.pmc
  let x := if p.sel < 40 then s.punit p.sel else {}
  let exceeds := maskOf ((List.range 40).filter fun u => (s.punit u).ovf != 0)
  if 0x4430 ≤ o && o < 0x4450 then nth x.evt ((o - 0x4430) / 4)
  else if 0x4450 ≤ o && o < 0x4470 then nth (if p.view then x.snap else x.cnt) ((o - 0x4450) / 4)
  else
    if o = 0x4400 then p.sel
    else if o = 0x4404 then b2n p.run + 2 * b2n p.snap + 4 * b2n p.view
    else if o = 0x4408 then b2n p.running + 2 * b2n (p.snap || p.clear || p.runDue) + 4 * b2n p.ignored
    else if o = 0x440C then half false p.snapBeat
    else if o = 0x4410 then p.snapHi
    else if o = 0x4414 then half false (shownCycles s)
    else if o = 0x4418 then p.cycHi
    else if o = 0x441C then x.ovf
    else if o = 0x4420 then x.irq
    else if o = 0x4424 then half false exceeds
    else if o = 0x4428 then half true exceeds
    else 0

/-- The HRQ_ registers of a ring (Tables 13.9 to 13.11). -/
def hrqRead (s : State) (o : Nat) : Nat :=
  let r := o / 0x20
  let x := s.ring r
  let f := o % 0x20
  if f = 0x00 then half false x.base
  else if f = 0x04 then half true x.base
  else if f = 0x08 then 2 ^ 8 * x.buf + 2 ^ 16 * x.size + 2 ^ 23 * b2n x.irq + 2 ^ 24 * ringVec s r + 2 ^ 31 * b2n x.on
  else if f = 0x0C then b2n x.complete + 2 * b2n x.stopped + 4 * b2n x.frozen + 8 * b2n x.resetting + 16 * b2n x.half + 2 ^ 28 * x.code
  else if f = 0x10 then x.head
  else if f = 0x14 then x.tail
  else if f = 0x18 then x.itr
  else if f = 0x1C then x.err
  else 0

/-- The vector control word of an MSI-X table entry, or 4 bytes of its address and data; the PBA (R376). -/
def msixRead (s : State) (pf o : Nat) : Nat :=
  if 0x400 ≤ o then (if o = 0x400 then half false (pbaOf s pf) else if o = 0x404 then half true (pbaOf s pf) else 0)
  else if o % 16 = 12 then b2n (!s.host.unmasked.contains (64 * pf + o / 16))
  else leOf ((if pf = 0 then s.host.table0 else s.host.table1).readN o 4)

/-- What a 4-byte read of PF0 BAR0 returns (Tables 13.2 and 13.3). -/
def pf0Read (s : State) (o : Nat) : Nat :=
  if o < 0x80 then glbRead s o
  else if 0x400 ≤ o && o < 0x800 then mbxRead s o
  else if 0x2400 ≤ o && o < 0x2500 then tdcRead s o
  else if 0x2800 ≤ o && o < 0x2A00 then xdcRead s o
  else if 0x3000 ≤ o && o < 0x3100 then irqRead s o
  else if 0x3400 ≤ o && o < 0x3580 then fltRead s o
  else if 0x3C00 ≤ o && o < 0x3CC0 then hckRead s o
  else if 0x4000 ≤ o && o < 0x4080 then pwrRead s o
  else if 0x4400 ≤ o && o < 0x4480 then pmcRead s o
  else if 0xE000 ≤ o && o < 0xE400 then msixRead s 0 (o - 0xE000)
  else if 0xF000 ≤ o && o < 0xF008 then msixRead s 0 (o - 0xEC00)
  else 0

/-- What a 4-byte read of PF1 BAR0 returns (Table 13.8). -/
def pf1Read (s : State) (o : Nat) : Nat :=
  if o < 0x400 then hrqRead s o
  else if o < 0x800 then nth (s.ring ((o - 0x400) / 0x20)).stats ((o - 0x400) % 0x20 / 4)
  else if o < 0xC08 then msixRead s 1 (o - 0x800)
  else match filterPlace o with
    | some (true, i, b) => rd (s.host.pattern.get [] i) b 4
    | some (false, i, b) => rd (s.host.steer.get [] i) b 4
    | none => 0

/-- The value a 4-byte read of a register returns (R15, R371). -/
def registerValue (s : State) (pf o : Nat) : Nat := if pf = 0 then pf0Read s o else pf1Read s o

end Sys2Proof.Machine
end

