-- ==== Sys2Proof/Safety.lean ====
section
/-! DEFINITION. What counts as a safe state and a safe change: the parts of the state by name, what a command may touch,
and the invariant that every step keeps. -/

namespace Sys2Proof.Machine

/-- The parts of the state, for saying which of them a command may change. -/
inductive Part where
  | glb | boot | lanes | ports | rules | flight | tab | tabPrev | tdc | buf | tm | ledger | mem | xdc | lantern | pmc
  | time | host | mbx | evt | pend | trust | fw | fault | wick | power | slices | freshSet | out | freeCtr | pending
  deriving DecidableEq, Repr

/-- A part of two states is the same. -/
def Part.same (p : Part) (s t : State) : Prop :=
  match p with
  | .glb => t.glb = s.glb
  | .boot => t.boot = s.boot
  | .lanes => t.lanes = s.lanes
  | .ports => t.ports = s.ports
  | .rules => t.rules = s.rules
  | .flight => t.flight = s.flight
  | .tab => t.tab = s.tab
  | .tabPrev => t.tabPrev = s.tabPrev
  | .tdc => t.tdc = s.tdc
  | .buf => t.buf = s.buf
  | .tm => t.tm = s.tm
  | .ledger => t.ledger = s.ledger
  | .mem => t.mem = s.mem
  | .xdc => t.xdc = s.xdc
  | .lantern => t.lantern = s.lantern
  | .pmc => t.pmc = s.pmc
  | .time => t.time = s.time
  | .host => t.host = s.host
  | .mbx => t.mbx = s.mbx
  | .evt => t.evt = s.evt
  | .pend => t.pend = s.pend
  | .trust => t.trust = s.trust
  | .fw => t.fw = s.fw
  | .fault => t.fault = s.fault
  | .wick => t.wick = s.wick
  | .power => t.power = s.power
  | .slices => t.slices = s.slices
  | .freshSet => t.freshSet = s.freshSet
  | .out => t.out = s.out
  | .freeCtr => t.freeCtr = s.freeCtr
  | .pending => t.pending = s.pending

/-- `t` differs from `s` in the listed parts only: the frame of a command. -/
def onlyChanges (l : List Part) (s t : State) : Prop := ∀ p : Part, p ∉ l → p.same s t

/-- Exactly one of the two rule banks is ACTIVE, and it is the one the device names (R124). -/
def oneActive (r : Rules) : Prop :=
  (r.active = 0 ∧ r.b0.st = 3 ∧ r.b1.st ≠ 3 ∧ r.b1.pst ≠ 3) ∨ (r.active = 1 ∧ r.b1.st = 3 ∧ r.b0.st ≠ 3 ∧ r.b0.pst ≠ 3)

/-- The invariant that every step keeps: one rule bank is ACTIVE (R124); the life-cycle state is one of BLANK, PROVISIONED,
FIELD and RETURNED (R443); the Dimmer's level and the level asked for over the health port are each one of D0 to D4 and its
clock state one of 0 to 2 (R35, R475, R477). -/
def Inv (s : State) : Prop :=
  oneActive s.rules ∧ s.trust.lc ≤ 3 ∧ s.power.level ≤ 4 ∧ s.power.clk ≤ 2 ∧ s.power.ext ≤ 4

/-- The numbers of which bank is ACTIVE, whether a switch is posted, and the banks' state codes. -/
def Rules.codes (r : Rules) : List Nat := [r.active, r.sw, r.b0.st, r.b0.pst, r.b1.st, r.b1.pst]

/-- What all but a few commands leave as it is: the banks' states, the life cycle, the Dimmer's level, its
external floor and its clock state, the beat counter and the queue. -/
def State.kept (s : State) : List Nat × List Instr :=
  (s.rules.codes ++ [s.trust.lc, s.power.level, s.power.clk, s.power.ext, s.glb.beat], s.pending)

/-- `exec` answers a next state of which `P` holds. -/
def completes (i : Instr) (s : State) (P : State → Prop) : Prop := ∃ t, exec i s = .next t ∧ P t

/-- The commands that may reset the device's core (R494, R495). -/
def mayReset (i : Instr) : Prop :=
  i = .pwrgoodFall ∨ i = .coreResetStart ∨ i = .perstNAssert ∨ ∃ measured, i = .ittasRestartStart measured

/-- A mailbox command: its constructor, its opcode, and its checks and effect (R425). -/
abbrev CommandRow := (Nat → HostAnswer → Instr) × Nat × CmdSpec

/-- A command of service 0x01. -/
def inServiceSys (r : CommandRow) : Prop := r ∈ ([
  (.sysEventRing, 0x0101, sysEventRingSpec), (.sysEventMask, 0x0102, sysEventMaskSpec),
  (.sysInfo, 0x0110, sysInfoSpec), (.sysStatus, 0x0111, sysStatusSpec), (.sysReset, 0x0112, sysResetSpec),
  (.sysBootLog, 0x0113, sysBootLogSpec)] : List CommandRow)

/-- A command of service 0x02. -/
def inServiceFw (r : CommandRow) : Prop := r ∈ ([
  (.fwStatus, 0x0201, fwStatusSpec), (.fwStage, 0x0202, fwStageSpec), (.fwVerify, 0x0203, fwVerifySpec),
  (.fwActivate, 0x0204, fwActivateSpec), (.fwAbort, 0x0205, fwAbortSpec)] : List CommandRow)

/-- A command of service 0x03. -/
def inServiceTrust (r : CommandRow) : Prop := r ∈ ([
  (.trustIdentity, 0x0301, trustIdentitySpec), (.trustProvision, 0x0302, trustProvisionSpec),
  (.trustAttest, 0x0303, trustAttestSpec), (.trustLcStatus, 0x0304, trustLcStatusSpec),
  (.trustLcAdvance, 0x0305, trustLcAdvanceSpec), (.trustReturn, 0x0306, trustReturnSpec),
  (.trustConsent, 0x0307, trustConsentSpec)] : List CommandRow)

/-- A command of service 0x04. -/
def inServicePort (r : CommandRow) : Prop := r ∈ ([
  (.portCreate, 0x0401, portCreateSpec), (.portDelete, 0x0402, portDeleteSpec),
  (.portAdmin, 0x0403, portAdminSpec), (.portConfig, 0x0404, portConfigSpec),
  (.portStatus, 0x0405, portStatusSpec), (.portStats, 0x0406, portStatsSpec),
  (.portPfcConfig, 0x0407, portPfcConfigSpec), (.portPreemptConfig, 0x0408, portPreemptConfigSpec),
  (.portFlush, 0x0409, portFlushSpec)] : List CommandRow)

/-- A command of service 0x05. -/
def inServiceLane (r : CommandRow) : Prop := r ∈ ([
  (.laneConfig, 0x0501, laneConfigSpec), (.laneEnable, 0x0502, laneEnableSpec),
  (.laneDisable, 0x0503, laneDisableSpec), (.laneStatus, 0x0504, laneStatusSpec),
  (.laneGetCoeff, 0x0505, laneGetCoeffSpec), (.laneSetCoeff, 0x0506, laneSetCoeffSpec),
  (.laneRetrain, 0x0507, laneRetrainSpec), (.laneLoopback, 0x0508, laneLoopbackSpec),
  (.lanePrbs, 0x0509, lanePrbsSpec), (.laneEye, 0x050A, laneEyeSpec),
  (.laneCounters, 0x050B, laneCountersSpec), (.laneTrainLog, 0x050C, laneTrainLogSpec),
  (.laneQuietTlv, 0x050D, laneQuietTlvSpec), (.laneQuietPeer, 0x050E, laneQuietPeerSpec),
  (.laneQuietConfig, 0x050F, laneQuietConfigSpec)] : List CommandRow)

/-- A command of service 0x06. -/
def inServiceRule (r : CommandRow) : Prop := r ∈ ([
  (.ruleOpen, 0x0601, ruleOpenSpec), (.ruleLoad, 0x0602, ruleLoadSpec), (.ruleCommit, 0x0603, ruleCommitSpec),
  (.ruleAbort, 0x0604, ruleAbortSpec), (.ruleRevert, 0x0605, ruleRevertSpec),
  (.ruleStatus, 0x0606, ruleStatusSpec), (.ruleHashProbe, 0x0607, ruleHashProbeSpec),
  (.ruleParseStats, 0x0608, ruleParseStatsSpec)] : List CommandRow)

/-- A command of service 0x07. -/
def inServiceTable (r : CommandRow) : Prop := r ∈ ([
  (.tableConfig, 0x0701, tableConfigSpec), (.tableInsert, 0x0702, tableInsertSpec),
  (.tableDelete, 0x0703, tableDeleteSpec), (.tableRead, 0x0704, tableReadSpec),
  (.tableFlush, 0x0705, tableFlushSpec), (.tableLearnConfig, 0x0706, tableLearnConfigSpec),
  (.tableLearnStatus, 0x0707, tableLearnStatusSpec), (.tableNotifyRing, 0x0708, tableNotifyRingSpec),
  (.tableStats, 0x0709, tableStatsSpec), (.tableNhStatus, 0x070A, tableNhStatusSpec),
  (.tableTernGroup, 0x0710, ternGroupSpec), (.tableTernWrite, 0x0711, ternWriteSpec),
  (.tableTernMove, 0x0712, ternMoveSpec), (.tableTernBlockMove, 0x0713, ternBlockMoveSpec),
  (.tableTernRead, 0x0714, ternReadSpec), (.tableTernStatus, 0x0715, ternStatusSpec),
  (.tableTernStats, 0x0716, ternStatsSpec), (.tableAutoLoad, 0x0720, autoLoadSpec),
  (.tableAutoStatus, 0x0721, autoStatusSpec), (.tableAutoStats, 0x0722, autoStatsSpec),
  (.tableAutoRepair, 0x0723, autoRepairSpec)] : List CommandRow)

/-- A command of service 0x08. -/
def inServiceTm (r : CommandRow) : Prop := r ∈ ([
  (.tmConfig, 0x0801, tmConfigSpec), (.tmSched, 0x0802, tmSchedSpec), (.tmShaper, 0x0803, tmShaperSpec),
  (.tmPolicerWrite, 0x0804, tmPolicerWriteSpec), (.tmPolicerRead, 0x0805, tmPolicerReadSpec),
  (.tmGateList, 0x0806, tmGateListSpec), (.tmGateStatus, 0x0807, tmGateStatusSpec),
  (.tmMaxSdu, 0x0808, tmMaxSduSpec), (.tmQueueStats, 0x0809, tmQueueStatsSpec),
  (.tmSampleRing, 0x080A, tmSampleRingSpec)] : List CommandRow)

/-- A command of service 0x09. -/
def inServiceBuf (r : CommandRow) : Prop := r ∈ ([
  (.bufPoolConfig, 0x0901, bufPoolConfigSpec), (.bufPoolMap, 0x0902, bufPoolMapSpec),
  (.bufHeadroom, 0x0903, bufHeadroomSpec), (.bufStatus, 0x0904, bufStatusSpec),
  (.bufStats, 0x0905, bufStatsSpec), (.bufMcWrite, 0x0906, bufMcWriteSpec),
  (.bufMcRead, 0x0907, bufMcReadSpec), (.bufFabricStatus, 0x0908, bufFabricStatusSpec),
  (.bufPlaneAdmin, 0x0909, bufPlaneAdminSpec), (.bufReseqStats, 0x090A, bufReseqStatsSpec),
  (.bufAudit, 0x090B, bufAuditSpec), (.bufMirror, 0x090C, bufMirrorSpec)] : List CommandRow)

/-- A command of service 0x0A. -/
def inServiceLedger (r : CommandRow) : Prop := r ∈ ([
  (.ledgerConfig, 0x0A01, ledgerConfigSpec), (.ledgerPolicy, 0x0A02, ledgerPolicySpec),
  (.ledgerRings, 0x0A03, ledgerRingsSpec), (.ledgerKeyCreate, 0x0A04, ledgerKeyCreateSpec),
  (.ledgerStart, 0x0A05, ledgerStartSpec), (.ledgerStop, 0x0A06, ledgerStopSpec),
  (.ledgerStatus, 0x0A07, ledgerStatusSpec), (.ledgerSealGet, 0x0A08, ledgerSealGetSpec),
  (.ledgerTenantGet, 0x0A09, ledgerTenantGetSpec), (.ledgerFlowGet, 0x0A0A, ledgerFlowGetSpec),
  (.ledgerStats, 0x0A0B, ledgerStatsSpec)] : List CommandRow)

/-- A command of service 0x0B. -/
def inServiceMem (r : CommandRow) : Prop := r ∈ ([
  (.memStatus, 0x0B01, memStatusSpec), (.memLayout, 0x0B02, memLayoutSpec),
  (.memRegion, 0x0B03, memRegionSpec), (.memOnline, 0x0B04, memOnlineSpec),
  (.memOffline, 0x0B05, memOfflineSpec), (.memRebuildRate, 0x0B06, memRebuildRateSpec),
  (.memCapture, 0x0B07, memCaptureSpec), (.memCaptureAck, 0x0B08, memCaptureAckSpec),
  (.memStats, 0x0B09, memStatsSpec)] : List CommandRow)

/-- A command of service 0x0C. -/
def inServiceLantern (r : CommandRow) : Prop := r ∈ ([
  (.lanternStream, 0x0C01, lanternStreamSpec), (.lanternPort, 0x0C02, lanternPortSpec),
  (.lanternTrigger, 0x0C03, lanternTriggerSpec), (.lanternTenant, 0x0C04, lanternTenantSpec),
  (.lanternIpfix, 0x0C05, lanternIpfixSpec), (.lanternAck, 0x0C06, lanternAckSpec),
  (.lanternStats, 0x0C07, lanternStatsSpec), (.lanternPmcDump, 0x0C08, lanternPmcDumpSpec)] : List CommandRow)

/-- A command of service 0x0D. -/
def inServiceTime (r : CommandRow) : Prop := r ∈ ([
  (.timeStatus, 0x0D01, timeStatusSpec), (.timeStep, 0x0D02, timeStepSpec), (.timeRate, 0x0D03, timeRateSpec),
  (.timeState, 0x0D04, timeStateSpec), (.timePortDelay, 0x0D05, timePortDelaySpec),
  (.timePortPtp, 0x0D06, timePortPtpSpec), (.timePps, 0x0D07, timePpsSpec),
  (.timeSynce, 0x0D08, timeSynceSpec), (.timeTxtsRead, 0x0D09, timeTxtsReadSpec)] : List CommandRow)

/-- A command of service 0x0E. -/
def inServiceFault (r : CommandRow) : Prop := r ∈ ([
  (.faultStatus, 0x0E01, faultStatusSpec), (.faultAck, 0x0E02, faultAckSpec),
  (.faultClear, 0x0E03, faultClearSpec), (.faultForce, 0x0E04, faultForceSpec),
  (.faultLog, 0x0E05, faultLogSpec), (.faultConfig, 0x0E06, faultConfigSpec)] : List CommandRow)

/-- A command of service 0x0F. -/
def inServicePower (r : CommandRow) : Prop := r ∈ ([
  (.powerStatus, 0x0F01, powerStatusSpec), (.powerCap, 0x0F02, powerCapSpec),
  (.powerConfig, 0x0F03, powerConfigSpec), (.powerReasons, 0x0F04, powerReasonsSpec),
  (.powerSensors, 0x0F05, powerSensorsSpec)] : List CommandRow)

/-- A command of service 0x10. -/
def inServiceSlice (r : CommandRow) : Prop := r ∈ ([
  (.sliceStatus, 0x1001, sliceStatusSpec), (.sliceTakeover, 0x1002, sliceTakeoverSpec),
  (.sliceRelease, 0x1003, sliceReleaseSpec), (.sliceSelfCheck, 0x1004, sliceSelfCheckSpec)] : List CommandRow)

/-- A command of service 0x11. -/
def inServiceDiag (r : CommandRow) : Prop := r ∈ ([
  (.diagEcho, 0x1101, diagEchoSpec), (.diagDelay, 0x1102, diagDelaySpec),
  (.diagProtoLog, 0x1103, diagProtoLogSpec)] : List CommandRow)

/-- One of the mailbox commands. -/
def isCommand (r : CommandRow) : Prop :=
  inServiceSys r ∨ inServiceFw r ∨ inServiceTrust r ∨ inServicePort r ∨ inServiceLane r ∨ inServiceRule r ∨
    inServiceTable r ∨ inServiceTm r ∨ inServiceBuf r ∨ inServiceLedger r ∨ inServiceMem r ∨ inServiceLantern r ∨
    inServiceTime r ∨ inServiceFault r ∨ inServicePower r ∨ inServiceSlice r ∨ inServiceDiag r

/-- The payload of the request in a mailbox (R402). -/
def payload (s : State) (m : Nat) : Bytes := request s m 16 (leOf (request s m 4 4))

/-- Every check of a request's fields passes (R410). -/
abbrev passes (l : List (Bool × Nat)) : Prop := ∀ k ∈ l, k.1 = true

/-- The command `c` of opcode `op` waits in mailbox `m` with a good header, and may be taken up now (R406, R407, R410,
R493). -/
def ready (op : Nat) (sp : CmdSpec) (m : Nat) (s : State) (c : Cmd) : Bool :=
  decide (m < 16) && waitingIn s m == some c && c.op == op && serving s && eligible s c && headerFault s m (some sp) == 0 &&
    (!inRecovery s || recoveryOps.contains op)

/-- The state after a command was accepted with the effect that `t` shows: acceptance is recorded with its beat, and a
command answered at once has its response waiting (R406, R408). -/
def afterAccept (c : Cmd) (t : State) (reply : Option (Nat × Bytes)) : State :=
  match reply with
  | some (status, bytes) => answer c.order status 0 bytes (markAccepted c t)
  | none => markAccepted c t

/-- The command answers the state in which command `c` was accepted with the effect `t` and `reply`. -/
def accepts (cmd : Instr) (c : Cmd) (s t : State) (reply : Option (Nat × Bytes)) : Prop :=
  exec cmd s = .next (afterAccept c t reply)

/-- The root that leaf hash `h` of leaf `m` of `n` leads to by its inclusion proof, nearest sibling first (R291; RFC 9162,
Section 2.1.3). The fuel is at least `n`. -/
def merkleFold : Nat → Nat → Nat → Bytes → List Bytes → Bytes
  | 0, _, _, h, _ => h
  | fuel + 1, n, m, h, path =>
    if n ≤ 1 then h
    else if m < splitPoint n then
      sha256 (le 1 1 ++ merkleFold fuel (splitPoint n) m h path.dropLast ++ path.getLastD [])
    else sha256 (le 1 1 ++ path.getLastD [] ++ merkleFold fuel (n - splitPoint n) (m - splitPoint n) h path.dropLast)

/-- A setting of command `c` posted to the boundary that ends the beat, with payload `p` and the bytes `d` it read (R40). -/
def posted (c : Cmd) (p d : Bytes) (s : State) : State := post c.order c.op p d s

end Sys2Proof.Machine
end

