-- ==== Sys2Proof/Certificates/Slice0/Obligations.lean ====
section
/-! DEFINITION. The statements for the provers. -/

section
open Sys2Proof Sys2Proof.Machine

/-- A step is `exec` of the front command on the rest of the queue. That an empty queue idles is the model's choice (log
entry 2). -/
def Obligations.StepRunsFrontOfQueue : Prop :=
  (∀ (c : Instr) (rest : List Instr) (s : State), s.pending = c :: rest → step s = exec c { s with pending := rest }) ∧
    ∀ s : State, s.pending = [] → step s = .next s

/-- Every well-formed command answers a next state in every state; any other stop is `noSuchItem`. -/
def Obligations.OperandsDecideStops : Prop :=
  ∀ (i : Instr) (s : State),
    (WellFormed i = true → ∃ t, exec i s = .next t) ∧
      ((∃ t, exec i s = .next t) ∨ ∃ what, exec i s = .fault (.noSuchItem what))

/-- The reset state meets the invariant (R124, R443, R475). -/
def Obligations.ResetMeetsInvariant : Prop :=
  Inv State.reset ∧ State.reset.pending = [] ∧ State.reset.glb.beat = 0 ∧ State.reset.rules.active = 0 ∧
    State.reset.rules.b0.st = 3 ∧ State.reset.rules.b0.ver = 0 ∧ State.reset.rules.b1.st = 0 ∧ State.reset.power.level = 0 ∧
    State.reset.power.clk = 0 ∧ State.reset.trust.lc = 0

/-- Every step of every command keeps the invariant (R124, R443, R475). -/
def Obligations.StepKeepsInvariant : Prop := ∀ s t : State, Inv s → step s = .next t → Inv t

/-- No command, not even a reset, changes the queue. -/
def Obligations.ExecLeavesQueue : Prop := ∀ (i : Instr) (s t : State), exec i s = .next t → t.pending = s.pending

/-- No transition of the life cycle goes back (R443), whatever the command. -/
def Obligations.LifeCycleNeverGoesBack : Prop :=
  ∀ (i : Instr) (s t : State), exec i s = .next t → s.trust.lc ≤ t.trust.lc

/-- The beat counter (R36). -/
def Obligations.BeatCounterCountsBoundaries : Prop :=
  (∀ (inp : BeatInput) (s : State), beatRuns s = true →
    ∃ t, exec (.beatBoundary inp) s = .next t ∧ t.glb.beat = (s.glb.beat + 1) % 2 ^ 64) ∧
  (∀ (inp : BeatInput) (s : State), beatRuns s = false →
    ∃ t, exec (.beatBoundary inp) s = .next t ∧ t.glb.beat = s.glb.beat) ∧
  (∀ s : State, s.boot.coreDue = true → timeCome s s.boot.dueAt = true →
    (s.mbx.cmds.any fun c => c.reply.isSome && (c.op == 0x0112 || c.op == 0x0204)) = false →
    ∃ t, exec .coreResetStart s = .next t ∧ t.glb.beat = 0 ∧ t.boot.stage = 2) ∧
  (∀ (i : Instr) (s t : State), (∀ inp, i ≠ .beatBoundary inp) → exec i s = .next t →
    t.glb.beat = s.glb.beat ∨
      (t.glb.beat = 0 ∧ mayReset i))

/-- Which bank is ACTIVE changes at P5 of a boundary, and only where a switch is posted (R127, R128). -/
def Obligations.RuleBankSwitchesAtBoundary : Prop :=
  (∀ (inp : BeatInput) (s : State), beatRuns s = true → ∃ t, exec (.beatBoundary inp) s = .next t ∧
    t.rules.active = if s.rules.sw = 0 then s.rules.active else if s.rules.active = 0 then 1 else 0) ∧
  (∀ (i : Instr) (s t : State), (∀ inp, i ≠ .beatBoundary inp) → exec i s = .next t →
    t.rules.active = s.rules.active ∨
      (t.rules.active = 0 ∧ mayReset i))

/-- The Dimmer moves by one level a boundary, the clock state by one step a boundary (R35, R475). -/
def Obligations.DimmerMovesByOneStep : Prop :=
  (∀ (inp : BeatInput) (s : State), beatRuns s = true → ∃ t, exec (.beatBoundary inp) s = .next t ∧
    t.power.level ≤ s.power.level + 1 ∧ s.power.level ≤ t.power.level + 1 ∧
    t.power.clk ≤ s.power.clk + 1 ∧ s.power.clk ≤ t.power.clk + 1) ∧
  (∀ (i : Instr) (s t : State), (∀ inp, i ≠ .beatBoundary inp) → exec i s = .next t →
    (t.power.level = s.power.level ∧ t.power.clk = s.power.clk) ∨
      (t.power.level = 0 ∧ t.power.clk = 0 ∧ mayReset i))

/-- Acceptance of each mailbox command (R406). -/
def Obligations.MailboxCommandTaken : Prop :=
  ∀ (r : CommandRow), isCommand r → ∀ (m : Nat) (h : HostAnswer) (s t : State) (c : Cmd) (reply : Option (Nat × Bytes)),
    ready r.2.1 r.2.2 m s c = true → r.2.2.run c (payload s m) h s = .accept t reply →
    accepts (r.1 m h) c s t reply ∧ accepts (.commandAccept m h) c s t reply ∧
      (afterAccept c t reply).box c.m = { t.box c.m with accept := t.beat % 2 ^ 32 }

/-- Refusal of a mailbox command (R406, R410). -/
def Obligations.MailboxCommandRefused : Prop :=
  (∀ (r : CommandRow), isCommand r → ∀ (m : Nat) (h : HostAnswer) (s : State) (c : Cmd) (status detail : Nat),
    ready r.2.1 r.2.2 m s c = true → r.2.2.run c (payload s m) h s = .refuse status detail →
    exec (r.1 m h) s = .next (answer c.order status detail [] (refusalViolation m status detail s)) ∧
    exec (.commandAccept m h) s = .next (answer c.order status detail [] (refusalViolation m status detail s))) ∧
  (∀ (r : CommandRow), isCommand r → ∀ (m : Nat) (h : HostAnswer) (s : State) (c : Cmd) (status : Nat) (reply : Bytes),
    ready r.2.1 r.2.2 m s c = true → r.2.2.run c (payload s m) h s = .refuseWith status reply →
    exec (r.1 m h) s = .next (answer c.order status 0 reply s) ∧
    exec (.commandAccept m h) s = .next (answer c.order status 0 reply s)) ∧
  (∀ (r : CommandRow), isCommand r → ∀ (m : Nat) (h : HostAnswer) (s : State), m < 16 → waitingIn s m = none →
    exec (r.1 m h) s = .next s ∧ exec (.commandAccept m h) s = .next s) ∧
  (∀ (m : Nat) (h : HostAnswer) (s : State) (c : Cmd), m < 16 → waitingIn s m = some c → specOf c.op = none →
    serving s = true → eligible s c = true → headerFault s m none = 0 →
    exec (.commandAccept m h) s = .next (answer c.order 2 0 [] (protocol m 5 0 s)))

/-- SYS commands (R419, R421, R493 to R495, R504). -/
def Obligations.SystemCommands : Prop :=
  (∀ (m : Nat) (h : HostAnswer) (s : State) (c : Cmd) (p : Bytes), ready 0x0101 sysEventRingSpec m s c = true → p = payload s m →
    rd p 0 8 % 4096 = 0 →
    (rd p 8 4 = 0 ∨ powerOfTwo 64 65536 (rd p 8 4) = true) →
    accepts (.sysEventRing m h) c s (s.modEvt fun v => { v with addr := rd p 0 8, size := rd p 8 4, head := 0, tail := 0, part := 0 })
      (some (0, le 8 s.beat ++ le 4 s.evt.held.length))) ∧
  (∀ (m : Nat) (h : HostAnswer) (s : State) (c : Cmd) (p : Bytes), ready 0x0102 sysEventMaskSpec m s c = true → p = payload s m →
    accepts (.sysEventMask m h) c s (s.modEvt fun v => { v with mask := rd p 0 4 })
      (some (0, []))) ∧
  (∀ (m : Nat) (h : HostAnswer) (s : State) (c : Cmd) (p : Bytes), ready 0x0110 sysInfoSpec m s c = true → p = payload s m →
    accepts (.sysInfo m h) c s s
      (some (0, le 4 (0x0768 * 65536 + Config.partRev % 65536) ++ serialBytes ++ le 4 (rd s.fw.run 12 4) ++
        le 1 s.boot.straps ++ le 1 s.boot.cause ++ le 1 (b2n (!s.boot.boardValid))))) ∧
  (∀ (m : Nat) (h : HostAnswer) (s : State) (c : Cmd) (p : Bytes), ready 0x0111 sysStatusSpec m s c = true → p = payload s m →
    accepts (.sysStatus m h) c s s
      (some (0, le 1 s.boot.stage ++ le 4 (glbState s) ++ le 8 s.beat ++ le 4 s.boot.restarts ++ le 1 (s.slice 32).st ++
        le 1 (s.slice 32).peer ++ le 5 (maskOf ((List.range 33).filter fun i => (s.slice i).st != 0)) ++ le 1 (b2n s.boot.stopped)))) ∧
  (∀ (m : Nat) (h : HostAnswer) (s : State) (c : Cmd) (p : Bytes), ready 0x0112 sysResetSpec m s c = true → p = payload s m →
    rd p 0 1 = 1 →
    accepts (.sysReset m h) c s (s.modBoot fun b => { b with ittasDue := true, dueAt := s.beat + 10000, auto := false, haltCause := 0xFF })
      (some (0, []))) ∧
  (∀ (m : Nat) (h : HostAnswer) (s : State) (c : Cmd) (p : Bytes), ready 0x0112 sysResetSpec m s c = true → p = payload s m →
    rd p 0 1 = 3 →
    rd p 4 4 = 0x434F5245 →
    s.boot.stopped = false →
    accepts (.sysReset m h) c s (s.modBoot fun b => { b with coreDue := true, dueAt := s.beat + 10000, coreCause := 4 })
      (some (0, []))) ∧
  (∀ (m : Nat) (h : HostAnswer) (s : State) (c : Cmd) (p : Bytes), ready 0x0113 sysBootLogSpec m s c = true → p = payload s m →
    bmeOf s 0 = true →
    accepts (.sysBootLog m h) c s (hostWrite 0 (rd p 0 8) (s.boot.log.flatMap bootEntryBytes) s)
      (some (0, le 4 s.boot.log.length)))

/-- FW commands (R434 to R440). -/
def Obligations.FirmwareCommands : Prop :=
  (∀ (m : Nat) (h : HostAnswer) (s : State) (c : Cmd) (p : Bytes), ready 0x0201 fwStatusSpec m s c = true → p = payload s m →
    accepts (.fwStatus m h) c s s
      (some (0, fwStatusBytes s))) ∧
  (∀ (m : Nat) (bs : Bytes) (s : State) (c : Cmd) (p : Bytes), ready 0x0202 fwStageSpec m s c = true → p = payload s m →
    s.fw.st = 0 ∨ s.fw.st = 1 ∨ s.fw.st = 4 →
    rd p 0 4 = nextChunk s →
    1 ≤ rd p 4 4 →
    rd p 4 4 ≤ 1048576 →
    rd p 0 4 + rd p 4 4 ≤ 3145728 →
    bit (rd p 16 1) 0 = false →
    bmeOf s 0 = true →
    accepts (.fwStage m (.data bs)) c s (s.modFw fun f => { f with st := 1, staged := (if s.fw.st = 1 then s.fw.staged else []) ++ part bs 0 (rd p 4 4), other := [], flashed := 0, checkDue := false })
      (some (0, []))) ∧
  (∀ (m : Nat) (bs : Bytes) (s : State) (c : Cmd) (p : Bytes), ready 0x0202 fwStageSpec m s c = true → p = payload s m →
    s.fw.st = 0 ∨ s.fw.st = 1 ∨ s.fw.st = 4 →
    rd p 0 4 = nextChunk s →
    1 ≤ rd p 4 4 →
    rd p 4 4 ≤ 1048576 →
    rd p 0 4 + rd p 4 4 ≤ 3145728 →
    bit (rd p 16 1) 0 = true →
    bmeOf s 0 = true →
    accepts (.fwStage m (.data bs)) c s (s.modFw fun f => { f with st := 2, staged := [], other := (if s.fw.st = 1 then s.fw.staged else []) ++ part bs 0 (rd p 4 4), flashed := 0, checkDue := false })
      (some (0, []))) ∧
  (∀ (m : Nat) (h : HostAnswer) (s : State) (c : Cmd) (p : Bytes), ready 0x0203 fwVerifySpec m s c = true → p = payload s m →
    s.fw.st = 2 →
    imageLen s.fw.other = s.fw.other.length →
    accepts (.fwVerify m h) c s (if imageFault s s.fw.other = 0 then s.modFw fun f => { f with st := 3 } else s.modFw fun f => { f with st := 0, other := [] })
      (if imageFault s s.fw.other = 0 then some (0, le 1 0 ++ le 1 (b2n (stateFormatOk s s.fw.other)))
       else some (0x0202, le 1 (imageFault s s.fw.other) ++ le 1 0))) ∧
  (∀ (m : Nat) (h : HostAnswer) (s : State) (c : Cmd) (p : Bytes), ready 0x0204 fwActivateSpec m s c = true → p = payload s m →
    s.fw.st = 4 →
    inRecovery s = false →
    s.trust.floor ≤ rd s.fw.other 6 1 →
    bit (rd p 0 1) 1 = true →
    accepts (.fwActivate m h) c s (writeDesc (otherSlot s) s)
      (some (0, activateBytes s 0))) ∧
  (∀ (m : Nat) (h : HostAnswer) (s : State) (c : Cmd) (p : Bytes), ready 0x0204 fwActivateSpec m s c = true → p = payload s m →
    s.fw.st = 4 →
    inRecovery s = false →
    s.trust.floor ≤ rd s.fw.other 6 1 →
    bit (rd p 0 1) 1 = false →
    stateFormatOk s s.fw.other = true →
    (rolling s && s.ledger.roll.handed) = false →
    accepts (.fwActivate m h) c s (startHandover c.order (bit (rd p 0 1) 0) s)
      (none)) ∧
  (∀ (m : Nat) (h : HostAnswer) (s : State) (c : Cmd) (p : Bytes), ready 0x0204 fwActivateSpec m s c = true → p = payload s m →
    s.fw.st = 4 →
    inRecovery s = false →
    s.trust.floor ≤ rd s.fw.other 6 1 →
    bit (rd p 0 1) 1 = false →
    stateFormatOk s s.fw.other = true →
    (rolling s && s.ledger.roll.handed) = true →
    accepts (.fwActivate m h) c s (s.modLedger fun l => { l with roll := { l.roll with waiting := l.roll.waiting ++ [2 * c.order + b2n (bit (rd p 0 1) 0)] } })
      (none)) ∧
  (∀ (m : Nat) (h : HostAnswer) (s : State) (c : Cmd) (p : Bytes), ready 0x0204 fwActivateSpec m s c = true → p = payload s m →
    s.fw.st = 3 ∨ s.fw.st = 4 →
    inRecovery s = true →
    s.trust.floor ≤ rd s.fw.other 6 1 →
    accepts (.fwActivate m h) c s ((writeDesc (otherSlot s) (s.modFw fun f => { f with slots := f.slots.set (otherSlot s) f.other, flashed := f.other.length })).modBoot fun b => { b with coreDue := true, dueAt := s.beat, coreCause := 5 })
      (some (0, activateBytes s 0))) ∧
  (∀ (m : Nat) (h : HostAnswer) (s : State) (c : Cmd) (p : Bytes), ready 0x0205 fwAbortSpec m s c = true → p = payload s m →
    s.fw.st = 1 ∨ s.fw.st = 2 →
    accepts (.fwAbort m h) c s (s.modFw fun f => { f with st := 0, other := [], staged := [], flashed := 0 })
      (some (0, []))) ∧
  (∀ (m : Nat) (h : HostAnswer) (s : State) (c : Cmd) (p : Bytes), ready 0x0205 fwAbortSpec m s c = true → p = payload s m →
    3 ≤ s.fw.st →
    accepts (.fwAbort m h) c s (s.modFw fun f => { f with st := 0, other := [], staged := [], flashed := 0, slots := f.slots.set (otherSlot s) (List.replicate 4096 0xFF ++ (s.fw.slots.getD (otherSlot s) []).drop 4096) })
      (some (0, [])))

/-- TRUST commands (R426, R431, R443 to R446). -/
def Obligations.TrustCommands : Prop :=
  (∀ (m : Nat) (h : HostAnswer) (s : State) (c : Cmd) (p : Bytes), ready 0x0301 trustIdentitySpec m s c = true → p = payload s m →
    bit (rd p 0 1) 0 = false →
    accepts (.trustIdentity m h) c s s
      (some (0, ownRecord s ++ le 4 (ownCert s).length))) ∧
  (∀ (m : Nat) (h : HostAnswer) (s : State) (c : Cmd) (p : Bytes), ready 0x0301 trustIdentitySpec m s c = true → p = payload s m →
    bit (rd p 0 1) 0 = true →
    bmeOf s 0 = true →
    accepts (.trustIdentity m h) c s (hostWrite 0 (rd p 8 8) (ownCert s) s)
      (some (0, ownRecord s ++ le 4 (ownCert s).length))) ∧
  (∀ (m : Nat) (h : HostAnswer) (s : State) (c : Cmd) (p : Bytes), ready 0x0302 trustProvisionSpec m s c = true → p = payload s m →
    s.trust.lc = 0 →
    rd p 0 1 = 1 →
    accepts (.trustProvision m h) c s ((takeFreeBytes 48 s).2.modTrust fun t => { t with heldSeeds := (takeFreeBytes 48 s).1 })
      (some (0, identityRecord ((takeFreeBytes 48 s).2.modTrust fun t => { t with heldSeeds := (takeFreeBytes 48 s).1 })
        (some (publicOf (takeFreeBytes 48 s).1))))) ∧
  (∀ (m : Nat) (bs : Bytes) (s : State) (c : Cmd) (p : Bytes), ready 0x0302 trustProvisionSpec m s c = true → p = payload s m →
    s.trust.lc = 0 →
    rd p 0 1 = 2 →
    rd p 4 4 = 7984 →
    s.trust.heldSeeds ≠ [] →
    bmeOf s 0 = true →
    exec (.trustProvision m (.data bs)) s = .next (if certFault (part bs 0 7984) (publicOf s.trust.heldSeeds) = 0 then
      afterAccept c (lcStep 1 (s.modTrust fun t => { t with
        seeds := t.heldSeeds, heldSeeds := [], cert := part bs 0 7984, certDue := true, session := false })) (some (0, le 1 0))
      else answer c.order 0x0302 0 (le 1 (certFault (part bs 0 7984) (publicOf s.trust.heldSeeds))) s)) ∧
  (∀ (m : Nat) (h : HostAnswer) (s : State) (c : Cmd) (p : Bytes), ready 0x0303 trustAttestSpec m s c = true → p = payload s m →
    s.trust.lc ≠ 0 →
    bmeOf s 0 = true →
    accepts (.trustAttest m h) c s (posted c p [] s)
      (none)) ∧
  (∀ (m : Nat) (h : HostAnswer) (s : State) (c : Cmd) (p : Bytes), ready 0x0304 trustLcStatusSpec m s c = true → p = payload s m →
    accepts (.trustLcStatus m h) c s s
      (some (0, le 1 s.trust.lc ++ le 1 (b2n s.trust.session) ++ le 1 (b2n (returnNow s).isSome) ++ zeros 1 ++
        le 4 (returnLeft s)))) ∧
  (∀ (m : Nat) (h : HostAnswer) (s : State) (c : Cmd) (p : Bytes), ready 0x0305 trustLcAdvanceSpec m s c = true → p = payload s m →
    s.trust.lc = 1 →
    rd p 0 1 = 2 →
    exec (.trustLcAdvance m h) s = .next (if part p 8 8 = deviceKeyId s then
      afterAccept c (lcStep 2 (s.modTrust fun t => { t with tokenOpen := false, session := false })) (some (0, []))
      else answer c.order stTrustConfirm 0 [] (refusalViolation m stTrustConfirm 0 s))) ∧
  (∀ (m : Nat) (bs : Bytes) (s : State) (c : Cmd) (p : Bytes), ready 0x0306 trustReturnSpec m s c = true → p = payload s m →
    s.trust.lc = 2 →
    rd p 8 4 = 7984 →
    bmeOf s 0 = true →
    exec (.trustReturn m (.data bs)) s = .next (if tokenOk s 3 (part bs 0 7984) then
      afterAccept c (s.modTrust fun x => { x with ret := some (sha256 (part bs 0 7984), s.beat) }) (some (0, []))
      else answer c.order 0x0303 0 [] (refusalViolation m 0x0303 0 s))) ∧
  (∀ (m : Nat) (h : HostAnswer) (s : State) (c : Cmd) (p : Bytes), ready 0x0307 trustConsentSpec m s c = true → p = payload s m →
    (∃ b, returnNow s = some (part p 0 32, b)) →
    s.ledger.st = 0 →
    s.trust.lc = 2 →
    exec (.trustConsent m h) s = .next (if part p 32 8 = deviceKeyId s then
      afterAccept c (lcStep 3 ((s.modLedger fun l => { l with key := [], lastSeal := [] }).modTrust fun x => { x with ret := none })) (some (0, []))
      else answer c.order stTrustConfirm 0 [] (refusalViolation m stTrustConfirm 0 s)))

/-- PORT commands (R85 to R111): what waits for the boundary is stated in `PortSettings`. -/
def Obligations.PortCommands : Prop :=
  (∀ (m : Nat) (h : HostAnswer) (s : State) (c : Cmd) (p : Bytes), ready 0x0401 portCreateSpec m s c = true → p = payload s m →
    portArg p < 768 →
    rd p 2 1 = 1 ∨ rd p 2 1 = 2 ∨ rd p 2 1 = 4 ∨ rd p 2 1 = 8 →
    portArg p % rd p 2 1 = 0 →
    widthAllowed (rd p 2 1) (rd p 3 1) = true →
    fecAllowed (rd p 3 1) (rd p 4 1) = true →
    rd p 5 1 ≤ 2 →
    lanesTaken s (portArg p) (rd p 2 1) = false →
    accepts (.portCreate m h) c s (posted c p [] s)
      (none)) ∧
  (∀ (m : Nat) (h : HostAnswer) (s : State) (c : Cmd) (p : Bytes), ready 0x0402 portDeleteSpec m s c = true → p = payload s m →
    portArg p < 768 →
    portThere s (portArg p) = true →
    adminAhead s (portArg p) = false →
    accepts (.portDelete m h) c s (posted c p [] s)
      (none)) ∧
  (∀ (m : Nat) (h : HostAnswer) (s : State) (c : Cmd) (p : Bytes), ready 0x0403 portAdminSpec m s c = true → p = payload s m →
    portArg p < 768 →
    portThere s (portArg p) = true →
    rd p 2 1 ≤ 1 →
    accepts (.portAdmin m h) c s (posted c p [] s)
      (none)) ∧
  (∀ (m : Nat) (h : HostAnswer) (s : State) (c : Cmd) (p : Bytes), ready 0x0404 portConfigSpec m s c = true → p = payload s m →
    portArg p < 768 →
    portThere s (portArg p) = true →
    rd p 2 1 < 8 →
    1518 ≤ rd p 4 2 →
    rd p 4 2 ≤ 16384 →
    rd p 8 4 ≤ 1000000 →
    accepts (.portConfig m h) c s (posted c p [] s)
      (none)) ∧
  (∀ (m : Nat) (h : HostAnswer) (s : State) (c : Cmd) (p : Bytes), ready 0x0405 portStatusSpec m s c = true → p = payload s m →
    portArg p < 768 →
    portThere s (portArg p) = true →
    accepts (.portStatus m h) c s s
      (some (0, portStatusBytes s (portArg p)))) ∧
  (∀ (m : Nat) (h : HostAnswer) (s : State) (c : Cmd) (p : Bytes), ready 0x0406 portStatsSpec m s c = true → p = payload s m →
    portArg p < 768 →
    portThere s (portArg p) = true →
    accepts (.portStats m h) c s (posted c p [] s)
      (none)) ∧
  (∀ (m : Nat) (h : HostAnswer) (s : State) (c : Cmd) (p : Bytes), ready 0x0407 portPfcConfigSpec m s c = true → p = payload s m →
    portArg p < 768 →
    portThere s (portArg p) = true →
    bit (rd p 2 1) s.tm.expressTc = false →
    rd p 6 2 < rd p 4 2 →
    rd p 8 4 ≤ 1000000 →
    1 ≤ rd p 12 4 →
    rd p 12 4 ≤ 1000000 →
    accepts (.portPfcConfig m h) c s (posted c p [] s)
      (none)) ∧
  (∀ (m : Nat) (h : HostAnswer) (s : State) (c : Cmd) (p : Bytes), ready 0x0408 portPreemptConfigSpec m s c = true → p = payload s m →
    portArg p < 768 →
    portThere s (portArg p) = true →
    rd p 2 1 < 4 →
    bit (rd p 3 1) s.tm.expressTc = false →
    rd p 4 1 ≤ 3 →
    1 ≤ rd p 5 1 →
    rd p 5 1 ≤ 128 →
    accepts (.portPreemptConfig m h) c s (posted c p [] s)
      (none)) ∧
  (∀ (m : Nat) (h : HostAnswer) (s : State) (c : Cmd) (p : Bytes), ready 0x0409 portFlushSpec m s c = true → p = payload s m →
    portArg p < 768 →
    portThere s (portArg p) = true →
    (s.port (portArg p)).up = false →
    accepts (.portFlush m h) c s (posted c p [] s)
      (none))

/-- LANE commands (R57 to R84); measurements are free values (log entries 62 and 63). -/
def Obligations.LaneCommands : Prop :=
  (∀ (m : Nat) (h : HostAnswer) (s : State) (c : Cmd) (p : Bytes), ready 0x0501 laneConfigSpec m s c = true → p = payload s m →
    laneArg p < 768 →
    rd p 2 1 ≤ 5 →
    (∀ q, portOfLane s (laneArg p) = some q → widthAllowed (s.port q).width (rd p 2 1) = true) →
    fecAllowed (rd p 2 1) (rd p 3 1) = true →
    rd p 4 1 ≤ 2 →
    rd p 5 1 < 32 →
    500 ≤ rd p 6 2 →
    rd p 6 2 ≤ 12000 →
    1 ≤ rd p 8 2 →
    rd p 8 2 ≤ 10000 →
    rd p 10 2 ≤ 10000 →
    accepts (.laneConfig m h) c s (eachDo (groupOfLane s (laneArg p)) (applyLaneConfig p) s)
      (some (0, []))) ∧
  (∀ (m : Nat) (h : HostAnswer) (s : State) (c : Cmd) (p : Bytes), ready 0x0502 laneEnableSpec m s c = true → p = payload s m →
    laneArg p < 768 →
    (s.lane (laneArg p)).state = 0 →
    (s.lane (laneArg p)).mode ≠ 0 →
    ((groupOfLane s (laneArg p)).all fun l => (s.lane l).held.isEmpty) = true →
    accepts (.laneEnable m h) c s (eachDo (groupOfLane s (laneArg p)) enableLane s)
      (some (0, []))) ∧
  (∀ (m : Nat) (h : HostAnswer) (s : State) (c : Cmd) (p : Bytes), ready 0x0503 laneDisableSpec m s c = true → p = payload s m →
    laneArg p < 768 →
    accepts (.laneDisable m h) c s (eachDo (groupOfLane s (laneArg p)) (fun l => disableLane l 5) s)
      (some (0, []))) ∧
  (∀ (m : Nat) (h : HostAnswer) (s : State) (c : Cmd) (p : Bytes), ready 0x0504 laneStatusSpec m s c = true → p = payload s m →
    laneArg p < 768 →
    accepts (.laneStatus m h) c s ((takeFreeBytes 8 s).2)
      (some (0, le 1 (s.lane (laneArg p)).state ++ le 1 (s.lane (laneArg p)).mode ++ le 1 (s.lane (laneArg p)).fec ++
        le 1 (s.lane (laneArg p)).lastDown ++ le 1 (s.lane (laneArg p)).lastFault ++
        le 1 (quietBits (s.lane (quietLane s (laneArg p))).quiet) ++ le 1 (b2n (s.lane (laneArg p)).known.isSome) ++ zeros 1 ++
        le 8 (s.lane (laneArg p)).stateBeat ++ (takeFreeBytes 8 s).1))) ∧
  (∀ (m : Nat) (h : HostAnswer) (s : State) (c : Cmd) (p : Bytes), ready 0x0505 laneGetCoeffSpec m s c = true → p = payload s m →
    laneArg p < 768 →
    accepts (.laneGetCoeff m h) c s (readAdapts (laneArg p) s)
      (some (0, coeffBytes true ((readAdapts (laneArg p) s).lane (laneArg p)).set ++
        knownBytes ((readAdapts (laneArg p) s).lane (laneArg p))))) ∧
  (∀ (m : Nat) (h : HostAnswer) (s : State) (c : Cmd) (p : Bytes), ready 0x0506 laneSetCoeffSpec m s c = true → p = payload s m →
    laneArg p < 768 →
    badTap (s.lane (laneArg p)).mode (tapsOf (part p 2 16)) = none →
    tapsJoint (tapsOf (part p 2 16)) = true →
    rd p 7 1 ≤ 20 →
    (s.lane (laneArg p)).state = 0 ∨ (s.lane (laneArg p)).state = 7 →
    accepts (.laneSetCoeff m h) c s (loadSet (laneArg p) (part p 2 16) s)
      (some (0, []))) ∧
  (∀ (m : Nat) (h : HostAnswer) (s : State) (c : Cmd) (p : Bytes), ready 0x0507 laneRetrainSpec m s c = true → p = payload s m →
    laneArg p < 768 →
    (s.lane (laneArg p)).state = 6 →
    accepts (.laneRetrain m h) c s (eachDo (groupOfLane s (laneArg p)) retrainLane s)
      (some (0, []))) ∧
  (∀ (m : Nat) (h : HostAnswer) (s : State) (c : Cmd) (p : Bytes), ready 0x0508 laneLoopbackSpec m s c = true → p = payload s m →
    laneArg p < 768 →
    rd p 2 1 = 0 →
    accepts (.laneLoopback m h) c s (if (s.lane (laneArg p)).state = 9 then enterState (laneArg p) 0 (modLane (laneArg p) (fun x => { x with loopback := 0 }) s) else s)
      (some (0, []))) ∧
  (∀ (m : Nat) (h : HostAnswer) (s : State) (c : Cmd) (p : Bytes), ready 0x0508 laneLoopbackSpec m s c = true → p = payload s m →
    laneArg p < 768 →
    1 ≤ rd p 2 1 →
    rd p 2 1 ≤ 4 →
    (s.lane (laneArg p)).held = [] →
    (s.lane (laneArg p)).state = 0 ∨ (∃ q, portOfLane s (laneArg p) = some q ∧ (s.port q).admin = false) →
    accepts (.laneLoopback m h) c s (enterLoopback (laneArg p) (rd p 2 1) s)
      (some (0, []))) ∧
  (∀ (m : Nat) (h : HostAnswer) (s : State) (c : Cmd) (p : Bytes), ready 0x0509 lanePrbsSpec m s c = true → p = payload s m →
    laneArg p < 768 →
    prbsOk (s.lane (laneArg p)).mode (rd p 2 1) = true →
    rd p 3 1 < 4 →
    (s.lane (laneArg p)).state = 0 ∨ (s.lane (laneArg p)).state = 9 →
    accepts (.lanePrbs m h) c s (modLane (laneArg p) (setPrbs (rd p 2 1) (rd p 3 1)) s)
      (some (0, le 6 (s.lane (laneArg p)).prbsErr ++ le 8 (s.lane (laneArg p)).prbsBits))) ∧
  (∀ (m : Nat) (h : HostAnswer) (s : State) (c : Cmd) (p : Bytes), ready 0x050A laneEyeSpec m s c = true → p = payload s m →
    laneArg p < 768 →
    (s.lane (laneArg p)).state = 6 ∨ (s.lane (laneArg p)).state = 9 →
    accepts (.laneEye m h) c s ((takeFreeBytes (4 * eyesOf (s.lane (laneArg p))) s).2)
      (some (0, le 1 (eyesOf (s.lane (laneArg p))) ++ (takeFreeBytes (4 * eyesOf (s.lane (laneArg p))) s).1))) ∧
  (∀ (m : Nat) (h : HostAnswer) (s : State) (c : Cmd) (p : Bytes), ready 0x050B laneCountersSpec m s c = true → p = payload s m →
    laneArg p < 768 →
    accepts (.laneCounters m h) c s (if bit (rd p 2 1) 0 then modLane (laneArg p) (fun x => { x with counts := x.counts.map fun _ => 0 }) s else s)
      (some (0, (s.lane (laneArg p)).counts.flatMap (le 8)))) ∧
  (∀ (m : Nat) (h : HostAnswer) (s : State) (c : Cmd) (p : Bytes), ready 0x050C laneTrainLogSpec m s c = true → p = payload s m →
    laneArg p < 768 →
    accepts (.laneTrainLog m h) c s s
      (some (0, (((sessionNow s (laneArg p)) ++ (s.lane (laneArg p)).log).take 8).flatMap sessionBytes))) ∧
  (∀ (m : Nat) (h : HostAnswer) (s : State) (c : Cmd) (p : Bytes), ready 0x050D laneQuietTlvSpec m s c = true → p = payload s m →
    laneArg p < 768 →
    (portOfLane s (laneArg p)).isSome = true →
    accepts (.laneQuietTlv m h) c s s (some (0, quietTlv s (quietLane s (laneArg p))))) ∧
  (∀ (m : Nat) (h : HostAnswer) (s : State) (c : Cmd) (p : Bytes), ready 0x050E laneQuietPeerSpec m s c = true → p = payload s m →
    laneArg p < 768 →
    rd p 2 1 = 0 →
    accepts (.laneQuietPeer m h) c s (modQuiet (quietLane s (laneArg p)) (fun q => { q with peer := [], agreed := false }) s)
      (some (0, []))) ∧
  (∀ (m : Nat) (h : HostAnswer) (s : State) (c : Cmd) (p : Bytes), ready 0x050E laneQuietPeerSpec m s c = true → p = payload s m →
    laneArg p < 768 →
    rd p 2 1 = 12 →
    accepts (.laneQuietPeer m h) c s (peerTlv (quietLane s (laneArg p)) (part p 3 12) s)
      (some (0, []))) ∧
  (∀ (m : Nat) (h : HostAnswer) (s : State) (c : Cmd) (p : Bytes), ready 0x050F laneQuietConfigSpec m s c = true → p = payload s m →
    laneArg p < 768 →
    1 ≤ rd p 3 2 →
    accepts (.laneQuietConfig m h) c s (modQuiet (quietLane s (laneArg p)) (fun q => { q with permit := bit (rd p 2 1) 0, idle := rd p 3 2 }) s)
      (some (0, [])))

/-- RULE commands (R116, R124 to R128, R137, R143, R144). -/
def Obligations.RuleCommands : Prop :=
  (∀ (m : Nat) (h : HostAnswer) (s : State) (c : Cmd) (p : Bytes), ready 0x0601 ruleOpenSpec m s c = true → p = payload s m →
    s.rules.sw = 0 →
    bankNow s = 0 ∨ bankNow s = 5 →
    rd p 0 2 = nextVersion s →
    accepts (.ruleOpen m h) c s (posted c p [] (modBank (otherBank s) (fun b => { b with pst := 1 }) s))
      (none)) ∧
  (∀ (m : Nat) (bs : Bytes) (s : State) (c : Cmd) (p : Bytes), ready 0x0602 ruleLoadSpec m s c = true → p = payload s m →
    s.rules.sw = 0 →
    bankNow s = 1 →
    s.rules.placing = none →
    rd p 0 4 = s.rules.loadOff →
    1 ≤ rd p 4 4 →
    rd p 4 4 ≤ 4194304 →
    bit (rd p 16 1) 0 = false →
    bmeOf s 0 = true →
    accepts (.ruleLoad m (.data bs)) c s (s.modRules fun r => { r with loaded := r.loaded ++ part bs 0 (rd p 4 4), loadOff := r.loadOff + rd p 4 4 })
      (some (0, []))) ∧
  (∀ (m : Nat) (bs : Bytes) (s : State) (c : Cmd) (p : Bytes), ready 0x0602 ruleLoadSpec m s c = true → p = payload s m →
    s.rules.sw = 0 →
    bankNow s = 1 →
    s.rules.placing = none →
    rd p 0 4 = s.rules.loadOff →
    1 ≤ rd p 4 4 →
    rd p 4 4 ≤ 4194304 →
    bit (rd p 16 1) 0 = true →
    bmeOf s 0 = true →
    accepts (.ruleLoad m (.data bs)) c s (posted c p [] (s.modRules fun r => { r with loaded := r.loaded ++ part bs 0 (rd p 4 4), loadOff := r.loadOff + rd p 4 4, placing := some c.order, placeBeat := s.beat }))
      (none)) ∧
  (∀ (m : Nat) (h : HostAnswer) (s : State) (c : Cmd) (p : Bytes), ready 0x0603 ruleCommitSpec m s c = true → p = payload s m →
    s.rules.sw = 0 →
    bankNow s = 2 →
    accepts (.ruleCommit m h) c s (posted c p [] (s.modRules fun r => { r with sw := 1 }))
      (none)) ∧
  (∀ (m : Nat) (h : HostAnswer) (s : State) (c : Cmd) (p : Bytes), ready 0x0604 ruleAbortSpec m s c = true → p = payload s m →
    s.rules.sw = 0 →
    bankNow s = 1 ∨ bankNow s = 2 →
    accepts (.ruleAbort m h) c s (modBank (otherBank s) (fun b => { b with pst := 0 }) s)
      (some (0, []))) ∧
  (∀ (m : Nat) (h : HostAnswer) (s : State) (c : Cmd) (p : Bytes), ready 0x0605 ruleRevertSpec m s c = true → p = payload s m →
    s.rules.sw = 0 →
    bankNow s = 4 ∨ bankNow s = 5 →
    accepts (.ruleRevert m h) c s (posted c p [] (s.modRules fun r => { r with sw := 2 }))
      (none)) ∧
  (∀ (m : Nat) (h : HostAnswer) (s : State) (c : Cmd) (p : Bytes), ready 0x0606 ruleStatusSpec m s c = true → p = payload s m →
    accepts (.ruleStatus m h) c s s
      (some (0, ruleStatusBytes s))) ∧
  (∀ (m : Nat) (h : HostAnswer) (s : State) (c : Cmd) (p : Bytes), ready 0x0607 ruleHashProbeSpec m s c = true → p = payload s m →
    rd p 0 4 < 2 ^ 20 →
    14 ≤ rd p 4 2 →
    rd p 4 2 ≤ 512 →
    accepts (.ruleHashProbe m h) c s s
      (some (0, hashProbe s (rd p 0 4) (part p 6 (rd p 4 2))))) ∧
  (∀ (m : Nat) (h : HostAnswer) (s : State) (c : Cmd) (p : Bytes), ready 0x0608 ruleParseStatsSpec m s c = true → p = payload s m →
    rd p 0 2 < 802 →
    accepts (.ruleParseStats m h) c s (if bit (rd p 2 1) 0 then s.modFlight fun f => { f with exc := f.exc.filter fun e => e.1 / 8 != rd p 0 2, mirrorExcess := f.mirrorExcess.del (rd p 0 2) } else s)
      (some (0, ([1, 2, 3, 4, 5].flatMap fun k => le 8 (s.flight.exc.get 0 (8 * rd p 0 2 + k))) ++ le 8 (s.flight.mirrorExcess.get 0 (rd p 0 2)))))

/-- TABLE commands 0x0701 to 0x070A (R157, R171, R179). -/
def Obligations.TableCommands : Prop :=
  (∀ (m : Nat) (h : HostAnswer) (s : State) (c : Cmd) (p : Bytes), ready 0x0701 tableConfigSpec m s c = true → p = payload s m →
    1 ≤ rd p 10 1 →
    rd p 10 1 ≤ 15 →
    rd p 16 4 ≠ 0 →
    rd p 24 4 ≠ 0 →
    accepts (.tableConfig m h) c s (posted c p [] s)
      (none)) ∧
  (∀ (m : Nat) (h : HostAnswer) (s : State) (c : Cmd) (p : Bytes), ready 0x0702 tableInsertSpec m s c = true → p = payload s m →
    passes (tableHead p true ++ inPayload (recordChecks (rd p 0 1) (part p 4 32)) ++ [(rd p 0 1 != 5 || lagRules s (part p 4 32), 6)]) →
    accepts (.tableInsert m h) c s (posted c p [] s)
      (none)) ∧
  (∀ (m : Nat) (h : HostAnswer) (s : State) (c : Cmd) (p : Bytes), ready 0x0703 tableDeleteSpec m s c = true → p = payload s m →
    passes (tableHead p true ++ inPayload (keyChecks (rd p 0 1) (part p 4 32))) →
    accepts (.tableDelete m h) c s (posted c p [] s)
      (none)) ∧
  (∀ (m : Nat) (h : HostAnswer) (s : State) (c : Cmd) (p : Bytes) (r : Bytes), ready 0x0704 tableReadSpec m s c = true → p = payload s m →
    passes (tableHead p false ++ inPayload (keyChecks (rd p 0 1) (part p 4 32))) →
    recordOf s.tab (rd p 0 1) ((quadsOf (rd p 1 1)).headD 0) (part p 4 32) = some r →
    accepts (.tableRead m h) c s s
      (some (0, r))) ∧
  (∀ (m : Nat) (h : HostAnswer) (s : State) (c : Cmd) (p : Bytes), ready 0x0705 tableFlushSpec m s c = true → p = payload s m →
    rd p 0 1 ≠ 0 →
    rd p 0 1 < 16 →
    rd p 1 1 < 4 →
    (bit (rd p 1 1) 1 = true → destOk 0 (rd p 4 3) = true) →
    accepts (.tableFlush m h) c s (posted c p [] s)
      (none)) ∧
  (∀ (m : Nat) (h : HostAnswer) (s : State) (c : Cmd) (p : Bytes), ready 0x0706 tableLearnConfigSpec m s c = true → p = payload s m →
    learnKeyOk (rd p 0 2) = true →
    1 ≤ rd p 4 4 →
    rd p 4 4 ≤ 1048576 →
    accepts (.tableLearnConfig m h) c s (posted c p [] s)
      (none)) ∧
  (∀ (m : Nat) (h : HostAnswer) (s : State) (c : Cmd) (p : Bytes), ready 0x0707 tableLearnStatusSpec m s c = true → p = payload s m →
    learnKeyOk (rd p 0 2) = true →
    accepts (.tableLearnStatus m h) c s s
      (some (0, learnBytes s (rd p 0 2)))) ∧
  (∀ (m : Nat) (h : HostAnswer) (s : State) (c : Cmd) (p : Bytes), ready 0x0708 tableNotifyRingSpec m s c = true → p = payload s m →
    powerOfTwo 64 65536 (rd p 8 4) = true →
    rd p 13 2 ≠ 0 →
    accepts (.tableNotifyRing m h) c s (s.modTab fun t => { t with notify := { t.notify with
        set := true, addr := rd p 0 8, size := rd p 8 4, mask := rd p 12 1, max := rd p 13 2, seq := 0, drop := 0 } })
      (some (0, []))) ∧
  (∀ (m : Nat) (h : HostAnswer) (s : State) (c : Cmd) (p : Bytes), ready 0x0709 tableStatsSpec m s c = true → p = payload s m →
    rd p 0 1 < 4 →
    accepts (.tableStats m h) c s (posted c p [] s)
      (none)) ∧
  (∀ (m : Nat) (h : HostAnswer) (s : State) (c : Cmd) (p : Bytes), ready 0x070A tableNhStatusSpec m s c = true → p = payload s m →
    rd p 0 4 < 131072 →
    accepts (.tableNhStatus m h) c s s
      (some (0, nhStatusBytes (s.tab.nh.get {} (rd p 0 4)))))

/-- TABLE commands 0x0710 to 0x0723 (R183 to R208). -/
def Obligations.TernaryCommands : Prop :=
  (∀ (m : Nat) (h : HostAnswer) (s : State) (c : Cmd) (p : Bytes), ready 0x0710 ternGroupSpec m s c = true → p = payload s m →
    passes (groupChecks s p) →
    groupHeld s (rd p 0 1) = false →
    groupNamed s (rd p 0 1) = false →
    accepts (.tableTernGroup m h) c s (posted c p [] s)
      (none)) ∧
  (∀ (m : Nat) (bs : Bytes) (s : State) (c : Cmd) (p : Bytes), ready 0x0711 ternWriteSpec m s c = true → p = payload s m →
    rd p 0 1 ≠ 0 →
    rd p 0 1 < 16 →
    1 ≤ rd p 2 2 →
    rd p 2 2 ≤ 1024 →
    bmeOf s 0 = true →
    ((ternRecords (rd p 2 2) bs).all (ternRecordOk (groupsSoon s))) = true →
    ((quadsOf (rd p 0 1)).any fun q => (ternRecords (rd p 2 2) bs).any fun r => ternLocked s q (ternRecord r).2.2) = false →
    accepts (.tableTernWrite m (.data bs)) c s (posted c p bs s)
      (none)) ∧
  (∀ (m : Nat) (bs : Bytes) (s : State) (c : Cmd) (p : Bytes) (q : Nat), ready 0x0712 ternMoveSpec m s c = true → p = payload s m →
    quadsOf (rd p 0 1) = [q] →
    rd p 0 1 < 16 →
    1 ≤ rd p 2 2 →
    rd p 2 2 ≤ 1024 →
    bmeOf s 0 = true →
    movesOk s q (movePairs (rd p 2 2) bs) = true →
    ((movePairs (rd p 2 2) bs).any fun x => ternLocked s q x.1 || ternLocked s q x.2) = false →
    accepts (.tableTernMove m (.data bs)) c s (posted c p bs s)
      (none)) ∧
  (∀ (m : Nat) (h : HostAnswer) (s : State) (c : Cmd) (p : Bytes) (q : Nat), ready 0x0713 ternBlockMoveSpec m s c = true → p = payload s m →
    quadsOf (rd p 0 1) = [q] →
    rd p 0 1 < 16 →
    passes (blockChecks s q p) →
    (s.quad q).move = none →
    accepts (.tableTernBlockMove m h) c s (modQuad q (fun x => { x with move := some (blockMove s.beat p) }) s)
      (some (0, le 8 s.beat))) ∧
  (∀ (m : Nat) (h : HostAnswer) (s : State) (c : Cmd) (p : Bytes) (q : Nat), ready 0x0714 ternReadSpec m s c = true → p = payload s m →
    quadsOf (rd p 0 1) = [q] →
    rd p 0 1 < 16 →
    rd p 4 4 < 131072 →
    rd p 4 4 + rd p 8 4 ≤ 131072 →
    bmeOf s 0 = true →
    accepts (.tableTernRead m h) c s (ternDump q (rd p 4 4) (rd p 8 4) (rd p 16 8) s)
      (some (0, []))) ∧
  (∀ (m : Nat) (h : HostAnswer) (s : State) (c : Cmd) (p : Bytes) (q : Nat), ready 0x0715 ternStatusSpec m s c = true → p = payload s m →
    quadsOf (rd p 0 1) = [q] →
    rd p 0 1 < 16 →
    accepts (.tableTernStatus m h) c s s
      (some (0, ternStatusBytes s q))) ∧
  (∀ (m : Nat) (h : HostAnswer) (s : State) (c : Cmd) (p : Bytes) (q : Nat), ready 0x0716 ternStatsSpec m s c = true → p = payload s m →
    quadsOf (rd p 0 1) = [q] →
    rd p 0 1 < 16 →
    accepts (.tableTernStats m h) c s (posted c p [] s)
      (none)) ∧
  (∀ (m : Nat) (bs : Bytes) (s : State) (c : Cmd) (p : Bytes), ready 0x0720 autoLoadSpec m s c = true → p = payload s m →
    rd p 0 1 ≠ 0 →
    rd p 0 1 < 16 →
    rd p 1 1 < 2 →
    rd p 4 4 ≤ 8388608 →
    ((quadsOf (rd p 0 1)).any fun q => autoSelected s q (rd p 1 1) || ((s.quad q).autoSlot (rd p 1 1)).st == 2) = false →
    bmeOf s 0 = true →
    accepts (.tableAutoLoad m (.data bs)) c s (posted c p (part bs 0 (rd p 4 4)) (eachDo (quadsOf (rd p 0 1)) (fun q => setAuto q (rd p 1 1) fun _ => { st := 2 }) s))
      (none)) ∧
  (∀ (m : Nat) (h : HostAnswer) (s : State) (c : Cmd) (p : Bytes) (q : Nat), ready 0x0721 autoStatusSpec m s c = true → p = payload s m →
    quadsOf (rd p 0 1) = [q] →
    rd p 0 1 < 16 →
    accepts (.tableAutoStatus m h) c s s
      (some (0, autoBytes (s.quad q).auto0 ++ autoBytes (s.quad q).auto1))) ∧
  (∀ (m : Nat) (h : HostAnswer) (s : State) (c : Cmd) (p : Bytes) (q : Nat), ready 0x0722 autoStatsSpec m s c = true → p = payload s m →
    quadsOf (rd p 0 1) = [q] →
    rd p 0 1 < 16 →
    bit (rd p 1 1) 0 = false →
    bmeOf s 0 = true →
    accepts (.tableAutoStats m h) c s (hostWrite 0 (rd p 8 8) ((List.range 8192).flatMap fun i => le 8 ((s.quad q).patterns.get 0 i)) s)
      (some (0, (s.quad q).scans.flatMap (le 8)))) ∧
  (∀ (m : Nat) (h : HostAnswer) (s : State) (c : Cmd) (p : Bytes) (q : Nat), ready 0x0722 autoStatsSpec m s c = true → p = payload s m →
    quadsOf (rd p 0 1) = [q] →
    rd p 0 1 < 16 →
    bit (rd p 1 1) 0 = true →
    bmeOf s 0 = true →
    accepts (.tableAutoStats m h) c s (modQuad q (fun x => { x with patterns := [], scans := [0, 0, 0] })
        (hostWrite 0 (rd p 8 8) ((List.range 8192).flatMap fun i => le 8 ((s.quad q).patterns.get 0 i)) s))
      (some (0, (s.quad q).scans.flatMap (le 8)))) ∧
  (∀ (m : Nat) (bs : Bytes) (s : State) (c : Cmd) (p : Bytes), ready 0x0723 autoRepairSpec m s c = true → p = payload s m →
    rd p 0 1 ≠ 0 →
    rd p 0 1 < 16 →
    rd p 1 1 < 2 →
    rd p 4 4 ≤ 8388608 →
    bmeOf s 0 = true →
    accepts (.tableAutoRepair m (.data bs)) c s (posted c p (part bs 0 (rd p 4 4)) s)
      (none))

/-- TM commands (R240 to R263). -/
def Obligations.TmCommands : Prop :=
  (∀ (m : Nat) (h : HostAnswer) (s : State) (c : Cmd) (p : Bytes), ready 0x0801 tmConfigSpec m s c = true → p = payload s m →
    passes (tmConfigChecks s p) →
    accepts (.tmConfig m h) c s (posted c p [] s)
      (none)) ∧
  (∀ (m : Nat) (h : HostAnswer) (s : State) (c : Cmd) (p : Bytes), ready 0x0802 tmSchedSpec m s c = true → p = payload s m →
    passes (schedChecks s p) →
    accepts (.tmSched m h) c s (posted c p [] s)
      (none)) ∧
  (∀ (m : Nat) (h : HostAnswer) (s : State) (c : Cmd) (p : Bytes), ready 0x0803 tmShaperSpec m s c = true → p = payload s m →
    passes (shaperChecks s p) →
    accepts (.tmShaper m h) c s (posted c p [] s)
      (none)) ∧
  (∀ (m : Nat) (h : HostAnswer) (s : State) (c : Cmd) (p : Bytes), ready 0x0804 tmPolicerWriteSpec m s c = true → p = payload s m →
    passes (policerChecks p) →
    accepts (.tmPolicerWrite m h) c s (posted c p [] s)
      (none)) ∧
  (∀ (m : Nat) (h : HostAnswer) (s : State) (c : Cmd) (p : Bytes) (q : Nat), ready 0x0805 tmPolicerReadSpec m s c = true → p = payload s m →
    quadsOf (rd p 0 1) = [q] →
    rd p 0 1 < 16 →
    accepts (.tmPolicerRead m h) c s (posted c p [] s)
      (none)) ∧
  (∀ (m : Nat) (h : HostAnswer) (s : State) (c : Cmd) (p : Bytes), ready 0x0806 tmGateListSpec m s c = true → p = payload s m →
    bit (rd p 2 1) 0 = false →
    s.ports.has (rd p 0 2) = true →
    accepts (.tmGateList m h) c s (post 0 0x0806 p [] s)
      (some (0, le 8 s.beat))) ∧
  (∀ (m : Nat) (bs : Bytes) (s : State) (c : Cmd) (p : Bytes), ready 0x0806 tmGateListSpec m s c = true → p = payload s m →
    bit (rd p 2 1) 0 = true →
    passes (gateChecks s p) →
    bmeOf s 0 = true →
    gatesOk (gateEntries (rd p 4 2) bs) = true →
    accepts (.tmGateList m (.data bs)) c s (pendGates p (gateEntries (rd p 4 2) bs) s)
      (some (0, le 8 s.beat))) ∧
  (∀ (m : Nat) (h : HostAnswer) (s : State) (c : Cmd) (p : Bytes), ready 0x0807 tmGateStatusSpec m s c = true → p = payload s m →
    s.ports.has (rd p 0 2) = true →
    accepts (.tmGateStatus m h) c s (posted c p [] s)
      (none)) ∧
  (∀ (m : Nat) (h : HostAnswer) (s : State) (c : Cmd) (p : Bytes), ready 0x0808 tmMaxSduSpec m s c = true → p = payload s m →
    passes (maxSduChecks s p) →
    accepts (.tmMaxSdu m h) c s (posted c p [] s)
      (none)) ∧
  (∀ (m : Nat) (h : HostAnswer) (s : State) (c : Cmd) (p : Bytes), ready 0x0809 tmQueueStatsSpec m s c = true → p = payload s m →
    tmPortOk s (rd p 0 2) = true →
    rd p 2 1 ∈ portQueues (rd p 0 2) →
    accepts (.tmQueueStats m h) c s (posted c p [] s)
      (none)) ∧
  (∀ (m : Nat) (h : HostAnswer) (s : State) (c : Cmd) (p : Bytes), ready 0x080A tmSampleRingSpec m s c = true → p = payload s m →
    passes (sampleChecks s p) →
    accepts (.tmSampleRing m h) c s (posted c p [] s)
      (none))

/-- BUF commands (R211 to R236). -/
def Obligations.BufferCommands : Prop :=
  (∀ (m : Nat) (h : HostAnswer) (s : State) (c : Cmd) (p : Bytes), ready 0x0901 bufPoolConfigSpec m s c = true → p = payload s m →
    passes (poolChecks s p) →
    accepts (.bufPoolConfig m h) c s (posted c p [] s)
      (none)) ∧
  (∀ (m : Nat) (h : HostAnswer) (s : State) (c : Cmd) (p : Bytes), ready 0x0902 bufPoolMapSpec m s c = true → p = payload s m →
    passes ((List.range 16).map fun o => (decide (rd p o 1 < 16), o)) →
    accepts (.bufPoolMap m h) c s (posted c p [] s)
      (none)) ∧
  (∀ (m : Nat) (h : HostAnswer) (s : State) (c : Cmd) (p : Bytes), ready 0x0903 bufHeadroomSpec m s c = true → p = payload s m →
    s.ports.has (rd p 0 2) = true →
    rd p 4 4 ≤ 262144 →
    accepts (.bufHeadroom m h) c s (posted c p [] s)
      (none)) ∧
  (∀ (m : Nat) (h : HostAnswer) (s : State) (c : Cmd) (p : Bytes), ready 0x0904 bufStatusSpec m s c = true → p = payload s m →
    accepts (.bufStatus m h) c s (posted c p [] s)
      (none)) ∧
  (∀ (m : Nat) (h : HostAnswer) (s : State) (c : Cmd) (p : Bytes), ready 0x0905 bufStatsSpec m s c = true → p = payload s m →
    accepts (.bufStats m h) c s (posted c p [] s)
      (none)) ∧
  (∀ (m : Nat) (h : HostAnswer) (s : State) (c : Cmd) (p : Bytes), ready 0x0906 bufMcWriteSpec m s c = true → p = payload s m →
    rd p 4 2 = 0 →
    membersOk s (memberList 0 []) = true →
    storeAhead s (rd p 0 2) ≤ 524288 →
    bmeOf s 0 = true →
    accepts (.bufMcWrite m h) c s (posted c p [] s)
      (none)) ∧
  (∀ (m : Nat) (bs : Bytes) (s : State) (c : Cmd) (p : Bytes), ready 0x0906 bufMcWriteSpec m s c = true → p = payload s m →
    1 ≤ rd p 4 2 →
    rd p 4 2 ≤ 1023 →
    bmeOf s 0 = true →
    membersOk s (memberList (rd p 4 2) bs) = true →
    storeAhead s (rd p 0 2) + rd p 4 2 ≤ 524288 →
    accepts (.bufMcWrite m (.data bs)) c s (posted c p bs s)
      (none)) ∧
  (∀ (m : Nat) (h : HostAnswer) (s : State) (c : Cmd) (p : Bytes), ready 0x0907 bufMcReadSpec m s c = true → p = payload s m →
    bmeOf s 0 = true →
    accepts (.bufMcRead m h) c s (posted c p [] s)
      (none)) ∧
  (∀ (m : Nat) (h : HostAnswer) (s : State) (c : Cmd) (p : Bytes), ready 0x0908 bufFabricStatusSpec m s c = true → p = payload s m →
    accepts (.bufFabricStatus m h) c s (posted c p [] s)
      (none)) ∧
  (∀ (m : Nat) (h : HostAnswer) (s : State) (c : Cmd) (p : Bytes), ready 0x0909 bufPlaneAdminSpec m s c = true → p = payload s m →
    rd p 0 1 < 4 →
    rd p 1 1 = 0 →
    3 ≤ planesLeft s (rd p 0 1) →
    accepts (.bufPlaneAdmin m h) c s (posted c p [] s)
      (none)) ∧
  (∀ (m : Nat) (h : HostAnswer) (s : State) (c : Cmd) (p : Bytes), ready 0x0909 bufPlaneAdminSpec m s c = true → p = payload s m →
    rd p 0 1 < 4 →
    rd p 1 1 = 1 →
    (s.buf.planes.getD (rd p 0 1) {}).trained = true →
    accepts (.bufPlaneAdmin m h) c s (posted c p [] s)
      (none)) ∧
  (∀ (m : Nat) (h : HostAnswer) (s : State) (c : Cmd) (p : Bytes), ready 0x090A bufReseqStatsSpec m s c = true → p = payload s m →
    rd p 0 1 < 32 →
    accepts (.bufReseqStats m h) c s (posted c p [] s)
      (none)) ∧
  (∀ (m : Nat) (h : HostAnswer) (s : State) (c : Cmd) (p : Bytes), ready 0x090B bufAuditSpec m s c = true → p = payload s m →
    accepts (.bufAudit m h) c s (s.modBuf fun b => { b with audits := b.audits ++ [(c.order, s.beat)] })
      (none)) ∧
  (∀ (m : Nat) (h : HostAnswer) (s : State) (c : Cmd) (p : Bytes), ready 0x090C bufMirrorSpec m s c = true → p = payload s m →
    1 ≤ rd p 0 1 →
    rd p 0 1 ≤ 15 →
    bit (rd p 1 1) 1 = true →
    accepts (.bufMirror m h) c s (posted c p [] s)
      (none)) ∧
  (∀ (m : Nat) (h : HostAnswer) (s : State) (c : Cmd) (p : Bytes), ready 0x090C bufMirrorSpec m s c = true → p = payload s m →
    bit (rd p 1 1) 1 = false →
    passes (mirrorChecks s p) →
    rd p 8 1 = 0 →
    accepts (.bufMirror m h) c s (posted c p [] s)
      (none)) ∧
  (∀ (m : Nat) (bs : Bytes) (s : State) (c : Cmd) (p : Bytes), ready 0x090C bufMirrorSpec m s c = true → p = payload s m →
    bit (rd p 1 1) 1 = false →
    passes (mirrorChecks s p) →
    rd p 8 1 ≠ 0 →
    bmeOf s 0 = true →
    accepts (.bufMirror m (.data bs)) c s (posted c p (part bs 0 (rd p 8 1)) s)
      (none))

/-- LEDGER commands (R265, R288 to R296); keys, signatures and minutes that nothing names are free values (log entries 44 and 96). -/
def Obligations.LedgerCommands : Prop :=
  (∀ (m : Nat) (h : HostAnswer) (s : State) (c : Cmd) (p : Bytes), ready 0x0A01 ledgerConfigSpec m s c = true → p = payload s m →
    1 ≤ rd p 4 1 →
    rd p 5 1 ≤ 1 →
    s.ledger.st = 0 →
    rd p 0 4 = s.ledger.seed ∨ s.ledger.recs = [] →
    accepts (.ledgerConfig m h) c s (posted c p [] s)
      (none)) ∧
  (∀ (m : Nat) (h : HostAnswer) (s : State) (c : Cmd) (p : Bytes), ready 0x0A02 ledgerPolicySpec m s c = true → p = payload s m →
    rd p 1 1 ≤ 2 →
    rd p 2 1 ≤ 1 →
    accepts (.ledgerPolicy m h) c s (posted c p [] s)
      (none)) ∧
  (∀ (m : Nat) (h : HostAnswer) (s : State) (c : Cmd) (p : Bytes), ready 0x0A03 ledgerRingsSpec m s c = true → p = payload s m →
    64 ≤ rd p 12 4 →
    rd p 12 4 ≤ 1048576 →
    s.ledger.st = 0 →
    accepts (.ledgerRings m h) c s (posted c p [] s)
      (none)) ∧
  (∀ (m : Nat) (h : HostAnswer) (s : State) (c : Cmd) (p : Bytes), ready 0x0A04 ledgerKeyCreateSpec m s c = true → p = payload s m →
    s.ledger.st = 0 →
    s.trust.lc = 1 ∨ s.trust.lc = 2 →
    bmeOf s 0 = true →
    accepts (.ledgerKeyCreate m h) c s ((hostWrite 0 (rd p 0 8) (sealCertBody (takeFreeBytes 16 (takeFreeBytes 48 s).2).2 (publicOf (takeFreeBytes 48 s).1) ++
        slhSign (publicOf (takeFreeBytes 16 (takeFreeBytes 48 s).2).2.trust.seeds)
          (sealCertBody (takeFreeBytes 16 (takeFreeBytes 48 s).2).2 (publicOf (takeFreeBytes 48 s).1))
          (takeFreeBytes 16 (takeFreeBytes 48 s).2).1) (takeFreeBytes 16 (takeFreeBytes 48 s).2).2).modLedger fun l =>
        { l with key := publicOf (takeFreeBytes 48 s).1, lastSeal := [], seq := 0 })
      (some (0, publicOf (takeFreeBytes 48 s).1 ++ keyIdOf (publicOf (takeFreeBytes 48 s).1)))) ∧
  (∀ (m : Nat) (h : HostAnswer) (s : State) (c : Cmd) (p : Bytes), ready 0x0A05 ledgerStartSpec m s c = true → p = payload s m →
    s.ledger.st = 0 →
    s.ledger.key ≠ [] →
    s.ledger.ringsSet = true →
    ledgerFits s = true →
    anyUnitLost s = false →
    s.mem.layout.isSome = true →
    accepts (.ledgerStart m h) c s (posted c p [] s)
      (none)) ∧
  (∀ (m : Nat) (h : HostAnswer) (s : State) (c : Cmd) (p : Bytes), ready 0x0A06 ledgerStopSpec m s c = true → p = payload s m →
    s.ledger.st = 1 →
    accepts (.ledgerStop m h) c s (posted c p [] s)
      (none)) ∧
  (∀ (m : Nat) (h : HostAnswer) (s : State) (c : Cmd) (p : Bytes), ready 0x0A07 ledgerStatusSpec m s c = true → p = payload s m →
    accepts (.ledgerStatus m h) c s ((orFree (ledgerMinutes s) s).2)
      (some (0, ledgerStatusBytes s (orFree (ledgerMinutes s) s).1))) ∧
  (∀ (m : Nat) (h : HostAnswer) (s : State) (c : Cmd) (p : Bytes) (r : Bytes) (i : Nat) (t : State), ready 0x0A08 ledgerSealGetSpec m s c = true → p = payload s m →
    slotOf s (rd p 0 4) = some i →
    sealRead i (sealSources s) s = (some r, t) →
    bmeOf s 0 = true →
    accepts (.ledgerSealGet m h) c s (hostWrite 0 (rd p 8 8) r t)
      (some (0, []))) ∧
  (∀ (m : Nat) (h : HostAnswer) (s : State) (c : Cmd) (p : Bytes) (i : Nat) (t : State), ready 0x0A08 ledgerSealGetSpec m s c = true → p = payload s m →
    slotOf s (rd p 0 4) = some i →
    sealRead i (sealSources s) s = (none, t) →
    bmeOf s 0 = true →
    accepts (.ledgerSealGet m h) c s t
      (some (4, []))) ∧
  (∀ (m : Nat) (h : HostAnswer) (s : State) (c : Cmd) (p : Bytes) (r : Bytes), ready 0x0A09 ledgerTenantGetSpec m s c = true → p = payload s m →
    rd p 4 3 < 1048576 →
    tenantProof s (rd p 0 4) (rd p 4 3) = some r →
    bmeOf s 0 = true →
    accepts (.ledgerTenantGet m h) c s (hostWrite 0 (rd p 8 8) r s)
      (some (0, []))) ∧
  (∀ (m : Nat) (h : HostAnswer) (s : State) (c : Cmd) (p : Bytes) (r : Bytes), ready 0x0A0A ledgerFlowGetSpec m s c = true → p = payload s m →
    rd p 0 3 < 1048576 →
    flowStored s (rd p 0 3) (part p 4 40) = some r →
    accepts (.ledgerFlowGet m h) c s s
      (some (0, r))) ∧
  (∀ (m : Nat) (h : HostAnswer) (s : State) (c : Cmd) (p : Bytes), ready 0x0A0B ledgerStatsSpec m s c = true → p = payload s m →
    accepts (.ledgerStats m h) c s (if bit (rd p 0 1) 0 then s.modLedger fun l => { l with stats := List.replicate 9 0 } else s)
      (some (0, s.ledger.stats.flatMap (le 8))))

/-- MEM commands (R298 to R324); the rest of a rebuild is a free value. -/
def Obligations.MemoryCommands : Prop :=
  (∀ (m : Nat) (h : HostAnswer) (s : State) (c : Cmd) (p : Bytes), ready 0x0B01 memStatusSpec m s c = true → p = payload s m →
    rd p 0 1 < 4 →
    accepts (.memStatus m h) c s ((rebuildLeft s (rd p 0 1)).2)
      (some (0, memStatusBytes s (rd p 0 1) ++ le 8 (rebuildLeft s (rd p 0 1)).1))) ∧
  (∀ (m : Nat) (h : HostAnswer) (s : State) (c : Cmd) (p : Bytes), ready 0x0B02 memLayoutSpec m s c = true → p = payload s m →
    rd p 0 1 ≤ 1 →
    layoutOk (rd p 0 1 == 1) (rd p 1 1) = true →
    s.ledger.st = 0 →
    s.mem.regions = [] →
    ((bitsOf (rd p 1 1) 4).all fun i => [3, 6].contains (s.memPort i).st) = true →
    accepts (.memLayout m h) c s (takeLayout (rd p 0 1 == 1) (bitsOf (rd p 1 1) 4) s)
      (some (0, le 8 (lasSize (takeLayout (rd p 0 1 == 1) (bitsOf (rd p 1 1) 4) s))))) ∧
  (∀ (m : Nat) (h : HostAnswer) (s : State) (c : Cmd) (p : Bytes), ready 0x0B03 memRegionSpec m s c = true → p = payload s m →
    passes (regionChecks s p) →
    s.mem.layout.isSome = true →
    regionUsed s (rd p 0 1) = false →
    rd p 1 1 ≠ 1 →
    accepts (.memRegion m h) c s (setRegion p s)
      (some (0, le 8 s.beat))) ∧
  (∀ (m : Nat) (h : HostAnswer) (s : State) (c : Cmd) (p : Bytes), ready 0x0B03 memRegionSpec m s c = true → p = payload s m →
    passes (regionChecks s p) →
    s.mem.layout.isSome = true →
    regionUsed s (rd p 0 1) = false →
    rd p 1 1 = 1 →
    accepts (.memRegion m h) c s (posted c p [] (setRegion p s))
      (none)) ∧
  (∀ (m : Nat) (h : HostAnswer) (s : State) (c : Cmd) (p : Bytes), ready 0x0B04 memOnlineSpec m s c = true → p = payload s m →
    rd p 0 1 < 4 →
    (s.memPort (rd p 0 1)).st = 7 ∨ (s.memPort (rd p 0 1)).st = 8 ∨ (s.memPort (rd p 0 1)).st = 9 →
    accepts (.memOnline m h) c s (memState (rd p 0 1) 1 32 (modMemPort (rd p 0 1) (fun m => { m with perst := false, viral := false, poison := [] }) s))
      (some (0, []))) ∧
  (∀ (m : Nat) (h : HostAnswer) (s : State) (c : Cmd) (p : Bytes), ready 0x0B04 memOnlineSpec m s c = true → p = payload s m →
    rd p 0 1 < 4 →
    (s.memPort (rd p 0 1)).st = 3 →
    capMin s ≤ (s.memPort (rd p 0 1)).cap →
    2 ≤ memRole s (rd p 0 1) →
    memReads s (Nat.xor (rd p 0 1) 1) = true →
    accepts (.memOnline m h) c s (memState (rd p 0 1) 4 32 s)
      (some (0, []))) ∧
  (∀ (m : Nat) (h : HostAnswer) (s : State) (c : Cmd) (p : Bytes), ready 0x0B04 memOnlineSpec m s c = true → p = payload s m →
    rd p 0 1 < 4 →
    (s.memPort (rd p 0 1)).st = 3 →
    capMin s ≤ (s.memPort (rd p 0 1)).cap →
    memRole s (rd p 0 1) = 1 →
    accepts (.memOnline m h) c s (memState (rd p 0 1) 5 32 s)
      (some (0, []))) ∧
  (∀ (m : Nat) (h : HostAnswer) (s : State) (c : Cmd) (p : Bytes), ready 0x0B04 memOnlineSpec m s c = true → p = payload s m →
    rd p 0 1 < 4 →
    (s.memPort (rd p 0 1)).st = 3 →
    capMin s ≤ (s.memPort (rd p 0 1)).cap →
    2 ≤ memRole s (rd p 0 1) →
    memReads s (Nat.xor (rd p 0 1) 1) = false →
    accepts (.memOnline m h) c s (memState (rd p 0 1) 5 32 s)
      (some (0, []))) ∧
  (∀ (m : Nat) (h : HostAnswer) (s : State) (c : Cmd) (p : Bytes), ready 0x0B05 memOfflineSpec m s c = true → p = payload s m →
    rd p 0 1 < 4 →
    (s.memPort (rd p 0 1)).leaving = none →
    (s.memPort (rd p 0 1)).st = 6 →
    2 ≤ memRole s (rd p 0 1) →
    (s.memPort (Nat.xor (rd p 0 1) 1)).st = 6 →
    accepts (.memOffline m h) c s (modMemPort (rd p 0 1) (fun m => { m with leaving := some c.order }) s)
      (none)) ∧
  (∀ (m : Nat) (h : HostAnswer) (s : State) (c : Cmd) (p : Bytes), ready 0x0B05 memOfflineSpec m s c = true → p = payload s m →
    rd p 0 1 < 4 →
    (s.memPort (rd p 0 1)).leaving = none →
    (s.memPort (rd p 0 1)).st = 6 →
    memRole s (rd p 0 1) = 1 →
    s.ledger.st = 0 →
    (s.mem.regions.any fun r => regionUsed s r.1) = false →
    accepts (.memOffline m h) c s (modMemPort (rd p 0 1) (fun m => { m with leaving := some c.order }) s)
      (none)) ∧
  (∀ (m : Nat) (h : HostAnswer) (s : State) (c : Cmd) (p : Bytes), ready 0x0B05 memOfflineSpec m s c = true → p = payload s m →
    rd p 0 1 < 4 →
    (s.memPort (rd p 0 1)).leaving = none →
    (s.memPort (rd p 0 1)).st = 4 ∨ (s.memPort (rd p 0 1)).st = 5 →
    accepts (.memOffline m h) c s (memRebuildEnd (rd p 0 1) (modMemPort (rd p 0 1) (fun m => { m with leaving := some c.order }) s))
      (none)) ∧
  (∀ (m : Nat) (h : HostAnswer) (s : State) (c : Cmd) (p : Bytes), ready 0x0B06 memRebuildRateSpec m s c = true → p = payload s m →
    1 ≤ rd p 0 1 →
    rd p 0 1 ≤ 16 →
    accepts (.memRebuildRate m h) c s (s.modMem fun m => { m with rate := rd p 0 1 })
      (some (0, []))) ∧
  (∀ (m : Nat) (h : HostAnswer) (s : State) (c : Cmd) (p : Bytes), ready 0x0B07 memCaptureSpec m s c = true → p = payload s m →
    rd p 1 1 = 255 →
    1 ≤ rd p 0 1 →
    accepts (.memCapture m h) c s (s.modMem fun m => { m with captures := m.captures.del (rd p 0 1) })
      (some (0, []))) ∧
  (∀ (m : Nat) (h : HostAnswer) (s : State) (c : Cmd) (p : Bytes), ready 0x0B07 memCaptureSpec m s c = true → p = payload s m →
    rd p 1 1 ≠ 255 →
    passes (captureChecks s p) →
    accepts (.memCapture m h) c s (s.modMem fun m => { m with captures := m.captures.put (rd p 0 1) { region := rd p 1 1, snap := rd p 2 2, stop := rd p 4 1 == 1 } })
      (some (0, []))) ∧
  (∀ (m : Nat) (h : HostAnswer) (s : State) (c : Cmd) (p : Bytes) (k : Capture), ready 0x0B08 memCaptureAckSpec m s c = true → p = payload s m →
    s.mem.captures.find (rd p 0 1) = some k →
    k.rd ≤ rd p 8 8 →
    rd p 8 8 ≤ k.wr →
    accepts (.memCaptureAck m h) c s (s.modMem fun m => { m with captures := m.captures.upd {} (rd p 0 1) fun e => { e with rd := rd p 8 8 } })
      (some (0, le 8 k.wr))) ∧
  (∀ (m : Nat) (h : HostAnswer) (s : State) (c : Cmd) (p : Bytes), ready 0x0B09 memStatsSpec m s c = true → p = payload s m →
    rd p 0 1 = 255 →
    accepts (.memStats m h) c s (if bit (rd p 1 1) 0 then s.modMem fun m => { m with counts := [0, 0, 0, 0] } else s)
      (some (0, s.mem.counts.flatMap (le 8)))) ∧
  (∀ (m : Nat) (h : HostAnswer) (s : State) (c : Cmd) (p : Bytes), ready 0x0B09 memStatsSpec m s c = true → p = payload s m →
    rd p 0 1 < 4 →
    accepts (.memStats m h) c s (if bit (rd p 1 1) 0 then modMemPort (rd p 0 1) (fun m => { m with counts := [0, 0, 0, 0, 0, 0] }) s else s)
      (some (0, (s.memPort (rd p 0 1)).counts.flatMap (le 8))))

/-- LANTERN commands (R331 to R350). -/
def Obligations.LanternCommands : Prop :=
  (∀ (m : Nat) (h : HostAnswer) (s : State) (c : Cmd) (p : Bytes), ready 0x0C01 lanternStreamSpec m s c = true → p = payload s m →
    passes (streamChecks p) →
    rd p 1 1 ≠ 1 ∨ (s.mem.regions.get {} (rd p 3 1)).kind = 3 →
    accepts (.lanternStream m h) c s (posted c p [] s)
      (none)) ∧
  (∀ (m : Nat) (h : HostAnswer) (s : State) (c : Cmd) (p : Bytes), ready 0x0C02 lanternPortSpec m s c = true → p = payload s m →
    rd p 0 2 < 768 →
    rd p 2 1 ≤ 24 →
    accepts (.lanternPort m h) c s (posted c p [] s)
      (none)) ∧
  (∀ (m : Nat) (h : HostAnswer) (s : State) (c : Cmd) (p : Bytes), ready 0x0C03 lanternTriggerSpec m s c = true → p = payload s m →
    passes (triggerChecks p) →
    accepts (.lanternTrigger m h) c s (posted c p [] s)
      (none)) ∧
  (∀ (m : Nat) (h : HostAnswer) (s : State) (c : Cmd) (p : Bytes), ready 0x0C04 lanternTenantSpec m s c = true → p = payload s m →
    rd p 0 3 < 1048576 →
    1 ≤ rd p 4 4 →
    rd p 0 3 + rd p 4 4 ≤ 1048576 →
    rd p 8 1 ≤ 1 →
    accepts (.lanternTenant m h) c s (posted c p [] s)
      (none)) ∧
  (∀ (m : Nat) (bs : Bytes) (s : State) (c : Cmd) (p : Bytes), ready 0x0C05 lanternIpfixSpec m s c = true → p = payload s m →
    passes (ipfixChecks s p) →
    bmeOf s 0 = true →
    accepts (.lanternIpfix m (.data bs)) c s (posted c p (part bs 0 (rd p 3 1)) s)
      (none)) ∧
  (∀ (m : Nat) (h : HostAnswer) (s : State) (c : Cmd) (p : Bytes), ready 0x0C06 lanternAckSpec m s c = true → p = payload s m →
    rd p 0 1 < 16 →
    (s.stream (rd p 0 1)).rd ≤ rd p 8 8 →
    rd p 8 8 ≤ (s.stream (rd p 0 1)).wr →
    accepts (.lanternAck m h) c s (modStream (rd p 0 1) (fun x => { x with rd := rd p 8 8 }) s)
      (some (0, le 8 (s.stream (rd p 0 1)).wr))) ∧
  (∀ (m : Nat) (h : HostAnswer) (s : State) (c : Cmd) (p : Bytes), ready 0x0C07 lanternStatsSpec m s c = true → p = payload s m →
    accepts (.lanternStats m h) c s (posted c p [] s)
      (none)) ∧
  (∀ (m : Nat) (h : HostAnswer) (s : State) (c : Cmd) (p : Bytes), ready 0x0C08 lanternPmcDumpSpec m s c = true → p = payload s m →
    bmeOf s 0 = true →
    accepts (.lanternPmcDump m h) c s (posted c p [] s)
      (none))

/-- TIME commands (R352 to R367). -/
def Obligations.TimeCommands : Prop :=
  (∀ (m : Nat) (h : HostAnswer) (s : State) (c : Cmd) (p : Bytes), ready 0x0D01 timeStatusSpec m s c = true → p = payload s m →
    accepts (.timeStatus m h) c s s
      (some (0, le 1 s.time.st ++ zeros 1 ++ le 6 (ofInt 48 s.time.rate) ++ le 6 s.time.sec ++ zeros 2 ++ le 4 s.time.ns ++ zeros 4 ++
        le 8 (s.time.stepBeat - 1) ++ le 4 s.time.steps ++ le 1 s.time.s0.freq ++ le 1 s.time.s1.freq))) ∧
  (∀ (m : Nat) (h : HostAnswer) (s : State) (c : Cmd) (p : Bytes), ready 0x0D02 timeStepSpec m s c = true → p = payload s m →
    rd p 8 4 ≤ 999999999 →
    stepFits s.time (toInt 48 (rd p 0 6)) (rd p 8 4) = true →
    accepts (.timeStep m h) c s (posted c p [] s)
      (none)) ∧
  (∀ (m : Nat) (h : HostAnswer) (s : State) (c : Cmd) (p : Bytes), ready 0x0D03 timeRateSpec m s c = true → p = payload s m →
    accepts (.timeRate m h) c s (requestRate c.order c.op (toInt 48 (rd p 0 6)) s)
      (none)) ∧
  (∀ (m : Nat) (h : HostAnswer) (s : State) (c : Cmd) (p : Bytes), ready 0x0D04 timeStateSpec m s c = true → p = payload s m →
    rd p 0 1 ≤ 1 →
    accepts (.timeState m h) c s (posted c p [] s)
      (none)) ∧
  (∀ (m : Nat) (h : HostAnswer) (s : State) (c : Cmd) (p : Bytes), ready 0x0D05 timePortDelaySpec m s c = true → p = payload s m →
    rd p 0 2 < 768 →
    1 ≤ rd p 2 1 →
    rd p 2 1 ≤ 5 →
    psOk (rd p 4 4) = true →
    psOk (rd p 8 4) = true →
    accepts (.timePortDelay m h) c s (posted c p [] s)
      (none)) ∧
  (∀ (m : Nat) (h : HostAnswer) (s : State) (c : Cmd) (p : Bytes), ready 0x0D06 timePortPtpSpec m s c = true → p = payload s m →
    rd p 0 2 < 768 →
    rd p 2 1 < 4 →
    accepts (.timePortPtp m h) c s (posted c p [] s)
      (none)) ∧
  (∀ (m : Nat) (h : HostAnswer) (s : State) (c : Cmd) (p : Bytes), ready 0x0D07 timePpsSpec m s c = true → p = payload s m →
    rd p 0 1 < 8 →
    1 ≤ rd p 2 2 →
    rd p 2 2 ≤ 500 →
    -500000000 ≤ toInt 32 (rd p 4 4) →
    toInt 32 (rd p 4 4) ≤ 499999999 →
    accepts (.timePps m h) c s (posted c p [] s)
      (none)) ∧
  (∀ (m : Nat) (h : HostAnswer) (s : State) (c : Cmd) (p : Bytes), ready 0x0D08 timeSynceSpec m s c = true → p = payload s m →
    rd p 0 1 ≤ 1 →
    rd p 2 2 < 768 →
    rd p 4 1 ≤ 1 →
    accepts (.timeSynce m h) c s (posted c p [] s)
      (none)) ∧
  (∀ (m : Nat) (h : HostAnswer) (s : State) (c : Cmd) (p : Bytes), ready 0x0D09 timeTxtsReadSpec m s c = true → p = payload s m →
    bmeOf s 0 = true →
    accepts (.timeTxtsRead m h) c s ((hostWrite 0 (rd p 0 8) (s.time.txts.flatMap txtsBytes) s).modTime fun t => { t with txts := [] })
      (some (0, le 4 s.time.txts.length)))

/-- FAULT commands (R461 to R468). -/
def Obligations.FaultCommands : Prop :=
  (∀ (m : Nat) (h : HostAnswer) (s : State) (c : Cmd) (p : Bytes), ready 0x0E01 faultStatusSpec m s c = true → p = payload s m →
    rd p 0 2 < 448 ∨ rd p 0 2 = 65535 →
    accepts (.faultStatus m h) c s s
      (some (0, faultStatusBytes s (rd p 0 2)))) ∧
  (∀ (m : Nat) (h : HostAnswer) (s : State) (c : Cmd) (p : Bytes), ready 0x0E02 faultAckSpec m s c = true → p = payload s m →
    rd p 0 2 < 448 →
    accepts (.faultAck m h) c s (posted c p [] s)
      (none)) ∧
  (∀ (m : Nat) (h : HostAnswer) (s : State) (c : Cmd) (p : Bytes), ready 0x0E03 faultClearSpec m s c = true → p = payload s m →
    rd p 0 2 < 448 →
    accepts (.faultClear m h) c s (posted c p [] s)
      (none)) ∧
  (∀ (m : Nat) (h : HostAnswer) (s : State) (c : Cmd) (p : Bytes), ready 0x0E04 faultForceSpec m s c = true → p = payload s m →
    rd p 0 2 < 448 →
    rd p 2 1 ≤ 1 →
    rd p 3 1 ≤ 3 →
    accepts (.faultForce m h) c s (posted c p [] s)
      (none)) ∧
  (∀ (m : Nat) (h : HostAnswer) (s : State) (c : Cmd) (p : Bytes), ready 0x0E05 faultLogSpec m s c = true → p = payload s m →
    rd p 0 1 = 0 →
    bit (rd p 1 1) 0 = false →
    bmeOf s 0 = true →
    accepts (.faultLog m h) c s (hostWrite 0 (rd p 8 8) s.fault.log.flatten s)
      (some (0, le 4 s.fault.log.length ++ le 4 s.fault.logLost))) ∧
  (∀ (m : Nat) (h : HostAnswer) (s : State) (c : Cmd) (p : Bytes), ready 0x0E05 faultLogSpec m s c = true → p = payload s m →
    rd p 0 1 = 0 →
    bit (rd p 1 1) 0 = true →
    bmeOf s 0 = true →
    accepts (.faultLog m h) c s ((hostWrite 0 (rd p 8 8) s.fault.log.flatten s).modFault fun f => { f with log := [], logHead := 0 })
      (some (0, le 4 s.fault.log.length ++ le 4 s.fault.logLost))) ∧
  (∀ (m : Nat) (h : HostAnswer) (s : State) (c : Cmd) (p : Bytes), ready 0x0E05 faultLogSpec m s c = true → p = payload s m →
    rd p 0 1 = 1 →
    bit (rd p 1 1) 0 = false →
    bmeOf s 0 = true →
    accepts (.faultLog m h) c s (hostWrite 0 (rd p 8 8) s.fault.partner.flatten s)
      (some (0, le 4 s.fault.partner.length ++ le 4 s.fault.partnerLost))) ∧
  (∀ (m : Nat) (h : HostAnswer) (s : State) (c : Cmd) (p : Bytes), ready 0x0E05 faultLogSpec m s c = true → p = payload s m →
    rd p 0 1 = 1 →
    bit (rd p 1 1) 0 = true →
    bmeOf s 0 = true →
    accepts (.faultLog m h) c s ((hostWrite 0 (rd p 8 8) s.fault.partner.flatten s).modFault fun f => { f with partner := [], partnerLost := 0 })
      (some (0, le 4 s.fault.partner.length ++ le 4 s.fault.partnerLost))) ∧
  (∀ (m : Nat) (h : HostAnswer) (s : State) (c : Cmd) (p : Bytes), ready 0x0E06 faultConfigSpec m s c = true → p = payload s m →
    rd p 0 2 < 448 ∨ rd p 0 2 = 65535 →
    accepts (.faultConfig m h) c s (posted c p [] s)
      (none))

/-- POWER commands (R480 to R491). -/
def Obligations.PowerCommands : Prop :=
  (∀ (m : Nat) (h : HostAnswer) (s : State) (c : Cmd) (p : Bytes), ready 0x0F01 powerStatusSpec m s c = true → p = payload s m →
    accepts (.powerStatus m h) c s s
      (some (0, le 4 (pwrStatus s) ++ le 4 s.power.meas ++ le 4 s.power.est ++ le 4 s.power.steer ++ le 4 s.power.cap ++ le 4 (pwrTmax s) ++
        le 4 s.power.low ++ le 4 (pwrMismatch s) ++ le 1 s.power.ext))) ∧
  (∀ (m : Nat) (h : HostAnswer) (s : State) (c : Cmd) (p : Bytes), ready 0x0F02 powerCapSpec m s c = true → p = payload s m →
    300 ≤ rd p 0 2 →
    rd p 0 2 ≤ 1160 →
    accepts (.powerCap m h) c s (posted c p [] s)
      (none)) ∧
  (∀ (m : Nat) (h : HostAnswer) (s : State) (c : Cmd) (p : Bytes), ready 0x0F03 powerConfigSpec m s c = true → p = payload s m →
    passes (powerChecks p) →
    ((List.range 8).any (newAddress s p)) = false →
    accepts (.powerConfig m h) c s (posted c p [] s)
      (none)) ∧
  (∀ (m : Nat) (bs : Bytes) (s : State) (c : Cmd) (p : Bytes), ready 0x0F03 powerConfigSpec m s c = true → p = payload s m →
    passes (powerChecks p) →
    accepts (.powerConfig m (.data bs)) c s (posted c p [] s)
      (none)) ∧
  (∀ (m : Nat) (h : HostAnswer) (s : State) (c : Cmd) (p : Bytes), ready 0x0F04 powerReasonsSpec m s c = true → p = payload s m →
    accepts (.powerReasons m h) c s (posted c p [] s)
      (none)) ∧
  (∀ (m : Nat) (h : HostAnswer) (s : State) (c : Cmd) (p : Bytes), ready 0x0F05 powerSensorsSpec m s c = true → p = payload s m →
    accepts (.powerSensors m h) c s s
      (some (0, (List.range 64).flatMap (sensorBytes s))))

/-- DIAG commands (R413, R423). -/
def Obligations.DiagnosticCommands : Prop :=
  (∀ (m : Nat) (h : HostAnswer) (s : State) (c : Cmd) (p : Bytes), ready 0x1101 diagEchoSpec m s c = true → p = payload s m →
    accepts (.diagEcho m h) c s s
      (some (0, p.take 4064))) ∧
  (∀ (m : Nat) (h : HostAnswer) (s : State) (c : Cmd) (p : Bytes), ready 0x1102 diagDelaySpec m s c = true → p = payload s m →
    1 ≤ rd p 0 4 →
    rd p 0 4 ≤ 5000 →
    accepts (.diagDelay m h) c s (s.modMbx fun b => { b with
      cmds := b.cmds.map fun e => if e.order == c.order then { e with delay := rd p 0 4 } else e })
      (some (0, []))) ∧
  (∀ (m : Nat) (h : HostAnswer) (s : State) (c : Cmd) (p : Bytes), ready 0x1103 diagProtoLogSpec m s c = true → p = payload s m →
    bit (rd p 0 1) 0 = false →
    accepts (.diagProtoLog m h) c s s
      (some (0, le 4 s.mbx.logCount ++ s.mbx.log.flatMap protoBytes))) ∧
  (∀ (m : Nat) (h : HostAnswer) (s : State) (c : Cmd) (p : Bytes), ready 0x1103 diagProtoLogSpec m s c = true → p = payload s m →
    bit (rd p 0 1) 0 = true →
    accepts (.diagProtoLog m h) c s (s.modMbx fun b => { b with log := [], logCount := 0 })
      (some (0, le 4 s.mbx.logCount ++ s.mbx.log.flatMap protoBytes)))

/-- SLICE commands (R497 to R504). -/
def Obligations.SliceCommands : Prop :=
  (∀ (m : Nat) (h : HostAnswer) (s : State) (c : Cmd) (p : Bytes), ready 0x1001 sliceStatusSpec m s c = true → p = payload s m →
    accepts (.sliceStatus m h) c s s
      (some (0, (List.range 33).flatMap fun i => sliceBytes (s.slice i)))) ∧
  (∀ (m : Nat) (h : HostAnswer) (s : State) (c : Cmd) (p : Bytes), ready 0x1002 sliceTakeoverSpec m s c = true → p = payload s m →
    rd p 0 1 < 32 →
    (s.slice (rd p 0 1)).st = 0 ∨ (s.slice (rd p 0 1)).st = 3 →
    (s.slice (rd p 0 1)).homeDue = false →
    (s.slice 32).st = 0 →
    accepts (.sliceTakeover m h) c s (startMove (rd p 0 1) 2 (modSlice (rd p 0 1) (fun x => { x with planned := (s.slice (rd p 0 1)).st == 0, releasing := false, order := c.order, prev := (s.slice (rd p 0 1)).st, passed := x.passed && (s.slice (rd p 0 1)).st == 3, faulted := false }) s))
      (none)) ∧
  (∀ (m : Nat) (h : HostAnswer) (s : State) (c : Cmd) (p : Bytes), ready 0x1003 sliceReleaseSpec m s c = true → p = payload s m →
    rd p 0 1 < 32 →
    (s.slice (rd p 0 1)).st = 2 →
    (s.slice (rd p 0 1)).homeDue = false →
    mayRelease s (rd p 0 1) = true →
    accepts (.sliceRelease m h) c s (startMove (rd p 0 1) 2 (modSlice (rd p 0 1) (fun x => { x with releasing := true, order := c.order, faulted := false }) s))
      (none)) ∧
  (∀ (m : Nat) (h : HostAnswer) (s : State) (c : Cmd) (p : Bytes), ready 0x1003 sliceReleaseSpec m s c = true → p = payload s m →
    rd p 0 1 < 32 →
    (s.slice (rd p 0 1)).st = 3 →
    (s.slice (rd p 0 1)).homeDue = false →
    mayRelease s (rd p 0 1) = true →
    accepts (.sliceRelease m h) c s (posted c p [] s)
      (none)) ∧
  (∀ (m : Nat) (h : HostAnswer) (s : State) (c : Cmd) (p : Bytes), ready 0x1004 sliceSelfCheckSpec m s c = true → p = payload s m →
    rd p 0 1 < 33 →
    (s.slice (rd p 0 1)).st = 3 ∨ (rd p 0 1 = 32 ∧ (s.slice (rd p 0 1)).st = 0) ∨ (rd p 0 1 ≠ 32 ∧ (s.slice (rd p 0 1)).st = 2) →
    (s.slice (rd p 0 1)).homeDue = false →
    accepts (.sliceSelfCheck m h) c s (setSlice (rd p 0 1) 4 2 (modSlice (rd p 0 1) (fun x => { x with prev := (s.slice (rd p 0 1)).st }) s))
      (some (0, [])))

/-- Bring-up of a lane (R60 to R70): the states of Table 2.5 by code. The page of AN and the order of its lanes are the model's choice (log entries 207, 208). -/
def Obligations.LaneBringUp : Prop :=
  (∀ (lane : Nat) (s : State), lane < 768 →
    (s.lane lane).state = 1 →
    (s.lane lane).waiting = false →
    bit (s.lane lane).flags 0 = true →
    quietLane s lane = lane →
    exec (.laneEnergyDetect lane) s = .next (openSession lane (enterState lane 2 s))) ∧
  (∀ (lane : Nat) (s : State), lane < 768 →
    (s.lane lane).state = 1 →
    (s.lane lane).waiting = false →
    bit (s.lane lane).flags 0 = true →
    quietLane s lane ≠ lane →
    [3, 4, 5, 6].contains (s.lane (quietLane s lane)).state = true →
    exec (.laneEnergyDetect lane) s = .next (enterTrain lane s)) ∧
  (∀ (lane : Nat) (s : State), lane < 768 →
    (s.lane lane).state = 1 →
    (s.lane lane).waiting = false →
    bit (s.lane lane).flags 0 = true →
    quietLane s lane ≠ lane →
    [3, 4, 5, 6].contains (s.lane (quietLane s lane)).state = false →
    exec (.laneEnergyDetect lane) s = .next (modLane lane (fun x => { x with energy := true }) s)) ∧
  (∀ (lane : Nat) (s : State), lane < 768 →
    (s.lane lane).state = 1 →
    (s.lane lane).waiting = false →
    bit (s.lane lane).flags 0 = false →
    exec (.laneEnergyDetect lane) s = .next (enterTrain lane s)) ∧
  (∀ (lane : Nat) (s : State), lane < 768 →
    (s.lane lane).state = 7 ∨ (s.lane lane).state = 8 →
    exec (.laneEnergyDetect lane) s = .next (enterState lane 4 (modLane lane (fun y => { y with blind := (s.lane lane).state == 7 }) s))) ∧
  (∀ (lane mode : Nat) (page : AnPage) (s : State), lane < 768 →
    (s.lane lane).state = 2 →
    anMode (anAdvert s lane) page = some mode →
    exec (.anResolved lane page) s = .next (anResolve lane mode (anAdvert s lane) page (modLane lane (fun x => { x with page := some page }) s))) ∧
  (∀ (lane : Nat) (page : AnPage) (s : State), lane < 768 →
    (s.lane lane).state = 2 →
    anMode (anAdvert s lane) page = none →
    exec (.anResolved lane page) s = .next (bringUpFail lane 4 7 (modLane lane (fun x => { x with page := some page }) s))) ∧
  (∀ (lane tap : Nat) (t : TrainSession) (s : State), lane < 768 →
    (s.lane lane).state = 3 →
    (s.lane lane).session = some t →
    t.open_ = false →
    exec (.partnerTrainingRequest lane (.step tap true)) s = .next (answerTaps lane (tapAnswer (s.lane lane).mode (s.lane lane).set.taps ((s.lane lane).set.taps.set tap ((s.lane lane).set.taps.getD tap 0 + 1))
      (decide (5 ≤ tap) || (decide (tap < 2) && decide ((s.lane lane).mode ≤ 3)))) s)) ∧
  (∀ (lane tap : Nat) (t : TrainSession) (s : State), lane < 768 →
    (s.lane lane).state = 3 →
    (s.lane lane).session = some t →
    t.open_ = false →
    exec (.partnerTrainingRequest lane (.step tap false)) s = .next (answerTaps lane (tapAnswer (s.lane lane).mode (s.lane lane).set.taps ((s.lane lane).set.taps.set tap ((s.lane lane).set.taps.getD tap 0 + -1))
      (decide (5 ≤ tap) || (decide (tap < 2) && decide ((s.lane lane).mode ≤ 3)))) s)) ∧
  (∀ (lane : Nat) (taps : List Int) (t : TrainSession) (s : State), lane < 768 →
    (s.lane lane).state = 3 →
    (s.lane lane).session = some t →
    t.open_ = false →
    exec (.partnerTrainingRequest lane (.preset taps)) s = .next (answerTaps lane (tapAnswer (s.lane lane).mode (s.lane lane).set.taps taps
      (decide ((s.lane lane).mode ≤ 3) && (decide (taps.getD 0 0 ≠ 0) || decide (taps.getD 1 0 ≠ 0)))) s)) ∧
  (∀ (lane : Nat) (t : TrainSession) (s : State), lane < 768 →
    (s.lane lane).state = 3 →
    (s.lane lane).session = some t →
    t.open_ = false →
    exec (.partnerTrainingRequest lane .undefinedPreset) s = .next (countAnswer lane 3 s)) ∧
  (∀ (lane : Nat) (t : TrainSession) (s : State), lane < 768 →
    (s.lane lane).state = 3 →
    (s.lane lane).session = some t →
    exec (.partnerTrainingRequest lane .overlapping) s = .next (trainFault lane 1 (countAnswer lane 4 (modLane lane (fun x => { x with session := x.session.map fun t => { t with open_ := true, violation := 1 } }) s)))) ∧
  (∀ (lane : Nat) (t : TrainSession) (s : State), lane < 768 →
    (s.lane lane).state = 3 →
    (s.lane lane).session = some t →
    exec (.partnerTrainingRequest lane .hold) s = .next (modLane lane (fun x => { x with session := x.session.map fun t => { t with open_ := false } }) s)) ∧
  (∀ (lane : Nat) (t : TrainSession) (s : State), lane < 768 →
    (s.lane lane).state = 3 →
    (s.lane lane).session = some t →
    nth t.counts 5 < 1000 →
    exec (.partnerTrainingRequest lane .badFrame) s = .next (countAnswer lane 5 s)) ∧
  (∀ (lane : Nat) (t : TrainSession) (s : State), lane < 768 →
    (s.lane lane).state = 3 →
    (s.lane lane).session = some t →
    1000 ≤ nth t.counts 5 →
    exec (.partnerTrainingRequest lane .badFrame) s = .next (bringUpFail lane 2 5 s)) ∧
  (∀ (lane : Nat) (t : State) (s : State), lane < 768 →
    (s.lane lane).state = 3 →
    adaptLane lane (modLane lane (fun x => { x with ready := true, blind := false }) s) = t →
    ((groupOfLane t lane).all fun k =>
      ((t.lane k).state == 3 && (t.lane k).ready) || [4, 5, 6].contains (t.lane k).state) = true →
    exec (.trainReceiverReady lane) s = .next (eachDo ((groupOfLane t lane).filter fun k => (t.lane k).state == 3) (fun k => enterState k 4) t)) ∧
  (∀ (lane : Nat) (t : State) (s : State), lane < 768 →
    (s.lane lane).state = 3 →
    adaptLane lane (modLane lane (fun x => { x with ready := true, blind := false }) s) = t →
    ((groupOfLane t lane).all fun k =>
      ((t.lane k).state == 3 && (t.lane k).ready) || [4, 5, 6].contains (t.lane k).state) = false →
    exec (.trainReceiverReady lane) s = .next (t)) ∧
  (∀ (lane : Nat) (t : State) (s : State), lane < 768 →
    (s.lane lane).state = 4 →
    modLane lane (fun x => { x with locked := true }) (if (s.lane lane).blind then adaptLane lane s else s) = t →
    ((groupOfLane t lane).all fun k =>
      ((t.lane k).state == 4 && (t.lane k).locked) || (t.lane k).state == 5 || (t.lane k).state == 6) = true →
    exec (.laneLockAchieved lane) s = .next (eachDo ((groupOfLane t lane).filter fun k => (t.lane k).state == 4) (fun k => enterState k 5) t)) ∧
  (∀ (lane : Nat) (t : State) (s : State), lane < 768 →
    (s.lane lane).state = 4 →
    modLane lane (fun x => { x with locked := true }) (if (s.lane lane).blind then adaptLane lane s else s) = t →
    ((groupOfLane t lane).all fun k =>
      ((t.lane k).state == 4 && (t.lane k).locked) || (t.lane k).state == 5 || (t.lane k).state == 6) = false →
    exec (.laneLockAchieved lane) s = .next (t)) ∧
  (∀ (lane : Nat) (s : State), lane < 768 →
    (s.lane lane).state = 5 →
    ((groupOfLane s lane).all fun k => (s.lane k).state == 5 || (s.lane k).state == 6) = true →
    exec (.capexComplete lane .matched) s = .next (eachDo (capexLanes s lane) laneUp s)) ∧
  (∀ (lane : Nat) (s : State), lane < 768 →
    (s.lane lane).state = 5 →
    ((groupOfLane s lane).all fun k => (s.lane k).state == 5 || (s.lane k).state == 6) = false →
    exec (.capexComplete lane .matched) s = .next (s)) ∧
  (∀ (lane : Nat) (s : State), lane < 768 →
    (s.lane lane).state = 5 →
    exec (.capexComplete lane .modeMismatch) s = .next (eachDo (capexLanes s lane) (fun l => bringUpFail l 5 8) s)) ∧
  (∀ (lane : Nat) (s : State), lane < 768 →
    (s.lane lane).state = 5 →
    exec (.capexComplete lane .deskew) s = .next (eachDo (capexLanes s lane) (fun l => bringUpFail l 6 9) s)) ∧
  (∀ (lane : Nat) (s : State), lane < 768 →
    (s.lane lane).state = 3 →
    timeCome s ((s.lane lane).stateBeat + 1000 * (s.lane lane).trainLimit) = true →
    exec (.trainingLimitExpire lane) s = .next (bringUpFail lane 3 6 s)) ∧
  (∀ (lane : Nat) (s : State), lane < 768 →
    (s.lane lane).state = 4 →
    timeCome s ((s.lane lane).stateBeat + 50000) = true →
    (s.lane lane).method ≠ 1 →
    exec (.lockLimitExpire lane) s = .next (bringUpFail lane 7 10 s)) ∧
  (∀ (lane : Nat) (s : State), lane < 768 →
    (s.lane lane).state = 4 →
    timeCome s ((s.lane lane).stateBeat + 50000) = true →
    (s.lane lane).method = 1 →
    exec (.lockLimitExpire lane) s = .next (enterBlind lane (modLane lane (fun x => { x with lastFault := 7 }) (closeSession lane 2 7 (trainFault lane 7 (laneCount lane 4 1 (countAnswer lane 10 s))))))) ∧
  (∀ (lane : Nat) (deskew : Bool) (s : State), lane < 768 →
    (s.lane lane).state = 5 →
    timeCome s ((s.lane lane).stateBeat + 10000) = true →
    exec (.capabilityLimitExpire lane deskew) s = .next (eachDo (capexLanes s lane) (fun l => if deskew then bringUpFail l 6 9 else bringUpFail l 5 8) s)) ∧
  (∀ (lane : Nat) (s : State), lane < 768 →
    (s.lane lane).state = 7 →
    timeCome s ((s.lane lane).stateBeat + 1000 * (s.lane lane).blindLimit) = true →
    (s.lane lane).method = 1 →
    exec (.blindLimitExpire lane) s = .next (enterBlind lane s)) ∧
  (∀ (lane : Nat) (s : State), lane < 768 →
    (s.lane lane).state = 7 →
    timeCome s ((s.lane lane).stateBeat + 1000 * (s.lane lane).blindLimit) = true →
    (s.lane lane).method ≠ 1 →
    exec (.blindLimitExpire lane) s = .next (enterRxDetect lane s)) ∧
  (∀ (lane : Nat) (s : State), lane < 768 →
    (s.lane lane).state = 8 →
    timeCome s ((s.lane lane).stateBeat + 1000 * (s.lane lane).relinkWindow) = true →
    exec (.relinkWindowExpire lane) s = .next (if (s.lane lane).method = 1 then enterBlind lane s else enterRxDetect lane s)) ∧
  (∀ (lane : Nat) (s : State), lane < 768 →
    (s.lane lane).state = 4 →
    (s.lane lane).relink = true →
    timeCome s ((s.lane lane).stateBeat + 20000) = true →
    exec (.relinkLimitExpire lane) s = .next (if (s.lane lane).method = 1 then enterBlind lane s else enterRxDetect lane s)) ∧
  (∀ (lane : Nat) (s : State), lane < 768 →
    (s.lane lane).state = 1 →
    (s.lane lane).waiting = true →
    timeCome s ((s.lane lane).stateBeat + 1000 * (s.lane lane).backoff) = true →
    exec (.retryBackoffExpire lane) s = .next (enterRxDetect lane s))

/-- An ACTIVE lane, its known-good set and quiet (R68 to R78, R89). Loss of signal in AN counts no failed bring-up: the model's choice (log entry 212). -/
def Obligations.LaneActiveAndQuiet : Prop :=
  (∀ (lane : Nat) (t : State) (s : State), lane < 768 →
    modLane lane (fun x => { x with energy := false }) s = t →
    (t.lane lane).state = 2 →
    exec (.losDetect lane) s = .next (enterRxDetect lane (closeSession lane 2 0 t))) ∧
  (∀ (lane : Nat) (t : State) (s : State), lane < 768 →
    modLane lane (fun x => { x with energy := false }) s = t →
    (t.lane lane).state = 6 →
    relinks ((laneCount lane 3 1 t).lane lane) 1 = true →
    exec (.losDetect lane) s = .next (modLane lane (fun x => { x with relink := true, set := relinkSet x }) (leaveActive lane 1 8 (laneCount lane 5 1 (laneCount lane 3 1 t))))) ∧
  (∀ (lane : Nat) (t : State) (s : State), lane < 768 →
    modLane lane (fun x => { x with energy := false }) s = t →
    (t.lane lane).state = 6 →
    relinks ((laneCount lane 3 1 t).lane lane) 1 = false →
    exec (.losDetect lane) s = .next (modLane lane (fun x => { x with relink := false }) (leaveActive lane 1 1 (laneCount lane 3 1 t)))) ∧
  (∀ (lane : Nat) (s : State), lane < 768 →
    (s.lane lane).state = 6 →
    relinks (s.lane lane) 2 = true →
    exec (.cdrLockLoss lane) s = .next (modLane lane (fun x => { x with relink := true, set := relinkSet x }) (leaveActive lane 2 8 (laneCount lane 5 1 (s))))) ∧
  (∀ (lane : Nat) (s : State), lane < 768 →
    (s.lane lane).state = 6 →
    relinks (s.lane lane) 2 = false →
    exec (.cdrLockLoss lane) s = .next (modLane lane (fun x => { x with relink := false }) (leaveActive lane 2 1 (s)))) ∧
  (∀ (lane : Nat) (s : State), lane < 768 →
    (s.lane lane).state = 6 →
    relinks (s.lane lane) 3 = true →
    exec (.fecAlignLoss lane) s = .next (modLane lane (fun x => { x with relink := true, set := relinkSet x }) (leaveActive lane 3 8 (laneCount lane 5 1 (s))))) ∧
  (∀ (lane : Nat) (s : State), lane < 768 →
    (s.lane lane).state = 6 →
    relinks (s.lane lane) 3 = false →
    exec (.fecAlignLoss lane) s = .next (modLane lane (fun x => { x with relink := false }) (leaveActive lane 3 1 (s)))) ∧
  (∀ (lane : Nat) (s : State), lane < 768 →
    (s.lane lane).state = 6 →
    bit (s.lane lane).flags 4 = true →
    exec (.hiSer lane) s = .next (modLane lane (fun x => { x with relink := false }) (leaveActive lane 4 1 (s)))) ∧
  (∀ (lane : Nat) (s : State), lane < 768 →
    bit (s.lane lane).flags 4 = false →
    exec (.hiSer lane) s = .next (s)) ∧
  (∀ (lane : Nat) (s : State), lane < 768 →
    (s.lane lane).state = 7 ∨ (s.lane lane).state = 8 →
    exec (.partnerTrainingSeen lane) s = .next (enterTrain lane s)) ∧
  (∀ (lane : Nat) (s : State), lane < 768 →
    (s.lane lane).state = 6 →
    exec (.partnerTrainingSeen lane) s = .next (modLane lane (fun x => { x with relink := false }) (leaveActive lane 7 1 (s)))) ∧
  (∀ (port : Nat) (lf rf : Bool) (s : State), port < 768 →
    exec (.rsFaultReceive port lf rf) s = .next (modPort port (fun q => { q with lf := lf, rf := rf }) s)) ∧
  (∀ (lane : Nat) (dsp : Bytes) (s : State), lane < 768 →
    (s.lane lane).state = 6 →
    (s.lane lane).goodBeat + 1000000 ≤ s.beat →
    exec (.knownGoodStore lane dsp) s = .next (modLane lane (fun x => { x with set := { x.set with dsp := dsp }, known := some { x.set with dsp := dsp }, goodBeat := s.beat }) s)) ∧
  (∀ (port : Nat) (s : State), port < 768 →
    exec (.quietIdleThreshold port) s = .next (atBoundary evQuietIdle (le 2 port) s)) ∧
  (∀ (port : Nat) (s : State), quietMayEnter s port = true →
    quietEnter port s = eachDo (portLanes s port) (fun l => laneCount l 6 1) (modQuiet port (fun q => { q with tx := 1, asleep := s.beat, txBeat := s.beat }) s)) ∧
  (∀ (port : Nat) (s : State), port < 768 →
    (s.lane port).quiet.tx = 1 →
    portQueued s port = true →
    (s.lane port).quiet.asleep + 2 ≤ s.beat →
    exec (.quietWake port) s = .next (modQuiet port (fun q => { q with tx := 2, txBeat := s.beat }) s)) ∧
  (∀ (port : Nat) (s : State), port < 768 →
    (s.lane port).quiet.tx = 2 →
    (s.lane port).quiet.txBeat + wakeTime (s.lane port).quiet ≤ s.beat →
    exec (.quietWakeComplete port) s = .next (modQuiet port (fun q => { q with tx := 0, txBeat := s.beat }) s)) ∧
  (∀ (port : Nat) (s : State), port < 768 →
    (s.lane port).quiet.tx = 1 →
    (s.lane port).quiet.txBeat + 50 ≤ s.beat →
    exec (.quietRefresh port) s = .next (modQuiet port (fun q => { q with txBeat := s.beat }) s)) ∧
  (∀ (port : Nat) (s : State), port < 768 →
    rxFollows s port = true →
    exec (.partnerQuietSignal port .sleep) s = .next (modQuiet port (fun q => { q with rx := true, rxBeat := s.beat }) s)) ∧
  (∀ (port : Nat) (s : State), port < 768 →
    (s.lane port).quiet.rx = true →
    exec (.partnerQuietSignal port .refresh) s = .next (modQuiet port (fun q => { q with rxBeat := s.beat }) s)) ∧
  (∀ (port : Nat) (s : State), port < 768 →
    exec (.partnerQuietSignal port .wake) s = .next (modQuiet port (fun q => { q with rx := false, rxBeat := s.beat }) s)) ∧
  (∀ (port : Nat) (s : State), port < 768 →
    (s.lane port).quiet.rx = true →
    (s.lane port).quiet.rxBeat + 150 ≤ s.beat →
    exec (.quietRefreshMiss port) s = .next (eachDo (portLanes s port) (fun l => loseLink l 9) (modQuiet port (fun q => { q with rx := false }) s))) ∧
  (∀ (port : Nat) (lpi : Lpi) (s : State), port < 768 →
    eeeReady s port = true →
    exec (.eeeLpiReceive port lpi) s = .next (modQuiet port (fun q => { q with lpiRx := lpi }) s)) ∧
  (∀ (port : Nat) (lpi : Lpi) (s : State), port < 768 →
    eeeReady s port = true →
    expressPort s port = false →
    exec (.eeeLpiTransmit port lpi) s = .next (modQuiet port (fun q => { q with lpiTx := lpi }) s))

/-- The hardware clock (R15, R352 to R365). -/
def Obligations.HardwareClockEvents : Prop :=
  (∀ (value : Nat) (s : State), hostUp s = true →
    bit (Nat.lor value 2) 0 = false →
    bit (Nat.lor value 2) 2 = false →
    bit (Nat.lor value 2) 1 = true →
    exec (.hckLock value) s = .next (post 0 0x13C00 [1] [] (s.modTime fun t => { t with
      ppsOut := bit (Nat.lor value 2) 8, ppsIn := bit (Nat.lor value 2) 9, ppsFall := bit (Nat.lor value 2) 10, pulse := t.pulse && bit (Nat.lor value 2) 8 }))) ∧
  (∀ (value : Nat) (s : State), hostUp s = true →
    bit (Nat.lor value 4) 0 = false →
    bit (Nat.lor value 4) 2 = true →
    bit (Nat.lor value 4) 1 = false →
    exec (.hckRelease value) s = .next (post 0 0x13C00 [2] [] (s.modTime fun t => { t with
      ppsOut := bit (Nat.lor value 4) 8, ppsIn := bit (Nat.lor value 4) 9, ppsFall := bit (Nat.lor value 4) 10, pulse := t.pulse && bit (Nat.lor value 4) 8 }))) ∧
  (∀ (value : Nat) (s : State), hostUp s = true →
    bit (Nat.lor value 1) 0 = true →
    bit (Nat.lor value 1) 2 = false →
    bit (Nat.lor value 1) 1 = false →
    s.time.stepNs ≤ 999999999 →
    exec (.hckStep value) s = .next (post 0 0x13C00 ([0] ++ le 6 s.time.stepSec ++ le 4 s.time.stepNs) [] (s.modTime fun t => { t with
      ppsOut := bit (Nat.lor value 1) 8, ppsIn := bit (Nat.lor value 1) 9, ppsFall := bit (Nat.lor value 1) 10, pulse := t.pulse && bit (Nat.lor value 1) 8, stepDue := t.stepDue + 1 }))) ∧
  (∀ (value : Nat) (s : State), hostUp s = true →
    bit (Nat.lor value 1) 0 = true →
    bit (Nat.lor value 1) 2 = false →
    bit (Nat.lor value 1) 1 = false →
    999999999 < s.time.stepNs →
    exec (.hckStep value) s = .next (refuseStep (s.modTime fun t => { t with
      ppsOut := bit (Nat.lor value 1) 8, ppsIn := bit (Nat.lor value 1) 9, ppsFall := bit (Nat.lor value 1) 10, pulse := t.pulse && bit (Nat.lor value 1) 8 }))) ∧
  (∀ (value : Nat) (s : State), hostUp s = true →
    exec (.hckRateWrite value) s = .next (s.modTime fun t => { t with rateLo := value % 2 ^ 32, rateHeld := true })) ∧
  (∀ (value : Nat) (s : State), hostUp s = true →
    exec (.hckRateHiWrite value) s = .next (requestRate 0 0x13C64 (toInt 48 (value % 65536 * 2 ^ 32 + s.time.rateLo)) (s.modTime fun t => { t with rateHi := value % 65536, rateHeld := false }))) ∧
  (∀ (s : State), hostUp s = true →
    exec (.hckNsRead) s = .next ((readOut s.time.ns s).modTime fun t => { t with latSec := t.sec, latFrac := t.frac / 2 ^ 48, latBeat := s.beat % 2 ^ 32 })) ∧
  (∀ (e : Txts) (l : List Txts) (s : State), hostUp s = true →
    s.time.txts = e :: l →
    exec (.hckTxtsInfoRead) s = .next ((readOut (2 ^ 31 + (e.port % 1024) * 65536 + e.id % 65536) s).modTime fun t => { t with latTx := (e.ns, e.sec) })) ∧
  (∀ (s : State), hostUp s = true →
    s.time.txts = [] →
    exec (.hckTxtsInfoRead) s = .next (readOut 0 s)) ∧
  (∀ (s : State), hostUp s = true →
    exec (.hckTxtsPop) s = .next (s.modTime fun t => { t with txts := t.txts.drop 1 })) ∧
  (∀ (s : State), hostUp s = true →
    exec (.hckTxtsOvfCntRead) s = .next ((readOut s.time.ovfCnt s).modTime fun t => { t with ovfCnt := 0 })) ∧
  (∀ (falling : Bool) (ns : Nat) (s : State), ns < 1000 →
    s.boot.pwrgood = true →
    s.time.ppsIn = true →
    s.time.ppsFall = falling →
    s.time.inBase = 0 ∨ s.time.inBase - 1 + 10 ^ 6 * nsUnit ≤ baseAt s ns →
    exec (.ppsInEdge falling ns) s = .next (hckIrq 2 (raiseEvent 0x0D02 (le 6 (clockAt s ns).sec ++ zeros 2 ++ le 4 (clockAt s ns).ns)
      (markSet 0x3C04 9 (s.modTime fun t => { t with inNs := (clockAt s ns).ns, inSec := (clockAt s ns).sec, inBase := baseAt s ns + 1, ppsEvent := true }))))) ∧
  (∀ (s : State), s.boot.pwrgood = true →
    s.time.ppsOut = true →
    s.time.pulse = false →
    deviceSafe s = false →
    ppsDue s = true →
    exec (.ppsOutSecond) s = .next (s.modTime fun t => { t with pulse := true, roseAt := t.base / nsUnit + 1 })) ∧
  (∀ (s : State), s.time.pulse = true →
    s.time.roseAt - 1 + s.time.width * 10 ^ 6 ≤ baseAt s 1000 / nsUnit →
    exec (.ppsOutWidthEnd) s = .next (s.modTime fun t => { t with pulse := false }))

/-- The health port (R483, Table 17.5). -/
def Obligations.HealthPortReads : Prop :=
  (∀ (s : State), healthUp s = true →
    exec (.hpVersion) s = .next (s.modOut fun o => { o with health := le 1 1 })) ∧
  (∀ (s : State), healthUp s = false →
    exec (.hpVersion) s = .next (s.modOut fun o => { o with health := [] })) ∧
  (∀ (s : State), healthUp s = true →
    exec (.hpSummary) s = .next (s.modOut fun o => { o with health := le 2 s.power.snap.summary })) ∧
  (∀ (s : State), healthUp s = true →
    exec (.hpTmax) s = .next (s.modOut fun o => { o with health := readingBytes (s.power.snap.tmax.map (·.2)) })) ∧
  (∀ (i : Nat) (v : Int) (s : State), s.power.snap.tmax = some (i, v) →
    healthUp s = true →
    exec (.hpTmaxSensor) s = .next (s.modOut fun o => { o with health := le 1 i })) ∧
  (∀ (s : State), s.power.snap.tmax = none →
    healthUp s = true →
    exec (.hpTmaxSensor) s = .next (s.modOut fun o => { o with health := le 1 0 })) ∧
  (∀ (s : State), healthUp s = true →
    exec (.hpPower) s = .next (s.modOut fun o => { o with health := le 2 (min 65535 (s.power.snap.power / 1000)) })) ∧
  (∀ (s : State), healthUp s = true →
    exec (.hpMeas) s = .next (s.modOut fun o => { o with health := le 2 (min 65535 (s.power.snap.meas / 1000)) })) ∧
  (∀ (s : State), healthUp s = true →
    exec (.hpEst) s = .next (s.modOut fun o => { o with health := le 2 (min 65535 (s.power.snap.est / 1000)) })) ∧
  (∀ (s : State), healthUp s = true →
    exec (.hpFlow) s = .next (s.modOut fun o => { o with health := le 1 s.power.snap.flow })) ∧
  (∀ (s : State), healthUp s = true →
    exec (.hpFaults) s = .next (s.modOut fun o => { o with health := le 4 s.power.snap.flt ++ le 2 s.power.snap.fatal ++ zeros 2 })) ∧
  (∀ (sensor : Nat) (s : State), sensor < 64 →
    healthUp s = true →
    exec (.hpSensor sensor) s = .next (s.modOut fun o => { o with health := readingBytes (s.power.snap.sensors.getD sensor none) })) ∧
  (∀ (s : State), healthUp s = true →
    exec (.hpExtLevelRead) s = .next (s.modOut fun o => { o with health := le 1 s.power.ext })) ∧
  (∀ (s : State), (healthSnap s).power.snap =
    { summary := summaryWord s, tmax := tMax s, power := s.power.steer, meas := s.power.meas, est := s.power.est
      flow := b2n s.power.flow + 2 * b2n (causeAny s 439) + 4 * b2n (latched s 438)
      flt := fltStatus s, fatal := lowestFatal s, sensors := (List.range 64).map fun i => (sensorOf s i).val }) ∧
  (∀ (level : Nat) (s : State), healthUp s = true →
    level < 5 →
    exec (.hpExtLevelWrite level) s = .next (s.modPower fun p => { p with ext := level })) ∧
  (∀ (level : Nat) (s : State), 5 ≤ level →
    exec (.hpExtLevelWrite level) s = .next (s))

/-- Regulators, sensors, droop, coolant and gating (R34, R470 to R482, R485). An alert's two turns and the units' idle test are the model's choice (log entries 175, 177). -/
def Obligations.DimmerEvents : Prop :=
  (∀ (reg value : Nat) (cmd : PmbusCmd) (t : State) (s : State), reg < 8 →
    pollTurn s reg cmd = true →
    takeTurn cmd s = t →
    (regOf t reg).addr ≠ 0 →
    3 ≤ t.boot.stage →
    exec (.pmbusTransaction reg cmd true value) s = .next (tellRegulator reg (causeFor t 442 reg, causeFor t 441 reg) (regRead reg cmd value
      (causeEnd 442 reg (modReg reg (fun r => { r with fails := 0, responding := true }) t))))) ∧
  (∀ (reg value : Nat) (cmd : PmbusCmd) (t : State) (s : State), reg < 8 →
    pollTurn s reg cmd = true →
    takeTurn cmd s = t →
    (regOf t reg).addr ≠ 0 →
    3 ≤ t.boot.stage →
    (regOf (modReg reg (fun r => { r with fails := min 3 (r.fails + 1), responding := false }) t) reg).fails = 3 →
    exec (.pmbusTransaction reg cmd false value) s = .next (tellRegulator reg (causeFor t 442 reg, causeFor t 441 reg) (detect 442 reg 0 [] (modReg reg (fun r => { r with fails := min 3 (r.fails + 1), responding := false }) t)))) ∧
  (∀ (reg value : Nat) (cmd : PmbusCmd) (t : State) (s : State), reg < 8 →
    pollTurn s reg cmd = true →
    takeTurn cmd s = t →
    (regOf t reg).addr ≠ 0 →
    3 ≤ t.boot.stage →
    (regOf (modReg reg (fun r => { r with fails := min 3 (r.fails + 1), responding := false }) t) reg).fails ≠ 3 →
    exec (.pmbusTransaction reg cmd false value) s = .next (tellRegulator reg (causeFor t 442 reg, causeFor t 441 reg) (modReg reg (fun r => { r with fails := min 3 (r.fails + 1), responding := false }) t))) ∧
  (∀ (reg value : Nat) (cmd : PmbusCmd) (ok : Bool) (s : State), reg < 8 →
    pollTurn s reg cmd = false →
    exec (.pmbusTransaction reg cmd ok value) s = .next (s)) ∧
  (∀ (reg status : Nat) (s : State), reg < 8 →
    (regOf s reg).addr ≠ 0 →
    exec (.pmbAlert reg status) s = .next (s.modPower fun p => { p with alerts := p.alerts ++ [(2, reg, status)] })) ∧
  (∀ (reg status : Nat) (s : State), reg < 8 →
    (regOf s reg).addr = 0 →
    exec (.pmbAlert reg status) s = .next (s)) ∧
  (∀ (reg status : Nat) (rest : List (Nat × Nat × Nat)) (s : State), s.power.alerts = (1, reg, status) :: rest →
    slotThreeEnd s = pmbusDone reg .statusWord true status (s.modPower fun p => { p with polled := 0, alerts := rest })) ∧
  (∀ (s : State), s.power.exceeds.isSome = true →
    100000 ≤ overBeats s →
    s.power.mismatch = false →
    exec (.mismatchSteerBegin) s = .next (detect 440 0 0 [] (pwrIrq 5 (s.modPower fun p => { p with mismatch := true })))) ∧
  (∀ (s : State), s.power.mismatch = true →
    s.power.contained = false →
    10000000 < overBeats s →
    exec (.mismatchContained) s = .next (detect 440 0 2 [] (s.modPower fun p => { p with contained := true }))) ∧
  (∀ (s : State), beatRuns s = true →
    exec (.pollCycleEnd) s = .next (atBoundary evPollEnd [] s)) ∧
  (∀ (s : State), s.boot.pwrgood = true →
    beatRuns s = false →
    exec (.pollCycleEnd) s = .next (healthSnap (pollEnd (slotThreeEnd s)))) ∧
  (∀ (s : State), 250 ≤ nth s.power.eBeats 0 →
    pollBoundary s = pollEnd (slotThreeEnd s)) ∧
  (∀ (m e : Nat) (s : State), (s.power.regs.map fun r => if r.addr = 0 then 0 else r.pout).foldl (· + ·) 0 = m →
    meanEstimate s = e →
    pollEnd s = (mismatchTest (s.modPower fun p => { p with
      meas := m, est := e, incomplete := causeAny s 442, disagree := min 65535 (disagreement m e)
      eSums := 0 :: p.eSums.take 2, eBeats := 0 :: p.eBeats.take 2 })).modPower fun p =>
      { p with steer := if p.incomplete then p.est else if p.mismatch then max p.est p.meas else p.meas }) ∧
  (∀ (sensor : Nat) (reading : Int) (s : State), sensor < 64 →
    s.boot.pwrgood = true →
    2160 ≤ reading →
    reading ≤ 2720 →
    exec (.sensorConversion sensor reading) s = .next (thermalCross (excludeSensor sensor false (detect 437 sensor 0 [] (modSensor sensor (fun x => { x with val := some reading, beat := s.beat }) s))))) ∧
  (∀ (sensor : Nat) (reading : Int) (s : State), sensor < 64 →
    s.boot.pwrgood = true →
    -1120 ≤ reading →
    reading < 2160 →
    exec (.sensorConversion sensor reading) s = .next (thermalCross (excludeSensor sensor false (causeEnd 437 sensor (modSensor sensor (fun x => { x with val := some reading, beat := s.beat }) s))))) ∧
  (∀ (sensor : Nat) (reading : Int) (s : State), sensor < 64 →
    s.boot.pwrgood = true →
    reading < -1120 →
    exec (.sensorConversion sensor reading) s = .next (thermalCross (excludeSensor sensor true (causeEnd 437 sensor (modSensor sensor (fun x => { x with val := some reading, beat := s.beat }) s))))) ∧
  (∀ (sensor : Nat) (s : State), sensor < 64 →
    (sensorOf s sensor).out = false →
    (sensorOf s sensor).beat + 1000 ≤ s.beat →
    exec (.sensorStale sensor) s = .next (thermalCross (excludeSensor sensor true s))) ∧
  (∀ (cycles ns : Nat) (s : State), cycles ≤ 9 →
    ns < 1000 →
    beatRuns s = true →
    droopMay s ns = true →
    exec (.droopEpisode cycles ns) s = .next (markSet 0x48 16 ((s.modGlb fun g => { g with stretched := true, lostCycles := g.lostCycles + cycles, droopAt := some (nowNs s ns) }).modPower fun p =>
      { p with droopCnt := satAdd 32 p.droopCnt 1, droops := p.droops ++ [s.beat] }))) ∧
  (∀ (cycles ns : Nat) (s : State), cycles ≤ 9 →
    ns < 1000 →
    droopMay s ns = false →
    exec (.droopEpisode cycles ns) s = .next (s)) ∧
  (∀ (s : State), 10000 ≤ s.power.low →
    causeAny s 439 = false →
    exec (.coolantLow) s = .next (pwrIrq 3 (raiseEvent 0x0F02 (le 1 1) (detect 439 0 0 [] s)))) ∧
  (∀ (s : State), 500000 ≤ s.power.low →
    causeAny s 438 = false →
    exec (.coolantStop) s = .next (pwrIrq 3 (raiseEvent 0x0F02 (le 1 2) (detect 438 0 0 [] s)))) ∧
  (∀ (s : State), 100000 ≤ s.power.high →
    causeAny s 439 = true →
    exec (.coolantRestore) s = .next (pwrIrq 3 (raiseEvent 0x0F02 (le 1 0) (causeEnd 439 0 s)))) ∧
  (∀ (unit : Nat) (s : State), unit ∈ gateUnits →
    gatingOn s = true →
    unitIdle s unit = true →
    s.power.idle.get 0 unit = 100 →
    unit ∉ s.power.gated →
    exec (.idleUnitGate unit) s = .next (s.modPower fun p => { p with gated := insertBy id unit p.gated })) ∧
  (∀ (unit : Nat) (s : State), (gatingOn s && unitIdle s unit) = false →
    exec (.unitUngate unit) s = .next (s.modPower fun p => { p with gated := p.gated.filter (· != unit), idle := p.idle.del unit })) ∧
  (∀ (unit : Nat) (s : State), (gatingOn s && unitIdle s unit) = true →
    exec (.unitUngate unit) s = .next (s)) ∧
  (∀ (s : State), hostUp s = true →
    exec (.pwrReasonBeatsLoRead) s = .next (readOut (nth s.power.beats s.power.reasonSel % 2 ^ 32) (s.modPower fun p => { p with beatsHi := nth s.power.beats s.power.reasonSel / 2 ^ 32 }))) ∧
  (∀ (s : State), hostUp s = true →
    exec (.pwrDroopCntRead) s = .next ((readOut s.power.droopCnt s).modPower fun p => { p with droopCnt := 0 }))

/-- Faults, grace timers, WICK and the watchdog (R450 to R467, R514). -/
def Obligations.FaultEventsAndWick : Prop :=
  (∀ (src inst cls : Nat) (detail : Bytes) (t : State) (s : State), src < 448 →
    cls ≤ 3 →
    s.boot.pwrgood = true →
    faultEffect src (inst % 2 ^ 32) detail s = (true, t) →
    exec (.faultDetect src inst cls detail) s = .next (detect src (inst % 2 ^ 32) (if cls < sourceClass src then 0 else cls) detail t)) ∧
  (∀ (src inst cls : Nat) (detail : Bytes) (t : State) (s : State), src < 448 →
    cls ≤ 3 →
    s.boot.pwrgood = true →
    faultEffect src (inst % 2 ^ 32) detail s = (false, t) →
    exec (.faultDetect src inst cls detail) s = .next (t)) ∧
  (∀ (src inst : Nat) (s : State), src < 448 →
    src ≠ 443 →
    src ≠ 444 →
    exec (.faultCauseEnd src inst) s = .next (causeEnd src (inst % 2 ^ 32) s)) ∧
  (∀ (s : State), exec (.faultCauseEnd 443 0) s = .next ((causeEnd 443 0 s).modBoot fun b => { b with pllLost := false })) ∧
  (∀ (s : State), exec (.faultCauseEnd 444 0) s = .next (causeEnd 445 0 ((causeEnd 444 0 s).modBoot fun b => { b with ethLost := false }))) ∧
  (∀ (s : State), exec (.faultCauseEnd 444 1) s = .next ((causeEnd 444 1 s).modBoot fun b => { b with pcieLost := false })) ∧
  (∀ (pll : Nat) (s : State), s.boot.pwrgood = true →
    exec (.pllUnlock pll) s = .next (detect 443 pll 0 [] (s.modBoot fun b => { b with pllLost := b.pllLost || pll == corePll }))) ∧
  (∀ (s : State), s.boot.pwrgood = true →
    exec (.refclkLoss 0) s = .next (detect 445 0 0 [] (detect 444 0 0 [] (s.modBoot fun b => { b with ethLost := true })))) ∧
  (∀ (s : State), s.boot.pwrgood = true →
    hostUp s = true →
    exec (.refclkLoss 1) s = .next (eachDo (List.range 4) (fun p => memLosing p 16) (hotReset (detect 444 1 0 [] (s.modBoot fun b => { b with pcieLost := true }))))) ∧
  (∀ (src : Nat) (s : State), src < 448 →
    exec (.graceTimerExpire src) s = .next (atBoundary evGrace (le 2 src) s)) ∧
  (∀ (s : State), faultStep4 s = (graceEnds (fun _ => true) s).modFault fun f => { f with timers := f.timers.map fun t => { t with left := t.left - 1 } }) ∧
  (∀ (s : State), exec (.wickToggle) s = .next (atBoundary evWick [] s)) ∧
  (∀ (s : State), wickStopped s = false →
    s.wick.armed = true →
    (s.beat + 1) % 500 = 0 →
    s.wick.last ≠ s.beat + 1 →
    s.wick.running = true →
    wickBoundary s = s.modWick fun w => { w with level := !w.level, running := true, ran := true, last := s.beat + 1 }) ∧
  (∀ (s : State), wickStopped s = true →
    s.wick.running = true →
    wickBoundary s = wickToggle (raiseEvent 0x0E05 (le 1 1 ++ le 1 (b2n (fatalStops s) + 2 * b2n s.wick.expired)) (s.modWick fun w => { w with
      level := false, running := false, stops := satAdd 32 w.stops 1, stopBeat := s.beat }))) ∧
  (∀ (s : State), s.wick.armed = true →
    s.wick.expired = false →
    s.fw.hand = false →
    s.wick.kicked + s.wick.limit ≤ s.beat →
    exec (.ittasWdogExpire) s = .next (detect 433 0 0 [] (s.modWick fun w => { w with expired := true }))) ∧
  (∀ (s : State), s.wick.armed = true →
    s.wick.expired = false →
    s.boot.ittasRun = true →
    s.boot.halted = false →
    exec (.ittasWdogRestart) s = .next (s.modWick fun w => { w with kicked := s.beat })) ∧
  (∀ (value : Nat) (s : State), hostUp s = true →
    exec (.fltAckWrite value) s = .next (post 0 0x13424 (le 4 value) [] s)) ∧
  (∀ (value : Nat) (s : State), hostUp s = true →
    exec (.fltClearWrite value) s = .next (post 0 0x13428 (le 4 value) [] s)) ∧
  (∀ (n value : Nat) (s : State), n < 14 →
    hostUp s = true →
    exec (.fltForceWrite n value) s = .next (post 0 (0x10000 + (0x34C0 + 4 * n)) (le 4 value) [] s)) ∧
  (∀ (s : State), hostUp s = true →
    exec (.fltLogLostRead) s = .next ((readOut s.fault.logLost s).modFault fun f => { f with logLost := 0 })) ∧
  (∀ (s : State), hostUp s = true →
    exec (.fltPartnerCntRead) s = .next ((readOut s.fault.partnerCnt s).modFault fun f => { f with partnerCnt := 0 })) ∧
  (∀ (s : State), hostUp s = true →
    exec (.wickStopsRead) s = .next ((readOut s.wick.stops s).modWick fun w => { w with stops := 0 }))

/-- Firmware and trust events (R430, R438, R441, R444, R445). -/
def Obligations.FirmwareAndTrustEvents : Prop :=
  (∀ (offset : Nat) (s : State), s.fw.st = 3 →
    exec (.fwFlashWriteDone true offset) s = .next (raiseEvent 0x0201 (le 1 (otherSlot s) ++ zeros 3 ++ le 4 (rd s.fw.other 12 4)) (s.modFw fun f => { f with
      st := 4, slots := f.slots.set (otherSlot s) f.other, flashed := f.other.length }))) ∧
  (∀ (offset : Nat) (s : State), s.fw.st = 3 →
    exec (.fwFlashWriteDone false offset) s = .next (detect 447 offset 0 [] (raiseEvent 0x0202 (le 1 (otherSlot s) ++ zeros 3 ++ le 4 offset) (s.modFw fun f => { f with
      st := 0, other := [], slots := f.slots.set (otherSlot s) [] })))) ∧
  (∀ (us : Nat) (s : State), s.fw.hand = true →
    s.fw.us + us ≤ 180000 →
    s.fw.step < 5 →
    exec (.handoverStepDone true us) s = .next (s.modFw fun f => { f with step := f.step + 1, us := s.fw.us + us })) ∧
  (∀ (us : Nat) (s : State), s.fw.hand = true →
    s.fw.us + us ≤ 180000 →
    5 ≤ s.fw.step →
    exec (.handoverStepDone true us) s = .next (handoverDone (s.fw.us + us) s)) ∧
  (∀ (us : Nat) (s : State), s.fw.hand = true →
    s.fw.us + us ≤ 180000 →
    exec (.handoverStepDone false us) s = .next (handoverBack (if s.fw.step = 3 then 3 else 2) s)) ∧
  (∀ (s : State), s.fw.hand = true →
    timeCome s (s.fw.begun + 180000) = true →
    exec (.handoverTimerExpire) s = .next (answer s.fw.order 0x0205 0 [] (raiseEvent 0x0204 (le 1 s.fw.step ++ le 1 1) (detect 432 s.fw.step 0 []
      ((s.modFw fun f => { f with hand := false, step := 0, last := 2 }).modWick fun w => { w with kicked := s.beat }))))) ∧
  (∀ (s : State), s.fw.checkDue = true →
    s.fw.st = 0 →
    s.boot.ittasRun = true →
    exec (.otherSlotCheck) s = .next (s.modFw fun f => { f with
      checkDue := false, st := if imageFault s (slotImage s (otherSlot s)) = 0 then 4 else 0
      other := if imageFault s (slotImage s (otherSlot s)) = 0 then slotImage s (otherSlot s) else [] })) ∧
  (∀ (s : State), s.trust.certDue = true →
    exec (.identityCertWrite) s = .next ((s.modFw fun f => { f with certArea := s.trust.cert }).modTrust fun t => { t with certDue := false })) ∧
  (∀ (d : Bytes) (b : Nat) (s : State), s.trust.ret = some (d, b) →
    b + returnBeats ≤ s.beat →
    exec (.returnPendingExpire) s = .next (s.modTrust fun x => { x with ret := none })) ∧
  (∀ (d : Bytes) (b : Nat) (s : State), s.trust.ret = some (d, b) →
    s.beat < b + returnBeats →
    exec (.returnPendingExpire) s = .next (s)) ∧
  (∀ (kind : Nat) (s : State), kind = 1 ∨ kind = 2 →
    s.boot.pwrgood = true →
    debugAllowed s kind = true →
    exec (.deepDebugOpen kind) s = .next (raiseEvent 0x0302 (le 1 kind) (s.modTrust fun t => { t with session := true, opened := true }))) ∧
  (∀ (token : Bytes) (s : State), s.boot.pwrgood = true →
    s.trust.lc = 1 →
    exec (.debugTokenShift token) s = .next (if tokenOk s 4 token then
      raiseEvent 0x0302 (le 1 1) ((s.modTrust fun t => { t with tokenOpen := true }).modTrust fun t => { t with session := true, opened := true }) else s))

/-- Power, reset, boot and restarts (R437, R489 to R495, R512; Table 18.5). -/
def Obligations.StartUpEvents : Prop :=
  (∀ (s : State), s.boot.pwrgood = true →
    completes .pwrgoodFall s fun t =>
      t.boot.pwrgood = false ∧ t.boot.stage = State.reset.boot.stage ∧ t.glb = State.reset.glb ∧ t.lanes = State.reset.lanes ∧ t.ports = State.reset.ports ∧
      t.rules = State.reset.rules ∧ t.tab = State.reset.tab ∧ t.buf = State.reset.buf ∧ t.tm = State.reset.tm ∧ t.ledger = State.reset.ledger ∧
      t.time = State.reset.time ∧ t.mbx = State.reset.mbx ∧ t.evt = State.reset.evt ∧ t.power = State.reset.power ∧ t.slices = State.reset.slices ∧
      t.trust.lc = s.trust.lc ∧ t.trust.floor = s.trust.floor ∧ t.trust.seeds = s.trust.seeds ∧ t.fw.slots = (if s.fw.st = 3 then s.fw.slots.set (otherSlot s) [] else s.fw.slots) ∧ t.fw.desc = s.fw.desc ∧
      t.mem.ports = s.mem.ports.map (fun e => (e.1, { present := e.2.present })) ∧ t.pending = s.pending) ∧
  (∀ (straps : Nat) (s : State), s.boot.pwrgood = false →
    exec (.pwrgoodRise straps) s = .next ((s.modMem fun m => { m with ports := m.ports.map fun e => (e.1, resetModule e.2) }).modBoot fun b => { b with
      pwrgood := true, everUp := true, cause := if b.everUp then 2 else 1, straps := straps % 16, stage := 1 })) ∧
  (∀ (s : State), s.boot.coreDue = true →
    timeCome s s.boot.dueAt = true →
    (s.mbx.cmds.any fun c => c.reply.isSome && (c.op == 0x0112 || c.op == 0x0204)) = false →
    completes .coreResetStart s fun t =>
      t.boot.pwrgood = s.boot.pwrgood ∧ t.boot.stage = 2 ∧ t.boot.cause = s.boot.coreCause ∧ t.boot.straps = s.boot.straps ∧
      t.glb = State.reset.glb ∧ t.lanes = State.reset.lanes ∧ t.ports = State.reset.ports ∧ t.rules = State.reset.rules ∧ t.tab = State.reset.tab ∧
      t.buf = State.reset.buf ∧ t.tm = State.reset.tm ∧ t.ledger = { State.reset.ledger with key := s.ledger.key } ∧ t.mbx = State.reset.mbx ∧ t.evt = State.reset.evt ∧ t.power = State.reset.power ∧
      t.trust.lc = s.trust.lc ∧ t.trust.floor = s.trust.floor ∧ t.trust.seeds = s.trust.seeds ∧ t.fw.slots = (if s.fw.st = 3 then s.fw.slots.set (otherSlot s) [] else s.fw.slots) ∧ t.fw.desc = s.fw.desc ∧
      t.mem.ports = (ledgerToBytes s).mem.ports.map (fun e => (e.1, resetModule e.2)) ∧ t.pending = s.pending) ∧
  (∀ (s : State), s.boot.perstHigh = true →
    s.boot.pwrgood = true →
    bit s.boot.straps 1 = false →
    exec (.perstNAssert) s = .next (hotReset (s.modBoot fun b => { b with perstHigh := false }))) ∧
  (∀ (s : State), s.boot.perstHigh = true →
    s.boot.pwrgood = true →
    bit s.boot.straps 1 = true →
    s.boot.stopped = false →
    s.boot.stage ≠ 1 →
    exec (.perstNAssert) s = .next (coreReset 3 (s.modBoot fun b => { b with perstHigh := false }))) ∧
  (∀ (s : State), exec (.perstNDeassert) s = .next (s.modBoot fun b => { b with perstHigh := true })) ∧
  (∀ (ms : Nat) (s : State), s.boot.pwrgood = true →
    s.boot.stage = 1 →
    exec (.bootStageComplete ms) s = .next (bootLog 1 0 0 0 ((s.modBoot fun b => { b with ms := ms }).modBoot fun b => { b with stage := 2 }))) ∧
  (∀ (ms : Nat) (s : State), s.boot.pwrgood = true →
    s.boot.stage = 2 →
    bit s.boot.straps 0 = true →
    exec (.bootStageComplete ms) s = .next (enterRecovery (bootLog 2 0 (preferredSlot s) 0 (s.modBoot fun b => { b with ms := ms })))) ∧
  (∀ (ms : Nat) (s : State), s.boot.pwrgood = true →
    s.boot.stage = 2 →
    bit s.boot.straps 0 = false →
    completes (.bootStageComplete ms) s fun t =>
      t.boot.stage = if imageFault s (slotImage s (preferredSlot s)) = 0 ∨ imageFault s (slotImage s (1 - preferredSlot s)) = 0 then 3 else 15) ∧
  (∀ (ms : Nat) (s : State), s.boot.pwrgood = true →
    s.boot.stage = 3 →
    exec (.bootStageComplete ms) s = .next (stageIttas (s.modBoot fun b => { b with ms := ms }))) ∧
  (∀ (ms : Nat) (s : State), s.boot.pwrgood = true →
    s.boot.stage = 4 →
    exec (.bootStageComplete ms) s = .next (bootLog 4 0 s.fw.slot 0 ((s.modBoot fun b => { b with ms := ms }).modBoot fun b => { b with stage := 5 }))) ∧
  (∀ (ms : Nat) (s : State), s.boot.pwrgood = true →
    s.boot.stage = 5 →
    bit s.boot.straps 2 = false →
    completes (.bootStageComplete ms) s fun t =>
      t.boot.stage = 6 ∧ t.boot.dpReady = true ∧ t.wick.armed = true ∧ t.wick.kicked = s.beat ∧ t.ports = s.ports ∧ t.lanes = s.lanes) ∧
  (∀ (s : State), s.boot.ittasDue = true →
    timeCome s s.boot.dueAt = true →
    s.boot.pwrgood = true →
    s.boot.auto = true →
    (recentRestarts s).length < 3 →
    exec (.ittasRestartStart true) s = .next (stopIttas (s.modBoot fun b => { b with autoBeats := s.beat :: recentRestarts s }))) ∧
  (∀ (s : State), s.boot.ittasDue = true →
    timeCome s s.boot.dueAt = true →
    s.boot.pwrgood = true →
    s.boot.auto = false →
    (s.mbx.cmds.any fun c => c.reply.isSome && c.op == 0x0112) = false →
    exec (.ittasRestartStart true) s = .next (stopIttas s)) ∧
  (∀ (s : State), s.boot.ittasDue = true →
    timeCome s s.boot.dueAt = true →
    s.boot.pwrgood = true →
    s.boot.auto = true →
    (recentRestarts s).length < 3 →
    s.fw.st = 4 →
    s.trust.floor ≤ rd s.fw.other 6 1 →
    exec (.ittasRestartStart false) s = .next (stopIttas (bootOther (s.modBoot fun b => { b with autoBeats := s.beat :: recentRestarts s })))) ∧
  (∀ (s : State), s.boot.ittasDue = true →
    timeCome s s.boot.dueAt = true →
    s.boot.pwrgood = true →
    s.boot.auto = true →
    (recentRestarts s).length < 3 →
    s.fw.st ≠ 4 ∨ rd s.fw.other 6 1 < s.trust.floor →
    exec (.ittasRestartStart false) s = .next (coreReset 6 (s.modBoot fun b => { b with autoBeats := s.beat :: recentRestarts s }))) ∧
  (∀ (measured : Bool) (s : State), s.boot.ittasDue = true →
    timeCome s s.boot.dueAt = true →
    s.boot.pwrgood = true →
    s.boot.auto = true →
    3 ≤ (recentRestarts s).length →
    exec (.ittasRestartStart measured) s = .next (s.modBoot fun b => { b with ittasDue := false })) ∧
  (∀ (imported : Bool) (s : State), s.boot.restarting = true →
    completes (.ittasRestartDone imported) s fun t =>
      t.boot.ittasRun = true ∧ t.boot.halted = false ∧ t.boot.restarting = false ∧ t.wick.expired = false ∧ t.wick.kicked = s.beat)

/-- Ember moves, self-checks and rule drains (R129, R131, R499 to R502). -/
def Obligations.SliceAndRuleEvents : Prop :=
  (∀ (s : State), (s.slice 32).st = 1 →
    exec (.emberConfigLoaded) s = .next (modSlice (s.slice 32).peer (fun x => { x with loaded := true }) s)) ∧
  (∀ (s : State), exec (.emberSwitch) s = .next (atBoundary evEmberSwitch [] s)) ∧
  (∀ (s : State), (s.slice 32).st = 1 →
    (s.slice 32).peer < 32 →
    (s.slice (s.slice 32).peer).loaded = true →
    (s.slice (s.slice 32).peer).releasing = false →
    Sys2Proof.Machine.emberSwitch s = switchToEmber (s.slice 32).peer s) ∧
  (∀ (s : State), (s.slice 32).st = 1 →
    (s.slice 32).peer < 32 →
    (s.slice (s.slice 32).peer).loaded = true →
    (s.slice (s.slice 32).peer).releasing = true →
    Sys2Proof.Machine.emberSwitch s = switchHome (s.slice 32).peer s) ∧
  (∀ (slice : Nat) (s : State), slice < 32 →
    (s.slice slice).st = 4 →
    exec (.selfCheckDone slice 0) s = .next (raiseEvent 0x1002 (le 1 slice ++ le 1 1 ++ zeros 2 ++ le 4 0) (setSlice slice (s.slice slice).prev 2
      (modSlice slice (fun x => { x with check := 1, passed := true }) (s.modBoot fun b => { b with emberCheck := b.emberCheck && slice != 32 }))))) ∧
  (∀ (slice code : Nat) (s : State), slice < 32 →
    (s.slice slice).st = 4 →
    code ≠ 0 →
    exec (.selfCheckDone slice code) s = .next (raiseEvent 0x1002 (le 1 slice ++ le 1 2 ++ zeros 2 ++ le 4 code) (detect (99 + slice) code 0 [] (setSlice slice (s.slice slice).prev 2
      (modSlice slice (fun x => { x with check := 2 }) (s.modBoot fun b => { b with emberCheck := b.emberCheck && slice != 32 })))))) ∧
  (∀ (s : State), exec (.ruleDrainComplete) s = .next (atBoundary evDrained [] s)) ∧
  (∀ (s : State), (s.bank (otherBank s)).st = 4 →
    s.rules.sw = 0 →
    s.rules.drainStart < s.beat →
    inflightOf s (otherBank s) = 0 →
    drainComplete s = raiseEvent 0x0602 (le 2 (s.bank (otherBank s)).ver) (modBank (otherBank s) (fun b => { b with st := 5, pst := 5 }) s)) ∧
  (∀ (s : State), exec (.ruleDrainStuck) s = .next (atBoundary evDrained [1] s)) ∧
  (∀ (s : State), (s.bank (otherBank s)).st = 4 →
    s.rules.sw = 0 →
    inflightOf s (otherBank s) ≠ 0 →
    s.rules.drainStart + s.rules.drainSmax + 16 ≤ s.beat →
    drainStuck s = ((modInflight (otherBank s) (fun _ => 0) (modBank (otherBank s) (fun b => { b with st := 5, pst := 5 })
      (raiseEvent 0x0603 (le 2 (s.bank (otherBank s)).ver ++ zeros 2 ++ le 4 (inflightOf s (otherBank s)))
        (detect 386 (s.bank (otherBank s)).ver 0 [] s)))).modRules fun r => { r with
        expired := (r.expired.filter (·.1 != otherBank s)) ++ [(otherBank s, r.vNew)] }).modBuf fun x => { x with
        pkts := x.pkts.mapAll fun _ p => if p.md.bank == otherBank s then { p with inflight := false } else p })

/-- The mailbox protocol and the event ring (R400 to R419). -/
def Obligations.MailboxEvents : Prop :=
  (∀ (m value : Nat) (s : State), m < 16 →
    hostUp s = true →
    bit value 0 = true →
    (s.box m).st ≠ 1 →
    s.fw.hand = false →
    exec (.mbxDoorbell m value) s = .next ((modBox m (fun x => { x with st := 1, valid := false, opcode := leOf (request s m 2 2) * 65536 + leOf (request s m 0 2), door := s.beat % 2 ^ 32, accept := 0xFFFFFFFF }) s).modMbx fun b => { b with
      next := b.next + 1
      cmds := b.cmds ++ [{ order := b.next, m := m, op := leOf (request s m 0 2), tag := leOf (request s m 2 2), flags := leOf (request s m 8 1), door := s.beat }] })) ∧
  (∀ (m value : Nat) (s : State), m < 16 →
    hostUp s = true →
    bit value 0 = true →
    (s.box m).st = 1 →
    exec (.mbxDoorbell m value) s = .next (protocol m 1 0 (noteDiscard m (markSet (statusReg m) 8 (modBox m (fun x => { x with overrun := true, overrunCnt := satAdd 32 x.overrunCnt 1 }) s))))) ∧
  (∀ (offset : Nat) (bytes : Bytes) (s : State), offset + bytes.length ≤ 0x20000 →
    hostUp s = true →
    bytes ≠ [] →
    (offset / 0x1000) % 2 = 0 →
    (offset + bytes.length - 1) / 0x1000 = offset / 0x1000 →
    (s.box (offset / 0x2000)).st ≠ 1 →
    completes (.mailboxAreaWrite offset bytes) s fun t =>
      (∀ i, i < bytes.length → t.mbx.area.read (offset + i) = bytes.getD i 0) ∧
      (∀ a, a < offset ∨ offset + bytes.length ≤ a → t.mbx.area.read a = s.mbx.area.read a) ∧
      t = s.modMbx (fun b => { b with area := t.mbx.area })) ∧
  (∀ (offset : Nat) (bytes : Bytes) (s : State), offset + bytes.length ≤ 0x20000 →
    hostUp s = true →
    bytes ≠ [] →
    (offset / 0x1000) % 2 = 1 ∨ (offset + bytes.length - 1) / 0x1000 ≠ offset / 0x1000 →
    exec (.mailboxAreaWrite offset bytes) s = .next (protocol (offset / 0x2000) 3 0 s)) ∧
  (∀ (offset : Nat) (bytes : Bytes) (s : State), offset + bytes.length ≤ 0x20000 →
    hostUp s = true →
    bytes ≠ [] →
    (offset / 0x1000) % 2 = 0 →
    (offset + bytes.length - 1) / 0x1000 = offset / 0x1000 →
    (s.box (offset / 0x2000)).st = 1 →
    exec (.mailboxAreaWrite offset bytes) s = .next (protocol (offset / 0x2000) 2 0 (noteDiscard (offset / 0x2000) (markSet (statusReg (offset / 0x2000)) 9
      (modBox (offset / 0x2000) (fun x => { x with discarded := true, overrunCnt := satAdd 32 x.overrunCnt 1 }) s))))) ∧
  (∀ (e : Event) (l : List Event) (s : State), ringReady s = true →
    s.evt.held = e :: l →
    s.evt.lostSince = 0 →
    s.evt.part + 1 < eventEntries e →
    exec (.eventRingWrite) s = .next ((putEntry e.code (if s.evt.part == 0 then 0 else 1) e.beat (e.params.drop (48 * s.evt.part)) s).modEvt fun v => { v with part := s.evt.part + 1 })) ∧
  (∀ (e : Event) (l : List Event) (s : State), ringReady s = true →
    s.evt.held = e :: l →
    s.evt.lostSince = 0 →
    eventEntries e ≤ s.evt.part + 1 →
    exec (.eventRingWrite) s = .next ((putEntry e.code (if s.evt.part == 0 then 0 else 1) e.beat (e.params.drop (48 * s.evt.part)) s).modEvt fun v => { v with part := 0, held := l })) ∧
  (∀ (e : Event) (l : List Event) (s : State), ringReady s = true →
    s.evt.held = e :: l →
    s.evt.lostSince ≠ 0 →
    s.evt.part = 0 →
    exec (.eventRingWrite) s = .next ((putEntry 0x0102 0 s.beat (le 4 s.evt.lostSince) s).modEvt fun v => { v with lostSince := 0 })) ∧
  (∀ (m status detail : Nat) (payload : Bytes) (c : Cmd) (s : State), m < 16 →
    readyReply s m = some c →
    c.reply = some (status, detail, payload) →
    serving s = true →
    c.late = false →
    exec (.responsePost m) s = .next (postResponse m c.op c.tag c.flags status detail (if c.note then 5 else 0) (if c.accepted then c.acceptBeat else allOnes64) payload
      (drainRing (resetWait c (s.modMbx fun b => { b with cmds := b.cmds.filter fun d => d.order != c.order }))))) ∧
  (∀ (m status detail : Nat) (payload : Bytes) (c : Cmd) (s : State), m < 16 →
    readyReply s m = some c →
    c.reply = some (status, detail, payload) →
    serving s = true →
    c.late = true →
    exec (.responsePost m) s = .next (modBox m (fun x => { x with lateCnt := satAdd 32 x.lateCnt 1 }) (resetWait c (s.modMbx fun b => { b with cmds := b.cmds.filter fun d => d.order != c.order })))) ∧
  (∀ (m : Nat) (c : Cmd) (s : State), m < 16 →
    running s m = some c →
    (s.box m).st = 1 →
    timeCome s (guardEnd (s.box m) c) = true →
    exec (.mbxGuardExpire m) s = .next (detect (416 + m) c.op 0 [] ((markSet (statusReg m) 10 (modBox m (fun x => { x with guarded := true })
      (postResponse m c.op c.tag c.flags 9 0 (if c.note then 5 else 0) (if c.accepted then c.acceptBeat else allOnes64) [] s))).modMbx fun b => { b with
        cmds := b.cmds.map fun d => if d.order == c.order then { d with late := true } else d }))) ∧
  (∀ (m value : Nat) (s : State), m < 16 →
    hostUp s = true →
    (s.box m).valid = true →
    (s.box m).st = 2 →
    clearsBit s (statusReg m) value 3 = true →
    completes (.mbxRespValidClear m value) s fun t => t = s.modMbx (fun b => { b with box := t.mbx.box }) ∧
      (∀ n, n ≠ m → t.box n = s.box n) ∧ t.box m = { s.box m with
        valid := false, st := 0,
        overrun := (s.box m).overrun && !clearsBit s (statusReg m) value 8,
        discarded := (s.box m).discarded && !clearsBit s (statusReg m) value 9,
        guarded := (s.box m).guarded && !clearsBit s (statusReg m) value 10 }) ∧
  (∀ (value : Nat) (s : State), hostUp s = true →
    (value % 2 ^ 32 + 2 ^ 32 - s.evt.tail) % 2 ^ 32 ≤ (s.evt.head + 2 ^ 32 - s.evt.tail) % 2 ^ 32 →
    exec (.mbxEvtTailWrite value) s = .next (s.modEvt fun e => { e with tail := value % 2 ^ 32 })) ∧
  (∀ (value : Nat) (s : State), hostUp s = true →
    (s.evt.head + 2 ^ 32 - s.evt.tail) % 2 ^ 32 < (value % 2 ^ 32 + 2 ^ 32 - s.evt.tail) % 2 ^ 32 →
    exec (.mbxEvtTailWrite value) s = .next (protocol 0 6 0 s)) ∧
  (∀ (m : Nat) (s : State), m < 16 →
    hostUp s = true →
    exec (.mbxOverrunCntRead m) s = .next (modBox m (fun x => { x with overrunCnt := 0 }) (s.modOut fun o => { o with read := le 4 (s.box m).overrunCnt }))) ∧
  (∀ (m : Nat) (s : State), m < 16 →
    hostUp s = true →
    exec (.mbxLateCntRead m) s = .next (modBox m (fun x => { x with lateCnt := 0 }) (s.modOut fun o => { o with read := le 4 (s.box m).lateCnt }))) ∧
  (∀ (s : State), hostUp s = true →
    exec (.mbxEvtLostRead) s = .next ((s.modOut fun o => { o with read := le 4 s.evt.lost }).modEvt fun v => { v with lost := 0 }))

/-- Performance counters (R343 to R347). -/
def Obligations.PerformanceCounterEvents : Prop :=
  (∀ (value : Nat) (s : State), hostUp s = true →
    exec (.pmcSnap value) s = .next (s.modPmc fun p => { p with
      view := bit (Nat.lor value 2) 2, snap := p.snap || bit (Nat.lor value 2) 1, clear := p.clear || bit (Nat.lor value 2) 3, run := bit (Nat.lor value 2) 0, runDue := bit (Nat.lor value 2) 0 != p.running })) ∧
  (∀ (value : Nat) (s : State), hostUp s = true →
    exec (.pmcClear value) s = .next (s.modPmc fun p => { p with
      view := bit (Nat.lor value 8) 2, snap := p.snap || bit (Nat.lor value 8) 1, clear := p.clear || bit (Nat.lor value 8) 3, run := bit (Nat.lor value 8) 0, runDue := bit (Nat.lor value 8) 0 != p.running })) ∧
  (∀ (value : Nat) (s : State), hostUp s = true →
    exec (.pmcRun value) s = .next (s.modPmc fun p => { p with
      view := bit value 2, snap := p.snap || bit value 1, clear := p.clear || bit value 3, run := bit value 0, runDue := bit value 0 != p.running })) ∧
  (∀ (n value : Nat) (s : State), hostUp s = true →
    n < 8 →
    s.pmc.run = false →
    s.pmc.running = false →
    s.pmc.runDue = false →
    s.pmc.view = false →
    s.pmc.sel < 40 →
    exec (.pmcCounterWrite (0x4450 + 4 * n) value) s = .next (modUnit s.pmc.sel (fun x => { x with cnt := x.cnt.set n (value % 2 ^ 32) }) s)) ∧
  (∀ (n value : Nat) (s : State), hostUp s = true →
    n < 8 →
    s.pmc.run = false →
    s.pmc.running = false →
    s.pmc.runDue = false →
    s.pmc.sel < 40 →
    exec (.pmcCounterWrite (0x4430 + 4 * n) value) s = .next (modUnit s.pmc.sel (fun x => { x with evt := x.evt.set n (Nat.land value 0xB0FF00FF) }) s)) ∧
  (∀ (n value : Nat) (s : State), hostUp s = true →
    n < 16 →
    s.pmc.running = true →
    exec (.pmcCounterWrite (0x4430 + 4 * n) value) s = .next (markSet 0x4408 2 (s.modPmc fun p => { p with ignored := true }))) ∧
  (∀ (u n : Nat) (s : State), u < 40 →
    n < 8 →
    s.pmc.running = true →
    nth (s.punit u).cnt n = 2 ^ 32 - 1 →
    chained (s.punit u) (n + 1) = false →
    exec (.pmcCounterWrap u n) s = .next (putUnit u { s.punit u with cnt := (s.punit u).cnt.set n 0, ovf := setBit (s.punit u).ovf n true } s)) ∧
  (∀ (u n : Nat) (s : State), u < 40 →
    n < 7 →
    s.pmc.running = true →
    nth (s.punit u).cnt n = 2 ^ 32 - 1 →
    chained (s.punit u) (n + 1) = true →
    (s.punit u).cnt.length = 8 →
    nth (s.punit u).cnt (n + 1) < 2 ^ 32 - 1 →
    exec (.pmcCounterWrap u n) s = .next (putUnit u { s.punit u with cnt := ((s.punit u).cnt.set n 0).set (n + 1) (nth (s.punit u).cnt (n + 1) + 1) } s)) ∧
  (∀ (s : State), hostUp s = true →
    exec (.pmcCycLoRead) s = .next ((s.modPmc fun p => { p with cycHi := shownCycles s / 2 ^ 32 }).modOut fun o => { o with read := le 4 (shownCycles s % 2 ^ 32) })) ∧
  (∀ (s : State), hostUp s = true →
    exec (.pmcSnapBeatLoRead) s = .next ((s.modPmc fun p => { p with snapHi := p.snapBeat / 2 ^ 32 }).modOut fun o => { o with read := le 4 (s.pmc.snapBeat % 2 ^ 32) }))

/-- The crossing fabric and the resequencers (R223 to R237). -/
def Obligations.FabricEvents : Prop :=
  (∀ (s : State), exec (.bufAuditComplete) s = .next (atBoundary evAudit [] s)) ∧
  (∀ (s : State), s.buf.audits ≠ [] →
    total (s.buf.pools.map (·.o)) = s.buf.held.length →
    auditComplete s = eachDo s.buf.audits (fun o => answerOk o.1 (le 1 0 ++ zeros 3 ++ le 4 (freeCellCount s) ++ (s.buf.pools.map (·.o)).flatMap (le 4) ++ le 4 s.buf.held.length))
      (s.modBuf fun b => { b with audits := [] })) ∧
  (∀ (s : State), s.buf.audits ≠ [] →
    total (s.buf.pools.map (·.o)) ≠ s.buf.held.length →
    auditComplete s = detect 383 0 0 [] (eachDo s.buf.audits (fun o => answerOk o.1 (le 1 1 ++ zeros 3 ++ le 4 (freeCellCount s) ++ (s.buf.pools.map (·.o)).flatMap (le 4) ++ le 4 s.buf.held.length))
      (s.modBuf fun b => { b with audits := [] }))) ∧
  (∀ (plane q pkt cell : Nat) (u : State) (s : State), plane < 4 →
    q < 4 →
    modPkt pkt (fun k => { k with failed := k.failed.upd 0 (512 * plane + cell) (· + 1) }) s = u →
    (u.pkt pkt).failed.get 0 (512 * plane + cell) ≤ 16 →
    exec (.crossingCellCrcFail plane q pkt cell) s = .next (detect (373 + plane) q 0 [] (modPlane plane (fun p => { p with replays := p.replays + 1 }) u))) ∧
  (∀ (plane q pkt cell : Nat) (u : State) (s : State), plane < 4 →
    q < 4 →
    modPkt pkt (fun k => { k with failed := k.failed.upd 0 (512 * plane + cell) (· + 1) }) s = u →
    16 < (u.pkt pkt).failed.get 0 (512 * plane + cell) →
    exec (.crossingCellCrcFail plane q pkt cell) s = .next (planeFail plane q u)) ∧
  (∀ (plane q : Nat) (late : List LateCell) (s : State), plane < 4 →
    q < 4 →
    (s.buf.planes.getD plane {}).st ≠ 1 →
    exec (.xbarPlaneFail plane q late) s = .next (eachDo late lateCell (planeFail plane q s))) ∧
  (∀ (plane q : Nat) (u : State) (s : State), (s.buf.planes.getD plane {}).st ≠ 1 →
    planeEvent plane (detect (377 + plane) q 0 [] (modPlane plane (fun p => { p with st := 1, trained := false }) s)) = u →
    planeFail plane q s = if (planesUp u).isEmpty then u else eachDo u.buf.pkts (resendCells plane) u) ∧
  (∀ (plane : Nat) (s : State), plane < 4 →
    exec (.xbarPlaneRetrained plane) s = .next (causeEnd (377 + plane) 3 (causeEnd (377 + plane) 2 (causeEnd (377 + plane) 1 (causeEnd (377 + plane) 0
      (modPlane plane (fun p => { p with trained := true }) s)))))) ∧
  (∀ (pkt slice ns ci : Nat) (l : List Nat) (u : State) (s : State), slice < 32 →
    ((unreleased s pkt slice).filter fun ci => (s.copy ci).stage = .crossing) = ci :: l →
    sliceServed s slice = true →
    u = modPkt pkt (fun k => { k with queued := k.queued.del (quadOfSlice slice), failed := [] })
      (eachDo (ci :: l) (fun ci => modCopy ci fun c => { c with arrive := (s.beat, ns), stages := [clockNanos s ns] }) s) →
    (u.copy ci).express = true →
    exec (.cellArriveResequencer pkt slice ns) s = .next (drainWaiting ns (eachDo (ci :: l) (releaseCopy ns) u))) ∧
  (∀ (pkt slice ns ci : Nat) (l : List Nat) (u : State) (s : State), slice < 32 →
    ((unreleased s pkt slice).filter fun ci => (s.copy ci).stage = .crossing) = ci :: l →
    sliceServed s slice = true →
    u = modPkt pkt (fun k => { k with queued := k.queued.del (quadOfSlice slice), failed := [] })
      (eachDo (ci :: l) (fun ci => modCopy ci fun c => { c with arrive := (s.beat, ns), stages := [clockNanos s ns] }) s) →
    (u.copy ci).express = false →
    (u.copy ci).epoch ≠ (u.strm (copyStream u (u.copy ci))).epoch →
    exec (.cellArriveResequencer pkt slice ns) s = .next (drainWaiting ns (dropLate slice pkt ns u))) ∧
  (∀ (pkt slice ns ci : Nat) (l : List Nat) (u : State) (s : State), slice < 32 →
    ((unreleased s pkt slice).filter fun ci => (s.copy ci).stage = .crossing) = ci :: l →
    sliceServed s slice = true →
    u = modPkt pkt (fun k => { k with queued := k.queued.del (quadOfSlice slice), failed := [] })
      (eachDo (ci :: l) (fun ci => modCopy ci fun c => { c with arrive := (s.beat, ns), stages := [clockNanos s ns] }) s) →
    (u.copy ci).express = false →
    (u.copy ci).epoch = (u.strm (copyStream u (u.copy ci))).epoch →
    seqAhead (u.strm (copyStream u (u.copy ci))).expected (u.copy ci).seq = 0 →
    exec (.cellArriveResequencer pkt slice ns) s = .next (drainWaiting ns (drainStream slice (copyStream u (u.copy ci)) ns ((waitingFrames (modStrm (copyStream u (u.copy ci)) (fun x => { x with expected := (x.expected + 1) % 65536 }) (releaseFrame slice pkt ns u)) slice).length + 1)
      (modStrm (copyStream u (u.copy ci)) (fun x => { x with expected := (x.expected + 1) % 65536 }) (releaseFrame slice pkt ns u))))) ∧
  (∀ (pkt slice ns ci : Nat) (l : List Nat) (u : State) (s : State), slice < 32 →
    ((unreleased s pkt slice).filter fun ci => (s.copy ci).stage = .crossing) = ci :: l →
    sliceServed s slice = true →
    u = modPkt pkt (fun k => { k with queued := k.queued.del (quadOfSlice slice), failed := [] })
      (eachDo (ci :: l) (fun ci => modCopy ci fun c => { c with arrive := (s.beat, ns), stages := [clockNanos s ns] }) s) →
    (u.copy ci).express = false →
    (u.copy ci).epoch = (u.strm (copyStream u (u.copy ci))).epoch →
    0 < seqAhead (u.strm (copyStream u (u.copy ci))).expected (u.copy ci).seq →
    (waitingFrames u slice).length < 8192 →
    exec (.cellArriveResequencer pkt slice ns) s = .next (drainWaiting ns (modReseq slice (fun r => { r with high := max r.high (waitingFrames (eachDo (unreleased u pkt slice) (fun ci => modCopy ci fun c => { c with stage := .waiting }) u) slice).length })
      (eachDo (unreleased u pkt slice) (fun ci => modCopy ci fun c => { c with stage := .waiting }) u)))) ∧
  (∀ (pkt slice ns ci : Nat) (l : List Nat) (u : State) (s : State), slice < 32 →
    ((unreleased s pkt slice).filter fun ci => (s.copy ci).stage = .crossing) = ci :: l →
    sliceServed s slice = true →
    u = modPkt pkt (fun k => { k with queued := k.queued.del (quadOfSlice slice), failed := [] })
      (eachDo (ci :: l) (fun ci => modCopy ci fun c => { c with arrive := (s.beat, ns), stages := [clockNanos s ns] }) s) →
    (u.copy ci).express = false →
    (u.copy ci).epoch = (u.strm (copyStream u (u.copy ci))).epoch →
    seqAhead (u.strm (copyStream u (u.copy ci))).expected (u.copy ci).seq < 0 →
    exec (.cellArriveResequencer pkt slice ns) s = .next (drainWaiting ns (dropLate slice pkt ns u))) ∧
  (∀ (slice stream : Nat) (s : State), slice < 32 →
    stream < 256 →
    exec (.reseqSkipTimeout slice stream) s = .next (atBoundary evReseqSkip (le 1 slice ++ le 2 stream) s)) ∧
  (∀ (slice key : Nat) (e : Nat × Copy) (l : List (Nat × Copy)) (s : State), ((waitingFrames s slice).filter fun e => copyStream s e.2 == key) = e :: l →
    e.2.arrive.1 + 32 ≤ s.beat →
    reseqTimeout slice key s =
      skipTo slice key (l.foldl (fun m e => if seqAhead (s.strm key).expected e.2.seq < seqAhead (s.strm key).expected m then e.2.seq else m) e.2.seq) 0 s) ∧
  (∀ (c ns : Nat) (s : State), (s.copy c).stage = .queued →
    (s.copy c).cut = true →
    cutMayStart s (s.copy c) ns = true →
    exec (.egressCutThroughStart c ns) s = .next (modCopy c (fun x => { x with ready := true }) s))

/-- The traffic manager (R238 to R262). -/
def Obligations.TrafficManagerEvents : Prop :=
  (∀ (p ns q ci : Nat) (tags : List (Nat × Nat × Nat)) (l : List Nat) (u : State) (s : State), p < 802 →
    portSends s p = true →
    u = latchHeld p ns (refreshReady p ns (eachDo (portQueues p) (purgeQueue p ns) s)) →
    (u.tmPort p).sending = none →
    (u.port p).remainder = none →
    chooseQueue u p ns = some (q, tags) →
    macRoom u p q = true →
    egressRoom u p = true →
    queueOf u p q = ci :: l →
    exec (.schedulerDecision p ns) s = .next (startFrame p q ci ns (chargeShapers p q (headLen u p q) (recordTags p tags u)))) ∧
  (∀ (p ns ci n : Nat) (u : State) (s : State), p < 802 →
    portSends s p = true →
    u = latchHeld p ns (refreshReady p ns (eachDo (portQueues p) (purgeQueue p ns) s)) →
    (u.tmPort p).sending = some ci →
    expressWaits u p ns = true →
    preemptable u p (classOf p (u.copy ci).queue) = true →
    u.ports.has p = true →
    (u.port p).remainder = none →
    cutPoint u p ci ns = some n →
    expressWaits (preemptCopy p ci n u) p ns = true →
    exec (.schedulerDecision p ns) s = .next (chooseAndStart p ns (preemptCopy p ci n u))) ∧
  (∀ (p ns ci : Nat) (u : State) (s : State), p < 802 →
    portSends s p = true →
    u = latchHeld p ns (refreshReady p ns (eachDo (portQueues p) (purgeQueue p ns) s)) →
    (u.tmPort p).sending = some ci →
    expressWaits u p ns = false →
    exec (.schedulerDecision p ns) s = .next (u)) ∧
  (∀ (p ns ci : Nat) (u : State) (s : State), p < 802 →
    portSends s p = true →
    u = latchHeld p ns (refreshReady p ns (eachDo (portQueues p) (purgeQueue p ns) s)) →
    (u.tmPort p).sending = none →
    (u.port p).remainder = some ci →
    expressWaits u p ns = false →
    remainderReady u p ci ns = true →
    timeToClose (u.tmPort p).gates (classOf p (u.copy ci).queue) (clockNs u ns) = none →
    exec (.schedulerDecision p ns) s = .next (modTmPort p (fun t => { t with sending := some ci }) (modPort p (fun q => mmContinue { q with remainder := none })
      (modCopy ci (fun c => { c with stage := .sending, start := nowNs u ns, last := true }) u)))) ∧
  (∀ (p ns ci left : Nat) (u : State) (s : State), p < 802 →
    portSends s p = true →
    u = latchHeld p ns (refreshReady p ns (eachDo (portQueues p) (purgeQueue p ns) s)) →
    (u.tmPort p).sending = none →
    (u.port p).remainder = some ci →
    expressWaits u p ns = false →
    remainderReady u p ci ns = true →
    timeToClose (u.tmPort p).gates (classOf p (u.copy ci).queue) (clockNs u ns) = some left →
    exec (.schedulerDecision p ns) s = .next (modTmPort p (fun t => { t with sending := some ci }) (modPort p (fun q => mmContinue { q with remainder := none })
      (modCopy ci (fun c => { c with stage := .sending, start := nowNs u ns, last := fitsIn ((u.copy ci).out.length - (u.copy ci).sent + 20) (txRate u p) left }) u)))) ∧
  (∀ (p ns ci : Nat) (s : State), p < 802 →
    (s.tmPort p).sending = some ci →
    ((s.copy ci).stomp || ((s.pkt (s.copy ci).pkt).bad && (s.copy ci).cut)) = true →
    (s.copy ci).cut = false ∨ (s.copy ci).out.length ≤ assumedLength s (s.pkt (s.copy ci).pkt) (s.copy ci) + growthOf s (s.pkt (s.copy ci).pkt) (s.copy ci) →
    exec (.transmitComplete p ns) s = .next (dropCopyEnd ci (if (s.copy ci).stomp then (s.copy ci).stompReason else 51) ns (portCount p 47 1 (portCount p (37 + sizeBucket (s.copy ci).out.length) 1 s)))) ∧
  (∀ (p ns ci : Nat) (s : State), p < 802 →
    (s.tmPort p).sending = some ci →
    ((s.copy ci).stomp || ((s.pkt (s.copy ci).pkt).bad && (s.copy ci).cut)) = false →
    ¬ ((s.copy ci).cut = true ∧ assumedLength s (s.pkt (s.copy ci).pkt) (s.copy ci) + growthOf s (s.pkt (s.copy ci).pkt) (s.copy ci) < (s.copy ci).out.length) →
    p < 768 ∨ p = 801 →
    exec (.transmitComplete p ns) s = .next (sentCopyEnd ci (s.copy ci).out.length ns (countSent p (s.copy ci).queue (s.copy ci).out s))) ∧
  (∀ (p ns ci : Nat) (s : State), p < 802 →
    (s.tmPort p).sending = some ci →
    ((s.copy ci).stomp || ((s.pkt (s.copy ci).pkt).bad && (s.copy ci).cut)) = false →
    (s.copy ci).cut = true →
    assumedLength s (s.pkt (s.copy ci).pkt) (s.copy ci) + growthOf s (s.pkt (s.copy ci).pkt) (s.copy ci) < (s.copy ci).out.length →
    p < 768 →
    exec (.transmitComplete p ns) s = .next (sentCopyEnd ci (s.copy ci).out.length ns (countSent p (s.copy ci).queue (s.copy ci).out (modTmPort p (fun x => { x with overrun := addAt x.overrun (classOf p (s.copy ci).queue) 1 }) s)))) ∧
  (∀ (p ns ci : Nat) (s : State), p < 802 →
    (s.tmPort p).sending = some ci →
    ((s.copy ci).stomp || ((s.pkt (s.copy ci).pkt).bad && (s.copy ci).cut)) = false →
    ¬ ((s.copy ci).cut = true ∧ assumedLength s (s.pkt (s.copy ci).pkt) (s.copy ci) + growthOf s (s.pkt (s.copy ci).pkt) (s.copy ci) < (s.copy ci).out.length) →
    768 ≤ p →
    p < 800 →
    exec (.transmitComplete p ns) s = .next (recirculate ci ns (countSent p (s.copy ci).queue (s.copy ci).out s))) ∧
  (∀ (ns ci : Nat) (s : State), (s.tmPort 800).sending = some ci →
    ((s.copy ci).stomp || ((s.pkt (s.copy ci).pkt).bad && (s.copy ci).cut)) = false →
    ¬ ((s.copy ci).cut = true ∧ assumedLength s (s.pkt (s.copy ci).pkt) (s.copy ci) + growthOf s (s.pkt (s.copy ci).pkt) (s.copy ci) < (s.copy ci).out.length) →
    exec (.transmitComplete 800 ns) s = .next ((modTmPort 800 (fun x => { x with sending := none }) (countSent 800 (s.copy ci).queue (s.copy ci).out s)).modHost fun h => { h with
      mac := h.mac ++ [ci], macFill := h.macFill + (s.copy ci).out.length })) ∧
  (∀ (p ns i states : Nat) (l : GateList) (s : State), p < 768 →
    ns < 1000 →
    (s.tmPort p).gates.oper = some l →
    entryAt l (cycleOffset l (s.tmPort p).gates.start (clockNs s ns) (changeAt (s.tmPort p).gates)) = some (i, states, 0) →
    exec (.gateEvent p ns) s = .next (cutAtClose p ns (modTmPort p (fun t => { t with gates := { t.gates with entry := i, states := states, done := clockNs s ns, latched := keepLatched t.gates states p } }) s))) ∧
  (∀ (p ns i states : Nat) (l : GateList) (s : State), p < 768 →
    ns < 1000 →
    (s.tmPort p).gates.oper = some l →
    entryAt l (cycleOffset l (s.tmPort p).gates.start (clockNs s ns) (changeAt (s.tmPort p).gates)) = some (i, states, 1) →
    exec (.gateEvent p ns) s = .next (modPort p (fun q => { q with mmHeld := true }) (preemptNow p ns (cutAtClose p ns (modTmPort p (fun t => { t with gates := { t.gates with entry := i, states := states, done := clockNs s ns, latched := keepLatched t.gates states p } }) s))))) ∧
  (∀ (p ns i states : Nat) (l : GateList) (s : State), p < 768 →
    ns < 1000 →
    (s.tmPort p).gates.oper = some l →
    entryAt l (cycleOffset l (s.tmPort p).gates.start (clockNs s ns) (changeAt (s.tmPort p).gates)) = some (i, states, 2) →
    exec (.gateEvent p ns) s = .next (modPort p (fun q => { q with mmHeld := false }) (cutAtClose p ns (modTmPort p (fun t => { t with gates := { t.gates with entry := i, states := states, done := clockNs s ns, latched := keepLatched t.gates states p } }) s)))) ∧
  (∀ (p ns t : Nat) (l : GateList) (s : State), p < 768 →
    ns < 1000 →
    (s.tmPort p).gates.pend = some (l, t) →
    t ≤ clockNs s ns →
    exec (.gateConfigChange p ns) s = .next (gateTo p (clockNs s ns) ns (raiseEvent 0x0801 (le 2 p ++ zeros 6 ++ le 6 (t / 10 ^ 9) ++ le 4 (t % 10 ^ 9))
      (modTmPort p (fun x => { x with gates := { x.gates with oper := some l, start := t, pend := none, changeTime := t } }) s)))) ∧
  (∀ (s : State), exec (.sojournDiscard) s = .next (atBoundary evSojourn [] s)) ∧
  (∀ (ci : Nat) (s : State), overdueCopies s (fun c => !heldCopy s c) = [ci] →
    heldCopy s (s.copy ci) = false →
    Sys2Proof.Machine.sojournDiscard s = dropCopyEnd ci 20 0 (queueStat (s.copy ci).port (s.copy ci).queue (fun x => { x with sojourn := x.sojourn + 1 }) s)) ∧
  (∀ (p : Nat) (s : State), p < 768 →
    exec (.holdSojournDrop p) s = .next (atBoundary evHoldSojourn (le 2 p) s)) ∧
  (∀ (p ci : Nat) (s : State), overdueCopies s (fun c => heldCopy s c && c.port == p) = [ci] →
    heldCopy s (s.copy ci) = true →
    (s.copy ci).port = p →
    holdSojourn p s = dropCopyEnd ci 33 0 (portCount p 61 1 s))

/-- Learning, ageing, flap damping and next hops (R165 to R175). -/
def Obligations.LearningAndAgeingEvents : Prop :=
  (∀ (q : Nat) (s : State), q < 4 →
    exec (.ageingVisit q) s = .next (atBoundary evAgeing (le 1 q) s)) ∧
  (∀ (q : Nat) (s : State), visiting s.tab s.beat = true →
    (s.quad q).lastVisit ≠ s.beat + 1 →
    262144 ≤ (s.quad q).sweep ∨ bucketLocked s q (s.quad q).sweep = false →
    Sys2Proof.Machine.ageingVisit q s = ageVisit q (s.quad q).sweep (modQuad q (fun x => { x with sweep := ((s.quad q).sweep + 1) % 263168, lastVisit := s.beat + 1 }) s)) ∧
  (∀ (q : Nat) (s : State), visiting s.tab s.beat = true →
    (s.quad q).lastVisit ≠ s.beat + 1 →
    (s.quad q).sweep < 262144 →
    bucketLocked s q (s.quad q).sweep = true →
    Sys2Proof.Machine.ageingVisit q s = defer q (.visit (s.quad q).sweep) (modQuad q (fun x => { x with sweep := ((s.quad q).sweep + 1) % 263168, lastVisit := s.beat + 1 }) s)) ∧
  (∀ (q key : Nat) (s : State), q < 4 →
    exec (.flapRelease q key) s = .next (atBoundary evFlapRelease (le 1 q ++ le 8 key) s)) ∧
  (∀ (q key a pos : Nat) (e : EmtEntry) (s : State), (s.quad q).frozen.find key = some a →
    a + s.tab.dampHold ≤ s.beat →
    emtFind s.tab ((modQuad q (fun x => { x with frozen := x.frozen.del key }) s).quad q) 1 key = some (pos, e) →
    Sys2Proof.Machine.flapRelease q key s = notify 6 q key e.result e.result (modQuad q (fun x => { x with emt := x.emt.put pos { e with frozen := false } })
      (modQuad q (fun x => { x with frozen := x.frozen.del key }) s))) ∧
  (∀ (q key a : Nat) (s : State), (s.quad q).frozen.find key = some a →
    a + s.tab.dampHold ≤ s.beat →
    emtFind s.tab ((modQuad q (fun x => { x with frozen := x.frozen.del key }) s).quad q) 1 key = none →
    Sys2Proof.Machine.flapRelease q key s = modQuad q (fun x => { x with frozen := x.frozen.del key }) s) ∧
  (∀ (q key : Nat) (s : State), q < 4 →
    exec (.flapWindowEnd q key) s = .next (atBoundary evFlapWindow (le 1 q ++ le 8 key) s)) ∧
  (∀ (q key : Nat) (s : State), Sys2Proof.Machine.flapWindowEnd q key s =
      modQuad q (fun x => { x with flaps := x.flaps.filter fun f => !(f.key == key && decide (f.start + s.tab.dampWindow ≤ s.beat)) }) s) ∧
  (∀ (q : Nat) (s : State), q < 4 →
    exec (.deferredLearnRelease q) s = .next (atBoundary evDeferred (le 1 q) s)) ∧
  (∀ (q room : Nat) (d : Deferral) (s : State), (s.quad q).queue = [d] →
    stillLocked s q d = false →
    0 < room →
    releaseDeferred q room s = deferredApply q d (modQuad q (fun y => { y with queue := y.queue.erase d }) s)) ∧
  (∀ (i : Nat) (s : State), i < 131072 →
    exec (.nhQuarantineEnd i) s = .next (atBoundary evNhEnd (le 4 i) s)) ∧
  (∀ (i d m : Nat) (s : State), (s.tab.nh.get {} i).quarantine = some (d, m) →
    d + max m s.tm.s + 16 ≤ s.beat →
    Sys2Proof.Machine.nhQuarantineEnd i s = s.modTab fun t => { t with nh := t.nh.del i }) ∧
  (∀ (i d m : Nat) (s : State), (s.tab.nh.get {} i).quarantine = some (d, m) →
    s.beat < d + max m s.tm.s + 16 →
    Sys2Proof.Machine.nhQuarantineEnd i s = s.modTab fun t => { t with nh := t.nh.upd {} i fun e => { e with quarantine := some (d, max m s.tm.s) } }) ∧
  (∀ (q : Nat) (s : State), q < 4 →
    exec (.ternBlockMoveDone q) s = .next (atBoundary evMoveDone (le 1 q) s)) ∧
  (∀ (q : Nat) (m : BlockMove) (u : State) (s : State), (s.quad q).move = some m →
    m.count ≤ m.done + 64 →
    eachDo (List.range (m.count - m.done)) (fun i v =>
        ternCopy q (if m.down then m.start + m.done + i - 1 else m.start + m.count - 1 - m.done - i + 1)
          ((v.quad q).tern.find (if m.down then m.start + m.done + i else m.start + m.count - 1 - m.done - i))
          ((v.quad q).shadow.find (if m.down then m.start + m.done + i else m.start + m.count - 1 - m.done - i)) v) s = u →
    ternMoveStep q s = raiseEvent 0x0704 (le 1 q ++ zeros 3 ++ le 4 m.start ++ le 4 m.count) (modQuad q (fun x => { x with move := none })
      (ternPut q (if m.down then m.start + m.count - 1 else m.start) m.hole false u)))

/-- Table DMA (R174 to R177). The place of a started channel among the mailboxes' writes is the model's choice (log entry 218). -/
def Obligations.TableDmaEvents : Prop :=
  (∀ (c value v : Nat) (u : State) (h : HostAnswer) (s : State), c < 4 →
    hostUp s = true →
    (s.tdcOf c).go = false →
    v = Nat.lor value (2 ^ 31) →
    u = modTdcOf c (fun x => { x with code := 0, moved := 0, staged := 0, fail := 0, abort := false }) (modTdcOf c (fun y => if bit v 0 then { y with ctrl := Nat.land v 0x00FF0F1F } else { y with ctrl := Nat.land v 0x00FF0F1F, locked := false, lockDue := false }) s) →
    tdcRefusal (u.tdcOf c) ≠ 0 →
    exec (.tdcGo c value h) s = .next (tdcStop c (tdcRefusal (u.tdcOf c)) 0 u)) ∧
  (∀ (c value v : Nat) (u : State) (h : HostAnswer) (s : State), c < 4 →
    hostUp s = true →
    (s.tdcOf c).go = false →
    v = Nat.lor value (2 ^ 31) →
    u = modTdcOf c (fun x => { x with code := 0, moved := 0, staged := 0, fail := 0, abort := false }) (modTdcOf c (fun y => if bit v 0 then { y with ctrl := Nat.land v 0x00FF0F1F } else { y with ctrl := Nat.land v 0x00FF0F1F, locked := false, lockDue := false }) s) →
    tdcRefusal (u.tdcOf c) = 0 →
    bmeOf s 0 = false →
    exec (.tdcGo c value h) s = .next (tdcStop c 6 0 u)) ∧
  (∀ (c value v : Nat) (u : State) (h : HostAnswer) (s : State), c < 4 →
    hostUp s = true →
    (s.tdcOf c).go = false →
    v = Nat.lor value (2 ^ 31) →
    u = modTdcOf c (fun x => { x with code := 0, moved := 0, staged := 0, fail := 0, abort := false }) (modTdcOf c (fun y => if bit v 0 then { y with ctrl := Nat.land v 0x00FF0F1F } else { y with ctrl := Nat.land v 0x00FF0F1F, locked := false, lockDue := false }) s) →
    tdcRefusal (u.tdcOf c) = 0 →
    bmeOf s 0 = true →
    (u.tdcOf c).op = 0 ∨ (u.tdcOf c).op = 4 →
    exec (.tdcGo c value h) s = .next (post 0 evTdcGo (le 1 c) [] (modTdcOf c (fun x => { x with go := true, lockDue := bit (u.tdcOf c).ctrl 0 && (u.tdcOf c).table == 0, goBeat := u.beat, recs := [] }) (u.modPend fun l => l.filter fun w => !(w.kind == evTdcGo && rd w.req 0 1 == c))))) ∧
  (∀ (c value v : Nat) (u : State) (bytes : Bytes) (s : State), c < 4 →
    hostUp s = true →
    (s.tdcOf c).go = false →
    v = Nat.lor value (2 ^ 31) →
    u = modTdcOf c (fun x => { x with code := 0, moved := 0, staged := 0, fail := 0, abort := false }) (modTdcOf c (fun y => if bit v 0 then { y with ctrl := Nat.land v 0x00FF0F1F } else { y with ctrl := Nat.land v 0x00FF0F1F, locked := false, lockDue := false }) s) →
    tdcRefusal (u.tdcOf c) = 0 →
    bmeOf s 0 = true →
    (u.tdcOf c).op ≠ 0 →
    (u.tdcOf c).op ≠ 4 →
    exec (.tdcGo c value (.data bytes)) s = .next (post 0 evTdcGo (le 1 c) [] (modTdcOf c (fun x => { x with go := true, lockDue := bit (u.tdcOf c).ctrl 0 && (u.tdcOf c).table == 0, goBeat := u.beat, recs := (List.range (u.tdcOf c).count).map fun i => part bytes (32 * i) 32 }) (u.modPend fun l => l.filter fun w => !(w.kind == evTdcGo && rd w.req 0 1 == c))))) ∧
  (∀ (c value v : Nat) (u : State) (h : HostAnswer) (s : State), c < 4 →
    hostUp s = true →
    (s.tdcOf c).go = false →
    v = Nat.lor value (2 ^ 31) →
    u = modTdcOf c (fun x => { x with code := 0, moved := 0, staged := 0, fail := 0, abort := false }) (modTdcOf c (fun y => if bit v 0 then { y with ctrl := Nat.land v 0x00FF0F1F } else { y with ctrl := Nat.land v 0x00FF0F1F, locked := false, lockDue := false }) s) →
    tdcRefusal (u.tdcOf c) = 0 →
    bmeOf s 0 = true →
    (u.tdcOf c).op ≠ 0 →
    (u.tdcOf c).op ≠ 4 →
    h = .urca ∨ h = .timeout →
    exec (.tdcGo c value h) s = .next (detect 409 c 0 [] (tdcStop c 4 0 u))) ∧
  (∀ (c : Nat) (s : State), c < 4 →
    hostUp s = true →
    (s.tdcOf c).go = true →
    exec (.tdcAbort c) s = .next (modTdcOf c (fun x => { x with abort := true }) s)) ∧
  (∀ (c : Nat) (s : State), c < 4 →
    hostUp s = true →
    exec (.tdcLockClear c) s = .next (modTdcOf c (fun x => { x with ctrl := setBit x.ctrl 0 false, locked := false, lockDue := false }) s)) ∧
  (∀ (c : Nat) (s : State), c < 4 →
    (s.tdcOf c).go = true →
    exec (.tdcHostError c) s = .next (detect 409 c 0 [] (tdcStop c 4 (s.tdcOf c).moved s))) ∧
  (∀ (c : Nat) (s : State), c < 4 →
    exec (.tdcDone c) s = .next (atBoundary evTdcDone (le 1 c) s)) ∧
  (∀ (c : Nat) (pre : Tables) (u : State) (s : State), (s.tdcOf c).go = true →
    (s.tdcOf c).op = 0 →
    (s.tdcOf c).lockDue = false →
    (s.tdcOf c).locked = false ∨ (s.tdcOf c).lockAt ≠ s.beat →
    (s.tdcOf c).moved ≤ (s.tdcOf c).count →
    (s.tdcOf c).count ≤ (s.tdcOf c).moved + 256 →
    eachDo (List.range ((s.tdcOf c).count - (s.tdcOf c).moved)) (fun i =>
      hostWrite 0 ((s.tdcOf c).addr + 32 * ((s.tdcOf c).moved + i)) (recordAt pre (s.tdcOf c).table ((quadsOf (s.tdcOf c).mask).headD 0) ((s.tdcOf c).start + (s.tdcOf c).moved + i))) s = u →
    tdcStep pre c s = tdcFinish c (modTdcOf c (fun y => { y with moved := (s.tdcOf c).count }) u)) ∧
  (∀ (c : Nat) (s : State), c < 4 →
    exec (.tdcLockTimeout c) s = .next (atBoundary evTdcLock (le 1 c) s)) ∧
  (∀ (c : Nat) (s : State), (s.tdcOf c).locked = true →
    (s.tdcOf c).lockAt + (s.tdcOf c).lockBeats ≤ s.beat →
    Sys2Proof.Machine.tdcLockTimeout c s = raiseEvent 0x0702 (le 1 c) (tdcStop c 5 (s.tdcOf c).moved (modTdcOf c (fun x => { x with locked := false }) s)))

/-- The minute roll (R281 to R293). -/
def Obligations.LedgerRollEvents : Prop :=
  (∀ (s : State), s.ledger.st = 1 ∨ (s.ledger.st = 2 ∧ openMinute s s.time.sec ≤ s.ledger.stopMin) →
    s.time.sec ≤ (clockAt s 1000).sec →
    openMinute s s.time.sec < minuteIndex (clockAt s 1000).sec →
    endSeen s (openMinute s s.time.sec) = false →
    s.ledger.roll.step = 0 →
    exec (.minuteEnd) s = .next (s.modLedger fun l => { l with
      roll := { l.roll with step := 1, minute := openMinute s s.time.sec, e := s.beat, smax := max l.smax s.tm.s }, smax := s.tm.s })) ∧
  (∀ (s : State), s.ledger.st = 1 ∨ (s.ledger.st = 2 ∧ openMinute s s.time.sec ≤ s.ledger.stopMin) →
    s.time.sec ≤ (clockAt s 1000).sec →
    openMinute s s.time.sec < minuteIndex (clockAt s 1000).sec →
    endSeen s (openMinute s s.time.sec) = false →
    s.ledger.roll.step ≠ 0 →
    exec (.minuteEnd) s = .next (s.modLedger fun l => { l with endBeat := some s.beat, endMin := openMinute s s.time.sec })) ∧
  (∀ (s : State), exec (.rollStart) s = .next (atBoundary evRollStart [] s)) ∧
  (∀ (s : State), s.ledger.roll.step = 1 →
    s.ledger.roll.e + s.ledger.roll.smax + 16 ≤ s.beat →
    Sys2Proof.Machine.rollStart s = eachDo [0, 1, 2, 3] (rollQuad s.ledger.roll.minute true) (rejoinUnits (s.modLedger fun l => { l with
      opn := s.ledger.roll.minute + 1, roll := { s.ledger.roll with step := 2 } }))) ∧
  (∀ (s : State), s.ledger.roll.step = 2 →
    (s.ledger.quads.any fun e => setsLeft s.ledger.roll.minute e.2 || e.2.queue.any fun r => r.minute == s.ledger.roll.minute) = false →
    completes .rollFlushDone s fun t => t.ledger.roll = { s.ledger.roll with step := 3, histPos := nth s.ledger.written 0, lostRate := min (total (s.ledger.quads.map fun e => nth e.2.lost (s.ledger.roll.minute % 2))) (2 ^ 32 - 1) } ∧ onlyChanges [.ledger] s t ∧
      t.ledger.recs = s.ledger.recs ∧ t.ledger.rows = s.ledger.rows ∧ t.ledger.written = s.ledger.written) ∧
  (∀ (s : State), s.ledger.roll.step = 3 →
    exec (.rollScanDone) s = .next (ledgerTraffic [0, 1, 2, 3] (eachDo (eachDo s.ledger.recs.keys (scanRecord s.ledger.roll.minute) s).ledger.deferred applyFlush
      ((eachDo s.ledger.recs.keys (scanRecord s.ledger.roll.minute) s).modLedger fun l => { l with deferred := [], roll := { l.roll with step := 4 } })))) ∧
  (∀ (u v : State) (s : State), s.ledger.roll.step = 4 →
    u = eachDo (minuteRows s s.ledger.roll.minute) (poisonRow s.ledger.roll.minute) s →
    v = eachDo (rollTenants u s.ledger.roll.minute) (tenantRecord s.ledger.roll.minute) u →
    exec (.rollTenantDone) s = .next (ledgerTraffic [0, 1, 2, 3] ((modMinute s.ledger.roll.minute 
      (fun f => { f with lost := f.lost.filter fun t => unitLost v (unitOf v (halfLas v t s.ledger.roll.minute)) }) v).modLedger fun l => { l with
        marks := l.marks ++ [(s.ledger.roll.minute, s.ledger.roll.histPos, if (s.minuteOf s.ledger.roll.minute).keylog.isEmpty then nth s.ledger.written 1 else (s.minuteOf s.ledger.roll.minute).keyFirst, nth s.ledger.written 2)],
        roll := { l.roll with step := 5, root := merkleRoot l.roll.leaves.length l.roll.leaves } }))) ∧
  (∀ (s : State), s.ledger.roll.step = 5 →
    s.fw.hand = false →
    s.boot.ittasRun = true →
    s.boot.halted = false →
    s.ledger.endBeat = none →
    s.ledger.roll.waiting = [] →
    completes .rollSignDone s fun t => t.ledger.sealed = s.ledger.roll.minute + 1 ∧ t.ledger.roll = {} ∧
      t.ledger.seq = (if s.ledger.lastSeal.isEmpty then 0 else s.ledger.seq) + 1 ∧
      t.ledger.slot = (s.ledger.slot + 1) % max 1 (nth s.ledger.rings 3) ∧
      t.ledger.lastSeal = sealHead s ++ slhSign s.ledger.key (sealHead s) (takeFreeBytes 16 s).1 ∧ onlyChanges [.ledger, .mem, .evt, .freeCtr, .power] s t) ∧
  (∀ (q : Nat) (r : FlushReq) (l : List FlushReq) (s : State), q < 4 →
    (s.lquad q).queue = r :: l →
    r.released = true →
    moverTurn s q (waitingPorts s q) = true →
    exec (.flushRequestApply q) s = .next (onChannel q (fun s => ledgerTraffic [q] (applyFlush r (whenDo (s.ledger.roll.step == 2) (rollQuad s.ledger.roll.minute false q)
      (modLquad q (fun x => { x with queue := l }) s)))) s))

/-- The memory ports (R298 to R325). -/
def Obligations.MemoryPortEvents : Prop :=
  (∀ (p : Nat) (s : State), p < 4 →
    (s.memPort p).st = 0 ∨ ((s.memPort p).st = 8 ∧ (s.memPort p).present = false) →
    exec (.memPresenceStable p) s = .next (memState p 1 0 (modMemPort p (fun m => { m with present := true, perst := false, viral := false, poison := [], mem := [] }) s))) ∧
  (∀ (p : Nat) (s : State), p < 4 →
    (s.memPort p).st = 1 →
    (s.memPort p).perst = false →
    timeCome s ((s.memPort p).since + 100000) = true →
    exec (.memPerstRelease p) s = .next (modMemPort p (fun m => { m with perst := true, since := s.beat }) s)) ∧
  (∀ (p rate width : Nat) (s : State), p < 4 →
    (s.memPort p).st = 1 →
    (s.memPort p).perst = true →
    rate = 32 ∨ rate = 16 →
    width = 8 ∨ width = 4 →
    exec (.memLinkL0 p rate width true) s = .next (memState p 2 0 (modMemPort p (fun m => { m with rate := rate, width := width }) s))) ∧
  (∀ (p rate width : Nat) (cxl : Bool) (s : State), p < 4 →
    (s.memPort p).st = 1 →
    (s.memPort p).perst = true →
    (cxl && (rate == 32 || rate == 16) && (width == 8 || width == 4)) = false →
    exec (.memLinkL0 p rate width cxl) s = .next (memState p 8 1 (modMemPort p (fun m => { m with rate := rate, width := width }) s))) ∧
  (∀ (p : Nat) (s : State), p < 4 →
    (s.memPort p).st = 1 →
    (s.memPort p).perst = true →
    timeCome s ((s.memPort p).since + 200000) = true →
    exec (.memTrainingTimeout p) s = .next (memState p 8 1 s)) ∧
  (∀ (p : Nat) (i : MemIdent) (s : State), p < 4 →
    (s.memPort p).st = 2 →
    identFault i = 0 →
    exec (.memEnumerationDone p i) s = .next (memState p 3 0 (modMemPort p (fun m => { m with cap := capacityOf i.capacity }) s))) ∧
  (∀ (p : Nat) (i : MemIdent) (s : State), p < 4 →
    (s.memPort p).st = 2 →
    identFault i ≠ 0 →
    exec (.memEnumerationDone p i) s = .next (memState p 8 (identFault i) s)) ∧
  (∀ (p : Nat) (s : State), p < 4 →
    [2, 3, 4, 5, 6].contains (s.memPort p).st = true →
    (s.memPort p).losing = none →
    exec (.memLinkDown p) s = .next (modMemPort p (fun m => { m with losing := some 16 }) s)) ∧
  (∀ (p : Nat) (s : State), p < 4 →
    [2, 3, 4, 5, 6].contains (s.memPort p).st = true →
    (s.memPort p).losing = none →
    completes (.memPresenceLost p) s fun t => t.memPort p = { s.memPort p with present := false, losing := some 17 } ∧
      (∀ q, q ≠ p → t.memPort q = s.memPort q) ∧ onlyChanges [.mem] s t) ∧
  (∀ (p : Nat) (s : State), p < 4 →
    (s.memPort p).st = 7 ∨ (s.memPort p).st = 9 →
    exec (.memPresenceLost p) s = .next (memState p 0 0 (modMemPort p (fun m => { m with present := false }) s))) ∧
  (∀ (p : Nat) (s : State), p < 4 →
    exec (.memRequestTimeout p) s = .next (memLosing p 18 (memCount p 4 1 s))) ∧
  (∀ (p code : Nat) (s : State), p < 4 →
    exec (.memBadCompletion p code) s = .next (partnerLog 2 p code (memCount p 5 1 s))) ∧
  (∀ (p : Nat) (s : State), p < 4 →
    exec (.memViralIndication p) s = .next (partnerLog 2 p 4 (modMemPort p (fun m => { m with viral := true }) s))) ∧
  (∀ (p : Nat) (record : Bytes) (s : State), p < 4 →
    exec (.memHealthRecord p record) s = .next (raiseEvent 0x0B03 (le 1 p ++ le 1 record.length ++ zeros 6 ++ record) s)) ∧
  (∀ (p q a : Nat) (reader : PoisonReader) (s : State), p < 4 →
    (∀ k, reader = .ledger k → k < 4) →
    (∀ c, reader = .mover c → c < 8) →
    memReads s p = true →
    ((unitPorts s ((memUnits s).findIdx fun l => l.contains p)).filter (· != p)).find? (fun q => memReads s q && !(s.memPort q).viral) = some q →
    exec (.memPoisonRead p a reader) s = .next (poisonRepair p q a s)) ∧
  (∀ (p a ch : Nat) (s : State), p < 4 →
    ch < 8 →
    memReads s p = true →
    ((unitPorts s ((memUnits s).findIdx fun l => l.contains p)).filter (· != p)).find? (fun q => memReads s q && !(s.memPort q).viral) = none →
    exec (.memPoisonRead p a (.mover ch)) s = .next (xdcStop ch 5 (lasOf s p a / 256 * 256) p (poisonTell p a s))) ∧
  (∀ (p a q : Nat) (s : State), p < 4 →
    q < 4 →
    memReads s p = true →
    ((unitPorts s ((memUnits s).findIdx fun l => l.contains p)).filter (· != p)).find? (fun k => memReads s k && !(s.memPort k).viral) = none →
    exec (.memPoisonRead p a (.ledger q)) s = .next (poisonLost q (lasOf s p a) (poisonTell p a s))) ∧
  (∀ (p a : Nat) (s : State), p < 4 →
    memReads s p = true →
    ((unitPorts s ((memUnits s).findIdx fun l => l.contains p)).filter (· != p)).find? (fun q => memReads s q && !(s.memPort q).viral) = none →
    exec (.memPoisonRead p a .sealGet) s = .next (modMemPort p (fun m => { m with poison := a / 256 :: m.poison.filter (· != a / 256) }) s)) ∧
  (∀ (p : Nat) (s : State), p < 4 →
    (s.memPort p).st = 4 →
    (s.memPort p).leaving = none →
    exec (.resilverComplete p) s = .next (modMemPort p (fun m => { m with mem := Memory.lay (sealCopy s (Nat.xor p 1) p) (regionBytes s (Nat.xor p 1)), rebuilt := true }) s)) ∧
  (∀ (p q : Nat) (s : State), p < 4 →
    (s.memPort p).st = 5 →
    (s.memPort p).leaving = none →
    lowestOnline s = some q →
    exec (.zeroingComplete p) s = .next (modMemPort p (fun m => { m with rebuilt := true, mem := Memory.lay (sealCopy s q p) [] }) s)) ∧
  (∀ (p : Nat) (s : State), p < 4 →
    (s.memPort p).st = 5 →
    (s.memPort p).leaving = none →
    lowestOnline s = none →
    exec (.zeroingComplete p) s = .next (modMemPort p (fun m => { m with rebuilt := true, mem := [] }) s)) ∧
  (∀ (p : Nat) (s : State), p < 4 →
    exec (.memOfflineReached p) s = .next (atBoundary evMemOffline (le 1 p) s)) ∧
  (∀ (p o : Nat) (s : State), (s.memPort p).leaving = some o →
    (s.memPort p).stopped = true →
    Sys2Proof.Machine.memOfflineReached p s = answerOk o [] (memState p 9 32 (modMemPort p (fun m => { m with leaving := none }) s))) ∧
  (∀ (q : Nat) (s : State), q < 4 →
    moverTurn s 4 (waitingPorts s 4) = true →
    exec (.captureRecordWrite q) s = .next (onChannel 4 (captureWrite q) s)) ∧
  (∀ (q id : Nat) (header frame : Bytes) (l : List (Nat × Bytes × Bytes)) (c : Capture) (s : State), s.mem.capq.get [] q = (id, header, frame) :: l →
    s.mem.captures.find id = some c →
    rangeLost s ((s.mem.regions.get {} c.region).base + c.wr % max 1 (s.mem.regions.get {} c.region).size) (64 + c.snap) = false →
    c.stop = false →
    (captureWrite q s).mem.captures.find id = some { c with seq := (c.seq + 1) % 2 ^ 32, wr := c.wr + (64 + c.snap) } ∧
      (captureWrite q s).mem.capq.get [] q = l ∧ onlyChanges [.mem, .xdc, .power] s (captureWrite q s))

/-- The memory mover (R316 to R323). -/
def Obligations.MoverEvents : Prop :=
  (∀ (c value : Nat) (u : State) (s : State), c < 8 →
    hostUp s = true →
    bit (Nat.lor value (2 ^ 31)) 30 = false →
    6 ≤ c →
    (s.xdcOf c).go = false →
    (s.xdcOf c).halted = false →
    u = modXdcOf c (fun x => { x with irq := bit (Nat.lor value (2 ^ 31)) 0 }) s →
    bmeOf s 0 = true →
    (s.xdcOf c).desc % 64 = 0 →
    exec (.xdcGo c value) s = .next (modXdcOf c (fun x => { x with go := true, code := 0, fin := 0, fetched := 0, next := x.desc, cur := x.desc }) u)) ∧
  (∀ (c value : Nat) (u : State) (s : State), c < 8 →
    hostUp s = true →
    bit (Nat.lor value (2 ^ 31)) 30 = false →
    6 ≤ c →
    (s.xdcOf c).go = false →
    (s.xdcOf c).halted = false →
    u = modXdcOf c (fun x => { x with irq := bit (Nat.lor value (2 ^ 31)) 0 }) s →
    bmeOf s 0 = false →
    exec (.xdcGo c value) s = .next (xdcStop c 6 0 0 (modXdcOf c (fun x => { x with go := true, code := 0, fin := 0, fetched := 0, next := x.desc, cur := x.desc }) u))) ∧
  (∀ (c value : Nat) (u : State) (s : State), c < 8 →
    hostUp s = true →
    bit (Nat.lor value (2 ^ 31)) 30 = false →
    6 ≤ c →
    (s.xdcOf c).go = false →
    (s.xdcOf c).halted = false →
    u = modXdcOf c (fun x => { x with irq := bit (Nat.lor value (2 ^ 31)) 0 }) s →
    bmeOf s 0 = true →
    (s.xdcOf c).desc % 64 ≠ 0 →
    exec (.xdcGo c value) s = .next (xdcStop c 1 0 0 (modXdcOf c (fun x => { x with go := true, code := 0, fin := 0, fetched := 0, next := x.desc, cur := x.desc }) u))) ∧
  (∀ (c : Nat) (s : State), c < 8 →
    hostUp s = true →
    (s.xdcOf c).go = true →
    6 ≤ c →
    exec (.xdcAbort c) s = .next (xdcStop c 6 0 0 s)) ∧
  (∀ (c : Nat) (s : State), c < 8 →
    hostUp s = true →
    (s.xdcOf c).err = true →
    clearsBit s (xdcStatusReg c) 2 1 = true →
    completes (.xdcErrorClear c) s fun t => (t.xdcOf c).err = false ∧ (t.xdcOf c).halted = false ∧
      (t.xdcOf c).go = (s.xdcOf c).go ∧ (∀ k, k ≠ c → t.xdcOf k = s.xdcOf k) ∧ onlyChanges [.xdc] s t) ∧
  (∀ (c : Nat) (s : State), c < 8 →
    (s.xdcOf c).go = true →
    (s.xdcOf c).next = 0 →
    0 < (s.xdcOf c).fetched →
    exec (.moverChainDone c) s = .next (xdcIrq c (markSet (xdcStatusReg c) 0 (modXdcOf c (fun x => { x with go := false, done := true }) s)))) ∧
  (∀ (c addr : Nat) (s : State), c < 8 →
    (s.xdcOf c).go = true →
    exec (.moverChannelStop c 3 addr) s = .next (xdcStop c 3 addr (readPort s (unitOf s addr)) s)) ∧
  (∀ (c addr : Nat) (s : State), c < 8 →
    (s.xdcOf c).go = true →
    exec (.moverChannelStop c 4 addr) s = .next (xdcStop c 4 addr (readPort s (unitOf s addr)) (memLosing (readPort s (unitOf s addr)) 18 (memCount (readPort s (unitOf s addr)) 4 1 s)))) ∧
  (∀ (c addr : Nat) (s : State), c < 8 →
    (s.xdcOf c).go = true →
    exec (.moverChannelStop c 5 addr) s = .next (xdcStop c 5 addr (readPort s (unitOf s addr)) (poisonTell (readPort s (unitOf s addr)) (moduleAddr s addr) s))) ∧
  (∀ (c : Nat) (desc table data : HostAnswer) (s : State), c < 8 →
    (s.xdcOf c).go = true →
    (s.xdcOf c).next ≠ 0 ∨ (s.xdcOf c).fetched = 0 →
    64 ≤ (s.xdcOf c).fetched →
    exec (.moverDescriptor c desc table data) s = .next (xdcStop c 2 0 0 s)) ∧
  (∀ (c : Nat) (desc table data : HostAnswer) (s : State), c < 8 →
    (s.xdcOf c).go = true →
    (s.xdcOf c).next ≠ 0 ∨ (s.xdcOf c).fetched = 0 →
    (s.xdcOf c).fetched < 64 →
    desc = .urca ∨ desc = .timeout →
    exec (.moverDescriptor c desc table data) s = .next (xdcStop c 3 (s.xdcOf c).next 0 (modXdcOf c (fun x => { x with cur := x.next, fetched := x.fetched + 1 }) s))) ∧
  (∀ (c : Nat) (d : Bytes) (table data : HostAnswer) (s : State), c < 8 →
    (s.xdcOf c).go = true →
    (s.xdcOf c).next ≠ 0 ∨ (s.xdcOf c).fetched = 0 →
    (s.xdcOf c).fetched < 64 →
    moverTurn s c (descriptorPorts s d) = true →
    exec (.moverDescriptor c (.data d) table data) s = .next (onChannel c (fun u => descriptorEnd c d (moverOp d table data u)) (modXdcOf c (fun x => { x with cur := x.next, fetched := x.fetched + 1 }) s))) ∧
  (∀ (c code addr n : Nat) (d : Bytes) (u : State), descriptorEnd c d (.stop code addr n u) = completionWrite d n code (xdcStop c code addr (readPort u (unitOf u addr)) (moverBytes c n u))) ∧
  (∀ (c n : Nat) (d : Bytes) (u : State), bit (rd d 1 1) 3 = false →
    descriptorEnd c d (.ok n u) = completionWrite d n 0 (modXdcOf c (fun x => { x with fin := x.fin + 1, next := rd d 24 8 }) (moverBytes c n u))) ∧
  (∀ (d : Bytes) (table data : HostAnswer) (s : State), rd d 24 8 % 64 = 0 →
    rd d 0 1 = 3 →
    moverOp d table data s = .ok 0 s)

/-- Host rings, the CPU-port MAC and filters (R377 to R393). -/
def Obligations.HostRingEvents : Prop :=
  (∀ (r value : Nat) (s : State), r < 32 →
    hostUp s = true →
    postedOf ((modRing r (fun x => { x with tail := value % 65536 }) s).ring r) ≤ 2 ^ (s.ring r).size →
    exec (.hrqTailWrite r value) s = .next (modRing r (fun x => { x with tail := value % 65536 }) s)) ∧
  (∀ (r value : Nat) (s : State), r < 32 →
    hostUp s = true →
    2 ^ (s.ring r).size < postedOf ((modRing r (fun x => { x with tail := value % 65536 }) s).ring r) →
    exec (.hrqTailWrite r value) s = .next (stopRing r 1 0 (modRing r (fun x => { x with tail := value % 65536 }) s))) ∧
  (∀ (r : Nat) (s : State), r < 32 →
    hostUp s = true →
    exec (.hrqReset r) s = .next (modRing r (fun x => { x with
      resetting := true, code := 0, stopped := false, frozen := false, on := false, head := 0, tail := 0, err := 0, since := 0, firstBeat := none }) s)) ∧
  (∀ (r value v : Nat) (s : State), r < 32 →
    hostUp s = true →
    v = Nat.lor value (2 ^ 31) →
    bit v 30 = false →
    (s.ring r).on = false →
    (s.ring r).irq = true ∨ ((s.ring r).half = false ∧ (s.ring r).stopped = false ∧ (s.ring r).frozen = false) →
    ringSettingsOk r ((modRing r (fun x => { x with vec := some (fld v 29 24), irq := bit v 23, size := fld v 19 16, buf := fld v 14 8 }) s).ring r) = true →
    exec (.hrqEnable r value) s = .next (modRing r (fun x => { x with on := true }) (modRing r (fun x => { x with vec := some (fld v 29 24), irq := bit v 23, size := fld v 19 16, buf := fld v 14 8 }) s))) ∧
  (∀ (r value v : Nat) (s : State), r < 32 →
    hostUp s = true →
    v = Nat.lor value (2 ^ 31) →
    bit v 30 = false →
    (s.ring r).on = false →
    (s.ring r).irq = true ∨ ((s.ring r).half = false ∧ (s.ring r).stopped = false ∧ (s.ring r).frozen = false) →
    ringSettingsOk r ((modRing r (fun x => { x with vec := some (fld v 29 24), irq := bit v 23, size := fld v 19 16, buf := fld v 14 8 }) s).ring r) = false →
    exec (.hrqEnable r value) s = .next (modRing r (fun x => { x with code := 1 }) (modRing r (fun x => { x with vec := some (fld v 29 24), irq := bit v 23, size := fld v 19 16, buf := fld v 14 8 }) s))) ∧
  (∀ (r value : Nat) (s : State), r < 32 →
    hostUp s = true →
    bit (Nat.lor value (2 ^ 31)) 30 = true →
    exec (.hrqEnable r value) s = .next (resetRing r s)) ∧
  (∀ (r value v : Nat) (s : State), r < 32 →
    hostUp s = true →
    v = Nat.lor value (2 ^ 31) →
    bit v 30 = false →
    (s.ring r).on = true →
    (s.ring r).irq = true ∨ ((s.ring r).half = false ∧ (s.ring r).stopped = false ∧ (s.ring r).frozen = false) →
    exec (.hrqEnable r value) s = .next (modRing r (fun x => { x with vec := some (fld v 29 24), irq := bit v 23 }) s)) ∧
  (∀ (r value v : Nat) (s : State), r < 32 →
    hostUp s = true →
    v = Nat.lor value (2 ^ 31) →
    bit v 30 = false →
    (s.ring r).on = false →
    (s.ring r).irq = false →
    (s.ring r).half = true ∨ (s.ring r).stopped = true ∨ (s.ring r).frozen = true →
    ringSettingsOk r ((modRing r (fun x => { x with vec := some (fld v 29 24), irq := bit v 23, size := fld v 19 16, buf := fld v 14 8 }) s).ring r) = true →
    exec (.hrqEnable r value) s = .next (ringIrq r (modRing r (fun x => { x with on := true }) (modRing r (fun x => { x with vec := some (fld v 29 24), irq := bit v 23, size := fld v 19 16, buf := fld v 14 8 }) s)))) ∧
  (∀ (r : Nat) (s : State), r < 32 →
    completeDue s (s.ring r) = true →
    (s.ring r).irq = true →
    exec (.hrqInterruptInterval r) s = .next (s.modHost fun h => { h with pba1 := setBit h.pba1 (ringVec s r) true })) ∧
  (∀ (ns ci i : Nat) (descs : HostAnswer) (l : List Nat) (s : State), s.host.mac = ci :: l →
    patternOf s ((s.copy ci).out.take ((s.copy ci).out.length - 4)) = some i →
    bit (rd (s.host.pattern.get [] i) 130 1) 0 = true →
    exec (.rxFrameDeliver ns descs) s = .next (dropCopyEnd ci 3 ns (macPop (s.copy ci).out.length (countHit i s)))) ∧
  (∀ (ns ci : Nat) (bs : Bytes) (l : List Nat) (s : State), s.host.mac = ci :: l →
    patternOf s ((s.copy ci).out.take ((s.copy ci).out.length - 4)) = none →
    steerOf s (s.pkt (s.copy ci).pkt) = none →
    ringLive (s.ring 0) = true →
    (s.ring 0).buf ≠ 0 →
    ceilDiv ((s.copy ci).out.take ((s.copy ci).out.length - 4)).length (256 * (s.ring 0).buf) ≤ postedOf (s.ring 0) →
    exec (.rxFrameDeliver ns (.data bs)) s = .next (sentCopyEnd ci (s.copy ci).out.length ns (rxWrite 0 bs ((s.copy ci).out.take ((s.copy ci).out.length - 4)) (s.pkt (s.copy ci).pkt) false 0xFF (macPop (s.copy ci).out.length s)))) ∧
  (∀ (ns ci : Nat) (descs : HostAnswer) (l : List Nat) (s : State), s.host.mac = ci :: l →
    patternOf s ((s.copy ci).out.take ((s.copy ci).out.length - 4)) = none →
    steerOf s (s.pkt (s.copy ci).pkt) = none →
    ringLive (s.ring 0) = false →
    exec (.rxFrameDeliver ns descs) s = .next (dropCopyEnd ci 35 ns (ringCount 0 3 1 (macPop (s.copy ci).out.length s)))) ∧
  (∀ (ns ci i : Nat) (descs : HostAnswer) (l : List Nat) (s : State), s.host.mac = ci :: l →
    patternOf s ((s.copy ci).out.take ((s.copy ci).out.length - 4)) = some i →
    bit (rd (s.host.pattern.get [] i) 130 1) 0 = false →
    exec (.rxFrameDeliver ns descs) s = .next (rxDeliver (rd (s.host.pattern.get [] i) 131 1 % 16) descs true i ci ns (countHit i s))) ∧
  (∀ (ns ci i : Nat) (descs : HostAnswer) (l : List Nat) (s : State), s.host.mac = ci :: l →
    patternOf s ((s.copy ci).out.take ((s.copy ci).out.length - 4)) = none →
    steerOf s (s.pkt (s.copy ci).pkt) = some i →
    exec (.rxFrameDeliver ns descs) s = .next (rxDeliver (rd (s.host.steer.get [] i) 6 1 % 16) descs false i ci ns s)) ∧
  (∀ (r i ci ns : Nat) (byPattern : Bool) (bs : Bytes) (s : State), ringLive (s.ring r) = true →
    (s.ring r).buf ≠ 0 →
    ceilDiv ((s.copy ci).out.take ((s.copy ci).out.length - 4)).length (256 * (s.ring r).buf) ≤ postedOf (s.ring r) →
    rxDeliver r (.data bs) byPattern i ci ns s = sentCopyEnd ci (s.copy ci).out.length ns (rxWrite r bs ((s.copy ci).out.take ((s.copy ci).out.length - 4)) (s.pkt (s.copy ci).pkt) byPattern i (macPop (s.copy ci).out.length s))) ∧
  (∀ (r i ci ns : Nat) (byPattern : Bool) (bs : Bytes) (s : State), ringLive (s.ring r) = true →
    (s.ring r).buf ≠ 0 →
    postedOf (s.ring r) < ceilDiv ((s.copy ci).out.take ((s.copy ci).out.length - 4)).length (256 * (s.ring r).buf) →
    rxDeliver r (.data bs) byPattern i ci ns s = dropCopyEnd ci 35 ns (ringCount r 2 1 (macPop (s.copy ci).out.length s))) ∧
  (∀ (r i ci ns : Nat) (byPattern : Bool) (descs : HostAnswer) (s : State), ringLive (s.ring r) = false ∨ (s.ring r).buf = 0 →
    rxDeliver r descs byPattern i ci ns s = dropCopyEnd ci 35 ns (ringCount r 3 1 (macPop (s.copy ci).out.length s))) ∧
  (∀ (r n len : Nat) (ds bs : Bytes) (descs : List HostAnswer) (l : List Nat) (s : State), dataUp s = true →
    macHeld s = false →
    txReady s = r :: l →
    txSeen (s.ring r) ds = .frame n len →
    exec (.txFrameFetch (.data ds :: descs) (.data bs)) s = .next (txHand r n len ds bs s)) ∧
  (∀ (r code i : Nat) (ds : Bytes) (data : HostAnswer) (descs : List HostAnswer) (l : List Nat) (s : State), dataUp s = true →
    macHeld s = false →
    txReady s = r :: l →
    txSeen (s.ring r) ds = .stop code i →
    exec (.txFrameFetch (.data ds :: descs) data) s = .next (ringCount r 2 1 (hostWrite 1 (descAddr (s.ring r) i + 16) (le 1 0 ++ le 1 code) (stopRing r code i s)))) ∧
  (∀ (r : Nat) (d data : HostAnswer) (descs : List HostAnswer) (l : List Nat) (s : State), dataUp s = true →
    macHeld s = false →
    txReady s = r :: l →
    d = .urca ∨ d = .timeout →
    exec (.txFrameFetch (d :: descs) data) s = .next (txFail r (if d = .timeout then 3 else 4) s)) ∧
  (∀ (r : Nat) (timeout : Bool) (s : State), r < 32 →
    ringLive (s.ring r) = true →
    r < 16 →
    exec (.hostReadFail r timeout) s = .next (detect 408 r 0 [] (stopRing r (if timeout then 3 else 4) 0 s))) ∧
  (∀ (r : Nat) (timeout : Bool) (s : State), r < 32 →
    ringLive (s.ring r) = true →
    16 ≤ r →
    exec (.hostReadFail r timeout) s = .next (detect 408 r 0 [] (ringCount r 2 1 (stopRing r (if timeout then 3 else 4) 0 s)))) ∧
  (∀ (i value : Nat) (s : State), hostUp s = true →
    i < 64 →
    s.host.commits.contains i = false →
    exec (.filterCommitWrite (0x1000 + 8 * i + 4) value) s = .next ((s.modHost fun h => { h with steerHeld := h.steerHeld.upd [] i fun b => part b 0 4 ++ le 4 (Nat.land value 0x000F87FF) ++ part b 8 0 }).modHost fun h => { h with commits := h.commits ++ [i] })) ∧
  (∀ (i value : Nat) (s : State), hostUp s = true →
    i < 32 →
    s.host.commits.contains (64 + i) = false →
    exec (.filterCommitWrite (0x2000 + 256 * i + 128) value) s = .next ((s.modHost fun h => { h with patternHeld := h.patternHeld.upd [] i fun b => part b 0 128 ++ le 4 (Nat.land value 0xFF81FFFF) ++ part b 132 0 }).modHost fun h => { h with commits := h.commits ++ [64 + i] })) ∧
  (∀ (i : Nat) (s : State), i < 64 →
    s.host.commits = [i] →
    filterCommits s = s.modHost fun h => { h with steer := h.steer.put i (part (h.steerHeld.get [] i) 0 8), commits := [] }) ∧
  (∀ (i : Nat) (s : State), s.host.commits = [64 + i] →
    filterCommits s = s.modHost fun h => { h with commits := [], pattern := h.pattern.upd [] i fun b => part (h.patternHeld.get [] i) 0 132 ++ part b 132 124 }) ∧
  (∀ (r n : Nat) (s : State), r < 32 →
    n < 5 →
    hostUp s = true →
    clearsBit s (0x20400 + 0x20 * r + 4 * n) (2 ^ 31) 31 = true →
    exec (.queueStatFoldWrite r n) s = .next (modRing r (fun x => { x with stats := x.stats.set n (nth x.stats n % 2 ^ 31) }) s))

/-- PCIe, interrupts and the host interface (R37, R371 to R397, R464). -/
def Obligations.PcieEvents : Prop :=
  (∀ (v : Nat) (s : State), v < 64 →
    bit s.host.pba0 v = true →
    vectorAsked s 0 v = true →
    bmeOf s 0 = true →
    s.host.msix.getD 0 false = true →
    s.host.unmasked.contains v = true →
    mayTell (s.host.sent.get 0 v) (moderation s 0 v) s.beat = true →
    exec (.msixMessage 0 v) s = .next (clearPending 0 v ((hostWrite 0 (leOf (s.host.table0.readN (16 * v) 8)) (s.host.table0.readN (16 * v + 8) 4) s).modHost fun h => { h with sent := h.sent.put v (s.beat + 1) }))) ∧
  (∀ (v : Nat) (s : State), v < 64 →
    bit s.host.pba1 v = true →
    vectorAsked s 1 v = true →
    bmeOf s 1 = true →
    s.host.msix.getD 1 false = true →
    s.host.unmasked.contains (64 + v) = true →
    mayTell (s.host.sent.get 0 (64 + v)) (moderation s 1 v) s.beat = true →
    exec (.msixMessage 1 v) s = .next (clearPending 1 v ((hostWrite 1 (leOf (s.host.table1.readN (16 * v) 8)) (s.host.table1.readN (16 * v + 8) 4) s).modHost fun h => { h with
      sent := h.sent.put (64 + v) (s.beat + 1), rings := h.rings.mapAll fun r x => if x.vec.getD r = v then { x with since := 0, firstBeat := none } else x }))) ∧
  (∀ (hi b : Nat) (s : State), hostUp s = true →
    b < 32 →
    32 * (hi % 2) + b < 34 →
    exec (.irqTestWrite hi (2 ^ b)) s = .next (irqCause (32 * (hi % 2) + b) s)) ∧
  (∀ (s : State), bmeOf s 1 = true →
    exec (.bmeClearPf1) s = .next (hostErrBit 2 (eachDo (List.range 32) freezeRing (setBme 1 false s)))) ∧
  (∀ (s : State), bmeOf s 0 = true →
    exec (.bmeClearPf0) s = .next (lanternStopHost (xdcStopHost (tdcStopAll (setBme 0 false s))))) ∧
  (∀ (pf : Nat) (msix : Bool) (s : State), pf < 2 →
    hostUp s = true →
    exec (.bmeSet pf msix) s = .next (s.modHost fun h => { h with bme := h.bme.set pf true, msix := h.msix.set pf msix })) ∧
  (∀ (s : State), completes .flrPf1 s fun t => t.host.rings = [] ∧ t.host.steer = [] ∧ t.host.pattern = [] ∧ t.host.commits = [] ∧ t.host.table1 = [] ∧
      t.host.bme.getD 1 false = false ∧ t.host.mem = s.host.mem ∧ t.host.mac = s.host.mac ∧ onlyChanges [.host, .freshSet, .glb] s t) ∧
  (∀ (s : State), completes .flrPf0 s fun t => t.tdc = [] ∧ t.host.enable = 0 ∧ t.host.status = 0 ∧ t.host.pba0 = 0 ∧ t.host.table0 = [] ∧
      t.glb.scratch = 0 ∧ t.glb.hostErr = 0 ∧ t.host.bme.getD 0 false = false ∧ (t.xdcOf 6 = {} ∧ t.xdcOf 7 = {}) ∧ t.glb.beat = s.glb.beat) ∧
  (∀ (s : State), completes .pcieHotReset s fun t => t.glb.linkRate = 0 ∧ t.glb.linkWidth = 0 ∧ t.host.rings = [] ∧ t.tdc = [] ∧
      t.host.bme.getD 1 false = false ∧ t.host.bme.getD 0 false = false ∧ t.glb.scratch = 0) ∧
  (∀ (rate width : Nat) (s : State), hostUp s = true →
    1 ≤ rate →
    rate ≤ 5 →
    [1, 2, 4, 8].contains width = true →
    exec (.pcieLinkTrained rate width) s = .next (s.modGlb fun g => { g with linkRate := rate, linkWidth := width })) ∧
  (∀ (pf code : Nat) (s : State), pf < 2 →
    hostUp s = true →
    exec (.pciePartnerViolation pf code) s = .next (partnerLog 3 pf code s)) ∧
  (∀ (s : State), hostUp s = true →
    exec (.glbBeatLoRead) s = .next ((s.modGlb fun g => { g with beatHi := g.beat / 2 ^ 32 % 2 ^ 32 }).modOut fun o => { o with read := le 4 (s.glb.beat % 2 ^ 32) })) ∧
  (∀ (value : Nat) (host : HostAnswer) (s : State), hostUp s = true →
    exec (.registerWrite 0 0x0C 4 value host) s = .next (s.modGlb fun g => { g with scratch := value % 2 ^ 32 })) ∧
  (∀ (pf offset size value : Nat) (host : HostAnswer) (s : State), pf < 2 →
    offset < (if pf = 0 then 65536 else 16384) →
    hostUp s = true →
    ¬ (size = 4 ∧ offset % 4 = 0) →
    ¬ (size = 8 ∧ offset % 8 = 0) →
    exec (.registerWrite pf offset size value host) s = .next (hostErrBit 0 s))

/-- Front-panel ports (R30, R92 to R107). -/
def Obligations.PortFrameEvents : Prop :=
  (∀ (port vec ns : Nat) (times : List Nat) (q : Port) (u : State) (s : State), port < 768 →
    u = controlOctets port (nowNs s ns) s →
    u.ports.find port = some q →
    q.up = true →
    exec (.pfcFrameReceive port vec times ns) s = .next (eachDo ((bitsOf vec 8).filter fun p => bit q.pfcMask p)
      (fun p => modPort port (loadPause u.tm.expressTc (nowNs s ns) p (nth times p % 65536)))
      (countAt port (nowNs s ns) u.buf.nextPkt (pfcCounts u.tm.expressTc vec q) u))) ∧
  (∀ (port vec ns : Nat) (times : List Nat) (s : State), port < 768 →
    (s.port port).up = false →
    exec (.pfcFrameReceive port vec times ns) s = .next (s)) ∧
  (∀ (port time ns : Nat) (q : Port) (u : State) (s : State), port < 768 →
    u = controlOctets port (nowNs s ns) s →
    u.ports.find port = some q →
    q.up = true →
    bit q.flags 1 = true →
    exec (.pauseFrameReceive port time ns) s = .next (eachDo [0, 1, 2, 3, 4, 5, 6, 7] (fun p => modPort port (loadPause u.tm.expressTc (nowNs s ns) p (time % 65536)))
      (countAt port (nowNs s ns) u.buf.nextPkt ([(22, 1)] ++ if pauseIgnored u.tm.expressTc 0xFF 0xFF q then [(31, 1)] else []) u))) ∧
  (∀ (port time ns : Nat) (q : Port) (u : State) (s : State), port < 768 →
    u = controlOctets port (nowNs s ns) s →
    u.ports.find port = some q →
    q.up = true →
    bit q.flags 1 = false →
    exec (.pauseFrameReceive port time ns) s = .next (countAt port (nowNs s ns) u.buf.nextPkt [(22, 1), (31, 1)] u)) ∧
  (∀ (port time ns : Nat) (s : State), port < 768 →
    (s.port port).up = false →
    exec (.pauseFrameReceive port time ns) s = .next (s)) ∧
  (∀ (e a p time : Nat) (q : Port), bit (pauseMask q) p = true →
    p ≠ e →
    bit q.wdTrip p = false →
    time ≠ 0 →
    loadPause e a p time q = { q with pauseLast := q.pauseLast.set p (a / 1000), pause := q.pause.set p time, pauseAt := q.pauseAt.set p a, pauseFrom := if nth q.pause p = 0 then q.pauseFrom.set p (a / 1000) else q.pauseFrom }) ∧
  (∀ (e a p time : Nat) (q : Port), bit (pauseMask q) p = false ∨ p = e →
    loadPause e a p time q = q) ∧
  (∀ (port prio ns : Nat) (s : State), port < 768 →
    prio < 8 →
    nth (s.port port).pause prio ≠ 0 →
    nth (s.port port).pause prio * 512000 ≤ (nowNs s ns - nth (s.port port).pauseAt prio) * portRate s port →
    exec (.pauseTimerExpire port prio ns) s = .next (modPort port (fun q => { q with pause := q.pause.set prio 0 }) s)) ∧
  (∀ (port : Nat) (f : FlowFrame) (s : State), port < 768 →
    s.ports.has port = true →
    (s.port port).up = true →
    (s.tmPort port).sending = none →
    (s.port port).pfcDue = true →
    f = flowFrame (s.port port) →
    exec (.pfcFrameSend port) s = .next (portCounts port ([(35, 1), (32, 64)] ++ if f.pause then [] else (bitsOf f.vec 8).map fun p => (48 + p, 1))
      (modPort port (fun q => { q with pfcDue := false, pfcRelease := 0, pfcBeat := s.beat, flow := some f }) s))) ∧
  (∀ (port : Nat) (f : FlowFrame) (s : State), port < 768 →
    s.ports.has port = true →
    (s.port port).up = true →
    (s.tmPort port).sending = none →
    (s.port port).xoffSet ≠ 0 ∨ (s.port port).pauseOn = true →
    (s.port port).pfcBeat + 8 ≤ s.beat →
    f = flowFrame (s.port port) →
    exec (.pfcResend port) s = .next (portCounts port ([(35, 1), (32, 64)] ++ if f.pause then [] else (bitsOf f.vec 8).map fun p => (48 + p, 1))
      (modPort port (fun q => { q with pfcDue := false, pfcRelease := 0, pfcBeat := s.beat, flow := some f }) s))) ∧
  (∀ (port prio : Nat) (s : State), port < 768 →
    prio < 8 →
    exec (.pfcWatchdogTrip port prio) s = .next (atBoundary evWatchdogTrip (le 2 port ++ le 1 prio) s)) ∧
  (∀ (port prio : Nat) (s : State), s.ports.has port = true →
    (s.port port).wd ≠ 0 →
    bit (s.port port).pfcMask prio = true →
    bit (s.port port).wdTrip prio = false →
    nth (s.port port).pause prio ≠ 0 →
    nth (s.port port).pauseFrom prio + (s.port port).wd ≤ s.beat →
    watchdogTrip port prio s = tellWatchdog port prio true
      (eachDo (queuedAt (modPort port (fun q => { q with wdTrip := setBit q.wdTrip prio true }) s) port (2 ^ prio))
        (fun ci s => dropCopyEnd ci 22 0 (portCount port 62 1 (portCount port (65 + prio) 1 s)))
        (modPort port (fun q => { q with wdTrip := setBit q.wdTrip prio true }) s))) ∧
  (∀ (port prio : Nat) (s : State), port < 768 →
    prio < 8 →
    exec (.pfcWatchdogRestore port prio) s = .next (atBoundary evWatchdogRestore (le 2 port ++ le 1 prio) s)) ∧
  (∀ (port prio : Nat) (s : State), bit (s.port port).wdTrip prio = true →
    nth (s.port port).pauseLast prio + (s.port port).restore ≤ s.beat →
    watchdogRestore port prio s = tellWatchdog port prio false (modPort port (fun q => { q with wdTrip := setBit q.wdTrip prio false, pauseFrom := q.pauseFrom.set prio s.beat }) s)) ∧
  (∀ (port : Nat) (s : State), port < 768 →
    (s.port port).mmStatus = 1 →
    exec (.mmVerifyResponse port) s = .next (modPort port (fun q => { q with mmStatus := 2 }) s)) ∧
  (∀ (port : Nat) (s : State), port < 768 →
    (s.port port).mmStatus = 1 →
    (s.port port).mmBeat + 1000 * (s.port port).verifyMs ≤ s.beat →
    exec (.mmVerifyTimeout port) s = .next (modPort port (fun q => if 2 ≤ q.mmTries then { q with mmTries := 3, mmStatus := 3 }
      else { q with mmTries := q.mmTries + 1, mmStatus := 1, mmBeat := s.beat, mmSmd := (smdVerify, 0) }) s)) ∧
  (∀ (port : Nat) (s : State), port < 768 →
    exec (.holdWindowExpire port) s = .next (atBoundary evHoldExpire (le 2 port) s)) ∧
  (∀ (port d : Nat) (s : State), (s.port port).holdStart = some d →
    (s.port port).up = false →
    d + (s.port port).hold ≤ s.beat →
    holdExpire port s = raiseEvent 0x0404 (le 2 port) (modPort port (fun q => { q with holdStart := none })
      (eachDo (queuedAt s port 0xFF) (fun ci s => dropCopyEnd ci 34 0 (portCount port 60 1 s)) s))) ∧
  (∀ (port counter : Nat) (s : State), port < 768 →
    counter < 64 →
    bit ((s.port port).counts.get 0 counter) 47 = true →
    exec (.halfRangeFold port counter) s = .next (modPort port (fun q => { q with
      counts := q.counts.upd 0 counter fun v => v - 2 ^ 47, accs := q.accs.upd 0 counter fun v => (v + 2 ^ 47) % 2 ^ 64 }) s)) ∧
  (∀ (port : Nat) (q : Port) (frame : Bytes) (arrived ns : Nat) (codeErr : Bool) (s : State), port < 768 →
    ns < 1000 →
    s.ports.find port = some q →
    q.up = true →
    dataUp s = true →
    exec (.frameReceive port frame arrived codeErr .badAssembly ns) s = .next (portCount port 58 1 s)) ∧
  (∀ (port : Nat) (q : Port) (frame : Bytes) (arrived ns : Nat) (codeErr : Bool) (s : State), port < 768 →
    ns < 1000 →
    s.ports.find port = some q →
    q.up = true →
    dataUp s = true →
    exec (.frameReceive port frame arrived codeErr .verify ns) s = .next (modPort port (fun q => { q with mmSmd := (smdRespond, 0) }) s)) ∧
  (∀ (port : Nat) (q : Port) (frame : Bytes) (arrived ns : Nat) (codeErr : Bool) (u : State) (s : State), port < 768 →
    ns < 1000 →
    s.ports.find port = some q →
    q.up = true →
    dataUp s = true →
    u = (if codeErr then countAt port (arrivalEnd s port frame.length arrived ns) s.buf.nextPkt [(20, 1)] (codeword port s) else s) →
    frame.length < 64 →
    exec (.frameReceive port frame arrived codeErr .whole ns) s = .next (countAt port (arrivalEnd s port frame.length arrived ns) s.buf.nextPkt [(if fcsOk frame then 17 else 18, 1)] u)) ∧
  (∀ (port : Nat) (q : Port) (frame : Bytes) (arrived ns : Nat) (codeErr : Bool) (u : State) (s : State), port < 768 →
    ns < 1000 →
    s.ports.find port = some q →
    q.up = true →
    dataUp s = true →
    u = (if codeErr then countAt port (arrivalEnd s port frame.length arrived ns) s.buf.nextPkt [(20, 1)] (codeword port s) else s) →
    64 ≤ frame.length →
    rdBe frame 12 2 = 0x8808 →
    fcsOk frame = true →
    codeErr = false →
    frame.length ≤ q.max →
    exec (.frameReceive port frame arrived codeErr .whole ns) s = .next (controlFrame port frame (arrivalEnd s port frame.length arrived ns) u)) ∧
  (∀ (port : Nat) (q : Port) (frame : Bytes) (arrived ns : Nat) (codeErr : Bool) (u : State) (s : State), port < 768 →
    ns < 1000 →
    s.ports.find port = some q →
    q.up = true →
    dataUp s = true →
    u = (if codeErr then countAt port (arrivalEnd s port frame.length arrived ns) s.buf.nextPkt [(20, 1)] (codeword port s) else s) →
    64 ≤ frame.length →
    ¬ (rdBe frame 12 2 = 0x8808 ∧ fcsOk frame = true ∧ codeErr = false ∧ frame.length ≤ q.max) →
    ¬ (fcsOk frame = false ∧ frame.length < 128 ∧ frame.length ≤ q.max) →
    exec (.frameReceive port frame arrived codeErr .whole ns) s = .next (queueFrame port q.max frame arrived (fcsOk frame && !codeErr) ns
      (countAt port (arrivalEnd s port frame.length arrived ns) s.buf.nextPkt (receivedCounts q.max frame (fcsOk frame) (fcsOk frame && !codeErr)) u))) ∧
  (∀ (port : Nat) (q : Port) (frame : Bytes) (arrived ns : Nat) (codeErr : Bool) (u : State) (s : State), port < 768 →
    ns < 1000 →
    s.ports.find port = some q →
    q.up = true →
    dataUp s = true →
    u = (if codeErr then countAt port (arrivalEnd s port frame.length arrived ns) s.buf.nextPkt [(20, 1)] (codeword port s) else s) →
    64 ≤ frame.length →
    fcsOk frame = false →
    frame.length < 128 →
    frame.length ≤ q.max →
    exec (.frameReceive port frame arrived codeErr .whole ns) s = .next (countAt port (arrivalEnd s port frame.length arrived ns) s.buf.nextPkt (receivedCounts q.max frame false false) u)) ∧
  (∀ (port : Nat) (frame : Bytes) (arrived ns : Nat) (codeErr : Bool) (mm : MmKind) (s : State), port < 768 →
    ns < 1000 →
    (s.port port).up = false ∨ dataUp s = false →
    exec (.frameReceive port frame arrived codeErr mm ns) s = .next (s)) ∧
  (∀ (port max arrived ns : Nat) (frame : Bytes) (ok : Bool) (u : State) (s : State), u = arriveUpTo (nowNs s ns) (port / 8) s →
    65536 < fifoTaken u (port / 8) + (frame.take max).length →
    queueFrame port max frame arrived ok ns s = countAt port (arrivalEnd u port frame.length arrived ns) u.buf.nextPkt [(21, 1)] u)

/-- Ingress slots, Lantern's exports and the collector of a stopped beat (R29, R115, R337 to R349, R457). -/
def Obligations.IngressAndExportEvents : Prop :=
  (∀ (slice ns o i : Nat) (l : List Nat) (v w : State) (s : State), slice < 32 →
    sliceServed s slice = true →
    w = admitWaiting slice ns (s.arb slice).waiting.length s →
    (w.arb slice).waiting = [] →
    v = eachDo [3 * slice, 3 * slice + 1, 3 * slice + 2] (arriveUpTo (nowNs w ns)) w →
    (v.arb slice).used < slotsPerBeat v →
    nextOctet v slice = some o →
    ¬ ((v.arb slice).used % 512 = 511 ∧ (nextOther v slice).isSome = true) →
    v.buf.fifo.get [] (3 * slice + o) = i :: l →
    exec (.ingressSlot slice ns) s = .next (let u : State := (xoffRefresh (modArb slice (fun a => { a with octet := o, used := a.used + 1, front := a.front + 1 })
        (v.modBuf fun b => { b with fifo := b.fifo.put (3 * slice + o) l })));
      ingressRun i ns (stamp i ns u))) ∧
  (∀ (slice ns o i : Nat) (l : List Nat) (v w : State) (s : State), slice < 32 →
    sliceServed s slice = true →
    w = admitWaiting slice ns (s.arb slice).waiting.length s →
    (w.arb slice).waiting = [] →
    v = eachDo [3 * slice, 3 * slice + 1, 3 * slice + 2] (arriveUpTo (nowNs w ns)) w →
    (v.arb slice).used < slotsPerBeat v →
    nextOctet v slice = none ∨ (v.arb slice).used % 512 = 511 →
    nextOther v slice = some o →
    v.buf.inj.get [] (5 * slice + o) = i :: l →
    exec (.ingressSlot slice ns) s = .next (let u : State := (modArb slice (fun a => { a with other := o, used := a.used + 1, others := a.others + 1 })
        (v.modBuf fun b => { b with inj := b.inj.put (5 * slice + o) l }));
      ingressRun i ns (stamp i ns u))) ∧
  (∀ (slice ns : Nat) (v w : State) (s : State), slice < 32 →
    sliceServed s slice = true →
    w = admitWaiting slice ns (s.arb slice).waiting.length s →
    (w.arb slice).waiting = [] →
    v = eachDo [3 * slice, 3 * slice + 1, 3 * slice + 2] (arriveUpTo (nowNs w ns)) w →
    slotsPerBeat v ≤ (v.arb slice).used ∨ (nextOctet v slice = none ∧ nextOther v slice = none) →
    exec (.ingressSlot slice ns) s = .next (v)) ∧
  (∀ (slice ns : Nat) (w : State) (s : State), slice < 32 →
    sliceServed s slice = true →
    w = admitWaiting slice ns (s.arb slice).waiting.length s →
    (w.arb slice).waiting.isEmpty = false →
    exec (.ingressSlot slice ns) s = .next (w)) ∧
  (∀ (slice ns : Nat) (s : State), slice < 32 →
    sliceServed s slice = false →
    exec (.ingressSlot slice ns) s = .next (s)) ∧
  (∀ (pkt arrived ns n : Nat) (s : State), s.buf.parsing.find pkt = some n →
    ((modPkt pkt (fun k => { k with arrived := max k.arrived (min arrived k.bytes.length) }) s).pkt pkt).arrived < n →
    exec (.parseResume pkt arrived ns) s = .next (modPkt pkt (fun k => { k with arrived := max k.arrived (min arrived k.bytes.length) }) s)) ∧
  (∀ (pkt arrived ns n : Nat) (s : State), s.buf.parsing.find pkt = some n →
    n ≤ ((modPkt pkt (fun k => { k with arrived := max k.arrived (min arrived k.bytes.length) }) s).pkt pkt).arrived →
    exec (.parseResume pkt arrived ns) s = .next (ingressRun pkt ns (modPkt pkt (fun k => { k with arrived := max k.arrived (min arrived k.bytes.length) }) s))) ∧
  (∀ (stream slice : Nat) (s : State), stream < 16 →
    slice < 32 →
    (s.stream stream).kind = 3 →
    (s.builder stream slice).recs ≠ [] →
    (s.builder stream slice).since + (s.stream stream).flush ≤ s.beat →
    exec (.ipfixFlushTimeout stream slice) s = .next (sendMessage stream slice s)) ∧
  (∀ (stream slice : Nat) (s : State), stream < 16 →
    slice < 32 →
    (s.stream stream).kind = 3 →
    (s.builder stream slice).tmpl ≠ 0 →
    (s.builder stream slice).tmpl - 1 + (s.stream stream).refresh ≤ s.time.sec →
    exec (.ipfixTemplateRefresh stream slice) s = .next (sendTemplates stream slice s)) ∧
  (∀ (s : State), moverTurn s 5 (waitingPorts s 5) = true →
    exec (.lanternRingWrite) s = .next (onChannel 5 lanternWrite s)) ∧
  (∀ (i : Nat) (bs : Bytes) (l : List (Nat × Bytes)) (s : State), s.lantern.queue = (i, bs) :: l →
    ((s.modLantern fun q => { q with queue := l }).stream i).kind = 2 →
    ((s.modLantern fun q => { q with queue := l }).stream i).dead = false →
    bmeOf s 0 = true →
    streamFull ((s.modLantern fun q => { q with queue := l }).stream i) (2 ^ ((s.modLantern fun q => { q with queue := l }).stream i).k) = false →
    lanternWrite s = streamCount i 0 1 (modStream i (fun x => { x with wr := x.wr + 64 }) (moverBytes 5 64
      (hostWrite 0 (((s.modLantern fun q => { q with queue := l }).stream i).addr + ((s.modLantern fun q => { q with queue := l }).stream i).wr % 2 ^ ((s.modLantern fun q => { q with queue := l }).stream i).k) (takeSeq i bs (s.modLantern fun q => { q with queue := l })).1 (takeSeq i bs (s.modLantern fun q => { q with queue := l })).2)))) ∧
  (∀ (i : Nat) (bs : Bytes) (l : List (Nat × Bytes)) (s : State), s.lantern.queue = (i, bs) :: l →
    ((s.modLantern fun q => { q with queue := l }).stream i).kind = 2 →
    ((s.modLantern fun q => { q with queue := l }).stream i).dead = false →
    bmeOf s 0 = true →
    streamFull ((s.modLantern fun q => { q with queue := l }).stream i) (2 ^ ((s.modLantern fun q => { q with queue := l }).stream i).k) = true →
    lanternWrite s = streamDropFull i (s.modLantern fun q => { q with queue := l })) ∧
  (∀ (i : Nat) (bs : Bytes) (l : List (Nat × Bytes)) (s : State), s.lantern.queue = (i, bs) :: l →
    ((s.modLantern fun q => { q with queue := l }).stream i).kind = 2 →
    ((s.modLantern fun q => { q with queue := l }).stream i).dead = true ∨ bmeOf s 0 = false →
    lanternWrite s = lanternLost i (streamCount i 3 1 (s.modLantern fun q => { q with queue := l }))) ∧
  (∀ (i : Nat) (bs : Bytes) (l : List (Nat × Bytes)) (s : State), s.lantern.queue = (i, bs) :: l →
    ((s.modLantern fun q => { q with queue := l }).stream i).kind = 1 →
    rangeLost (s.modLantern fun q => { q with queue := l }) (((s.modLantern fun q => { q with queue := l }).mem.regions.get {} ((s.modLantern fun q => { q with queue := l }).stream i).region).base + ((s.modLantern fun q => { q with queue := l }).stream i).wr % max 1 ((s.modLantern fun q => { q with queue := l }).mem.regions.get {} ((s.modLantern fun q => { q with queue := l }).stream i).region).size) 64 = true →
    lanternWrite s = lanternLost i (streamCount i 2 1 (s.modLantern fun q => { q with queue := l }))) ∧
  (∀ (i : Nat) (bs : Bytes) (l : List (Nat × Bytes)) (s : State), s.lantern.queue = (i, bs) :: l →
    ((s.modLantern fun q => { q with queue := l }).stream i).kind = 1 →
    rangeLost (s.modLantern fun q => { q with queue := l }) (((s.modLantern fun q => { q with queue := l }).mem.regions.get {} ((s.modLantern fun q => { q with queue := l }).stream i).region).base + ((s.modLantern fun q => { q with queue := l }).stream i).wr % max 1 ((s.modLantern fun q => { q with queue := l }).mem.regions.get {} ((s.modLantern fun q => { q with queue := l }).stream i).region).size) 64 = false →
    streamFull ((s.modLantern fun q => { q with queue := l }).stream i) ((s.modLantern fun q => { q with queue := l }).mem.regions.get {} ((s.modLantern fun q => { q with queue := l }).stream i).region).size = true →
    lanternWrite s = streamDropFull i (s.modLantern fun q => { q with queue := l })) ∧
  (∀ (i : Nat) (bs : Bytes) (l : List (Nat × Bytes)) (s : State), s.lantern.queue = (i, bs) :: l →
    ((s.modLantern fun q => { q with queue := l }).stream i).kind = 1 →
    rangeLost (s.modLantern fun q => { q with queue := l }) (((s.modLantern fun q => { q with queue := l }).mem.regions.get {} ((s.modLantern fun q => { q with queue := l }).stream i).region).base + ((s.modLantern fun q => { q with queue := l }).stream i).wr % max 1 ((s.modLantern fun q => { q with queue := l }).mem.regions.get {} ((s.modLantern fun q => { q with queue := l }).stream i).region).size) 64 = false →
    streamFull ((s.modLantern fun q => { q with queue := l }).stream i) ((s.modLantern fun q => { q with queue := l }).mem.regions.get {} ((s.modLantern fun q => { q with queue := l }).stream i).region).size = false →
    lanternWrite s = streamCount i 0 1 (modStream i (fun x => { x with wr := x.wr + 64 }) (moverBytes 5 64
      (ringWriteLas ((s.modLantern fun q => { q with queue := l }).mem.regions.get {} ((s.modLantern fun q => { q with queue := l }).stream i).region).base ((s.modLantern fun q => { q with queue := l }).mem.regions.get {} ((s.modLantern fun q => { q with queue := l }).stream i).region).size ((s.modLantern fun q => { q with queue := l }).stream i).wr (takeSeq i bs (s.modLantern fun q => { q with queue := l })).1 (takeSeq i bs (s.modLantern fun q => { q with queue := l })).2)))) ∧
  (∀ (flowOk : Bool) (s : State), s.boot.pwrgood = true →
    beatRuns s = false →
    exec (.collectorRunStoppedBeat flowOk) s = .next (wickStop (phase9 (flowSample flowOk s))))

/-- What posted settings do at P3 of their boundary (R40, R41). -/
def Obligations.PostedSettingsTakeEffect : Prop :=
  (∀ (pre : Tables) (w : Pend) (s : State), w.kind = 0x0403 →
    applySetting pre w s = answerOk w.order [] (modPort (portArg w.req) (fun q => { q with admin := rd w.req 2 1 == 1 }) s)) ∧
  (∀ (pre : Tables) (w : Pend) (s : State), w.kind = 0x0404 →
    applySetting pre w s = answerOk w.order [] (settleFlow (portArg w.req) (modPort (portArg w.req) (fun q => { q with
      flags := rd w.req 2 1, holdMask := some (rd w.req 3 1), max := rd w.req 4 2, hold := rd w.req 8 4,
      pfcMask := if bit (rd w.req 2 1) 1 || bit (rd w.req 2 1) 2 then 0 else q.pfcMask }) s))) ∧
  (∀ (pre : Tables) (w : Pend) (s : State), w.kind = 0x0407 →
    applySetting pre w s = answerOk w.order [] (settleFlow (portArg w.req) (modPort (portArg w.req) (fun q => { q with
      pfcMask := rd w.req 2 1, xoff := rd w.req 4 2, xon := rd w.req 6 2, wd := rd w.req 8 4, restore := rd w.req 12 4,
      flags := if rd w.req 2 1 = 0 then q.flags else q.flags % 2 }) s))) ∧
  (∀ (pre : Tables) (w : Pend) (s : State), w.kind = 0x0408 →
    applySetting pre w s = answerOk w.order [] (modPort (portArg w.req) (fun q => mmStart s.beat { q with
      mmFlags := rd w.req 2 1, mmMask := rd w.req 3 1, addFrag := rd w.req 4 1, verifyMs := rd w.req 5 1 }) s)) ∧
  (∀ (pre : Tables) (w : Pend) (s : State), w.kind = 0x0706 →
    applySetting pre w s = answerOk w.order [] (s.modTab fun t => { t with learn := t.learn.put (rd w.req 0 2) {
      on := bit (rd w.req 2 1) 0, drop := bit (rd w.req 2 1) 1, limit := rd w.req 4 4 } })) ∧
  (∀ (pre : Tables) (w : Pend) (s : State), w.kind = 0x0801 →
    applySetting pre w s = answerBeat w.order (eachDo s.ports.keys expressAwake (s.modTm fun t => { t with expressTc := rd w.req 0 1, s := rd w.req 4 4 }))) ∧
  (∀ (pre : Tables) (w : Pend) (s : State), w.kind = 0x0803 →
    applySetting pre w s = answerBeat w.order (modTmPort (rd w.req 0 2) (fun t => { t with shapers := t.shapers.upd {} (128 * rd w.req 2 1 + rd w.req 3 1) (fun x => { x with
      on := bit (rd w.req 4 1) 0, rate := rd w.req 8 4, burst := rd w.req 12 4,
      credit := if bit (rd w.req 4 1) 0 && !x.on then 0 else x.credit }) }) s)) ∧
  (∀ (pre : Tables) (w : Pend) (s : State), w.kind = 0x0808 →
    applySetting pre w s = answerBeat w.order (modTmPort (rd w.req 0 2) (fun x => { x with sdu := (List.range 8).map fun i => rd w.req (2 + 2 * i) 2 }) s)) ∧
  (∀ (pre : Tables) (w : Pend) (s : State), w.kind = 0x0903 →
    applySetting pre w s = answerBeat w.order (modPort (rd w.req 0 2) (fun q => { q with
      hrCells := (List.range 8).map fun i => if bit (rd w.req 2 1) i then rd w.req 4 4 else nth q.hrCells i }) s)) ∧
  (∀ (pre : Tables) (w : Pend) (s : State), w.kind = 0x0A02 →
    applySetting pre w s = answerBeat w.order (s.modLedger fun l => { l with policies := l.policies.put (rd w.req 0 1) (rd w.req 1 1, rd w.req 2 1) })) ∧
  (∀ (pre : Tables) (w : Pend) (s : State), w.kind = 0x0C02 →
    applySetting pre w s = answerBeat w.order (s.modLantern fun l => { l with ports := l.ports.put (rd w.req 0 2) (rd w.req 2 1, bit (rd w.req 3 1) 0, rd w.req 4 4) })) ∧
  (∀ (pre : Tables) (w : Pend) (s : State), w.kind = 0x0C03 →
    applySetting pre w s = answerBeat w.order (s.modLantern fun l => { l with
      triggers := (List.range 5).map fun i => rd w.req i 1, tracer := rd w.req 5 1, m := rd w.req 6 1,
      mask := setBit (rd w.req 8 8) 0 false, maskHi := bit (rd w.req 16 1) 0 })) ∧
  (∀ (pre : Tables) (w : Pend) (s : State), w.kind = 0x0D03 →
    applySetting pre w s = answerBeat w.order (s.modTime fun t => { t with rate := toInt 48 (rd w.req 0 6), rateHi := rd w.req 4 2, rateLo := if t.rateHeld then t.rateLo else rd w.req 0 4 })) ∧
  (∀ (pre : Tables) (w : Pend) (s : State), w.kind = 0x0D05 →
    applySetting pre w s = answerBeat w.order (s.modTime fun t => { t with
      delays := t.delays.put (8 * rd w.req 0 2 + rd w.req 2 1) (toInt 32 (rd w.req 4 4), toInt 32 (rd w.req 8 4)) })) ∧
  (∀ (pre : Tables) (w : Pend) (s : State), w.kind = 0x0D06 →
    applySetting pre w s = answerBeat w.order (s.modTime fun t => { t with ptp := t.ptp.put (rd w.req 0 2) (rd w.req 2 1) })) ∧
  (∀ (pre : Tables) (w : Pend) (s : State), w.kind = 0x0F02 →
    applySetting pre w s = answerBeat w.order (s.modPower fun q => { q with cap := rd w.req 0 2 }))

/-- Matching and winning in a ternary group (R187). -/
def Obligations.TernaryEntryMatchesAndWins : Prop :=
  (∀ (bank key : Nat) (e : TernEntry), Nat.land e.value e.mask = e.value →
    (ternMatch bank key e = true ↔
      bit e.banks bank = true ∧ ∀ b, e.mask.testBit b = true → key.testBit b = e.value.testBit b)) ∧
  (∀ (bank key : Nat) (l : List (Nat × TernEntry)), l.Pairwise (fun a b => a.1 < b.1) →
    match ternWinner bank key l with
    | none => ∀ e ∈ l, ternMatch bank key e.2 = false
    | some x => ∃ i, (i, x) ∈ l ∧ ternMatch bank key x = true ∧
        ∀ e ∈ l, ternMatch bank key e.2 = true → e.2.prio < x.prio ∨ (e.2.prio = x.prio ∧ i ≤ e.1)) ∧
  (∀ (t : Tables) (q bank key : Nat) (l : C4Lookup) (s : State) (g : TernGroup), t.groups.find l.group = some g →
    (ternLookup t q bank key l s).1 =
      let a := match ternWinner bank key ((t.quads.get {} q).tern.filter fun e => inGroup g e.1) with
        | some e => e.action
        | none => l.miss
      if a = 0xFFFF then none else some a) ∧
  (∀ (bank key : Nat) (d e : TernEntry), d.value = e.value → d.mask = e.mask → d.prio = e.prio → d.action = e.action → d.banks = e.banks →
    ternMatch bank key d = ternMatch bank key e)

/-- Where a LAS address lies (R303). -/
def Obligations.LedgerAddressesFallInOneUnit : Prop :=
  ∀ s : State, 0 < (memUnits s).length →
    (∀ a, unitOf s a = a / 4096 % (memUnits s).length ∧
      moduleAddr s a = a / (4096 * (memUnits s).length) * 4096 + a % 4096) ∧
    (∀ size ∈ [512, 128, 256], ∀ a k, a % size = 0 → k < size →
      unitOf s (a + k) = unitOf s a ∧ moduleAddr s (a + k) = moduleAddr s a + k) ∧
    (∀ a b, unitOf s a = unitOf s b → moduleAddr s a = moduleAddr s b → a = b)

/-- TRUST.LC_ADVANCE (R446). -/
def Obligations.LifeCycleAdvanceRule : Prop :=
  ∀ (m : Nat) (h : HostAnswer) (s : State) (c : Cmd), ready 0x0305 trustLcAdvanceSpec m s c = true →
    let p := payload s m
    (s.trust.lc = 1 → rd p 0 1 = 2 → part p 8 8 = deviceKeyId s →
      let t := afterAccept c (raiseEvent 0x0301 (le 1 1 ++ le 1 2)
        (s.modTrust fun t => { t with tokenOpen := false, session := false, lc := 2 })) (some (0, []))
      exec (.trustLcAdvance m h) s = .next t ∧ t.trust.lc = 2) ∧
    (s.trust.lc = 1 → rd p 0 1 = 2 → part p 8 8 ≠ deviceKeyId s →
      exec (.trustLcAdvance m h) s = .next (answer c.order stTrustConfirm 0 [] s) ∧
        onlyChanges [.mbx] s (answer c.order stTrustConfirm 0 [] s)) ∧
    (¬ (s.trust.lc = 1 ∧ rd p 0 1 = 2) →
      exec (.trustLcAdvance m h) s = .next (answer c.order stTrustState 0 [] s) ∧
        onlyChanges [.mbx] s (answer c.order stTrustState 0 [] s))

/-- The event mask (R421). -/
def Obligations.MaskedEventsAreDiscarded : Prop :=
  (∀ (m : Nat) (h : HostAnswer) (s : State) (c : Cmd), ready 0x0102 sysEventMaskSpec m s c = true →
    exec (.sysEventMask m h) s =
      .next (afterAccept c (s.modEvt fun v => { v with mask := rd (payload s m) 0 4 }) (some (0, [])))) ∧
  (∀ (code : Nat) (p : Bytes) (s : State), bit s.evt.mask (code / 256) = true → code / 256 ≠ 1 → raiseEvent code p s = s) ∧
  (∀ (code : Nat) (p : Bytes) (s : State), bit s.evt.mask (code / 256) = false ∨ code / 256 = 1 →
    (raiseEvent code p s).evt.held = (raiseEvent code p (s.modEvt fun v => { v with mask := 0 })).evt.held ∧
      (raiseEvent code p s).evt.batch = (raiseEvent code p (s.modEvt fun v => { v with mask := 0 })).evt.batch ∧
      (raiseEvent code p s).evt.lost = (raiseEvent code p (s.modEvt fun v => { v with mask := 0 })).evt.lost) ∧
  (∀ (s : State) (e : Event) (l : List Event), ringReady s = true → s.evt.held = e :: l → s.evt.lostSince ≠ 0 → s.evt.part = 0 →
    exec .eventRingWrite s =
      .next ((putEntry 0x0102 0 s.beat (le 4 s.evt.lostSince) s).modEvt fun v => { v with lostSince := 0 })) ∧
  State.reset.evt.mask = 0

/-- The Merkle tree of a minute and its inclusion proofs (R291). -/
def Obligations.InclusionProofsLeadToTheRoot : Prop :=
  merkleRoot 0 [] = sha256 [] ∧
  (∀ r : Bytes, merkleRoot 1 [r] = sha256 (le 1 0 ++ r)) ∧
  (∀ (l : List Bytes) (i : Nat), i < 32 → 2 ^ i < l.length → l.length ≤ 2 ^ (i + 1) →
    merkleRoot l.length l =
      sha256 (le 1 1 ++ merkleRoot (2 ^ i) (l.take (2 ^ i)) ++ merkleRoot (l.length - 2 ^ i) (l.drop (2 ^ i)))) ∧
  (∀ (l : List Bytes) (m : Nat), m < l.length →
    merkleFold l.length l.length m (sha256 (le 1 0 ++ l.getD m [])) (merklePath l.length m l) = merkleRoot l.length l)

/-- Reset values of the registers, from the Reset columns of their tables (R37, R145, R322, R347, R365, R372, R375, R383,
R403, R467, R485 and Tables 5.9 and 14.9). -/
def Obligations.RegistersAfterReset : Prop :=
  (∀ o ∈ [0x08, 0x0C, 0x10, 0x14, 0x18, 0x40, 0x44, 0x4C, 0x50], registerValue State.reset 0 o = 0) ∧
  registerValue State.reset 0 0x48 = 0x800 ∧
  (∀ m < 16, (∀ r ∈ [0x04, 0x08, 0x0C, 0x10, 0x1C, 0x20], registerValue State.reset 0 (0x400 + 0x40 * m + r) = 0) ∧
    registerValue State.reset 0 (0x400 + 0x40 * m + 0x14) = 0xFFFFFFFF ∧
    registerValue State.reset 0 (0x400 + 0x40 * m + 0x18) = 0xBB8) ∧
  (∀ o ∈ [0x430, 0x434, 0x438, 0x43C], registerValue State.reset 0 o = 0) ∧
  (∀ c < 4, (∀ i < 9, registerValue State.reset 0 (0x2400 + 0x40 * c + 4 * i) = 0) ∧
    registerValue State.reset 0 (0x2400 + 0x40 * c + 0x24) = 0x186A0) ∧
  (∀ c < 8, (∀ i < 12, i ≠ 0 → i ≠ 9 → registerValue State.reset 0 (0x2800 + 0x40 * c + 4 * i) = 0) ∧
    registerValue State.reset 0 (0x2800 + 0x40 * c) = 256 * (if c < 4 then 0 else if c < 6 then c - 3 else 3) ∧
    registerValue State.reset 0 (0x2800 + 0x40 * c + 0x24) = 0xC8) ∧
  (∀ i < 4, registerValue State.reset 0 (0x3000 + 4 * i) = 0) ∧
  (∀ n < 16, registerValue State.reset 0 (0x3020 + 4 * n) = 0x03020100 + 0x04040404 * n) ∧
  (∀ n < 32, registerValue State.reset 0 (0x3080 + 4 * n) = 0) ∧
  (∀ o ∈ [0x3400, 0x3404, 0x340C, 0x3410, 0x3414, 0x3418, 0x3420, 0x342C, 0x3430, 0x3434, 0x3438, 0x343C, 0x3500, 0x3508,
    0x350C, 0x3510, 0x3514], registerValue State.reset 0 o = 0) ∧
  registerValue State.reset 0 0x3408 = 0x3E8 ∧ registerValue State.reset 0 0x3504 = 0xF4240 ∧
  (∀ n < 14, registerValue State.reset 0 (0x3440 + 4 * n) = 0 ∧ registerValue State.reset 0 (0x3480 + 4 * n) = 0 ∧
    registerValue State.reset 0 (0x34C0 + 4 * n) = 0) ∧
  (∀ i < 26, i ≠ 1 → i ≠ 11 → registerValue State.reset 0 (0x3C00 + 4 * i) = 0) ∧
  registerValue State.reset 0 0x3C04 = 0x1800 ∧ registerValue State.reset 0 0x3C2C = 0x64 ∧
  (∀ o ∈ [0x4018, 0x401C, 0x4020, 0x4024, 0x402C, 0x4030, 0x4034, 0x4038, 0x403C, 0x4040, 0x4048, 0x404C, 0x4050, 0x4054,
    0x4058, 0x4060, 0x4064], registerValue State.reset 0 o = 0) ∧
  registerValue State.reset 0 0x4000 = 0x50501 ∧ registerValue State.reset 0 0x4008 = 0x488 ∧
  registerValue State.reset 0 0x400C = 0x73 ∧ registerValue State.reset 0 0x4010 = 0xFA ∧
  registerValue State.reset 0 0x4014 = 0x186A0 ∧ registerValue State.reset 0 0x4028 = 0x8000 ∧
  registerValue State.reset 0 0x4044 = 0x8000 ∧ registerValue State.reset 0 0x405C = 0x40 ∧
  (∀ i < 28, registerValue State.reset 0 (0x4400 + 4 * i) = 0) ∧
  (∀ r < 32, (∀ i < 8, i ≠ 2 → registerValue State.reset 1 (0x20 * r + 4 * i) = 0) ∧
    registerValue State.reset 1 (0x20 * r + 8) = 0x1000000 * r)

/-- What is stated of the machine's modes at reset. -/
def Obligations.ModesAfterReset : Prop :=
  (∀ l < 768, (State.reset.lane l).state = 0 ∧ (State.reset.lane l).mode = 0) ∧
  State.reset.ports = [] ∧
  (∀ m < 16, (State.reset.box m).st = 0) ∧
  State.reset.tm.expressTc = 0xFF ∧
  State.reset.ledger.st = 0 ∧ (∀ p < 256, ledgerPolicy State.reset p = (2, 1)) ∧
  State.reset.tab.groups = [] ∧ State.reset.buf.mirrors = [] ∧
  (∀ i < 16, (State.reset.stream i).kind = 0) ∧
  (∀ p < 800, (State.reset.lantern.ports.get (0, false, 0) p).1 = 0) ∧ (∀ b t, tenantFlag State.reset b t = false) ∧
  State.reset.lantern.triggers = [0, 0, 0, 0, 0] ∧
  State.reset.time.sec = 0 ∧ State.reset.time.ns = 0 ∧ State.reset.time.rate = 0 ∧ State.reset.time.st = 0 ∧
  State.reset.evt.held = [] ∧ State.reset.mbx.cmds = []

/-- Bytes written to a mailbox's request area and to host memory (R13, R399, R400, R416). -/
def Obligations.StoredBytesReadBack : Prop :=
  (∀ (m o : Nat) (bytes : Bytes) (s : State), m < 16 → bytes ≠ [] → o + bytes.length ≤ 0x1000 → hostUp s = true → (s.box m).st ≠ 1 →
    completes (.mailboxAreaWrite (0x2000 * m + o) bytes) s fun t =>
      (∀ i < bytes.length, t.mbx.area.read (0x2000 * m + o + i) = bytes.getD i 0) ∧
      (∀ a, a < 0x2000 * m + o ∨ 0x2000 * m + o + bytes.length ≤ a → t.mbx.area.read a = s.mbx.area.read a) ∧
      (s.mbx.area.wf = true → t.mbx.area.wf = true) ∧ onlyChanges [.mbx] s t) ∧
  (∀ (pf addr : Nat) (bytes : Bytes) (s : State), bmeOf s pf = true →
    let t := hostWrite pf addr bytes s
    (∀ i < bytes.length, t.host.mem.read (addr + i) = bytes.getD i 0) ∧
      (∀ a, a < addr ∨ addr + bytes.length ≤ a → t.host.mem.read a = s.host.mem.read a) ∧
      (s.host.mem.wf = true → t.host.mem.wf = true) ∧ onlyChanges [.host] s t) ∧
  (∀ (pf addr : Nat) (bytes : Bytes) (s : State), bmeOf s pf = false → hostWrite pf addr bytes s = s)

end
end

