-- ==== Sys2Proof/Laws/State.lean ====
section
/-! SUPPORT. One lemma per component per update: what each setter leaves and what it writes, by rfl. -/

namespace Sys2Proof.Machine

variable (s : State)

section
variable (f : Glb → Glb)
@[simp] theorem modGlb_glb : (s.modGlb f).glb = f s.glb := rfl
@[simp] theorem modGlb_boot : (s.modGlb f).boot = s.boot := rfl
@[simp] theorem modGlb_lanes : (s.modGlb f).lanes = s.lanes := rfl
@[simp] theorem modGlb_ports : (s.modGlb f).ports = s.ports := rfl
@[simp] theorem modGlb_rules : (s.modGlb f).rules = s.rules := rfl
@[simp] theorem modGlb_flight : (s.modGlb f).flight = s.flight := rfl
@[simp] theorem modGlb_tab : (s.modGlb f).tab = s.tab := rfl
@[simp] theorem modGlb_tabPrev : (s.modGlb f).tabPrev = s.tabPrev := rfl
@[simp] theorem modGlb_tdc : (s.modGlb f).tdc = s.tdc := rfl
@[simp] theorem modGlb_buf : (s.modGlb f).buf = s.buf := rfl
@[simp] theorem modGlb_tm : (s.modGlb f).tm = s.tm := rfl
@[simp] theorem modGlb_ledger : (s.modGlb f).ledger = s.ledger := rfl
@[simp] theorem modGlb_mem : (s.modGlb f).mem = s.mem := rfl
@[simp] theorem modGlb_xdc : (s.modGlb f).xdc = s.xdc := rfl
@[simp] theorem modGlb_lantern : (s.modGlb f).lantern = s.lantern := rfl
@[simp] theorem modGlb_pmc : (s.modGlb f).pmc = s.pmc := rfl
@[simp] theorem modGlb_time : (s.modGlb f).time = s.time := rfl
@[simp] theorem modGlb_host : (s.modGlb f).host = s.host := rfl
@[simp] theorem modGlb_mbx : (s.modGlb f).mbx = s.mbx := rfl
@[simp] theorem modGlb_evt : (s.modGlb f).evt = s.evt := rfl
@[simp] theorem modGlb_pend : (s.modGlb f).pend = s.pend := rfl
@[simp] theorem modGlb_trust : (s.modGlb f).trust = s.trust := rfl
@[simp] theorem modGlb_fw : (s.modGlb f).fw = s.fw := rfl
@[simp] theorem modGlb_fault : (s.modGlb f).fault = s.fault := rfl
@[simp] theorem modGlb_wick : (s.modGlb f).wick = s.wick := rfl
@[simp] theorem modGlb_power : (s.modGlb f).power = s.power := rfl
@[simp] theorem modGlb_slices : (s.modGlb f).slices = s.slices := rfl
@[simp] theorem modGlb_freshSet : (s.modGlb f).freshSet = s.freshSet := rfl
@[simp] theorem modGlb_out : (s.modGlb f).out = s.out := rfl
@[simp] theorem modGlb_freeCtr : (s.modGlb f).freeCtr = s.freeCtr := rfl
@[simp] theorem modGlb_pending : (s.modGlb f).pending = s.pending := rfl
end

section
variable (f : Boot → Boot)
@[simp] theorem modBoot_glb : (s.modBoot f).glb = s.glb := rfl
@[simp] theorem modBoot_boot : (s.modBoot f).boot = f s.boot := rfl
@[simp] theorem modBoot_lanes : (s.modBoot f).lanes = s.lanes := rfl
@[simp] theorem modBoot_ports : (s.modBoot f).ports = s.ports := rfl
@[simp] theorem modBoot_rules : (s.modBoot f).rules = s.rules := rfl
@[simp] theorem modBoot_flight : (s.modBoot f).flight = s.flight := rfl
@[simp] theorem modBoot_tab : (s.modBoot f).tab = s.tab := rfl
@[simp] theorem modBoot_tabPrev : (s.modBoot f).tabPrev = s.tabPrev := rfl
@[simp] theorem modBoot_tdc : (s.modBoot f).tdc = s.tdc := rfl
@[simp] theorem modBoot_buf : (s.modBoot f).buf = s.buf := rfl
@[simp] theorem modBoot_tm : (s.modBoot f).tm = s.tm := rfl
@[simp] theorem modBoot_ledger : (s.modBoot f).ledger = s.ledger := rfl
@[simp] theorem modBoot_mem : (s.modBoot f).mem = s.mem := rfl
@[simp] theorem modBoot_xdc : (s.modBoot f).xdc = s.xdc := rfl
@[simp] theorem modBoot_lantern : (s.modBoot f).lantern = s.lantern := rfl
@[simp] theorem modBoot_pmc : (s.modBoot f).pmc = s.pmc := rfl
@[simp] theorem modBoot_time : (s.modBoot f).time = s.time := rfl
@[simp] theorem modBoot_host : (s.modBoot f).host = s.host := rfl
@[simp] theorem modBoot_mbx : (s.modBoot f).mbx = s.mbx := rfl
@[simp] theorem modBoot_evt : (s.modBoot f).evt = s.evt := rfl
@[simp] theorem modBoot_pend : (s.modBoot f).pend = s.pend := rfl
@[simp] theorem modBoot_trust : (s.modBoot f).trust = s.trust := rfl
@[simp] theorem modBoot_fw : (s.modBoot f).fw = s.fw := rfl
@[simp] theorem modBoot_fault : (s.modBoot f).fault = s.fault := rfl
@[simp] theorem modBoot_wick : (s.modBoot f).wick = s.wick := rfl
@[simp] theorem modBoot_power : (s.modBoot f).power = s.power := rfl
@[simp] theorem modBoot_slices : (s.modBoot f).slices = s.slices := rfl
@[simp] theorem modBoot_freshSet : (s.modBoot f).freshSet = s.freshSet := rfl
@[simp] theorem modBoot_out : (s.modBoot f).out = s.out := rfl
@[simp] theorem modBoot_freeCtr : (s.modBoot f).freeCtr = s.freeCtr := rfl
@[simp] theorem modBoot_pending : (s.modBoot f).pending = s.pending := rfl
end

section
variable (f : Tab Lane → Tab Lane)
@[simp] theorem modLanes_glb : (s.modLanes f).glb = s.glb := rfl
@[simp] theorem modLanes_boot : (s.modLanes f).boot = s.boot := rfl
@[simp] theorem modLanes_lanes : (s.modLanes f).lanes = f s.lanes := rfl
@[simp] theorem modLanes_ports : (s.modLanes f).ports = s.ports := rfl
@[simp] theorem modLanes_rules : (s.modLanes f).rules = s.rules := rfl
@[simp] theorem modLanes_flight : (s.modLanes f).flight = s.flight := rfl
@[simp] theorem modLanes_tab : (s.modLanes f).tab = s.tab := rfl
@[simp] theorem modLanes_tabPrev : (s.modLanes f).tabPrev = s.tabPrev := rfl
@[simp] theorem modLanes_tdc : (s.modLanes f).tdc = s.tdc := rfl
@[simp] theorem modLanes_buf : (s.modLanes f).buf = s.buf := rfl
@[simp] theorem modLanes_tm : (s.modLanes f).tm = s.tm := rfl
@[simp] theorem modLanes_ledger : (s.modLanes f).ledger = s.ledger := rfl
@[simp] theorem modLanes_mem : (s.modLanes f).mem = s.mem := rfl
@[simp] theorem modLanes_xdc : (s.modLanes f).xdc = s.xdc := rfl
@[simp] theorem modLanes_lantern : (s.modLanes f).lantern = s.lantern := rfl
@[simp] theorem modLanes_pmc : (s.modLanes f).pmc = s.pmc := rfl
@[simp] theorem modLanes_time : (s.modLanes f).time = s.time := rfl
@[simp] theorem modLanes_host : (s.modLanes f).host = s.host := rfl
@[simp] theorem modLanes_mbx : (s.modLanes f).mbx = s.mbx := rfl
@[simp] theorem modLanes_evt : (s.modLanes f).evt = s.evt := rfl
@[simp] theorem modLanes_pend : (s.modLanes f).pend = s.pend := rfl
@[simp] theorem modLanes_trust : (s.modLanes f).trust = s.trust := rfl
@[simp] theorem modLanes_fw : (s.modLanes f).fw = s.fw := rfl
@[simp] theorem modLanes_fault : (s.modLanes f).fault = s.fault := rfl
@[simp] theorem modLanes_wick : (s.modLanes f).wick = s.wick := rfl
@[simp] theorem modLanes_power : (s.modLanes f).power = s.power := rfl
@[simp] theorem modLanes_slices : (s.modLanes f).slices = s.slices := rfl
@[simp] theorem modLanes_freshSet : (s.modLanes f).freshSet = s.freshSet := rfl
@[simp] theorem modLanes_out : (s.modLanes f).out = s.out := rfl
@[simp] theorem modLanes_freeCtr : (s.modLanes f).freeCtr = s.freeCtr := rfl
@[simp] theorem modLanes_pending : (s.modLanes f).pending = s.pending := rfl
end

section
variable (f : Tab Port → Tab Port)
@[simp] theorem modPorts_glb : (s.modPorts f).glb = s.glb := rfl
@[simp] theorem modPorts_boot : (s.modPorts f).boot = s.boot := rfl
@[simp] theorem modPorts_lanes : (s.modPorts f).lanes = s.lanes := rfl
@[simp] theorem modPorts_ports : (s.modPorts f).ports = f s.ports := rfl
@[simp] theorem modPorts_rules : (s.modPorts f).rules = s.rules := rfl
@[simp] theorem modPorts_flight : (s.modPorts f).flight = s.flight := rfl
@[simp] theorem modPorts_tab : (s.modPorts f).tab = s.tab := rfl
@[simp] theorem modPorts_tabPrev : (s.modPorts f).tabPrev = s.tabPrev := rfl
@[simp] theorem modPorts_tdc : (s.modPorts f).tdc = s.tdc := rfl
@[simp] theorem modPorts_buf : (s.modPorts f).buf = s.buf := rfl
@[simp] theorem modPorts_tm : (s.modPorts f).tm = s.tm := rfl
@[simp] theorem modPorts_ledger : (s.modPorts f).ledger = s.ledger := rfl
@[simp] theorem modPorts_mem : (s.modPorts f).mem = s.mem := rfl
@[simp] theorem modPorts_xdc : (s.modPorts f).xdc = s.xdc := rfl
@[simp] theorem modPorts_lantern : (s.modPorts f).lantern = s.lantern := rfl
@[simp] theorem modPorts_pmc : (s.modPorts f).pmc = s.pmc := rfl
@[simp] theorem modPorts_time : (s.modPorts f).time = s.time := rfl
@[simp] theorem modPorts_host : (s.modPorts f).host = s.host := rfl
@[simp] theorem modPorts_mbx : (s.modPorts f).mbx = s.mbx := rfl
@[simp] theorem modPorts_evt : (s.modPorts f).evt = s.evt := rfl
@[simp] theorem modPorts_pend : (s.modPorts f).pend = s.pend := rfl
@[simp] theorem modPorts_trust : (s.modPorts f).trust = s.trust := rfl
@[simp] theorem modPorts_fw : (s.modPorts f).fw = s.fw := rfl
@[simp] theorem modPorts_fault : (s.modPorts f).fault = s.fault := rfl
@[simp] theorem modPorts_wick : (s.modPorts f).wick = s.wick := rfl
@[simp] theorem modPorts_power : (s.modPorts f).power = s.power := rfl
@[simp] theorem modPorts_slices : (s.modPorts f).slices = s.slices := rfl
@[simp] theorem modPorts_freshSet : (s.modPorts f).freshSet = s.freshSet := rfl
@[simp] theorem modPorts_out : (s.modPorts f).out = s.out := rfl
@[simp] theorem modPorts_freeCtr : (s.modPorts f).freeCtr = s.freeCtr := rfl
@[simp] theorem modPorts_pending : (s.modPorts f).pending = s.pending := rfl
end

section
variable (f : Rules → Rules)
@[simp] theorem modRules_glb : (s.modRules f).glb = s.glb := rfl
@[simp] theorem modRules_boot : (s.modRules f).boot = s.boot := rfl
@[simp] theorem modRules_lanes : (s.modRules f).lanes = s.lanes := rfl
@[simp] theorem modRules_ports : (s.modRules f).ports = s.ports := rfl
@[simp] theorem modRules_rules : (s.modRules f).rules = f s.rules := rfl
@[simp] theorem modRules_flight : (s.modRules f).flight = s.flight := rfl
@[simp] theorem modRules_tab : (s.modRules f).tab = s.tab := rfl
@[simp] theorem modRules_tabPrev : (s.modRules f).tabPrev = s.tabPrev := rfl
@[simp] theorem modRules_tdc : (s.modRules f).tdc = s.tdc := rfl
@[simp] theorem modRules_buf : (s.modRules f).buf = s.buf := rfl
@[simp] theorem modRules_tm : (s.modRules f).tm = s.tm := rfl
@[simp] theorem modRules_ledger : (s.modRules f).ledger = s.ledger := rfl
@[simp] theorem modRules_mem : (s.modRules f).mem = s.mem := rfl
@[simp] theorem modRules_xdc : (s.modRules f).xdc = s.xdc := rfl
@[simp] theorem modRules_lantern : (s.modRules f).lantern = s.lantern := rfl
@[simp] theorem modRules_pmc : (s.modRules f).pmc = s.pmc := rfl
@[simp] theorem modRules_time : (s.modRules f).time = s.time := rfl
@[simp] theorem modRules_host : (s.modRules f).host = s.host := rfl
@[simp] theorem modRules_mbx : (s.modRules f).mbx = s.mbx := rfl
@[simp] theorem modRules_evt : (s.modRules f).evt = s.evt := rfl
@[simp] theorem modRules_pend : (s.modRules f).pend = s.pend := rfl
@[simp] theorem modRules_trust : (s.modRules f).trust = s.trust := rfl
@[simp] theorem modRules_fw : (s.modRules f).fw = s.fw := rfl
@[simp] theorem modRules_fault : (s.modRules f).fault = s.fault := rfl
@[simp] theorem modRules_wick : (s.modRules f).wick = s.wick := rfl
@[simp] theorem modRules_power : (s.modRules f).power = s.power := rfl
@[simp] theorem modRules_slices : (s.modRules f).slices = s.slices := rfl
@[simp] theorem modRules_freshSet : (s.modRules f).freshSet = s.freshSet := rfl
@[simp] theorem modRules_out : (s.modRules f).out = s.out := rfl
@[simp] theorem modRules_freeCtr : (s.modRules f).freeCtr = s.freeCtr := rfl
@[simp] theorem modRules_pending : (s.modRules f).pending = s.pending := rfl
end

section
variable (f : Flight → Flight)
@[simp] theorem modFlight_glb : (s.modFlight f).glb = s.glb := rfl
@[simp] theorem modFlight_boot : (s.modFlight f).boot = s.boot := rfl
@[simp] theorem modFlight_lanes : (s.modFlight f).lanes = s.lanes := rfl
@[simp] theorem modFlight_ports : (s.modFlight f).ports = s.ports := rfl
@[simp] theorem modFlight_rules : (s.modFlight f).rules = s.rules := rfl
@[simp] theorem modFlight_flight : (s.modFlight f).flight = f s.flight := rfl
@[simp] theorem modFlight_tab : (s.modFlight f).tab = s.tab := rfl
@[simp] theorem modFlight_tabPrev : (s.modFlight f).tabPrev = s.tabPrev := rfl
@[simp] theorem modFlight_tdc : (s.modFlight f).tdc = s.tdc := rfl
@[simp] theorem modFlight_buf : (s.modFlight f).buf = s.buf := rfl
@[simp] theorem modFlight_tm : (s.modFlight f).tm = s.tm := rfl
@[simp] theorem modFlight_ledger : (s.modFlight f).ledger = s.ledger := rfl
@[simp] theorem modFlight_mem : (s.modFlight f).mem = s.mem := rfl
@[simp] theorem modFlight_xdc : (s.modFlight f).xdc = s.xdc := rfl
@[simp] theorem modFlight_lantern : (s.modFlight f).lantern = s.lantern := rfl
@[simp] theorem modFlight_pmc : (s.modFlight f).pmc = s.pmc := rfl
@[simp] theorem modFlight_time : (s.modFlight f).time = s.time := rfl
@[simp] theorem modFlight_host : (s.modFlight f).host = s.host := rfl
@[simp] theorem modFlight_mbx : (s.modFlight f).mbx = s.mbx := rfl
@[simp] theorem modFlight_evt : (s.modFlight f).evt = s.evt := rfl
@[simp] theorem modFlight_pend : (s.modFlight f).pend = s.pend := rfl
@[simp] theorem modFlight_trust : (s.modFlight f).trust = s.trust := rfl
@[simp] theorem modFlight_fw : (s.modFlight f).fw = s.fw := rfl
@[simp] theorem modFlight_fault : (s.modFlight f).fault = s.fault := rfl
@[simp] theorem modFlight_wick : (s.modFlight f).wick = s.wick := rfl
@[simp] theorem modFlight_power : (s.modFlight f).power = s.power := rfl
@[simp] theorem modFlight_slices : (s.modFlight f).slices = s.slices := rfl
@[simp] theorem modFlight_freshSet : (s.modFlight f).freshSet = s.freshSet := rfl
@[simp] theorem modFlight_out : (s.modFlight f).out = s.out := rfl
@[simp] theorem modFlight_freeCtr : (s.modFlight f).freeCtr = s.freeCtr := rfl
@[simp] theorem modFlight_pending : (s.modFlight f).pending = s.pending := rfl
end

section
variable (f : Tables → Tables)
@[simp] theorem modTab_glb : (s.modTab f).glb = s.glb := rfl
@[simp] theorem modTab_boot : (s.modTab f).boot = s.boot := rfl
@[simp] theorem modTab_lanes : (s.modTab f).lanes = s.lanes := rfl
@[simp] theorem modTab_ports : (s.modTab f).ports = s.ports := rfl
@[simp] theorem modTab_rules : (s.modTab f).rules = s.rules := rfl
@[simp] theorem modTab_flight : (s.modTab f).flight = s.flight := rfl
@[simp] theorem modTab_tab : (s.modTab f).tab = f s.tab := rfl
@[simp] theorem modTab_tabPrev : (s.modTab f).tabPrev = s.tabPrev := rfl
@[simp] theorem modTab_tdc : (s.modTab f).tdc = s.tdc := rfl
@[simp] theorem modTab_buf : (s.modTab f).buf = s.buf := rfl
@[simp] theorem modTab_tm : (s.modTab f).tm = s.tm := rfl
@[simp] theorem modTab_ledger : (s.modTab f).ledger = s.ledger := rfl
@[simp] theorem modTab_mem : (s.modTab f).mem = s.mem := rfl
@[simp] theorem modTab_xdc : (s.modTab f).xdc = s.xdc := rfl
@[simp] theorem modTab_lantern : (s.modTab f).lantern = s.lantern := rfl
@[simp] theorem modTab_pmc : (s.modTab f).pmc = s.pmc := rfl
@[simp] theorem modTab_time : (s.modTab f).time = s.time := rfl
@[simp] theorem modTab_host : (s.modTab f).host = s.host := rfl
@[simp] theorem modTab_mbx : (s.modTab f).mbx = s.mbx := rfl
@[simp] theorem modTab_evt : (s.modTab f).evt = s.evt := rfl
@[simp] theorem modTab_pend : (s.modTab f).pend = s.pend := rfl
@[simp] theorem modTab_trust : (s.modTab f).trust = s.trust := rfl
@[simp] theorem modTab_fw : (s.modTab f).fw = s.fw := rfl
@[simp] theorem modTab_fault : (s.modTab f).fault = s.fault := rfl
@[simp] theorem modTab_wick : (s.modTab f).wick = s.wick := rfl
@[simp] theorem modTab_power : (s.modTab f).power = s.power := rfl
@[simp] theorem modTab_slices : (s.modTab f).slices = s.slices := rfl
@[simp] theorem modTab_freshSet : (s.modTab f).freshSet = s.freshSet := rfl
@[simp] theorem modTab_out : (s.modTab f).out = s.out := rfl
@[simp] theorem modTab_freeCtr : (s.modTab f).freeCtr = s.freeCtr := rfl
@[simp] theorem modTab_pending : (s.modTab f).pending = s.pending := rfl
end

section
variable (f : Tables → Tables)
@[simp] theorem modTabPrev_glb : (s.modTabPrev f).glb = s.glb := rfl
@[simp] theorem modTabPrev_boot : (s.modTabPrev f).boot = s.boot := rfl
@[simp] theorem modTabPrev_lanes : (s.modTabPrev f).lanes = s.lanes := rfl
@[simp] theorem modTabPrev_ports : (s.modTabPrev f).ports = s.ports := rfl
@[simp] theorem modTabPrev_rules : (s.modTabPrev f).rules = s.rules := rfl
@[simp] theorem modTabPrev_flight : (s.modTabPrev f).flight = s.flight := rfl
@[simp] theorem modTabPrev_tab : (s.modTabPrev f).tab = s.tab := rfl
@[simp] theorem modTabPrev_tabPrev : (s.modTabPrev f).tabPrev = f s.tabPrev := rfl
@[simp] theorem modTabPrev_tdc : (s.modTabPrev f).tdc = s.tdc := rfl
@[simp] theorem modTabPrev_buf : (s.modTabPrev f).buf = s.buf := rfl
@[simp] theorem modTabPrev_tm : (s.modTabPrev f).tm = s.tm := rfl
@[simp] theorem modTabPrev_ledger : (s.modTabPrev f).ledger = s.ledger := rfl
@[simp] theorem modTabPrev_mem : (s.modTabPrev f).mem = s.mem := rfl
@[simp] theorem modTabPrev_xdc : (s.modTabPrev f).xdc = s.xdc := rfl
@[simp] theorem modTabPrev_lantern : (s.modTabPrev f).lantern = s.lantern := rfl
@[simp] theorem modTabPrev_pmc : (s.modTabPrev f).pmc = s.pmc := rfl
@[simp] theorem modTabPrev_time : (s.modTabPrev f).time = s.time := rfl
@[simp] theorem modTabPrev_host : (s.modTabPrev f).host = s.host := rfl
@[simp] theorem modTabPrev_mbx : (s.modTabPrev f).mbx = s.mbx := rfl
@[simp] theorem modTabPrev_evt : (s.modTabPrev f).evt = s.evt := rfl
@[simp] theorem modTabPrev_pend : (s.modTabPrev f).pend = s.pend := rfl
@[simp] theorem modTabPrev_trust : (s.modTabPrev f).trust = s.trust := rfl
@[simp] theorem modTabPrev_fw : (s.modTabPrev f).fw = s.fw := rfl
@[simp] theorem modTabPrev_fault : (s.modTabPrev f).fault = s.fault := rfl
@[simp] theorem modTabPrev_wick : (s.modTabPrev f).wick = s.wick := rfl
@[simp] theorem modTabPrev_power : (s.modTabPrev f).power = s.power := rfl
@[simp] theorem modTabPrev_slices : (s.modTabPrev f).slices = s.slices := rfl
@[simp] theorem modTabPrev_freshSet : (s.modTabPrev f).freshSet = s.freshSet := rfl
@[simp] theorem modTabPrev_out : (s.modTabPrev f).out = s.out := rfl
@[simp] theorem modTabPrev_freeCtr : (s.modTabPrev f).freeCtr = s.freeCtr := rfl
@[simp] theorem modTabPrev_pending : (s.modTabPrev f).pending = s.pending := rfl
end

section
variable (f : Tab Tdc → Tab Tdc)
@[simp] theorem modTdc_glb : (s.modTdc f).glb = s.glb := rfl
@[simp] theorem modTdc_boot : (s.modTdc f).boot = s.boot := rfl
@[simp] theorem modTdc_lanes : (s.modTdc f).lanes = s.lanes := rfl
@[simp] theorem modTdc_ports : (s.modTdc f).ports = s.ports := rfl
@[simp] theorem modTdc_rules : (s.modTdc f).rules = s.rules := rfl
@[simp] theorem modTdc_flight : (s.modTdc f).flight = s.flight := rfl
@[simp] theorem modTdc_tab : (s.modTdc f).tab = s.tab := rfl
@[simp] theorem modTdc_tabPrev : (s.modTdc f).tabPrev = s.tabPrev := rfl
@[simp] theorem modTdc_tdc : (s.modTdc f).tdc = f s.tdc := rfl
@[simp] theorem modTdc_buf : (s.modTdc f).buf = s.buf := rfl
@[simp] theorem modTdc_tm : (s.modTdc f).tm = s.tm := rfl
@[simp] theorem modTdc_ledger : (s.modTdc f).ledger = s.ledger := rfl
@[simp] theorem modTdc_mem : (s.modTdc f).mem = s.mem := rfl
@[simp] theorem modTdc_xdc : (s.modTdc f).xdc = s.xdc := rfl
@[simp] theorem modTdc_lantern : (s.modTdc f).lantern = s.lantern := rfl
@[simp] theorem modTdc_pmc : (s.modTdc f).pmc = s.pmc := rfl
@[simp] theorem modTdc_time : (s.modTdc f).time = s.time := rfl
@[simp] theorem modTdc_host : (s.modTdc f).host = s.host := rfl
@[simp] theorem modTdc_mbx : (s.modTdc f).mbx = s.mbx := rfl
@[simp] theorem modTdc_evt : (s.modTdc f).evt = s.evt := rfl
@[simp] theorem modTdc_pend : (s.modTdc f).pend = s.pend := rfl
@[simp] theorem modTdc_trust : (s.modTdc f).trust = s.trust := rfl
@[simp] theorem modTdc_fw : (s.modTdc f).fw = s.fw := rfl
@[simp] theorem modTdc_fault : (s.modTdc f).fault = s.fault := rfl
@[simp] theorem modTdc_wick : (s.modTdc f).wick = s.wick := rfl
@[simp] theorem modTdc_power : (s.modTdc f).power = s.power := rfl
@[simp] theorem modTdc_slices : (s.modTdc f).slices = s.slices := rfl
@[simp] theorem modTdc_freshSet : (s.modTdc f).freshSet = s.freshSet := rfl
@[simp] theorem modTdc_out : (s.modTdc f).out = s.out := rfl
@[simp] theorem modTdc_freeCtr : (s.modTdc f).freeCtr = s.freeCtr := rfl
@[simp] theorem modTdc_pending : (s.modTdc f).pending = s.pending := rfl
end

section
variable (f : Buf → Buf)
@[simp] theorem modBuf_glb : (s.modBuf f).glb = s.glb := rfl
@[simp] theorem modBuf_boot : (s.modBuf f).boot = s.boot := rfl
@[simp] theorem modBuf_lanes : (s.modBuf f).lanes = s.lanes := rfl
@[simp] theorem modBuf_ports : (s.modBuf f).ports = s.ports := rfl
@[simp] theorem modBuf_rules : (s.modBuf f).rules = s.rules := rfl
@[simp] theorem modBuf_flight : (s.modBuf f).flight = s.flight := rfl
@[simp] theorem modBuf_tab : (s.modBuf f).tab = s.tab := rfl
@[simp] theorem modBuf_tabPrev : (s.modBuf f).tabPrev = s.tabPrev := rfl
@[simp] theorem modBuf_tdc : (s.modBuf f).tdc = s.tdc := rfl
@[simp] theorem modBuf_buf : (s.modBuf f).buf = f s.buf := rfl
@[simp] theorem modBuf_tm : (s.modBuf f).tm = s.tm := rfl
@[simp] theorem modBuf_ledger : (s.modBuf f).ledger = s.ledger := rfl
@[simp] theorem modBuf_mem : (s.modBuf f).mem = s.mem := rfl
@[simp] theorem modBuf_xdc : (s.modBuf f).xdc = s.xdc := rfl
@[simp] theorem modBuf_lantern : (s.modBuf f).lantern = s.lantern := rfl
@[simp] theorem modBuf_pmc : (s.modBuf f).pmc = s.pmc := rfl
@[simp] theorem modBuf_time : (s.modBuf f).time = s.time := rfl
@[simp] theorem modBuf_host : (s.modBuf f).host = s.host := rfl
@[simp] theorem modBuf_mbx : (s.modBuf f).mbx = s.mbx := rfl
@[simp] theorem modBuf_evt : (s.modBuf f).evt = s.evt := rfl
@[simp] theorem modBuf_pend : (s.modBuf f).pend = s.pend := rfl
@[simp] theorem modBuf_trust : (s.modBuf f).trust = s.trust := rfl
@[simp] theorem modBuf_fw : (s.modBuf f).fw = s.fw := rfl
@[simp] theorem modBuf_fault : (s.modBuf f).fault = s.fault := rfl
@[simp] theorem modBuf_wick : (s.modBuf f).wick = s.wick := rfl
@[simp] theorem modBuf_power : (s.modBuf f).power = s.power := rfl
@[simp] theorem modBuf_slices : (s.modBuf f).slices = s.slices := rfl
@[simp] theorem modBuf_freshSet : (s.modBuf f).freshSet = s.freshSet := rfl
@[simp] theorem modBuf_out : (s.modBuf f).out = s.out := rfl
@[simp] theorem modBuf_freeCtr : (s.modBuf f).freeCtr = s.freeCtr := rfl
@[simp] theorem modBuf_pending : (s.modBuf f).pending = s.pending := rfl
end

section
variable (f : Tm → Tm)
@[simp] theorem modTm_glb : (s.modTm f).glb = s.glb := rfl
@[simp] theorem modTm_boot : (s.modTm f).boot = s.boot := rfl
@[simp] theorem modTm_lanes : (s.modTm f).lanes = s.lanes := rfl
@[simp] theorem modTm_ports : (s.modTm f).ports = s.ports := rfl
@[simp] theorem modTm_rules : (s.modTm f).rules = s.rules := rfl
@[simp] theorem modTm_flight : (s.modTm f).flight = s.flight := rfl
@[simp] theorem modTm_tab : (s.modTm f).tab = s.tab := rfl
@[simp] theorem modTm_tabPrev : (s.modTm f).tabPrev = s.tabPrev := rfl
@[simp] theorem modTm_tdc : (s.modTm f).tdc = s.tdc := rfl
@[simp] theorem modTm_buf : (s.modTm f).buf = s.buf := rfl
@[simp] theorem modTm_tm : (s.modTm f).tm = f s.tm := rfl
@[simp] theorem modTm_ledger : (s.modTm f).ledger = s.ledger := rfl
@[simp] theorem modTm_mem : (s.modTm f).mem = s.mem := rfl
@[simp] theorem modTm_xdc : (s.modTm f).xdc = s.xdc := rfl
@[simp] theorem modTm_lantern : (s.modTm f).lantern = s.lantern := rfl
@[simp] theorem modTm_pmc : (s.modTm f).pmc = s.pmc := rfl
@[simp] theorem modTm_time : (s.modTm f).time = s.time := rfl
@[simp] theorem modTm_host : (s.modTm f).host = s.host := rfl
@[simp] theorem modTm_mbx : (s.modTm f).mbx = s.mbx := rfl
@[simp] theorem modTm_evt : (s.modTm f).evt = s.evt := rfl
@[simp] theorem modTm_pend : (s.modTm f).pend = s.pend := rfl
@[simp] theorem modTm_trust : (s.modTm f).trust = s.trust := rfl
@[simp] theorem modTm_fw : (s.modTm f).fw = s.fw := rfl
@[simp] theorem modTm_fault : (s.modTm f).fault = s.fault := rfl
@[simp] theorem modTm_wick : (s.modTm f).wick = s.wick := rfl
@[simp] theorem modTm_power : (s.modTm f).power = s.power := rfl
@[simp] theorem modTm_slices : (s.modTm f).slices = s.slices := rfl
@[simp] theorem modTm_freshSet : (s.modTm f).freshSet = s.freshSet := rfl
@[simp] theorem modTm_out : (s.modTm f).out = s.out := rfl
@[simp] theorem modTm_freeCtr : (s.modTm f).freeCtr = s.freeCtr := rfl
@[simp] theorem modTm_pending : (s.modTm f).pending = s.pending := rfl
end

section
variable (f : Ledger → Ledger)
@[simp] theorem modLedger_glb : (s.modLedger f).glb = s.glb := rfl
@[simp] theorem modLedger_boot : (s.modLedger f).boot = s.boot := rfl
@[simp] theorem modLedger_lanes : (s.modLedger f).lanes = s.lanes := rfl
@[simp] theorem modLedger_ports : (s.modLedger f).ports = s.ports := rfl
@[simp] theorem modLedger_rules : (s.modLedger f).rules = s.rules := rfl
@[simp] theorem modLedger_flight : (s.modLedger f).flight = s.flight := rfl
@[simp] theorem modLedger_tab : (s.modLedger f).tab = s.tab := rfl
@[simp] theorem modLedger_tabPrev : (s.modLedger f).tabPrev = s.tabPrev := rfl
@[simp] theorem modLedger_tdc : (s.modLedger f).tdc = s.tdc := rfl
@[simp] theorem modLedger_buf : (s.modLedger f).buf = s.buf := rfl
@[simp] theorem modLedger_tm : (s.modLedger f).tm = s.tm := rfl
@[simp] theorem modLedger_ledger : (s.modLedger f).ledger = f s.ledger := rfl
@[simp] theorem modLedger_mem : (s.modLedger f).mem = s.mem := rfl
@[simp] theorem modLedger_xdc : (s.modLedger f).xdc = s.xdc := rfl
@[simp] theorem modLedger_lantern : (s.modLedger f).lantern = s.lantern := rfl
@[simp] theorem modLedger_pmc : (s.modLedger f).pmc = s.pmc := rfl
@[simp] theorem modLedger_time : (s.modLedger f).time = s.time := rfl
@[simp] theorem modLedger_host : (s.modLedger f).host = s.host := rfl
@[simp] theorem modLedger_mbx : (s.modLedger f).mbx = s.mbx := rfl
@[simp] theorem modLedger_evt : (s.modLedger f).evt = s.evt := rfl
@[simp] theorem modLedger_pend : (s.modLedger f).pend = s.pend := rfl
@[simp] theorem modLedger_trust : (s.modLedger f).trust = s.trust := rfl
@[simp] theorem modLedger_fw : (s.modLedger f).fw = s.fw := rfl
@[simp] theorem modLedger_fault : (s.modLedger f).fault = s.fault := rfl
@[simp] theorem modLedger_wick : (s.modLedger f).wick = s.wick := rfl
@[simp] theorem modLedger_power : (s.modLedger f).power = s.power := rfl
@[simp] theorem modLedger_slices : (s.modLedger f).slices = s.slices := rfl
@[simp] theorem modLedger_freshSet : (s.modLedger f).freshSet = s.freshSet := rfl
@[simp] theorem modLedger_out : (s.modLedger f).out = s.out := rfl
@[simp] theorem modLedger_freeCtr : (s.modLedger f).freeCtr = s.freeCtr := rfl
@[simp] theorem modLedger_pending : (s.modLedger f).pending = s.pending := rfl
end

section
variable (f : Mem → Mem)
@[simp] theorem modMem_glb : (s.modMem f).glb = s.glb := rfl
@[simp] theorem modMem_boot : (s.modMem f).boot = s.boot := rfl
@[simp] theorem modMem_lanes : (s.modMem f).lanes = s.lanes := rfl
@[simp] theorem modMem_ports : (s.modMem f).ports = s.ports := rfl
@[simp] theorem modMem_rules : (s.modMem f).rules = s.rules := rfl
@[simp] theorem modMem_flight : (s.modMem f).flight = s.flight := rfl
@[simp] theorem modMem_tab : (s.modMem f).tab = s.tab := rfl
@[simp] theorem modMem_tabPrev : (s.modMem f).tabPrev = s.tabPrev := rfl
@[simp] theorem modMem_tdc : (s.modMem f).tdc = s.tdc := rfl
@[simp] theorem modMem_buf : (s.modMem f).buf = s.buf := rfl
@[simp] theorem modMem_tm : (s.modMem f).tm = s.tm := rfl
@[simp] theorem modMem_ledger : (s.modMem f).ledger = s.ledger := rfl
@[simp] theorem modMem_mem : (s.modMem f).mem = f s.mem := rfl
@[simp] theorem modMem_xdc : (s.modMem f).xdc = s.xdc := rfl
@[simp] theorem modMem_lantern : (s.modMem f).lantern = s.lantern := rfl
@[simp] theorem modMem_pmc : (s.modMem f).pmc = s.pmc := rfl
@[simp] theorem modMem_time : (s.modMem f).time = s.time := rfl
@[simp] theorem modMem_host : (s.modMem f).host = s.host := rfl
@[simp] theorem modMem_mbx : (s.modMem f).mbx = s.mbx := rfl
@[simp] theorem modMem_evt : (s.modMem f).evt = s.evt := rfl
@[simp] theorem modMem_pend : (s.modMem f).pend = s.pend := rfl
@[simp] theorem modMem_trust : (s.modMem f).trust = s.trust := rfl
@[simp] theorem modMem_fw : (s.modMem f).fw = s.fw := rfl
@[simp] theorem modMem_fault : (s.modMem f).fault = s.fault := rfl
@[simp] theorem modMem_wick : (s.modMem f).wick = s.wick := rfl
@[simp] theorem modMem_power : (s.modMem f).power = s.power := rfl
@[simp] theorem modMem_slices : (s.modMem f).slices = s.slices := rfl
@[simp] theorem modMem_freshSet : (s.modMem f).freshSet = s.freshSet := rfl
@[simp] theorem modMem_out : (s.modMem f).out = s.out := rfl
@[simp] theorem modMem_freeCtr : (s.modMem f).freeCtr = s.freeCtr := rfl
@[simp] theorem modMem_pending : (s.modMem f).pending = s.pending := rfl
end

section
variable (f : Tab Xdc → Tab Xdc)
@[simp] theorem modXdc_glb : (s.modXdc f).glb = s.glb := rfl
@[simp] theorem modXdc_boot : (s.modXdc f).boot = s.boot := rfl
@[simp] theorem modXdc_lanes : (s.modXdc f).lanes = s.lanes := rfl
@[simp] theorem modXdc_ports : (s.modXdc f).ports = s.ports := rfl
@[simp] theorem modXdc_rules : (s.modXdc f).rules = s.rules := rfl
@[simp] theorem modXdc_flight : (s.modXdc f).flight = s.flight := rfl
@[simp] theorem modXdc_tab : (s.modXdc f).tab = s.tab := rfl
@[simp] theorem modXdc_tabPrev : (s.modXdc f).tabPrev = s.tabPrev := rfl
@[simp] theorem modXdc_tdc : (s.modXdc f).tdc = s.tdc := rfl
@[simp] theorem modXdc_buf : (s.modXdc f).buf = s.buf := rfl
@[simp] theorem modXdc_tm : (s.modXdc f).tm = s.tm := rfl
@[simp] theorem modXdc_ledger : (s.modXdc f).ledger = s.ledger := rfl
@[simp] theorem modXdc_mem : (s.modXdc f).mem = s.mem := rfl
@[simp] theorem modXdc_xdc : (s.modXdc f).xdc = f s.xdc := rfl
@[simp] theorem modXdc_lantern : (s.modXdc f).lantern = s.lantern := rfl
@[simp] theorem modXdc_pmc : (s.modXdc f).pmc = s.pmc := rfl
@[simp] theorem modXdc_time : (s.modXdc f).time = s.time := rfl
@[simp] theorem modXdc_host : (s.modXdc f).host = s.host := rfl
@[simp] theorem modXdc_mbx : (s.modXdc f).mbx = s.mbx := rfl
@[simp] theorem modXdc_evt : (s.modXdc f).evt = s.evt := rfl
@[simp] theorem modXdc_pend : (s.modXdc f).pend = s.pend := rfl
@[simp] theorem modXdc_trust : (s.modXdc f).trust = s.trust := rfl
@[simp] theorem modXdc_fw : (s.modXdc f).fw = s.fw := rfl
@[simp] theorem modXdc_fault : (s.modXdc f).fault = s.fault := rfl
@[simp] theorem modXdc_wick : (s.modXdc f).wick = s.wick := rfl
@[simp] theorem modXdc_power : (s.modXdc f).power = s.power := rfl
@[simp] theorem modXdc_slices : (s.modXdc f).slices = s.slices := rfl
@[simp] theorem modXdc_freshSet : (s.modXdc f).freshSet = s.freshSet := rfl
@[simp] theorem modXdc_out : (s.modXdc f).out = s.out := rfl
@[simp] theorem modXdc_freeCtr : (s.modXdc f).freeCtr = s.freeCtr := rfl
@[simp] theorem modXdc_pending : (s.modXdc f).pending = s.pending := rfl
end

section
variable (f : Lantern → Lantern)
@[simp] theorem modLantern_glb : (s.modLantern f).glb = s.glb := rfl
@[simp] theorem modLantern_boot : (s.modLantern f).boot = s.boot := rfl
@[simp] theorem modLantern_lanes : (s.modLantern f).lanes = s.lanes := rfl
@[simp] theorem modLantern_ports : (s.modLantern f).ports = s.ports := rfl
@[simp] theorem modLantern_rules : (s.modLantern f).rules = s.rules := rfl
@[simp] theorem modLantern_flight : (s.modLantern f).flight = s.flight := rfl
@[simp] theorem modLantern_tab : (s.modLantern f).tab = s.tab := rfl
@[simp] theorem modLantern_tabPrev : (s.modLantern f).tabPrev = s.tabPrev := rfl
@[simp] theorem modLantern_tdc : (s.modLantern f).tdc = s.tdc := rfl
@[simp] theorem modLantern_buf : (s.modLantern f).buf = s.buf := rfl
@[simp] theorem modLantern_tm : (s.modLantern f).tm = s.tm := rfl
@[simp] theorem modLantern_ledger : (s.modLantern f).ledger = s.ledger := rfl
@[simp] theorem modLantern_mem : (s.modLantern f).mem = s.mem := rfl
@[simp] theorem modLantern_xdc : (s.modLantern f).xdc = s.xdc := rfl
@[simp] theorem modLantern_lantern : (s.modLantern f).lantern = f s.lantern := rfl
@[simp] theorem modLantern_pmc : (s.modLantern f).pmc = s.pmc := rfl
@[simp] theorem modLantern_time : (s.modLantern f).time = s.time := rfl
@[simp] theorem modLantern_host : (s.modLantern f).host = s.host := rfl
@[simp] theorem modLantern_mbx : (s.modLantern f).mbx = s.mbx := rfl
@[simp] theorem modLantern_evt : (s.modLantern f).evt = s.evt := rfl
@[simp] theorem modLantern_pend : (s.modLantern f).pend = s.pend := rfl
@[simp] theorem modLantern_trust : (s.modLantern f).trust = s.trust := rfl
@[simp] theorem modLantern_fw : (s.modLantern f).fw = s.fw := rfl
@[simp] theorem modLantern_fault : (s.modLantern f).fault = s.fault := rfl
@[simp] theorem modLantern_wick : (s.modLantern f).wick = s.wick := rfl
@[simp] theorem modLantern_power : (s.modLantern f).power = s.power := rfl
@[simp] theorem modLantern_slices : (s.modLantern f).slices = s.slices := rfl
@[simp] theorem modLantern_freshSet : (s.modLantern f).freshSet = s.freshSet := rfl
@[simp] theorem modLantern_out : (s.modLantern f).out = s.out := rfl
@[simp] theorem modLantern_freeCtr : (s.modLantern f).freeCtr = s.freeCtr := rfl
@[simp] theorem modLantern_pending : (s.modLantern f).pending = s.pending := rfl
end

section
variable (f : Pmc → Pmc)
@[simp] theorem modPmc_glb : (s.modPmc f).glb = s.glb := rfl
@[simp] theorem modPmc_boot : (s.modPmc f).boot = s.boot := rfl
@[simp] theorem modPmc_lanes : (s.modPmc f).lanes = s.lanes := rfl
@[simp] theorem modPmc_ports : (s.modPmc f).ports = s.ports := rfl
@[simp] theorem modPmc_rules : (s.modPmc f).rules = s.rules := rfl
@[simp] theorem modPmc_flight : (s.modPmc f).flight = s.flight := rfl
@[simp] theorem modPmc_tab : (s.modPmc f).tab = s.tab := rfl
@[simp] theorem modPmc_tabPrev : (s.modPmc f).tabPrev = s.tabPrev := rfl
@[simp] theorem modPmc_tdc : (s.modPmc f).tdc = s.tdc := rfl
@[simp] theorem modPmc_buf : (s.modPmc f).buf = s.buf := rfl
@[simp] theorem modPmc_tm : (s.modPmc f).tm = s.tm := rfl
@[simp] theorem modPmc_ledger : (s.modPmc f).ledger = s.ledger := rfl
@[simp] theorem modPmc_mem : (s.modPmc f).mem = s.mem := rfl
@[simp] theorem modPmc_xdc : (s.modPmc f).xdc = s.xdc := rfl
@[simp] theorem modPmc_lantern : (s.modPmc f).lantern = s.lantern := rfl
@[simp] theorem modPmc_pmc : (s.modPmc f).pmc = f s.pmc := rfl
@[simp] theorem modPmc_time : (s.modPmc f).time = s.time := rfl
@[simp] theorem modPmc_host : (s.modPmc f).host = s.host := rfl
@[simp] theorem modPmc_mbx : (s.modPmc f).mbx = s.mbx := rfl
@[simp] theorem modPmc_evt : (s.modPmc f).evt = s.evt := rfl
@[simp] theorem modPmc_pend : (s.modPmc f).pend = s.pend := rfl
@[simp] theorem modPmc_trust : (s.modPmc f).trust = s.trust := rfl
@[simp] theorem modPmc_fw : (s.modPmc f).fw = s.fw := rfl
@[simp] theorem modPmc_fault : (s.modPmc f).fault = s.fault := rfl
@[simp] theorem modPmc_wick : (s.modPmc f).wick = s.wick := rfl
@[simp] theorem modPmc_power : (s.modPmc f).power = s.power := rfl
@[simp] theorem modPmc_slices : (s.modPmc f).slices = s.slices := rfl
@[simp] theorem modPmc_freshSet : (s.modPmc f).freshSet = s.freshSet := rfl
@[simp] theorem modPmc_out : (s.modPmc f).out = s.out := rfl
@[simp] theorem modPmc_freeCtr : (s.modPmc f).freeCtr = s.freeCtr := rfl
@[simp] theorem modPmc_pending : (s.modPmc f).pending = s.pending := rfl
end

section
variable (f : Time → Time)
@[simp] theorem modTime_glb : (s.modTime f).glb = s.glb := rfl
@[simp] theorem modTime_boot : (s.modTime f).boot = s.boot := rfl
@[simp] theorem modTime_lanes : (s.modTime f).lanes = s.lanes := rfl
@[simp] theorem modTime_ports : (s.modTime f).ports = s.ports := rfl
@[simp] theorem modTime_rules : (s.modTime f).rules = s.rules := rfl
@[simp] theorem modTime_flight : (s.modTime f).flight = s.flight := rfl
@[simp] theorem modTime_tab : (s.modTime f).tab = s.tab := rfl
@[simp] theorem modTime_tabPrev : (s.modTime f).tabPrev = s.tabPrev := rfl
@[simp] theorem modTime_tdc : (s.modTime f).tdc = s.tdc := rfl
@[simp] theorem modTime_buf : (s.modTime f).buf = s.buf := rfl
@[simp] theorem modTime_tm : (s.modTime f).tm = s.tm := rfl
@[simp] theorem modTime_ledger : (s.modTime f).ledger = s.ledger := rfl
@[simp] theorem modTime_mem : (s.modTime f).mem = s.mem := rfl
@[simp] theorem modTime_xdc : (s.modTime f).xdc = s.xdc := rfl
@[simp] theorem modTime_lantern : (s.modTime f).lantern = s.lantern := rfl
@[simp] theorem modTime_pmc : (s.modTime f).pmc = s.pmc := rfl
@[simp] theorem modTime_time : (s.modTime f).time = f s.time := rfl
@[simp] theorem modTime_host : (s.modTime f).host = s.host := rfl
@[simp] theorem modTime_mbx : (s.modTime f).mbx = s.mbx := rfl
@[simp] theorem modTime_evt : (s.modTime f).evt = s.evt := rfl
@[simp] theorem modTime_pend : (s.modTime f).pend = s.pend := rfl
@[simp] theorem modTime_trust : (s.modTime f).trust = s.trust := rfl
@[simp] theorem modTime_fw : (s.modTime f).fw = s.fw := rfl
@[simp] theorem modTime_fault : (s.modTime f).fault = s.fault := rfl
@[simp] theorem modTime_wick : (s.modTime f).wick = s.wick := rfl
@[simp] theorem modTime_power : (s.modTime f).power = s.power := rfl
@[simp] theorem modTime_slices : (s.modTime f).slices = s.slices := rfl
@[simp] theorem modTime_freshSet : (s.modTime f).freshSet = s.freshSet := rfl
@[simp] theorem modTime_out : (s.modTime f).out = s.out := rfl
@[simp] theorem modTime_freeCtr : (s.modTime f).freeCtr = s.freeCtr := rfl
@[simp] theorem modTime_pending : (s.modTime f).pending = s.pending := rfl
end

section
variable (f : HostIf → HostIf)
@[simp] theorem modHost_glb : (s.modHost f).glb = s.glb := rfl
@[simp] theorem modHost_boot : (s.modHost f).boot = s.boot := rfl
@[simp] theorem modHost_lanes : (s.modHost f).lanes = s.lanes := rfl
@[simp] theorem modHost_ports : (s.modHost f).ports = s.ports := rfl
@[simp] theorem modHost_rules : (s.modHost f).rules = s.rules := rfl
@[simp] theorem modHost_flight : (s.modHost f).flight = s.flight := rfl
@[simp] theorem modHost_tab : (s.modHost f).tab = s.tab := rfl
@[simp] theorem modHost_tabPrev : (s.modHost f).tabPrev = s.tabPrev := rfl
@[simp] theorem modHost_tdc : (s.modHost f).tdc = s.tdc := rfl
@[simp] theorem modHost_buf : (s.modHost f).buf = s.buf := rfl
@[simp] theorem modHost_tm : (s.modHost f).tm = s.tm := rfl
@[simp] theorem modHost_ledger : (s.modHost f).ledger = s.ledger := rfl
@[simp] theorem modHost_mem : (s.modHost f).mem = s.mem := rfl
@[simp] theorem modHost_xdc : (s.modHost f).xdc = s.xdc := rfl
@[simp] theorem modHost_lantern : (s.modHost f).lantern = s.lantern := rfl
@[simp] theorem modHost_pmc : (s.modHost f).pmc = s.pmc := rfl
@[simp] theorem modHost_time : (s.modHost f).time = s.time := rfl
@[simp] theorem modHost_host : (s.modHost f).host = f s.host := rfl
@[simp] theorem modHost_mbx : (s.modHost f).mbx = s.mbx := rfl
@[simp] theorem modHost_evt : (s.modHost f).evt = s.evt := rfl
@[simp] theorem modHost_pend : (s.modHost f).pend = s.pend := rfl
@[simp] theorem modHost_trust : (s.modHost f).trust = s.trust := rfl
@[simp] theorem modHost_fw : (s.modHost f).fw = s.fw := rfl
@[simp] theorem modHost_fault : (s.modHost f).fault = s.fault := rfl
@[simp] theorem modHost_wick : (s.modHost f).wick = s.wick := rfl
@[simp] theorem modHost_power : (s.modHost f).power = s.power := rfl
@[simp] theorem modHost_slices : (s.modHost f).slices = s.slices := rfl
@[simp] theorem modHost_freshSet : (s.modHost f).freshSet = s.freshSet := rfl
@[simp] theorem modHost_out : (s.modHost f).out = s.out := rfl
@[simp] theorem modHost_freeCtr : (s.modHost f).freeCtr = s.freeCtr := rfl
@[simp] theorem modHost_pending : (s.modHost f).pending = s.pending := rfl
end

section
variable (f : Mbxs → Mbxs)
@[simp] theorem modMbx_glb : (s.modMbx f).glb = s.glb := rfl
@[simp] theorem modMbx_boot : (s.modMbx f).boot = s.boot := rfl
@[simp] theorem modMbx_lanes : (s.modMbx f).lanes = s.lanes := rfl
@[simp] theorem modMbx_ports : (s.modMbx f).ports = s.ports := rfl
@[simp] theorem modMbx_rules : (s.modMbx f).rules = s.rules := rfl
@[simp] theorem modMbx_flight : (s.modMbx f).flight = s.flight := rfl
@[simp] theorem modMbx_tab : (s.modMbx f).tab = s.tab := rfl
@[simp] theorem modMbx_tabPrev : (s.modMbx f).tabPrev = s.tabPrev := rfl
@[simp] theorem modMbx_tdc : (s.modMbx f).tdc = s.tdc := rfl
@[simp] theorem modMbx_buf : (s.modMbx f).buf = s.buf := rfl
@[simp] theorem modMbx_tm : (s.modMbx f).tm = s.tm := rfl
@[simp] theorem modMbx_ledger : (s.modMbx f).ledger = s.ledger := rfl
@[simp] theorem modMbx_mem : (s.modMbx f).mem = s.mem := rfl
@[simp] theorem modMbx_xdc : (s.modMbx f).xdc = s.xdc := rfl
@[simp] theorem modMbx_lantern : (s.modMbx f).lantern = s.lantern := rfl
@[simp] theorem modMbx_pmc : (s.modMbx f).pmc = s.pmc := rfl
@[simp] theorem modMbx_time : (s.modMbx f).time = s.time := rfl
@[simp] theorem modMbx_host : (s.modMbx f).host = s.host := rfl
@[simp] theorem modMbx_mbx : (s.modMbx f).mbx = f s.mbx := rfl
@[simp] theorem modMbx_evt : (s.modMbx f).evt = s.evt := rfl
@[simp] theorem modMbx_pend : (s.modMbx f).pend = s.pend := rfl
@[simp] theorem modMbx_trust : (s.modMbx f).trust = s.trust := rfl
@[simp] theorem modMbx_fw : (s.modMbx f).fw = s.fw := rfl
@[simp] theorem modMbx_fault : (s.modMbx f).fault = s.fault := rfl
@[simp] theorem modMbx_wick : (s.modMbx f).wick = s.wick := rfl
@[simp] theorem modMbx_power : (s.modMbx f).power = s.power := rfl
@[simp] theorem modMbx_slices : (s.modMbx f).slices = s.slices := rfl
@[simp] theorem modMbx_freshSet : (s.modMbx f).freshSet = s.freshSet := rfl
@[simp] theorem modMbx_out : (s.modMbx f).out = s.out := rfl
@[simp] theorem modMbx_freeCtr : (s.modMbx f).freeCtr = s.freeCtr := rfl
@[simp] theorem modMbx_pending : (s.modMbx f).pending = s.pending := rfl
end

section
variable (f : Evt → Evt)
@[simp] theorem modEvt_glb : (s.modEvt f).glb = s.glb := rfl
@[simp] theorem modEvt_boot : (s.modEvt f).boot = s.boot := rfl
@[simp] theorem modEvt_lanes : (s.modEvt f).lanes = s.lanes := rfl
@[simp] theorem modEvt_ports : (s.modEvt f).ports = s.ports := rfl
@[simp] theorem modEvt_rules : (s.modEvt f).rules = s.rules := rfl
@[simp] theorem modEvt_flight : (s.modEvt f).flight = s.flight := rfl
@[simp] theorem modEvt_tab : (s.modEvt f).tab = s.tab := rfl
@[simp] theorem modEvt_tabPrev : (s.modEvt f).tabPrev = s.tabPrev := rfl
@[simp] theorem modEvt_tdc : (s.modEvt f).tdc = s.tdc := rfl
@[simp] theorem modEvt_buf : (s.modEvt f).buf = s.buf := rfl
@[simp] theorem modEvt_tm : (s.modEvt f).tm = s.tm := rfl
@[simp] theorem modEvt_ledger : (s.modEvt f).ledger = s.ledger := rfl
@[simp] theorem modEvt_mem : (s.modEvt f).mem = s.mem := rfl
@[simp] theorem modEvt_xdc : (s.modEvt f).xdc = s.xdc := rfl
@[simp] theorem modEvt_lantern : (s.modEvt f).lantern = s.lantern := rfl
@[simp] theorem modEvt_pmc : (s.modEvt f).pmc = s.pmc := rfl
@[simp] theorem modEvt_time : (s.modEvt f).time = s.time := rfl
@[simp] theorem modEvt_host : (s.modEvt f).host = s.host := rfl
@[simp] theorem modEvt_mbx : (s.modEvt f).mbx = s.mbx := rfl
@[simp] theorem modEvt_evt : (s.modEvt f).evt = f s.evt := rfl
@[simp] theorem modEvt_pend : (s.modEvt f).pend = s.pend := rfl
@[simp] theorem modEvt_trust : (s.modEvt f).trust = s.trust := rfl
@[simp] theorem modEvt_fw : (s.modEvt f).fw = s.fw := rfl
@[simp] theorem modEvt_fault : (s.modEvt f).fault = s.fault := rfl
@[simp] theorem modEvt_wick : (s.modEvt f).wick = s.wick := rfl
@[simp] theorem modEvt_power : (s.modEvt f).power = s.power := rfl
@[simp] theorem modEvt_slices : (s.modEvt f).slices = s.slices := rfl
@[simp] theorem modEvt_freshSet : (s.modEvt f).freshSet = s.freshSet := rfl
@[simp] theorem modEvt_out : (s.modEvt f).out = s.out := rfl
@[simp] theorem modEvt_freeCtr : (s.modEvt f).freeCtr = s.freeCtr := rfl
@[simp] theorem modEvt_pending : (s.modEvt f).pending = s.pending := rfl
end

section
variable (f : List Pend → List Pend)
@[simp] theorem modPend_glb : (s.modPend f).glb = s.glb := rfl
@[simp] theorem modPend_boot : (s.modPend f).boot = s.boot := rfl
@[simp] theorem modPend_lanes : (s.modPend f).lanes = s.lanes := rfl
@[simp] theorem modPend_ports : (s.modPend f).ports = s.ports := rfl
@[simp] theorem modPend_rules : (s.modPend f).rules = s.rules := rfl
@[simp] theorem modPend_flight : (s.modPend f).flight = s.flight := rfl
@[simp] theorem modPend_tab : (s.modPend f).tab = s.tab := rfl
@[simp] theorem modPend_tabPrev : (s.modPend f).tabPrev = s.tabPrev := rfl
@[simp] theorem modPend_tdc : (s.modPend f).tdc = s.tdc := rfl
@[simp] theorem modPend_buf : (s.modPend f).buf = s.buf := rfl
@[simp] theorem modPend_tm : (s.modPend f).tm = s.tm := rfl
@[simp] theorem modPend_ledger : (s.modPend f).ledger = s.ledger := rfl
@[simp] theorem modPend_mem : (s.modPend f).mem = s.mem := rfl
@[simp] theorem modPend_xdc : (s.modPend f).xdc = s.xdc := rfl
@[simp] theorem modPend_lantern : (s.modPend f).lantern = s.lantern := rfl
@[simp] theorem modPend_pmc : (s.modPend f).pmc = s.pmc := rfl
@[simp] theorem modPend_time : (s.modPend f).time = s.time := rfl
@[simp] theorem modPend_host : (s.modPend f).host = s.host := rfl
@[simp] theorem modPend_mbx : (s.modPend f).mbx = s.mbx := rfl
@[simp] theorem modPend_evt : (s.modPend f).evt = s.evt := rfl
@[simp] theorem modPend_pend : (s.modPend f).pend = f s.pend := rfl
@[simp] theorem modPend_trust : (s.modPend f).trust = s.trust := rfl
@[simp] theorem modPend_fw : (s.modPend f).fw = s.fw := rfl
@[simp] theorem modPend_fault : (s.modPend f).fault = s.fault := rfl
@[simp] theorem modPend_wick : (s.modPend f).wick = s.wick := rfl
@[simp] theorem modPend_power : (s.modPend f).power = s.power := rfl
@[simp] theorem modPend_slices : (s.modPend f).slices = s.slices := rfl
@[simp] theorem modPend_freshSet : (s.modPend f).freshSet = s.freshSet := rfl
@[simp] theorem modPend_out : (s.modPend f).out = s.out := rfl
@[simp] theorem modPend_freeCtr : (s.modPend f).freeCtr = s.freeCtr := rfl
@[simp] theorem modPend_pending : (s.modPend f).pending = s.pending := rfl
end

section
variable (f : Trust → Trust)
@[simp] theorem modTrust_glb : (s.modTrust f).glb = s.glb := rfl
@[simp] theorem modTrust_boot : (s.modTrust f).boot = s.boot := rfl
@[simp] theorem modTrust_lanes : (s.modTrust f).lanes = s.lanes := rfl
@[simp] theorem modTrust_ports : (s.modTrust f).ports = s.ports := rfl
@[simp] theorem modTrust_rules : (s.modTrust f).rules = s.rules := rfl
@[simp] theorem modTrust_flight : (s.modTrust f).flight = s.flight := rfl
@[simp] theorem modTrust_tab : (s.modTrust f).tab = s.tab := rfl
@[simp] theorem modTrust_tabPrev : (s.modTrust f).tabPrev = s.tabPrev := rfl
@[simp] theorem modTrust_tdc : (s.modTrust f).tdc = s.tdc := rfl
@[simp] theorem modTrust_buf : (s.modTrust f).buf = s.buf := rfl
@[simp] theorem modTrust_tm : (s.modTrust f).tm = s.tm := rfl
@[simp] theorem modTrust_ledger : (s.modTrust f).ledger = s.ledger := rfl
@[simp] theorem modTrust_mem : (s.modTrust f).mem = s.mem := rfl
@[simp] theorem modTrust_xdc : (s.modTrust f).xdc = s.xdc := rfl
@[simp] theorem modTrust_lantern : (s.modTrust f).lantern = s.lantern := rfl
@[simp] theorem modTrust_pmc : (s.modTrust f).pmc = s.pmc := rfl
@[simp] theorem modTrust_time : (s.modTrust f).time = s.time := rfl
@[simp] theorem modTrust_host : (s.modTrust f).host = s.host := rfl
@[simp] theorem modTrust_mbx : (s.modTrust f).mbx = s.mbx := rfl
@[simp] theorem modTrust_evt : (s.modTrust f).evt = s.evt := rfl
@[simp] theorem modTrust_pend : (s.modTrust f).pend = s.pend := rfl
@[simp] theorem modTrust_trust : (s.modTrust f).trust = f s.trust := rfl
@[simp] theorem modTrust_fw : (s.modTrust f).fw = s.fw := rfl
@[simp] theorem modTrust_fault : (s.modTrust f).fault = s.fault := rfl
@[simp] theorem modTrust_wick : (s.modTrust f).wick = s.wick := rfl
@[simp] theorem modTrust_power : (s.modTrust f).power = s.power := rfl
@[simp] theorem modTrust_slices : (s.modTrust f).slices = s.slices := rfl
@[simp] theorem modTrust_freshSet : (s.modTrust f).freshSet = s.freshSet := rfl
@[simp] theorem modTrust_out : (s.modTrust f).out = s.out := rfl
@[simp] theorem modTrust_freeCtr : (s.modTrust f).freeCtr = s.freeCtr := rfl
@[simp] theorem modTrust_pending : (s.modTrust f).pending = s.pending := rfl
end

section
variable (f : Fw → Fw)
@[simp] theorem modFw_glb : (s.modFw f).glb = s.glb := rfl
@[simp] theorem modFw_boot : (s.modFw f).boot = s.boot := rfl
@[simp] theorem modFw_lanes : (s.modFw f).lanes = s.lanes := rfl
@[simp] theorem modFw_ports : (s.modFw f).ports = s.ports := rfl
@[simp] theorem modFw_rules : (s.modFw f).rules = s.rules := rfl
@[simp] theorem modFw_flight : (s.modFw f).flight = s.flight := rfl
@[simp] theorem modFw_tab : (s.modFw f).tab = s.tab := rfl
@[simp] theorem modFw_tabPrev : (s.modFw f).tabPrev = s.tabPrev := rfl
@[simp] theorem modFw_tdc : (s.modFw f).tdc = s.tdc := rfl
@[simp] theorem modFw_buf : (s.modFw f).buf = s.buf := rfl
@[simp] theorem modFw_tm : (s.modFw f).tm = s.tm := rfl
@[simp] theorem modFw_ledger : (s.modFw f).ledger = s.ledger := rfl
@[simp] theorem modFw_mem : (s.modFw f).mem = s.mem := rfl
@[simp] theorem modFw_xdc : (s.modFw f).xdc = s.xdc := rfl
@[simp] theorem modFw_lantern : (s.modFw f).lantern = s.lantern := rfl
@[simp] theorem modFw_pmc : (s.modFw f).pmc = s.pmc := rfl
@[simp] theorem modFw_time : (s.modFw f).time = s.time := rfl
@[simp] theorem modFw_host : (s.modFw f).host = s.host := rfl
@[simp] theorem modFw_mbx : (s.modFw f).mbx = s.mbx := rfl
@[simp] theorem modFw_evt : (s.modFw f).evt = s.evt := rfl
@[simp] theorem modFw_pend : (s.modFw f).pend = s.pend := rfl
@[simp] theorem modFw_trust : (s.modFw f).trust = s.trust := rfl
@[simp] theorem modFw_fw : (s.modFw f).fw = f s.fw := rfl
@[simp] theorem modFw_fault : (s.modFw f).fault = s.fault := rfl
@[simp] theorem modFw_wick : (s.modFw f).wick = s.wick := rfl
@[simp] theorem modFw_power : (s.modFw f).power = s.power := rfl
@[simp] theorem modFw_slices : (s.modFw f).slices = s.slices := rfl
@[simp] theorem modFw_freshSet : (s.modFw f).freshSet = s.freshSet := rfl
@[simp] theorem modFw_out : (s.modFw f).out = s.out := rfl
@[simp] theorem modFw_freeCtr : (s.modFw f).freeCtr = s.freeCtr := rfl
@[simp] theorem modFw_pending : (s.modFw f).pending = s.pending := rfl
end

section
variable (f : Collector → Collector)
@[simp] theorem modFault_glb : (s.modFault f).glb = s.glb := rfl
@[simp] theorem modFault_boot : (s.modFault f).boot = s.boot := rfl
@[simp] theorem modFault_lanes : (s.modFault f).lanes = s.lanes := rfl
@[simp] theorem modFault_ports : (s.modFault f).ports = s.ports := rfl
@[simp] theorem modFault_rules : (s.modFault f).rules = s.rules := rfl
@[simp] theorem modFault_flight : (s.modFault f).flight = s.flight := rfl
@[simp] theorem modFault_tab : (s.modFault f).tab = s.tab := rfl
@[simp] theorem modFault_tabPrev : (s.modFault f).tabPrev = s.tabPrev := rfl
@[simp] theorem modFault_tdc : (s.modFault f).tdc = s.tdc := rfl
@[simp] theorem modFault_buf : (s.modFault f).buf = s.buf := rfl
@[simp] theorem modFault_tm : (s.modFault f).tm = s.tm := rfl
@[simp] theorem modFault_ledger : (s.modFault f).ledger = s.ledger := rfl
@[simp] theorem modFault_mem : (s.modFault f).mem = s.mem := rfl
@[simp] theorem modFault_xdc : (s.modFault f).xdc = s.xdc := rfl
@[simp] theorem modFault_lantern : (s.modFault f).lantern = s.lantern := rfl
@[simp] theorem modFault_pmc : (s.modFault f).pmc = s.pmc := rfl
@[simp] theorem modFault_time : (s.modFault f).time = s.time := rfl
@[simp] theorem modFault_host : (s.modFault f).host = s.host := rfl
@[simp] theorem modFault_mbx : (s.modFault f).mbx = s.mbx := rfl
@[simp] theorem modFault_evt : (s.modFault f).evt = s.evt := rfl
@[simp] theorem modFault_pend : (s.modFault f).pend = s.pend := rfl
@[simp] theorem modFault_trust : (s.modFault f).trust = s.trust := rfl
@[simp] theorem modFault_fw : (s.modFault f).fw = s.fw := rfl
@[simp] theorem modFault_fault : (s.modFault f).fault = f s.fault := rfl
@[simp] theorem modFault_wick : (s.modFault f).wick = s.wick := rfl
@[simp] theorem modFault_power : (s.modFault f).power = s.power := rfl
@[simp] theorem modFault_slices : (s.modFault f).slices = s.slices := rfl
@[simp] theorem modFault_freshSet : (s.modFault f).freshSet = s.freshSet := rfl
@[simp] theorem modFault_out : (s.modFault f).out = s.out := rfl
@[simp] theorem modFault_freeCtr : (s.modFault f).freeCtr = s.freeCtr := rfl
@[simp] theorem modFault_pending : (s.modFault f).pending = s.pending := rfl
end

section
variable (f : Wick → Wick)
@[simp] theorem modWick_glb : (s.modWick f).glb = s.glb := rfl
@[simp] theorem modWick_boot : (s.modWick f).boot = s.boot := rfl
@[simp] theorem modWick_lanes : (s.modWick f).lanes = s.lanes := rfl
@[simp] theorem modWick_ports : (s.modWick f).ports = s.ports := rfl
@[simp] theorem modWick_rules : (s.modWick f).rules = s.rules := rfl
@[simp] theorem modWick_flight : (s.modWick f).flight = s.flight := rfl
@[simp] theorem modWick_tab : (s.modWick f).tab = s.tab := rfl
@[simp] theorem modWick_tabPrev : (s.modWick f).tabPrev = s.tabPrev := rfl
@[simp] theorem modWick_tdc : (s.modWick f).tdc = s.tdc := rfl
@[simp] theorem modWick_buf : (s.modWick f).buf = s.buf := rfl
@[simp] theorem modWick_tm : (s.modWick f).tm = s.tm := rfl
@[simp] theorem modWick_ledger : (s.modWick f).ledger = s.ledger := rfl
@[simp] theorem modWick_mem : (s.modWick f).mem = s.mem := rfl
@[simp] theorem modWick_xdc : (s.modWick f).xdc = s.xdc := rfl
@[simp] theorem modWick_lantern : (s.modWick f).lantern = s.lantern := rfl
@[simp] theorem modWick_pmc : (s.modWick f).pmc = s.pmc := rfl
@[simp] theorem modWick_time : (s.modWick f).time = s.time := rfl
@[simp] theorem modWick_host : (s.modWick f).host = s.host := rfl
@[simp] theorem modWick_mbx : (s.modWick f).mbx = s.mbx := rfl
@[simp] theorem modWick_evt : (s.modWick f).evt = s.evt := rfl
@[simp] theorem modWick_pend : (s.modWick f).pend = s.pend := rfl
@[simp] theorem modWick_trust : (s.modWick f).trust = s.trust := rfl
@[simp] theorem modWick_fw : (s.modWick f).fw = s.fw := rfl
@[simp] theorem modWick_fault : (s.modWick f).fault = s.fault := rfl
@[simp] theorem modWick_wick : (s.modWick f).wick = f s.wick := rfl
@[simp] theorem modWick_power : (s.modWick f).power = s.power := rfl
@[simp] theorem modWick_slices : (s.modWick f).slices = s.slices := rfl
@[simp] theorem modWick_freshSet : (s.modWick f).freshSet = s.freshSet := rfl
@[simp] theorem modWick_out : (s.modWick f).out = s.out := rfl
@[simp] theorem modWick_freeCtr : (s.modWick f).freeCtr = s.freeCtr := rfl
@[simp] theorem modWick_pending : (s.modWick f).pending = s.pending := rfl
end

section
variable (f : Power → Power)
@[simp] theorem modPower_glb : (s.modPower f).glb = s.glb := rfl
@[simp] theorem modPower_boot : (s.modPower f).boot = s.boot := rfl
@[simp] theorem modPower_lanes : (s.modPower f).lanes = s.lanes := rfl
@[simp] theorem modPower_ports : (s.modPower f).ports = s.ports := rfl
@[simp] theorem modPower_rules : (s.modPower f).rules = s.rules := rfl
@[simp] theorem modPower_flight : (s.modPower f).flight = s.flight := rfl
@[simp] theorem modPower_tab : (s.modPower f).tab = s.tab := rfl
@[simp] theorem modPower_tabPrev : (s.modPower f).tabPrev = s.tabPrev := rfl
@[simp] theorem modPower_tdc : (s.modPower f).tdc = s.tdc := rfl
@[simp] theorem modPower_buf : (s.modPower f).buf = s.buf := rfl
@[simp] theorem modPower_tm : (s.modPower f).tm = s.tm := rfl
@[simp] theorem modPower_ledger : (s.modPower f).ledger = s.ledger := rfl
@[simp] theorem modPower_mem : (s.modPower f).mem = s.mem := rfl
@[simp] theorem modPower_xdc : (s.modPower f).xdc = s.xdc := rfl
@[simp] theorem modPower_lantern : (s.modPower f).lantern = s.lantern := rfl
@[simp] theorem modPower_pmc : (s.modPower f).pmc = s.pmc := rfl
@[simp] theorem modPower_time : (s.modPower f).time = s.time := rfl
@[simp] theorem modPower_host : (s.modPower f).host = s.host := rfl
@[simp] theorem modPower_mbx : (s.modPower f).mbx = s.mbx := rfl
@[simp] theorem modPower_evt : (s.modPower f).evt = s.evt := rfl
@[simp] theorem modPower_pend : (s.modPower f).pend = s.pend := rfl
@[simp] theorem modPower_trust : (s.modPower f).trust = s.trust := rfl
@[simp] theorem modPower_fw : (s.modPower f).fw = s.fw := rfl
@[simp] theorem modPower_fault : (s.modPower f).fault = s.fault := rfl
@[simp] theorem modPower_wick : (s.modPower f).wick = s.wick := rfl
@[simp] theorem modPower_power : (s.modPower f).power = f s.power := rfl
@[simp] theorem modPower_slices : (s.modPower f).slices = s.slices := rfl
@[simp] theorem modPower_freshSet : (s.modPower f).freshSet = s.freshSet := rfl
@[simp] theorem modPower_out : (s.modPower f).out = s.out := rfl
@[simp] theorem modPower_freeCtr : (s.modPower f).freeCtr = s.freeCtr := rfl
@[simp] theorem modPower_pending : (s.modPower f).pending = s.pending := rfl
end

section
variable (f : Tab Slice → Tab Slice)
@[simp] theorem modSlices_glb : (s.modSlices f).glb = s.glb := rfl
@[simp] theorem modSlices_boot : (s.modSlices f).boot = s.boot := rfl
@[simp] theorem modSlices_lanes : (s.modSlices f).lanes = s.lanes := rfl
@[simp] theorem modSlices_ports : (s.modSlices f).ports = s.ports := rfl
@[simp] theorem modSlices_rules : (s.modSlices f).rules = s.rules := rfl
@[simp] theorem modSlices_flight : (s.modSlices f).flight = s.flight := rfl
@[simp] theorem modSlices_tab : (s.modSlices f).tab = s.tab := rfl
@[simp] theorem modSlices_tabPrev : (s.modSlices f).tabPrev = s.tabPrev := rfl
@[simp] theorem modSlices_tdc : (s.modSlices f).tdc = s.tdc := rfl
@[simp] theorem modSlices_buf : (s.modSlices f).buf = s.buf := rfl
@[simp] theorem modSlices_tm : (s.modSlices f).tm = s.tm := rfl
@[simp] theorem modSlices_ledger : (s.modSlices f).ledger = s.ledger := rfl
@[simp] theorem modSlices_mem : (s.modSlices f).mem = s.mem := rfl
@[simp] theorem modSlices_xdc : (s.modSlices f).xdc = s.xdc := rfl
@[simp] theorem modSlices_lantern : (s.modSlices f).lantern = s.lantern := rfl
@[simp] theorem modSlices_pmc : (s.modSlices f).pmc = s.pmc := rfl
@[simp] theorem modSlices_time : (s.modSlices f).time = s.time := rfl
@[simp] theorem modSlices_host : (s.modSlices f).host = s.host := rfl
@[simp] theorem modSlices_mbx : (s.modSlices f).mbx = s.mbx := rfl
@[simp] theorem modSlices_evt : (s.modSlices f).evt = s.evt := rfl
@[simp] theorem modSlices_pend : (s.modSlices f).pend = s.pend := rfl
@[simp] theorem modSlices_trust : (s.modSlices f).trust = s.trust := rfl
@[simp] theorem modSlices_fw : (s.modSlices f).fw = s.fw := rfl
@[simp] theorem modSlices_fault : (s.modSlices f).fault = s.fault := rfl
@[simp] theorem modSlices_wick : (s.modSlices f).wick = s.wick := rfl
@[simp] theorem modSlices_power : (s.modSlices f).power = s.power := rfl
@[simp] theorem modSlices_slices : (s.modSlices f).slices = f s.slices := rfl
@[simp] theorem modSlices_freshSet : (s.modSlices f).freshSet = s.freshSet := rfl
@[simp] theorem modSlices_out : (s.modSlices f).out = s.out := rfl
@[simp] theorem modSlices_freeCtr : (s.modSlices f).freeCtr = s.freeCtr := rfl
@[simp] theorem modSlices_pending : (s.modSlices f).pending = s.pending := rfl
end

section
variable (f : List (Nat × Nat) → List (Nat × Nat))
@[simp] theorem modFreshSet_glb : (s.modFreshSet f).glb = s.glb := rfl
@[simp] theorem modFreshSet_boot : (s.modFreshSet f).boot = s.boot := rfl
@[simp] theorem modFreshSet_lanes : (s.modFreshSet f).lanes = s.lanes := rfl
@[simp] theorem modFreshSet_ports : (s.modFreshSet f).ports = s.ports := rfl
@[simp] theorem modFreshSet_rules : (s.modFreshSet f).rules = s.rules := rfl
@[simp] theorem modFreshSet_flight : (s.modFreshSet f).flight = s.flight := rfl
@[simp] theorem modFreshSet_tab : (s.modFreshSet f).tab = s.tab := rfl
@[simp] theorem modFreshSet_tabPrev : (s.modFreshSet f).tabPrev = s.tabPrev := rfl
@[simp] theorem modFreshSet_tdc : (s.modFreshSet f).tdc = s.tdc := rfl
@[simp] theorem modFreshSet_buf : (s.modFreshSet f).buf = s.buf := rfl
@[simp] theorem modFreshSet_tm : (s.modFreshSet f).tm = s.tm := rfl
@[simp] theorem modFreshSet_ledger : (s.modFreshSet f).ledger = s.ledger := rfl
@[simp] theorem modFreshSet_mem : (s.modFreshSet f).mem = s.mem := rfl
@[simp] theorem modFreshSet_xdc : (s.modFreshSet f).xdc = s.xdc := rfl
@[simp] theorem modFreshSet_lantern : (s.modFreshSet f).lantern = s.lantern := rfl
@[simp] theorem modFreshSet_pmc : (s.modFreshSet f).pmc = s.pmc := rfl
@[simp] theorem modFreshSet_time : (s.modFreshSet f).time = s.time := rfl
@[simp] theorem modFreshSet_host : (s.modFreshSet f).host = s.host := rfl
@[simp] theorem modFreshSet_mbx : (s.modFreshSet f).mbx = s.mbx := rfl
@[simp] theorem modFreshSet_evt : (s.modFreshSet f).evt = s.evt := rfl
@[simp] theorem modFreshSet_pend : (s.modFreshSet f).pend = s.pend := rfl
@[simp] theorem modFreshSet_trust : (s.modFreshSet f).trust = s.trust := rfl
@[simp] theorem modFreshSet_fw : (s.modFreshSet f).fw = s.fw := rfl
@[simp] theorem modFreshSet_fault : (s.modFreshSet f).fault = s.fault := rfl
@[simp] theorem modFreshSet_wick : (s.modFreshSet f).wick = s.wick := rfl
@[simp] theorem modFreshSet_power : (s.modFreshSet f).power = s.power := rfl
@[simp] theorem modFreshSet_slices : (s.modFreshSet f).slices = s.slices := rfl
@[simp] theorem modFreshSet_freshSet : (s.modFreshSet f).freshSet = f s.freshSet := rfl
@[simp] theorem modFreshSet_out : (s.modFreshSet f).out = s.out := rfl
@[simp] theorem modFreshSet_freeCtr : (s.modFreshSet f).freeCtr = s.freeCtr := rfl
@[simp] theorem modFreshSet_pending : (s.modFreshSet f).pending = s.pending := rfl
end

section
variable (f : Out → Out)
@[simp] theorem modOut_glb : (s.modOut f).glb = s.glb := rfl
@[simp] theorem modOut_boot : (s.modOut f).boot = s.boot := rfl
@[simp] theorem modOut_lanes : (s.modOut f).lanes = s.lanes := rfl
@[simp] theorem modOut_ports : (s.modOut f).ports = s.ports := rfl
@[simp] theorem modOut_rules : (s.modOut f).rules = s.rules := rfl
@[simp] theorem modOut_flight : (s.modOut f).flight = s.flight := rfl
@[simp] theorem modOut_tab : (s.modOut f).tab = s.tab := rfl
@[simp] theorem modOut_tabPrev : (s.modOut f).tabPrev = s.tabPrev := rfl
@[simp] theorem modOut_tdc : (s.modOut f).tdc = s.tdc := rfl
@[simp] theorem modOut_buf : (s.modOut f).buf = s.buf := rfl
@[simp] theorem modOut_tm : (s.modOut f).tm = s.tm := rfl
@[simp] theorem modOut_ledger : (s.modOut f).ledger = s.ledger := rfl
@[simp] theorem modOut_mem : (s.modOut f).mem = s.mem := rfl
@[simp] theorem modOut_xdc : (s.modOut f).xdc = s.xdc := rfl
@[simp] theorem modOut_lantern : (s.modOut f).lantern = s.lantern := rfl
@[simp] theorem modOut_pmc : (s.modOut f).pmc = s.pmc := rfl
@[simp] theorem modOut_time : (s.modOut f).time = s.time := rfl
@[simp] theorem modOut_host : (s.modOut f).host = s.host := rfl
@[simp] theorem modOut_mbx : (s.modOut f).mbx = s.mbx := rfl
@[simp] theorem modOut_evt : (s.modOut f).evt = s.evt := rfl
@[simp] theorem modOut_pend : (s.modOut f).pend = s.pend := rfl
@[simp] theorem modOut_trust : (s.modOut f).trust = s.trust := rfl
@[simp] theorem modOut_fw : (s.modOut f).fw = s.fw := rfl
@[simp] theorem modOut_fault : (s.modOut f).fault = s.fault := rfl
@[simp] theorem modOut_wick : (s.modOut f).wick = s.wick := rfl
@[simp] theorem modOut_power : (s.modOut f).power = s.power := rfl
@[simp] theorem modOut_slices : (s.modOut f).slices = s.slices := rfl
@[simp] theorem modOut_freshSet : (s.modOut f).freshSet = s.freshSet := rfl
@[simp] theorem modOut_out : (s.modOut f).out = f s.out := rfl
@[simp] theorem modOut_freeCtr : (s.modOut f).freeCtr = s.freeCtr := rfl
@[simp] theorem modOut_pending : (s.modOut f).pending = s.pending := rfl
end

section
variable (f : Nat → Nat)
@[simp] theorem modFreeCtr_glb : (s.modFreeCtr f).glb = s.glb := rfl
@[simp] theorem modFreeCtr_boot : (s.modFreeCtr f).boot = s.boot := rfl
@[simp] theorem modFreeCtr_lanes : (s.modFreeCtr f).lanes = s.lanes := rfl
@[simp] theorem modFreeCtr_ports : (s.modFreeCtr f).ports = s.ports := rfl
@[simp] theorem modFreeCtr_rules : (s.modFreeCtr f).rules = s.rules := rfl
@[simp] theorem modFreeCtr_flight : (s.modFreeCtr f).flight = s.flight := rfl
@[simp] theorem modFreeCtr_tab : (s.modFreeCtr f).tab = s.tab := rfl
@[simp] theorem modFreeCtr_tabPrev : (s.modFreeCtr f).tabPrev = s.tabPrev := rfl
@[simp] theorem modFreeCtr_tdc : (s.modFreeCtr f).tdc = s.tdc := rfl
@[simp] theorem modFreeCtr_buf : (s.modFreeCtr f).buf = s.buf := rfl
@[simp] theorem modFreeCtr_tm : (s.modFreeCtr f).tm = s.tm := rfl
@[simp] theorem modFreeCtr_ledger : (s.modFreeCtr f).ledger = s.ledger := rfl
@[simp] theorem modFreeCtr_mem : (s.modFreeCtr f).mem = s.mem := rfl
@[simp] theorem modFreeCtr_xdc : (s.modFreeCtr f).xdc = s.xdc := rfl
@[simp] theorem modFreeCtr_lantern : (s.modFreeCtr f).lantern = s.lantern := rfl
@[simp] theorem modFreeCtr_pmc : (s.modFreeCtr f).pmc = s.pmc := rfl
@[simp] theorem modFreeCtr_time : (s.modFreeCtr f).time = s.time := rfl
@[simp] theorem modFreeCtr_host : (s.modFreeCtr f).host = s.host := rfl
@[simp] theorem modFreeCtr_mbx : (s.modFreeCtr f).mbx = s.mbx := rfl
@[simp] theorem modFreeCtr_evt : (s.modFreeCtr f).evt = s.evt := rfl
@[simp] theorem modFreeCtr_pend : (s.modFreeCtr f).pend = s.pend := rfl
@[simp] theorem modFreeCtr_trust : (s.modFreeCtr f).trust = s.trust := rfl
@[simp] theorem modFreeCtr_fw : (s.modFreeCtr f).fw = s.fw := rfl
@[simp] theorem modFreeCtr_fault : (s.modFreeCtr f).fault = s.fault := rfl
@[simp] theorem modFreeCtr_wick : (s.modFreeCtr f).wick = s.wick := rfl
@[simp] theorem modFreeCtr_power : (s.modFreeCtr f).power = s.power := rfl
@[simp] theorem modFreeCtr_slices : (s.modFreeCtr f).slices = s.slices := rfl
@[simp] theorem modFreeCtr_freshSet : (s.modFreeCtr f).freshSet = s.freshSet := rfl
@[simp] theorem modFreeCtr_out : (s.modFreeCtr f).out = s.out := rfl
@[simp] theorem modFreeCtr_freeCtr : (s.modFreeCtr f).freeCtr = f s.freeCtr := rfl
@[simp] theorem modFreeCtr_pending : (s.modFreeCtr f).pending = s.pending := rfl
end

end Sys2Proof.Machine
end

