-- ==== Sys2Proof/Laws/Keep.lean ====
section
/-! SUPPORT. `State.kept` names what all but a few operations leave: the rule banks' states, the life cycle, the Dimmer's
level, external floor and clock state, the beat counter and the queue. Here, that the setters and the combinators leave
it; the files Keep… say it of every operation, once each. -/

namespace Sys2Proof.Machine

@[simp] theorem kept_modBoot (f) (s : State) : (s.modBoot f).kept = s.kept := rfl
@[simp] theorem kept_modLanes (f) (s : State) : (s.modLanes f).kept = s.kept := rfl
@[simp] theorem kept_modPorts (f) (s : State) : (s.modPorts f).kept = s.kept := rfl
@[simp] theorem kept_modFlight (f) (s : State) : (s.modFlight f).kept = s.kept := rfl
@[simp] theorem kept_modTab (f) (s : State) : (s.modTab f).kept = s.kept := rfl
@[simp] theorem kept_modTabPrev (f) (s : State) : (s.modTabPrev f).kept = s.kept := rfl
@[simp] theorem kept_modTdc (f) (s : State) : (s.modTdc f).kept = s.kept := rfl
@[simp] theorem kept_modBuf (f) (s : State) : (s.modBuf f).kept = s.kept := rfl
@[simp] theorem kept_modTm (f) (s : State) : (s.modTm f).kept = s.kept := rfl
@[simp] theorem kept_modLedger (f) (s : State) : (s.modLedger f).kept = s.kept := rfl
@[simp] theorem kept_modMem (f) (s : State) : (s.modMem f).kept = s.kept := rfl
@[simp] theorem kept_modXdc (f) (s : State) : (s.modXdc f).kept = s.kept := rfl
@[simp] theorem kept_modLantern (f) (s : State) : (s.modLantern f).kept = s.kept := rfl
@[simp] theorem kept_modPmc (f) (s : State) : (s.modPmc f).kept = s.kept := rfl
@[simp] theorem kept_modTime (f) (s : State) : (s.modTime f).kept = s.kept := rfl
@[simp] theorem kept_modHost (f) (s : State) : (s.modHost f).kept = s.kept := rfl
@[simp] theorem kept_modMbx (f) (s : State) : (s.modMbx f).kept = s.kept := rfl
@[simp] theorem kept_modEvt (f) (s : State) : (s.modEvt f).kept = s.kept := rfl
@[simp] theorem kept_modPend (f) (s : State) : (s.modPend f).kept = s.kept := rfl
@[simp] theorem kept_modFw (f) (s : State) : (s.modFw f).kept = s.kept := rfl
@[simp] theorem kept_modFault (f) (s : State) : (s.modFault f).kept = s.kept := rfl
@[simp] theorem kept_modWick (f) (s : State) : (s.modWick f).kept = s.kept := rfl
@[simp] theorem kept_modSlices (f) (s : State) : (s.modSlices f).kept = s.kept := rfl
@[simp] theorem kept_modFreshSet (f) (s : State) : (s.modFreshSet f).kept = s.kept := rfl
@[simp] theorem kept_modOut (f) (s : State) : (s.modOut f).kept = s.kept := rfl
@[simp] theorem kept_modFreeCtr (f) (s : State) : (s.modFreeCtr f).kept = s.kept := rfl
@[simp] theorem kept_modGlb (f : Glb → Glb) (s : State) (h : (f s.glb).beat = s.glb.beat) : (s.modGlb f).kept = s.kept := by
  simp [State.kept, h]
@[simp] theorem kept_modTrust (f : Trust → Trust) (s : State) (h : (f s.trust).lc = s.trust.lc) : (s.modTrust f).kept = s.kept := by
  simp [State.kept, h]
@[simp] theorem kept_modPower (f : Power → Power) (s : State) (h : (f s.power).level = s.power.level)
    (h' : (f s.power).clk = s.power.clk) (he : (f s.power).ext = s.power.ext) : (s.modPower f).kept = s.kept := by
  simp [State.kept, h, h', he]
@[simp] theorem kept_modRules (f : Rules → Rules) (s : State) (h : (f s.rules).codes = s.rules.codes) : (s.modRules f).kept = s.kept := by
  simp [State.kept, h]
@[simp] theorem kept_ite (c : Prop) [Decidable c] (a b : State) : (if c then a else b).kept = if c then a.kept else b.kept := by
  split <;> rfl
@[simp] theorem keep_whenDo (b : Bool) (f : State → State) (s : State) (h : (f s).kept = s.kept) : (whenDo b f s).kept = s.kept := by
  unfold whenDo; split <;> simp_all
@[simp] theorem keep_eachDo {α : Type} (l : List α) (f : α → State → State) (s : State) (h : ∀ x s, (f x s).kept = s.kept) :
    (eachDo l f s).kept = s.kept := by
  unfold eachDo
  induction l generalizing s with
  | nil => rfl
  | cons a l ih => simp [List.foldl, ih, h]

end Sys2Proof.Machine
end

