-- ==== Sys2Proof/Laws/Accept.lean ====
section
/-! SUPPORT. What taking up a mailbox command answers: everything `acceptAs` can do, in three lemmas. -/

namespace Sys2Proof.Machine

/-- The command that waits in a mailbox is that mailbox's. -/
theorem waitingIn_m {s : State} {m : Nat} {c : Cmd} (h : waitingIn s m = some c) : c.m = m ∧ decided c = false := by
  have k := List.find?_some h
  simp only [Bool.and_eq_true, beq_iff_eq, Bool.not_eq_true'] at k
  exact k

/-- What `ready` says. -/
theorem ready_iff {op : Nat} {sp : CmdSpec} {m : Nat} {s : State} {c : Cmd} (h : ready op sp m s c = true) :
    m < 16 ∧ waitingIn s m = some c ∧ c.op = op ∧ serving s = true ∧ eligible s c = true ∧ headerFault s m (some sp) = 0 ∧
      (inRecovery s = true → op ∈ recoveryOps) := by
  simp only [ready, Bool.and_eq_true, decide_eq_true_eq, beq_iff_eq, Bool.or_eq_true, Bool.not_eq_true',
    List.contains_iff_mem] at h
  obtain ⟨⟨⟨⟨⟨⟨a, b⟩, d⟩, e⟩, f⟩, g⟩, i⟩ := h
  exact ⟨a, b, d, e, f, g, fun k => i.elim (fun j => by rw [j] at k; cases k) id⟩

/-- A ready command is decided by its own checks. -/
theorem decideCmd_ready {op : Nat} {sp : CmdSpec} {m : Nat} {s : State} {c : Cmd} (a : HostAnswer)
    (h : ready op sp m s c = true) : decideCmd s c (some sp) a = sp.run c (payload s m) a s := by
  obtain ⟨_, hw, ho, _, _, hf, hr⟩ := ready_iff h
  unfold decideCmd payload
  rw [(waitingIn_m hw).1, hf, ho]
  simp only [bne_self_eq_false, Bool.false_eq_true, if_false]
  split
  · rename_i k
    simp only [Bool.and_eq_true, Bool.not_eq_true', ← Bool.not_eq_true, List.contains_iff_mem] at k
    exact absurd (hr k.1) k.2
  · rfl

/-- A ready command that passes its checks is accepted with its effect. -/
theorem acceptAs_ready {op : Nat} {sp : CmdSpec} {m : Nat} {s t : State} {c : Cmd} {a : HostAnswer}
    {reply : Option (Nat × Bytes)} (h : ready op sp m s c = true) (k : sp.run c (payload s m) a s = .accept t reply) :
    acceptAs op sp m a s = .next (afterAccept c t reply) := by
  obtain ⟨hm, hw, ho, hs, he, _, _⟩ := ready_iff h
  unfold acceptAs need takeUp
  rw [decide_eq_true hm, hw]
  simp only [ho, beq_self_eq_true, hs, he, Bool.and_self, if_true, decideCmd_ready a h, k]
  rfl

/-- A ready command that fails a check is refused with that status, and has no other effect but its violation. -/
theorem acceptAs_refused {op : Nat} {sp : CmdSpec} {m : Nat} {s : State} {c : Cmd} {a : HostAnswer} {status detail : Nat}
    (h : ready op sp m s c = true) (k : sp.run c (payload s m) a s = .refuse status detail) :
    acceptAs op sp m a s = .next (answer c.order status detail [] (refusalViolation m status detail s)) := by
  obtain ⟨hm, hw, ho, hs, he, _, _⟩ := ready_iff h
  unfold acceptAs need takeUp
  rw [decide_eq_true hm, hw]
  simp only [ho, beq_self_eq_true, hs, he, Bool.and_self, if_true, decideCmd_ready a h, k, (waitingIn_m hw).1]

/-- A ready command that fails a check with a payload is refused with that status and payload, and has no other effect. -/
theorem acceptAs_refusedWith {op : Nat} {sp : CmdSpec} {m : Nat} {s : State} {c : Cmd} {a : HostAnswer} {status : Nat}
    {reply : Bytes} (h : ready op sp m s c = true) (k : sp.run c (payload s m) a s = .refuseWith status reply) :
    acceptAs op sp m a s = .next (answer c.order status 0 reply s) := by
  obtain ⟨hm, hw, ho, hs, he, _, _⟩ := ready_iff h
  unfold acceptAs need takeUp
  rw [decide_eq_true hm, hw]
  simp only [ho, beq_self_eq_true, hs, he, Bool.and_self, if_true, decideCmd_ready a h, k]

/-- Where no command waits, nothing happens. -/
theorem acceptAs_empty {op : Nat} {sp : CmdSpec} {m : Nat} {s : State} {a : HostAnswer} (hm : m < 16) (h : waitingIn s m = none) :
    acceptAs op sp m a s = .next s := by
  unfold acceptAs need
  rw [decide_eq_true hm, h]
  rfl

/-- Checks that all hold go on. -/
theorem checks_ok {l : List (Bool × Nat)} {v : Verdict} (h : ∀ x ∈ l, x.1 = true) : checks l v = v := by
  induction l with
  | nil => rfl
  | cons x l ih =>
    obtain ⟨b, o⟩ := x
    have k : b = true := h (b, o) List.mem_cons_self
    subst k
    exact ih fun y hy => h y (List.mem_cons_of_mem _ hy)

/-- A condition that holds goes on. -/
theorem require_ok {b : Bool} {n : Nat} {v : Verdict} (h : b = true) : require b n v = v := by
  subst h; rfl

/-- Host memory that answers gives its bytes. -/
theorem withHost_ok {s : State} {bs : Bytes} {f : Bytes → Verdict} (h : bmeOf s 0 = true) : withHost (.data bs) s f = f bs := by
  unfold withHost; rw [h]; rfl

/-- Host memory that may be written goes on. -/
theorem hostReady_ok {s : State} {v : Verdict} (h : bmeOf s 0 = true) : hostReady s v = v := by
  unfold hostReady; rw [h]; rfl

/-- What a row of the opcode index says: its constructor runs `acceptAs` of its opcode, and the index finds its spec. -/
def RowFits (r : CommandRow) : Prop :=
  (∀ m h s, exec (r.1 m h) s = acceptAs r.2.1 r.2.2 m h s) ∧ specOf r.2.1 = some r.2.2

theorem fits_Sys (r : CommandRow) (h : inServiceSys r) : RowFits r := by
  revert r
  unfold inServiceSys
  simp only [List.forall_mem_cons, List.not_mem_nil, false_implies, implies_true, and_true]
  repeat' first
    | exact ⟨fun _ _ _ => rfl, rfl⟩
    | apply And.intro

theorem fits_Fw (r : CommandRow) (h : inServiceFw r) : RowFits r := by
  revert r
  unfold inServiceFw
  simp only [List.forall_mem_cons, List.not_mem_nil, false_implies, implies_true, and_true]
  repeat' first
    | exact ⟨fun _ _ _ => rfl, rfl⟩
    | apply And.intro

theorem fits_Trust (r : CommandRow) (h : inServiceTrust r) : RowFits r := by
  revert r
  unfold inServiceTrust
  simp only [List.forall_mem_cons, List.not_mem_nil, false_implies, implies_true, and_true]
  repeat' first
    | exact ⟨fun _ _ _ => rfl, rfl⟩
    | apply And.intro

theorem fits_Port (r : CommandRow) (h : inServicePort r) : RowFits r := by
  revert r
  unfold inServicePort
  simp only [List.forall_mem_cons, List.not_mem_nil, false_implies, implies_true, and_true]
  repeat' first
    | exact ⟨fun _ _ _ => rfl, rfl⟩
    | apply And.intro

theorem fits_Lane (r : CommandRow) (h : inServiceLane r) : RowFits r := by
  revert r
  unfold inServiceLane
  simp only [List.forall_mem_cons, List.not_mem_nil, false_implies, implies_true, and_true]
  repeat' first
    | exact ⟨fun _ _ _ => rfl, rfl⟩
    | apply And.intro

theorem fits_Rule (r : CommandRow) (h : inServiceRule r) : RowFits r := by
  revert r
  unfold inServiceRule
  simp only [List.forall_mem_cons, List.not_mem_nil, false_implies, implies_true, and_true]
  repeat' first
    | exact ⟨fun _ _ _ => rfl, rfl⟩
    | apply And.intro

theorem fits_Table (r : CommandRow) (h : inServiceTable r) : RowFits r := by
  revert r
  unfold inServiceTable
  simp only [List.forall_mem_cons, List.not_mem_nil, false_implies, implies_true, and_true]
  repeat' first
    | exact ⟨fun _ _ _ => rfl, rfl⟩
    | apply And.intro

theorem fits_Tm (r : CommandRow) (h : inServiceTm r) : RowFits r := by
  revert r
  unfold inServiceTm
  simp only [List.forall_mem_cons, List.not_mem_nil, false_implies, implies_true, and_true]
  repeat' first
    | exact ⟨fun _ _ _ => rfl, rfl⟩
    | apply And.intro

theorem fits_Buf (r : CommandRow) (h : inServiceBuf r) : RowFits r := by
  revert r
  unfold inServiceBuf
  simp only [List.forall_mem_cons, List.not_mem_nil, false_implies, implies_true, and_true]
  repeat' first
    | exact ⟨fun _ _ _ => rfl, rfl⟩
    | apply And.intro

theorem fits_Ledger (r : CommandRow) (h : inServiceLedger r) : RowFits r := by
  revert r
  unfold inServiceLedger
  simp only [List.forall_mem_cons, List.not_mem_nil, false_implies, implies_true, and_true]
  repeat' first
    | exact ⟨fun _ _ _ => rfl, rfl⟩
    | apply And.intro

theorem fits_Mem (r : CommandRow) (h : inServiceMem r) : RowFits r := by
  revert r
  unfold inServiceMem
  simp only [List.forall_mem_cons, List.not_mem_nil, false_implies, implies_true, and_true]
  repeat' first
    | exact ⟨fun _ _ _ => rfl, rfl⟩
    | apply And.intro

theorem fits_Lantern (r : CommandRow) (h : inServiceLantern r) : RowFits r := by
  revert r
  unfold inServiceLantern
  simp only [List.forall_mem_cons, List.not_mem_nil, false_implies, implies_true, and_true]
  repeat' first
    | exact ⟨fun _ _ _ => rfl, rfl⟩
    | apply And.intro

theorem fits_Time (r : CommandRow) (h : inServiceTime r) : RowFits r := by
  revert r
  unfold inServiceTime
  simp only [List.forall_mem_cons, List.not_mem_nil, false_implies, implies_true, and_true]
  repeat' first
    | exact ⟨fun _ _ _ => rfl, rfl⟩
    | apply And.intro

theorem fits_Fault (r : CommandRow) (h : inServiceFault r) : RowFits r := by
  revert r
  unfold inServiceFault
  simp only [List.forall_mem_cons, List.not_mem_nil, false_implies, implies_true, and_true]
  repeat' first
    | exact ⟨fun _ _ _ => rfl, rfl⟩
    | apply And.intro

theorem fits_Power (r : CommandRow) (h : inServicePower r) : RowFits r := by
  revert r
  unfold inServicePower
  simp only [List.forall_mem_cons, List.not_mem_nil, false_implies, implies_true, and_true]
  repeat' first
    | exact ⟨fun _ _ _ => rfl, rfl⟩
    | apply And.intro

theorem fits_Slice (r : CommandRow) (h : inServiceSlice r) : RowFits r := by
  revert r
  unfold inServiceSlice
  simp only [List.forall_mem_cons, List.not_mem_nil, false_implies, implies_true, and_true]
  repeat' first
    | exact ⟨fun _ _ _ => rfl, rfl⟩
    | apply And.intro

theorem fits_Diag (r : CommandRow) (h : inServiceDiag r) : RowFits r := by
  revert r
  unfold inServiceDiag
  simp only [List.forall_mem_cons, List.not_mem_nil, false_implies, implies_true, and_true]
  repeat' first
    | exact ⟨fun _ _ _ => rfl, rfl⟩
    | apply And.intro

/-- Every mailbox command's row fits. -/
theorem isCommand_fits {r : CommandRow} (h : isCommand r) : RowFits r := by
  unfold isCommand at h
  rcases h with h | h | h | h | h | h | h | h | h | h | h | h | h | h | h | h | h
  · exact fits_Sys r h
  · exact fits_Fw r h
  · exact fits_Trust r h
  · exact fits_Port r h
  · exact fits_Lane r h
  · exact fits_Rule r h
  · exact fits_Table r h
  · exact fits_Tm r h
  · exact fits_Buf r h
  · exact fits_Ledger r h
  · exact fits_Mem r h
  · exact fits_Lantern r h
  · exact fits_Time r h
  · exact fits_Fault r h
  · exact fits_Power r h
  · exact fits_Slice r h
  · exact fits_Diag r h

end Sys2Proof.Machine
end

