-- ==== Sys2Proof/Laws/Memory.lean ====
section
/-! SUPPORT. The laws of the byte memory and of the sparse tables: what a write leaves to be read, and that the
canonical form is kept. -/

namespace Sys2Proof

theorem Memory.read_drop1_self (m : Memory) (a : Nat) : (m.drop1 a).read a = Memory.blank := by
  induction m with
  | nil => rfl
  | cons x r ih => unfold drop1; split <;> simp_all [Memory.read]

theorem Memory.read_drop1_ne (m : Memory) {a c : Nat} (h : c ≠ a) : (m.drop1 a).read c = m.read c := by
  induction m with
  | nil => rfl
  | cons x r ih =>
    unfold drop1
    split
    · rename_i e; simp [Memory.read, ih, show ¬ x.1 = c from fun q => h (q.symm.trans e)]
    · simp [Memory.read, ih]

/-- No entry stands under the address. -/
def Memory.lacks (m : Memory) (a : Nat) : Prop := ∀ x ∈ m, x.1 ≠ a

theorem Memory.drop1_lacks (m : Memory) (a : Nat) : (m.drop1 a).lacks a := by
  induction m with
  | nil => simp [drop1, lacks]
  | cons x r ih =>
    unfold drop1; split
    · exact ih
    · rename_i h; intro y hy; rcases List.mem_cons.1 hy with rfl | q
      · exact h
      · exact ih y q

theorem Memory.read_list1_self (m : Memory) (a : Nat) (b : Byte) (h : m.lacks a) : (m.list1 a b).read a = b := by
  induction m with
  | nil => simp [list1, Memory.read]
  | cons x r ih =>
    unfold list1; split
    · simp [Memory.read]
    · simp [Memory.read, h x (by simp), ih fun y hy => h y (by simp [hy])]

theorem Memory.read_list1_ne (m : Memory) {a c : Nat} (b : Byte) (h : c ≠ a) : (m.list1 a b).read c = m.read c := by
  induction m with
  | nil => simp [list1, Memory.read, Ne.symm h]
  | cons x r ih =>
    unfold list1; split
    · simp [Memory.read, Ne.symm h]
    · simp [Memory.read, ih]

@[simp] theorem Memory.read_write_self (m : Memory) (a : Nat) (b : Byte) : (m.write a b).read a = b := by
  unfold write; split
  · rename_i h; rw [read_drop1_self, h]
  · exact read_list1_self _ _ _ (drop1_lacks m a)

theorem Memory.read_write_ne (m : Memory) {a c : Nat} (b : Byte) (h : c ≠ a) : (m.write a b).read c = m.read c := by
  unfold write; split
  · exact read_drop1_ne m h
  · rw [read_list1_ne _ b h, read_drop1_ne m h]

theorem Memory.read_writeN_out (m : Memory) (a : Nat) (l : Bytes) {c : Nat} (h : c < a ∨ a + l.length ≤ c) :
    (m.writeN a l).read c = m.read c := by
  induction l generalizing m a with
  | nil => rfl
  | cons b r ih =>
    simp only [List.length_cons] at h
    rw [show m.writeN a (b :: r) = (m.write a b).writeN (a + 1) r from rfl, ih _ _ (by omega),
      read_write_ne _ b (by omega)]

theorem Memory.read_writeN_in (m : Memory) (a : Nat) (l : Bytes) {i : Nat} (h : i < l.length) :
    (m.writeN a l).read (a + i) = l[i] := by
  induction l generalizing m a i with
  | nil => simp at h
  | cons b r ih =>
    rw [show m.writeN a (b :: r) = (m.write a b).writeN (a + 1) r from rfl]
    cases i with
    | zero => rw [read_writeN_out _ _ _ (by omega)]; simp
    | succ i =>
      have := ih (m.write a b) (a + 1) (i := i) (by simpa using h)
      simpa [Nat.add_assoc, Nat.add_comm 1 i] using this

@[simp] theorem Memory.readN_length (m : Memory) (a n : Nat) : (m.readN a n).length = n := by
  induction n generalizing a with
  | zero => rfl
  | succ n ih => simp [readN, ih]

theorem Memory.wfFrom_mono {m : Memory} {lo lo' : Nat} (h : m.wfFrom lo = true) (k : lo' ≤ lo) : m.wfFrom lo' = true := by
  cases m with
  | nil => rfl
  | cons x r => simp only [wfFrom, Bool.and_eq_true, decide_eq_true_eq] at h ⊢; exact ⟨⟨by omega, h.1.2⟩, h.2⟩

theorem Memory.wfFrom_drop1 {m : Memory} {lo : Nat} (a : Nat) (h : m.wfFrom lo = true) : (m.drop1 a).wfFrom lo = true := by
  induction m generalizing lo with
  | nil => rfl
  | cons x r ih =>
    simp only [wfFrom, Bool.and_eq_true, decide_eq_true_eq] at h
    unfold drop1; split
    · exact wfFrom_mono (ih h.2) (by omega)
    · simp only [wfFrom, Bool.and_eq_true, decide_eq_true_eq]; exact ⟨h.1, ih h.2⟩

theorem Memory.wfFrom_list1 {m : Memory} {lo a : Nat} {b : Byte} (h : m.wfFrom lo = true) (l : m.lacks a)
    (ha : lo ≤ a) (hb : b ≠ Memory.blank) : (m.list1 a b).wfFrom lo = true := by
  induction m generalizing lo with
  | nil => simp [list1, wfFrom, ha, hb]
  | cons x r ih =>
    simp only [wfFrom, Bool.and_eq_true, decide_eq_true_eq] at h
    have n := l x (by simp)
    unfold list1; split
    · simp only [wfFrom, Bool.and_eq_true, decide_eq_true_eq]; exact ⟨⟨ha, hb⟩, ⟨by omega, h.1.2⟩, h.2⟩
    · simp only [wfFrom, Bool.and_eq_true, decide_eq_true_eq]
      exact ⟨h.1, ih h.2 (fun y hy => l y (by simp [hy])) (by omega)⟩

/-- Writing one byte keeps the canonical form. -/
theorem Memory.wf_write {m : Memory} (a : Nat) (b : Byte) (h : m.wf = true) : (m.write a b).wf = true := by
  unfold write; split
  · exact wfFrom_drop1 a h
  · rename_i n; exact wfFrom_list1 (wfFrom_drop1 a h) (drop1_lacks m a) (Nat.zero_le a) n

/-- Writing bytes keeps the canonical form. -/
theorem Memory.wf_writeN {m : Memory} (a : Nat) (l : Bytes) (h : m.wf = true) : (m.writeN a l).wf = true := by
  induction l generalizing m a with
  | nil => exact h
  | cons b r ih => exact ih _ (wf_write a b h)

/-- Keeping only some addresses keeps the canonical form. -/
theorem Memory.wfFrom_only {m : Memory} {lo : Nat} (f : Nat → Bool) (h : m.wfFrom lo = true) : (m.only f).wfFrom lo = true := by
  induction m generalizing lo with
  | nil => rfl
  | cons x r ih =>
    simp only [wfFrom, Bool.and_eq_true, decide_eq_true_eq] at h
    unfold only; rw [List.filter_cons]; split
    · simp only [wfFrom, Bool.and_eq_true, decide_eq_true_eq]; exact ⟨h.1, ih h.2⟩
    · exact wfFrom_mono (ih h.2) (by omega)

theorem Memory.wf_only {m : Memory} (f : Nat → Bool) (h : m.wf = true) : (m.only f).wf = true := wfFrom_only f h

/-- Laying listed bytes over a memory keeps the canonical form. -/
theorem Memory.wf_lay {m : Memory} (l : List Host.Cell) (h : m.wf = true) : (Memory.lay l m).wf = true := by
  induction l generalizing m with
  | nil => exact h
  | cons c r ih => exact ih (wf_write c.1 c.2 h)

theorem Tab.find_put_self {α : Type} (t : Tab α) (k : Nat) (v : α) : Tab.find (Tab.put t k v) k = some v := by
  induction t with
  | nil => simp [Tab.put, Tab.find]
  | cons x r ih =>
    unfold Tab.put; split
    · simp [Tab.find]
    · split
      · simp [Tab.find]
      · rename_i h; simp [Tab.find, h, ih]

theorem Tab.find_put_ne {α : Type} (t : Tab α) {j k : Nat} (v : α) (h : j ≠ k) :
    Tab.find (Tab.put t k v) j = Tab.find t j := by
  induction t with
  | nil => simp [Tab.put, Tab.find, Ne.symm h]
  | cons x r ih =>
    unfold Tab.put; split
    · simp [Tab.find, Ne.symm h]
    · split
      · rename_i e; simp [Tab.find, Ne.symm h, e]
      · simp [Tab.find, ih]

theorem Tab.find_del_self {α : Type} (t : Tab α) (k : Nat) : Tab.find (Tab.del t k) k = none := by
  induction t with
  | nil => rfl
  | cons x r ih =>
    unfold Tab.del at ih ⊢
    by_cases h : x.1 = k
    · simp [h, ih]
    · simp [h, Tab.find, ih]

theorem Tab.find_del_ne {α : Type} (t : Tab α) {j k : Nat} (h : j ≠ k) : Tab.find (Tab.del t k) j = Tab.find t j := by
  induction t with
  | nil => rfl
  | cons x r ih =>
    unfold Tab.del at ih ⊢
    by_cases e : x.1 = k
    · simp [e, Tab.find, ih, Ne.symm h]
    · simp [e, Tab.find, ih]

@[simp] theorem Tab.get_put_self {α : Type} (t : Tab α) (d v : α) (k : Nat) : Tab.get (Tab.put t k v) d k = v := by
  simp [Tab.get, Tab.find_put_self]

theorem Tab.get_put_ne {α : Type} (t : Tab α) (d v : α) {j k : Nat} (h : j ≠ k) :
    Tab.get (Tab.put t k v) d j = Tab.get t d j := by
  simp [Tab.get, Tab.find_put_ne t v h]

@[simp] theorem Tab.get_upd_self {α : Type} (t : Tab α) (d : α) (k : Nat) (f : α → α) :
    Tab.get (Tab.upd t d k f) d k = f (Tab.get t d k) := Tab.get_put_self ..

theorem Tab.get_upd_ne {α : Type} (t : Tab α) (d : α) {j k : Nat} (f : α → α) (h : j ≠ k) :
    Tab.get (Tab.upd t d k f) d j = Tab.get t d j := Tab.get_put_ne t d _ h

end Sys2Proof
end

