-- ==== Sys2Proof/Laws/Access.lean ====
section
/-! SUPPORT. What replacing one record of a numbered group leaves to be read: that record is its image, and every other
record of the group is as before. -/

namespace Sys2Proof.Machine

@[simp] theorem lane_modLane_self (i : Nat) (f : Lane → Lane) (s : State) : (modLane i f s).lane i = f (s.lane i) :=
  Tab.get_upd_self s.lanes {} i f

theorem lane_modLane_ne {i j : Nat} (f : Lane → Lane) (s : State) (h : j ≠ i) : (modLane i f s).lane j = s.lane j :=
  Tab.get_upd_ne s.lanes {} f h

@[simp] theorem quad_modQuad_self (i : Nat) (f : Quad → Quad) (s : State) : (modQuad i f s).quad i = f (s.quad i) :=
  Tab.get_upd_self s.tab.quads {} i f

theorem quad_modQuad_ne {i j : Nat} (f : Quad → Quad) (s : State) (h : j ≠ i) : (modQuad i f s).quad j = s.quad j :=
  Tab.get_upd_ne s.tab.quads {} f h

@[simp] theorem box_modBox_self (i : Nat) (f : Mbx → Mbx) (s : State) : (modBox i f s).box i = f (s.box i) :=
  Tab.get_upd_self s.mbx.box {} i f

theorem box_modBox_ne {i j : Nat} (f : Mbx → Mbx) (s : State) (h : j ≠ i) : (modBox i f s).box j = s.box j :=
  Tab.get_upd_ne s.mbx.box {} f h

@[simp] theorem slice_modSlice_self (i : Nat) (f : Slice → Slice) (s : State) : (modSlice i f s).slice i = f (s.slice i) :=
  Tab.get_upd_self s.slices {} i f

theorem slice_modSlice_ne {i j : Nat} (f : Slice → Slice) (s : State) (h : j ≠ i) : (modSlice i f s).slice j = s.slice j :=
  Tab.get_upd_ne s.slices {} f h

@[simp] theorem tdcOf_modTdcOf_self (i : Nat) (f : Tdc → Tdc) (s : State) : (modTdcOf i f s).tdcOf i = f (s.tdcOf i) :=
  Tab.get_upd_self s.tdc {} i f

theorem tdcOf_modTdcOf_ne {i j : Nat} (f : Tdc → Tdc) (s : State) (h : j ≠ i) : (modTdcOf i f s).tdcOf j = s.tdcOf j :=
  Tab.get_upd_ne s.tdc {} f h

@[simp] theorem xdcOf_modXdcOf_self (i : Nat) (f : Xdc → Xdc) (s : State) : (modXdcOf i f s).xdcOf i = f (s.xdcOf i) :=
  Tab.get_upd_self s.xdc {} i f

theorem xdcOf_modXdcOf_ne {i j : Nat} (f : Xdc → Xdc) (s : State) (h : j ≠ i) : (modXdcOf i f s).xdcOf j = s.xdcOf j :=
  Tab.get_upd_ne s.xdc {} f h

@[simp] theorem memPort_modMemPort_self (i : Nat) (f : MemPort → MemPort) (s : State) : (modMemPort i f s).memPort i = f (s.memPort i) :=
  Tab.get_upd_self s.mem.ports {} i f

theorem memPort_modMemPort_ne {i j : Nat} (f : MemPort → MemPort) (s : State) (h : j ≠ i) : (modMemPort i f s).memPort j = s.memPort j :=
  Tab.get_upd_ne s.mem.ports {} f h

@[simp] theorem tmPort_modTmPort_self (i : Nat) (f : TmPort → TmPort) (s : State) : (modTmPort i f s).tmPort i = f (s.tmPort i) :=
  Tab.get_upd_self s.tm.ports {} i f

theorem tmPort_modTmPort_ne {i j : Nat} (f : TmPort → TmPort) (s : State) (h : j ≠ i) : (modTmPort i f s).tmPort j = s.tmPort j :=
  Tab.get_upd_ne s.tm.ports {} f h

@[simp] theorem arb_modArb_self (i : Nat) (f : Arb → Arb) (s : State) : (modArb i f s).arb i = f (s.arb i) :=
  Tab.get_upd_self s.buf.arbs {} i f

theorem arb_modArb_ne {i j : Nat} (f : Arb → Arb) (s : State) (h : j ≠ i) : (modArb i f s).arb j = s.arb j :=
  Tab.get_upd_ne s.buf.arbs {} f h

@[simp] theorem strm_modStrm_self (i : Nat) (f : Strm → Strm) (s : State) : (modStrm i f s).strm i = f (s.strm i) :=
  Tab.get_upd_self s.buf.streams {} i f

theorem strm_modStrm_ne {i j : Nat} (f : Strm → Strm) (s : State) (h : j ≠ i) : (modStrm i f s).strm j = s.strm j :=
  Tab.get_upd_ne s.buf.streams {} f h

@[simp] theorem src_modSrc_self (i : Nat) (f : Src → Src) (s : State) : (modSrc i f s).src i = f (s.src i) :=
  Tab.get_upd_self s.fault.srcs {} i f

theorem src_modSrc_ne {i j : Nat} (f : Src → Src) (s : State) (h : j ≠ i) : (modSrc i f s).src j = s.src j :=
  Tab.get_upd_ne s.fault.srcs {} f h

@[simp] theorem ring_modRing_self (i : Nat) (f : Ring → Ring) (s : State) : (modRing i f s).ring i = f (s.ring i) :=
  Tab.get_upd_self s.host.rings {} i f

theorem ring_modRing_ne {i j : Nat} (f : Ring → Ring) (s : State) (h : j ≠ i) : (modRing i f s).ring j = s.ring j :=
  Tab.get_upd_ne s.host.rings {} f h

@[simp] theorem stream_modStream_self (i : Nat) (f : Stream → Stream) (s : State) : (modStream i f s).stream i = f (s.stream i) :=
  Tab.get_upd_self s.lantern.streams {} i f

theorem stream_modStream_ne {i j : Nat} (f : Stream → Stream) (s : State) (h : j ≠ i) : (modStream i f s).stream j = s.stream j :=
  Tab.get_upd_ne s.lantern.streams {} f h

@[simp] theorem lquad_modLquad_self (i : Nat) (f : LQuad → LQuad) (s : State) : (modLquad i f s).lquad i = f (s.lquad i) :=
  Tab.get_upd_self s.ledger.quads {} i f

theorem lquad_modLquad_ne {i j : Nat} (f : LQuad → LQuad) (s : State) (h : j ≠ i) : (modLquad i f s).lquad j = s.lquad j :=
  Tab.get_upd_ne s.ledger.quads {} f h

@[simp] theorem punit_modUnit_self (i : Nat) (f : PmcUnit → PmcUnit) (s : State) : (modUnit i f s).punit i = f (s.punit i) :=
  Tab.get_upd_self s.pmc.units {} i f

theorem punit_modUnit_ne {i j : Nat} (f : PmcUnit → PmcUnit) (s : State) (h : j ≠ i) : (modUnit i f s).punit j = s.punit j :=
  Tab.get_upd_ne s.pmc.units {} f h

theorem port_modPort_self {i : Nat} (f : Port → Port) (s : State) (h : s.ports.has i = true) : (modPort i f s).port i = f (s.port i) := by
  unfold modPort; rw [if_pos h]; exact Tab.get_upd_self s.ports {} i f

theorem port_modPort_ne {i j : Nat} (f : Port → Port) (s : State) (h : j ≠ i) : (modPort i f s).port j = s.port j := by
  unfold modPort; split
  · exact Tab.get_upd_ne s.ports {} f h
  · rfl

theorem pkt_modPkt_self {i : Nat} (f : Packet → Packet) (s : State) (h : s.buf.pkts.has i = true) : (modPkt i f s).pkt i = f (s.pkt i) := by
  unfold modPkt; rw [if_pos h]; exact Tab.get_upd_self s.buf.pkts {} i f

theorem pkt_modPkt_ne {i j : Nat} (f : Packet → Packet) (s : State) (h : j ≠ i) : (modPkt i f s).pkt j = s.pkt j := by
  unfold modPkt; split
  · exact Tab.get_upd_ne s.buf.pkts {} f h
  · rfl

theorem copy_modCopy_self {i : Nat} (f : Copy → Copy) (s : State) (h : s.buf.copies.has i = true) : (modCopy i f s).copy i = f (s.copy i) := by
  unfold modCopy; rw [if_pos h]; exact Tab.get_upd_self s.buf.copies {} i f

theorem copy_modCopy_ne {i j : Nat} (f : Copy → Copy) (s : State) (h : j ≠ i) : (modCopy i f s).copy j = s.copy j := by
  unfold modCopy; split
  · exact Tab.get_upd_ne s.buf.copies {} f h
  · rfl

theorem Part.same_trans {p : Part} {s t u : State} (h : p.same s t) (k : p.same t u) : p.same s u := by
  cases p <;> exact Eq.trans k h

theorem onlyChanges_refl (l : List Part) (s : State) : onlyChanges l s s := fun p _ => by cases p <;> rfl

/-- Two changes within the same parts, one after the other. -/
theorem onlyChanges_trans {l : List Part} {s t u : State} (h : onlyChanges l s t) (k : onlyChanges l t u) :
    onlyChanges l s u := fun p n => Part.same_trans (h p n) (k p n)

/-- A change within fewer parts. -/
theorem onlyChanges_mono {l m : List Part} {s t : State} (h : onlyChanges l s t) (k : ∀ p ∈ l, p ∈ m) :
    onlyChanges m s t := fun p n => h p fun q => n (k p q)

/-- A loop whose every step changes only some parts changes only those. -/
theorem onlyChanges_eachDo {α : Type} {l : List Part} (xs : List α) (f : α → State → State)
    (h : ∀ x s, onlyChanges l s (f x s)) (s : State) : onlyChanges l s (eachDo xs f s) := by
  induction xs generalizing s with
  | nil => exact onlyChanges_refl l s
  | cons x r ih => exact onlyChanges_trans (h x s) (ih (f x s))

/-- Raising an event changes the event ring alone. -/
theorem onlyChanges_raiseEvent (c : Nat) (p : Bytes) (s : State) : onlyChanges [.evt] s (raiseEvent c p s) := by
  have m : ∀ f : Evt → Evt, onlyChanges [.evt] s (s.modEvt f) := fun f q hq => by
    cases q <;> first | (refine absurd ?_ hq; decide) | rfl
  unfold raiseEvent reachEngine; dsimp only
  repeat' split
  all_goals first | exact onlyChanges_refl _ s | exact m _

/-- Ledger traffic changes the burst and byte counts and the count of free values alone. -/
theorem onlyChanges_ledgerTraffic (chs : List Nat) (s : State) :
    onlyChanges [.mem, .xdc, .freeCtr] s (ledgerTraffic chs s) := by
  have f : ∀ t, onlyChanges [.freeCtr] t (takeFree t).2 := fun t q hq => by
    cases q <;> first | (refine absurd ?_ hq; decide) | rfl
  have m : ∀ p i n t, onlyChanges [.mem] t (memCount p i n t) := fun p i n t q hq => by
    cases q <;> first | (refine absurd ?_ hq; decide) | rfl
  have g : ∀ c n t, onlyChanges [.xdc] t (moverBytes c n t) := fun c n t q hq => by
    cases q <;> first | (refine absurd ?_ hq; decide) | rfl
  have h : ∀ p t, onlyChanges [.mem, .xdc, .freeCtr] t (portTraffic p t) := fun p t =>
    onlyChanges_trans (onlyChanges_mono (f t) (by decide)) (onlyChanges_trans (onlyChanges_mono (f _) (by decide))
      (onlyChanges_trans (onlyChanges_mono (m p 0 _ _) (by decide)) (onlyChanges_mono (m p 1 _ _) (by decide))))
  have k : ∀ c t, onlyChanges [.mem, .xdc, .freeCtr] t (channelTraffic c t) := fun c t =>
    onlyChanges_trans (onlyChanges_mono (f t) (by decide)) (onlyChanges_mono (g c _ _) (by decide))
  unfold ledgerTraffic
  exact onlyChanges_trans (onlyChanges_eachDo _ _ h s) (onlyChanges_eachDo _ _ k _)

/-- A mark of a bit set in this beat changes the marks alone. -/
theorem onlyChanges_markSet (r b : Nat) (s : State) : onlyChanges [.freshSet] s (markSet r b s) :=
  fun p hp => by cases p <;> first | rfl | exact absurd (by simp) hp

/-- Setting an interrupt cause changes the host interface and the marks alone. -/
theorem onlyChanges_irqCause (c : Nat) (s : State) : onlyChanges [.host, .freshSet] s (irqCause c s) := by
  unfold irqCause; dsimp only
  refine onlyChanges_trans (t := markSet (0x3000 + 4 * (c / 32)) (c % 32) s)
    (onlyChanges_mono (onlyChanges_markSet _ _ s) (by decide)) ?_
  exact fun p hp => by cases p <;> first | rfl | exact absurd (by simp) hp

/-- Setting a bit of GLB_HOST_ERR changes it, the host interface and the marks alone. -/
theorem onlyChanges_hostErrBit (b : Nat) (s : State) : onlyChanges [.glb, .host, .freshSet] s (hostErrBit b s) := by
  unfold hostErrBit
  have h : ∀ f, onlyChanges [.glb] s (s.modGlb f) := fun f p hp => by
    cases p <;> first | rfl | exact absurd (by simp) hp
  exact onlyChanges_trans (onlyChanges_mono (h _) (by decide))
    (onlyChanges_trans (onlyChanges_mono (onlyChanges_markSet _ _ _) (by decide))
      (onlyChanges_mono (onlyChanges_irqCause _ _) (by decide)))

/-- Replacing a port's record changes the ports alone. -/
theorem onlyChanges_modPort (i : Nat) (f : Port → Port) (s : State) : onlyChanges [.ports] s (modPort i f s) := by
  unfold modPort; split
  · exact fun p hp => by cases p <;> first | rfl | exact absurd (by simp) hp
  · exact onlyChanges_refl _ s

/-- Every memory of the state after reset is in canonical form. -/
theorem reset_memories_wf : State.reset.host.table0.wf = true ∧ State.reset.host.table1.wf = true ∧
    State.reset.host.mem.wf = true ∧ State.reset.mbx.area.wf = true ∧ ∀ p, (State.reset.memPort p).mem.wf = true :=
  ⟨rfl, rfl, rfl, rfl, fun _ => rfl⟩

end Sys2Proof.Machine
end

