-- ==== Sys2Proof/Laws/KeepOps.lean ====
section
/-! SUPPORT. That each operation leaves `State.kept`: the shared operations, the mailboxes, the attached memory and the memory mover. -/

namespace Sys2Proof.Machine

set_option linter.unusedVariables false

@[simp] theorem keep_markSet (r b : Nat) (s : State) : (markSet r b s).kept = s.kept := by simp [markSet]
@[simp] theorem keep_irqCause (c : Nat) (s : State) : (irqCause c s).kept = s.kept := by simp [irqCause]
@[simp] theorem keep_hostErrBit (b : Nat) (s : State) : (hostErrBit b s).kept = s.kept := by simp [hostErrBit]
@[simp] theorem keep_detect (src inst cls : Nat) (detail : Bytes) (s : State) : (detect src inst cls detail s).kept = s.kept := by simp [detect]
@[simp] theorem keep_causeEnd (src inst : Nat) (s : State) : (causeEnd src inst s).kept = s.kept := by simp [causeEnd]
@[simp] theorem keep_takeFree (s : State) : (takeFree s).2.kept = s.kept := by simp [takeFree]
theorem keep_takeFree_eq {s : State} {zx0} {zt : State} (zh : takeFree s = (zx0, zt)) : zt.kept = s.kept := by
  have e := keep_takeFree s
  rw [zh] at e; exact e
@[simp] theorem keep_takeFreeBytes (n : Nat) (s : State) : (takeFreeBytes n s).2.kept = s.kept := by simp [takeFreeBytes]
theorem keep_takeFreeBytes_eq {n : Nat} {s : State} {zx0} {zt : State} (zh : takeFreeBytes n s = (zx0, zt)) : zt.kept = s.kept := by
  have e := keep_takeFreeBytes n s
  rw [zh] at e; exact e
@[simp] theorem keep_modLane (l : Nat) (f : Lane → Lane) (s : State) : (modLane l f s).kept = s.kept := by simp [modLane]
@[simp] theorem keep_modPort (p : Nat) (f : Port → Port) (s : State) : (modPort p f s).kept = s.kept := by simp [modPort]
@[simp] theorem keep_portCount (p i n : Nat) (s : State) : (portCount p i n s).kept = s.kept := by simp [portCount]
@[simp] theorem keep_modQuad (q : Nat) (f : Quad → Quad) (s : State) : (modQuad q f s).kept = s.kept := by simp [modQuad]
@[simp] theorem keep_modPkt (i : Nat) (f : Packet → Packet) (s : State) : (modPkt i f s).kept = s.kept := by simp [modPkt]
@[simp] theorem keep_modCopy (i : Nat) (f : Copy → Copy) (s : State) : (modCopy i f s).kept = s.kept := by simp [modCopy]
@[simp] theorem keep_reachEngine (e : Event) (s : State) : (reachEngine e s).kept = s.kept := by simp [reachEngine]
/-- An event raised changes the event engine alone. -/
theorem raiseEvent_evt (code : Nat) (params : Bytes) (s : State) : ∃ e, raiseEvent code params s = s.modEvt fun _ => e := by
  unfold raiseEvent reachEngine
  dsimp only
  repeat' split
  all_goals exact ⟨_, rfl⟩
@[simp] theorem keep_raiseEvent (code : Nat) (params : Bytes) (s : State) : (raiseEvent code params s).kept = s.kept := by simp [raiseEvent]
@[simp] theorem keep_hostWrite (pf addr : Nat) (bs : Bytes) (s : State) : (hostWrite pf addr bs s).kept = s.kept := by simp [hostWrite]
@[simp] theorem keep_partnerLog (iface index code : Nat) (s : State) : (partnerLog iface index code s).kept = s.kept := by simp [partnerLog]
@[simp] theorem keep_post (order kind : Nat) (req data : Bytes) (s : State) : (post order kind req data s).kept = s.kept := by simp [post]
@[simp] theorem keep_answer (order status detail : Nat) (payload : Bytes) (s : State) : (answer order status detail payload s).kept = s.kept := by simp [answer]
@[simp] theorem keep_answerOk (order : Nat) (payload : Bytes) (s : State) : (answerOk order payload s).kept = s.kept := by simp [answerOk]
@[simp] theorem keep_answerBeat (order : Nat) (s : State) : (answerBeat order s).kept = s.kept := by simp [answerBeat]
@[simp] theorem keep_modBox (m : Nat) (f : Mbx → Mbx) (s : State) : (modBox m f s).kept = s.kept := by simp [modBox]
@[simp] theorem keep_protocol (m kind detail : Nat) (s : State) : (protocol m kind detail s).kept = s.kept := by simp [protocol]
@[simp] theorem keep_noteDiscard (m : Nat) (s : State) : (noteDiscard m s).kept = s.kept := by simp [noteDiscard]
@[simp] theorem keep_postResponse (m op tag flags status detail note : Nat) (acceptBeat : Nat) (payload : Bytes) (s : State) : (postResponse m op tag flags status detail note acceptBeat payload s).kept = s.kept := by simp [postResponse]
@[simp] theorem keep_doorbell (m value : Nat) (s : State) : (doorbell m value s).kept = s.kept := by simp [doorbell]
@[simp] theorem keep_areaWrite (offset : Nat) (bytes : Bytes) (s : State) : (areaWrite offset bytes s).kept = s.kept := by simp [areaWrite]
@[simp] theorem keep_markAccepted (c : Cmd) (s : State) : (markAccepted c s).kept = s.kept := by simp [markAccepted]
@[simp] theorem keep_refusalViolation (m status detail : Nat) (s : State) : (refusalViolation m status detail s).kept = s.kept := by simp [refusalViolation]
@[simp] theorem keep_putEntry (code flags beat : Nat) (params : Bytes) (s : State) : (putEntry code flags beat params s).kept = s.kept := by simp [putEntry]
@[simp] theorem keep_ringStep (s : State) : (ringStep s).kept = s.kept := by unfold ringStep; (repeat' split) <;> first | (simp; done) | (simp_all; done) | rfl
@[simp] theorem keep_drainRing (s : State) : (drainRing s).kept = s.kept := by
  have e (l : List Nat) : ∀ x : State, (l.foldl (fun s _ => ringStep s) x).kept = x.kept := by
    induction l with
    | nil => intro x; rfl
    | cons a l ih => intro x; simp [List.foldl, ih]
  exact e _ _
@[simp] theorem keep_resetWait (c : Cmd) (s : State) : (resetWait c s).kept = s.kept := by simp [resetWait]
@[simp] theorem keep_responsePost (m : Nat) (s : State) : (responsePost m s).kept = s.kept := by unfold responsePost; (repeat' split) <;> first | (simp; done) | (simp_all; done) | rfl
@[simp] theorem keep_guardExpire (m : Nat) (s : State) : (guardExpire m s).kept = s.kept := by unfold guardExpire; (repeat' split) <;> first | (simp; done) | (simp_all; done) | rfl
@[simp] theorem keep_statusWrite (m value : Nat) (s : State) : (statusWrite m value s).kept = s.kept := by simp [statusWrite]
@[simp] theorem keep_evtTailWrite (value : Nat) (s : State) : (evtTailWrite value s).kept = s.kept := by simp [evtTailWrite]
@[simp] theorem keep_readOut (v : Nat) (s : State) : (readOut v s).kept = s.kept := by simp [readOut]
@[simp] theorem keep_flrMailboxes (s : State) : (flrMailboxes s).kept = s.kept := by simp [flrMailboxes]
@[simp] theorem keep_modMemPort (p : Nat) (f : MemPort → MemPort) (s : State) : (modMemPort p f s).kept = s.kept := by simp [modMemPort]
@[simp] theorem keep_memCount (p i n : Nat) (s : State) : (memCount p i n s).kept = s.kept := by simp [memCount]
@[simp] theorem keep_countAct (i n : Nat) (s : State) : (countAct i n s).kept = s.kept := by simp [countAct]
@[simp] theorem keep_readBurst (p : Nat) (s : State) : (readBurst p s).kept = s.kept := by simp [readBurst]
@[simp] theorem keep_readsDone (p : Nat) (s : State) : (readsDone p s).kept = s.kept := by simp [readsDone]
@[simp] theorem keep_poisonTell (p a : Nat) (s : State) : (poisonTell p a s).kept = s.kept := by simp [poisonTell]
@[simp] theorem keep_poisonRepair (p q a : Nat) (s : State) : (poisonRepair p q a s).kept = s.kept := by simp [poisonRepair]
@[simp] theorem keep_countRead (u a : Nat) (s : State) : (countRead u a s).kept = s.kept := by simp [countRead]
@[simp] theorem keep_lasReadCount (a n : Nat) (s : State) : (lasReadCount a n s).kept = s.kept := by simp [lasReadCount]
@[simp] theorem keep_lasBurst (a : Nat) (bs : Bytes) (s : State) : (lasBurst a bs s).kept = s.kept := by simp [lasBurst]
@[simp] theorem keep_lasWrite (a : Nat) (bs : Bytes) (s : State) : (lasWrite a bs s).kept = s.kept := by simp [lasWrite]
@[simp] theorem keep_moverBytes (ch n : Nat) (s : State) : (moverBytes ch n s).kept = s.kept := by simp [moverBytes]
@[simp] theorem keep_portTraffic (p : Nat) (s : State) : (portTraffic p s).kept = s.kept := by simp [portTraffic]
@[simp] theorem keep_channelTraffic (c : Nat) (s : State) : (channelTraffic c s).kept = s.kept := by simp [channelTraffic]
@[simp] theorem keep_ledgerTraffic (chs : List Nat) (s : State) : (ledgerTraffic chs s).kept = s.kept := by simp [ledgerTraffic]
@[simp] theorem keep_ringWriteLas (base size off : Nat) (bs : Bytes) (s : State) : (ringWriteLas base size off bs s).kept = s.kept := by simp [ringWriteLas]
@[simp] theorem keep_memState (p st reason : Nat) (s : State) : (memState p st reason s).kept = s.kept := by simp [memState]
@[simp] theorem keep_memPresence (p : Nat) (s : State) : (memPresence p s).kept = s.kept := by simp [memPresence]
@[simp] theorem keep_memLink (p rate width : Nat) (cxl : Bool) (s : State) : (memLink p rate width cxl s).kept = s.kept := by simp [memLink]
@[simp] theorem keep_memEnumerated (p : Nat) (i : MemIdent) (s : State) : (memEnumerated p i s).kept = s.kept := by simp [memEnumerated]
@[simp] theorem keep_memLosing (p reason : Nat) (s : State) : (memLosing p reason s).kept = s.kept := by simp [memLosing]
@[simp] theorem keep_memAbsent (p : Nat) (s : State) : (memAbsent p s).kept = s.kept := by simp [memAbsent]
@[simp] theorem keep_memRebuildEnd (p : Nat) (s : State) : (memRebuildEnd p s).kept = s.kept := by simp [memRebuildEnd]
@[simp] theorem keep_memLoss (p : Nat) (s : State) : (memLoss p s).kept = s.kept := by unfold memLoss; dsimp only; (repeat' split) <;> simp_all
@[simp] theorem keep_memResilvered (p : Nat) (s : State) : (memResilvered p s).kept = s.kept := by simp [memResilvered]
@[simp] theorem keep_memStop (p : Nat) (s : State) : (memStop p s).kept = s.kept := by simp [memStop]
@[simp] theorem keep_memGone (p : Nat) (s : State) : (memGone p s).kept = s.kept := by simp [memGone]
@[simp] theorem keep_runPosted (kind : Nat) (todo : List Pend) (f : Bytes → State → State) (s : State)
    (h : ∀ b u, (f b u).kept = u.kept) : (runPosted kind todo f s).kept = s.kept := by simp [runPosted, h]
@[simp] theorem keep_portCounts (p : Nat) (l : List (Nat × Nat)) (s : State) : (portCounts p l s).kept = s.kept := by simp [portCounts]
@[simp] theorem keep_countAt (p at_ pkt : Nat) (l : List (Nat × Nat)) (s : State) : (countAt p at_ pkt l s).kept = s.kept := by simp [countAt]
@[simp] theorem keep_lateCounts (p : Nat) (s : State) : (lateCounts p s).kept = s.kept := by simp [lateCounts]
@[simp] theorem keep_gatherEvents (s : State) : (gatherEvents s).kept = s.kept := by simp [gatherEvents]
@[simp] theorem keep_releaseEvents (s : State) : (releaseEvents s).kept = s.kept := by simp [releaseEvents]
@[simp] theorem keep_atBoundary (kind : Nat) (args : Bytes) (s : State) : (atBoundary kind args s).kept = s.kept := by simp [atBoundary]
@[simp] theorem keep_memOfflineReached (p : Nat) (s : State) : (memOfflineReached p s).kept = s.kept := by
  unfold memOfflineReached; (repeat' split) <;> simp
@[simp] theorem keep_memOfflineDue (p : Nat) (s : State) : (memOfflineDue p s).kept = s.kept := by simp [memOfflineDue]
@[simp] theorem keep_memBoundary (todo : List Pend) (s : State) : (memBoundary todo s).kept = s.kept := by simp [memBoundary]
@[simp] theorem keep_rejoinUnits (s : State) : (rejoinUnits s).kept = s.kept := by simp [rejoinUnits]
@[simp] theorem keep_captureCount (i : Nat) (s : State) : (captureCount i s).kept = s.kept := by simp [captureCount]
@[simp] theorem keep_captureQueue (q id : Nat) (header frame : Bytes) (s : State) : (captureQueue q id header frame s).kept = s.kept := by simp [captureQueue]
@[simp] theorem keep_captureWrite (q : Nat) (s : State) : (captureWrite q s).kept = s.kept := by unfold captureWrite; dsimp only; (repeat' split) <;> simp_all
@[simp] theorem keep_lasPut (a : Nat) (bs : Bytes) (s : State) : (lasPut a bs s).kept = s.kept := by simp [lasPut]
@[simp] theorem keep_ledgerToBytes (s : State) : (ledgerToBytes s).kept = s.kept := by simp [ledgerToBytes]
@[simp] theorem keep_applyMemRegion (order : Nat) (p : Bytes) (s : State) : (applyMemRegion order p s).kept = s.kept := by simp [applyMemRegion]
@[simp] theorem keep_modXdcOf (c : Nat) (f : Xdc → Xdc) (s : State) : (modXdcOf c f s).kept = s.kept := by simp [modXdcOf]
@[simp] theorem keep_xdcIrq (c : Nat) (s : State) : (xdcIrq c s).kept = s.kept := by simp [xdcIrq]
@[simp] theorem keep_xdcStop (c code addr port : Nat) (s : State) : (xdcStop c code addr port s).kept = s.kept := by simp [xdcStop]
@[simp] theorem keep_xdcStart (c : Nat) (s : State) : (xdcStart c s).kept = s.kept := by simp [xdcStart]
@[simp] theorem keep_xdcAbort (c : Nat) (s : State) : (xdcAbort c s).kept = s.kept := by simp [xdcAbort]
@[simp] theorem keep_xdcCtrlWrite (c v : Nat) (s : State) : (xdcCtrlWrite c v s).kept = s.kept := by simp [xdcCtrlWrite]
@[simp] theorem keep_xdcStatusWrite (c v : Nat) (s : State) : (xdcStatusWrite c v s).kept = s.kept := by simp [xdcStatusWrite]
@[simp] theorem keep_moverChainDone (c : Nat) (s : State) : (moverChainDone c s).kept = s.kept := by simp [moverChainDone]
@[simp] theorem keep_moverChannelStop (c code addr : Nat) (s : State) : (moverChannelStop c code addr s).kept = s.kept := by simp [moverChannelStop]
@[simp] theorem keep_serveBursts (c p n : Nat) (s : State) : (serveBursts c p n s).kept = s.kept := by simp [serveBursts]
@[simp] theorem keep_completionWrite (d : Bytes) (moved code : Nat) (s : State) : (completionWrite d moved code s).kept = s.kept := by simp [completionWrite]
@[simp] theorem keep_onChannel (c : Nat) (f : State → State) (s : State) (h : ∀ u, (f u).kept = u.kept) :
    (onChannel c f s).kept = s.kept := by simp [onChannel, h]
@[simp] theorem keep_whenServed (c : Nat) (f : State → State) (s : State) (h : ∀ u, (f u).kept = u.kept) :
    (whenServed c f s).kept = s.kept := by
  unfold whenServed; split <;> simp [h]
@[simp] theorem keep_pieceRead (rdLas : Bool) (x : Piece) (s : State) : (pieceRead rdLas x s).kept = s.kept := by
  unfold pieceRead; split <;> simp
@[simp] theorem keep_pieceWrite (wrLas : Bool) (x : Piece) (bs : Bytes) (s : State) :
    (pieceWrite wrLas x bs s).kept = s.kept := by
  unfold pieceWrite; split <;> simp

/-- The state that a transfer leaves, whichever way it ends. -/
def Moved.state : Moved → State
  | .ok _ s => s
  | .stop _ _ _ s => s

@[simp] theorem Moved.state_ok (n : Nat) (s : State) : (Moved.ok n s).state = s := rfl
@[simp] theorem Moved.state_stop (code addr n : Nat) (s : State) : (Moved.stop code addr n s).state = s := rfl

@[simp] theorem keep_movePieces (rdLas wrLas : Bool) (data : Piece → Bytes) (l : List Piece) (n : Nat) (s : State) :
    (movePieces rdLas wrLas data l n s).state.kept = s.kept := by
  induction l generalizing n s with
  | nil => rfl
  | cons x r ih => unfold movePieces; split <;> simp [ih]
@[simp] theorem keep_moveFrom (rdLas wrLas : Bool) (src : Nat) (data : HostAnswer) (l : List Piece) (s : State) :
    (moveFrom rdLas wrLas src data l s).state.kept = s.kept := by
  unfold moveFrom; (repeat' split) <;> simp
@[simp] theorem keep_moverCopy (d : Bytes) (data : HostAnswer) (s : State) : (moverCopy d data s).state.kept = s.kept := by
  unfold moverCopy; dsimp only; (repeat' split) <;> simp
@[simp] theorem keep_moverFill (d : Bytes) (s : State) : (moverFill d s).state.kept = s.kept := by
  unfold moverFill; dsimp only; (repeat' split) <;> simp
@[simp] theorem keep_moverSplit (d : Bytes) (table data : HostAnswer) (s : State) :
    (moverSplit d table data s).state.kept = s.kept := by
  unfold moverSplit; dsimp only; (repeat' split) <;> simp
@[simp] theorem keep_moverOp (d : Bytes) (table data : HostAnswer) (s : State) : (moverOp d table data s).state.kept = s.kept := by
  unfold moverOp; (repeat' split) <;> simp
@[simp] theorem keep_descriptorEnd (c : Nat) (d : Bytes) (m : Moved) : (descriptorEnd c d m).kept = m.state.kept := by
  cases m <;> unfold descriptorEnd <;> dsimp only <;> (repeat' split) <;> simp
@[simp] theorem keep_moverDescriptor (c : Nat) (desc table data : HostAnswer) (s : State) :
    (moverDescriptor c desc table data s).kept = s.kept := by
  unfold moverDescriptor; dsimp only; (repeat' split) <;> simp
@[simp] theorem keep_xdcStopHost (s : State) : (xdcStopHost s).kept = s.kept := by simp [xdcStopHost]
end Sys2Proof.Machine
end

