-- ==== Sys2Proof/Laws/KeepTables.lean ====
section
/-! SUPPORT. That each operation leaves `State.kept`: ternary tables, rule banks, the flow ledger's counting, exact-match tables and lanes. -/

namespace Sys2Proof.Machine

set_option linter.unusedVariables false

@[simp] theorem keep_ternLookup (t : Tables) (q bank key : Nat) (l : C4Lookup) (s : State) : (ternLookup t q bank key l s).2.2.kept = s.kept := by unfold ternLookup; (repeat' split) <;> first | (simp; done) | (simp_all; done) | rfl
theorem keep_ternLookup_eq {t : Tables} {q bank key : Nat} {l : C4Lookup} {s : State} {zx0 zx1} {zt : State} (zh : ternLookup t q bank key l s = (zx0, zx1, zt)) : zt.kept = s.kept := by
  have e := keep_ternLookup t q bank key l s
  rw [zh] at e; exact e
@[simp] theorem keep_setAuto (q i : Nat) (f : AutoSlot → AutoSlot) (s : State) : (setAuto q i f s).kept = s.kept := by simp [setAuto]
@[simp] theorem keep_autoScan (t : Tables) (q : Nat) (sel : AutoSel) (window : Bytes) (s : State) : (autoScan t q sel window s).2.2.kept = s.kept := by unfold autoScan; dsimp only; (repeat' split) <;> simp_all
theorem keep_autoScan_eq {t : Tables} {q : Nat} {sel : AutoSel} {window : Bytes} {s : State} {zx0 zx1} {zt : State} (zh : autoScan t q sel window s = (zx0, zx1, zt)) : zt.kept = s.kept := by
  have e := keep_autoScan t q sel window s
  rw [zh] at e; exact e
@[simp] theorem keep_ternPut (q pos : Nat) (e : Option TernEntry) (ends : Bool) (s : State) : (ternPut q pos e ends s).kept = s.kept := by simp [ternPut]
@[simp] theorem keep_applyTernGroup (order : Nat) (p : Bytes) (s : State) : (applyTernGroup order p s).kept = s.kept := by simp [applyTernGroup]
@[simp] theorem keep_applyTernWrite (order : Nat) (p data : Bytes) (s : State) : (applyTernWrite order p data s).kept = s.kept := by simp [applyTernWrite]
@[simp] theorem keep_ternCopy (q dst : Nat) (old oldShadow : Option TernEntry) (s : State) : (ternCopy q dst old oldShadow s).kept = s.kept := by simp [ternCopy]
@[simp] theorem keep_applyTernMove (pre : Tables) (order : Nat) (p data : Bytes) (s : State) : (applyTernMove pre order p data s).kept = s.kept := by simp [applyTernMove]
@[simp] theorem keep_ternMoveStep (q : Nat) (s : State) : (ternMoveStep q s).kept = s.kept := by unfold ternMoveStep; (repeat' split) <;> first | (simp; done) | (simp_all; done) | rfl
@[simp] theorem keep_ternLose (q pos : Nat) (s : State) : (ternLose q pos s).kept = s.kept := by simp [ternLose]
@[simp] theorem keep_autoBadWord (q slot word : Nat) (s : State) : (autoBadWord q slot word s).kept = s.kept := by simp [autoBadWord]
@[simp] theorem keep_clearBankBit (b : Nat) (s : State) : (clearBankBit b s).kept = s.kept := by simp [clearBankBit]
@[simp] theorem keep_placeEntry (b : Nat) (x : TernPlace) (s : State) : (placeEntry b x s).kept = s.kept := by
  unfold placeEntry
  apply keep_eachDo
  intro q s
  split <;> simp
@[simp] theorem keep_applyTernStats (order : Nat) (p : Bytes) (s : State) : (applyTernStats order p s).kept = s.kept := by simp [applyTernStats]
@[simp] theorem keep_applyAutoLoad (order : Nat) (p data : Bytes) (s : State) : (applyAutoLoad order p data s).kept = s.kept := by unfold applyAutoLoad; dsimp only; (repeat' split) <;> simp_all
@[simp] theorem keep_abandonAutoLoads (s : State) : (abandonAutoLoads s).kept = s.kept := by simp [abandonAutoLoads]
@[simp] theorem keep_applyAutoRepair (order : Nat) (p data : Bytes) (s : State) : (applyAutoRepair order p data s).kept = s.kept := by unfold applyAutoRepair; dsimp only; (repeat' split) <;> simp_all
@[simp] theorem keep_scrubRepair (q pos : Nat) (s : State) : (scrubRepair q pos s).kept = s.kept := by simp [scrubRepair]
@[simp] theorem keep_scrubQuad (q : Nat) (s : State) : (scrubQuad q s).kept = s.kept := by simp [scrubQuad]
@[simp] theorem keep_ternUpset (q pos : Nat) (r : Bytes) (s : State) : (ternUpset q pos r s).kept = s.kept := by simp [ternUpset]
@[simp] theorem keep_autoWeakWord (q slot word : Nat) (s : State) : (autoWeakWord q slot word s).kept = s.kept := by simp [autoWeakWord]
@[simp] theorem keep_applyAutoRewrite (p : Bytes) (s : State) : (applyAutoRewrite p s).kept = s.kept := by simp [applyAutoRewrite]
@[simp] theorem keep_modInflight (b : Nat) (f : Nat → Nat) (s : State) : (modInflight b f s).kept = s.kept := by simp [modInflight]
@[simp] theorem keep_flightEnd (i : Nat) (s : State) : (flightEnd i s).kept = s.kept := by simp [flightEnd]
@[simp] theorem keep_applyOpenClear (s : State) : (applyOpenClear s).kept = s.kept := by unfold applyOpenClear; (repeat' split) <;> first | (simp; done) | (simp_all; done) | rfl
@[simp] theorem keep_applyRuleRevert (order : Nat) (s : State) : (applyRuleRevert order s).kept = s.kept := by simp [applyRuleRevert]
@[simp] theorem keep_ruleRegs (s : State) : (ruleRegs s).kept = s.kept := by unfold ruleRegs; (repeat' split) <;> first | (simp; done) | (simp_all; done) | rfl
@[simp] theorem keep_modLquad (q : Nat) (f : LQuad → LQuad) (s : State) : (modLquad q f s).kept = s.kept := by simp [modLquad]
@[simp] theorem keep_modMinute (minute : Nat) (f : Minute → Minute) (s : State) : (modMinute minute f s).kept = s.kept := by simp [modMinute]
@[simp] theorem keep_ledgerCount (i : Nat) (s : State) : (ledgerCount i s).kept = s.kept := by simp [ledgerCount]
@[simp] theorem keep_lossTold (kind minute : Nat) (s : State) : (lossTold kind minute s).kept = s.kept := by simp [lossTold]
@[simp] theorem keep_deltaLost (kind minute tenant : Nat) (s : State) : (deltaLost kind minute tenant s).kept = s.kept := by simp [deltaLost]
@[simp] theorem keep_countUnattributed (q tenant minute : Nat) (inc : Cnt) (s : State) : (countUnattributed q tenant minute inc s).kept = s.kept := by simp [countUnattributed]
@[simp] theorem keep_countSpill (q hash tenant policy minute : Nat) (inc : Cnt) (s : State) : (countSpill q hash tenant policy minute inc s).kept = s.kept := by unfold countSpill; dsimp only; (repeat' split) <;> simp_all
@[simp] theorem keep_countFlow (q : Nat) (block : Bytes) (hash tenant policy minute : Nat) (inc : Cnt) (s : State) : (countFlow q block hash tenant policy minute inc s).kept = s.kept := by unfold countFlow; dsimp only; (repeat' split) <;> simp_all
@[simp] theorem keep_countPacket (q : Nat) (k : Packet) (inc : Cnt) (s : State) : (countPacket q k inc s).kept = s.kept := by simp [countPacket]
@[simp] theorem keep_releaseFlushes (s : State) : (releaseFlushes s).kept = s.kept := by simp [releaseFlushes]
@[simp] theorem keep_rowAdd (tenant minute : Nat) (c : Cnt) (agg : Bool) (flows : Nat) (s : State) : (rowAdd tenant minute c agg flows s).kept = s.kept := by simp [rowAdd]
@[simp] theorem keep_ringAppend (i : Nat) (bs : Bytes) (s : State) : (ringAppend i bs s).kept = s.kept := by simp [ringAppend]
@[simp] theorem keep_createRecord (p : Nat) (d : FlushReq) (s : State) : (createRecord p d s).kept = s.kept := by simp [createRecord]
@[simp] theorem keep_addToRecord (p : Nat) (d : FlushReq) (s : State) : (addToRecord p d s).kept = s.kept := by simp [addToRecord]
@[simp] theorem keep_applyNew (d : FlushReq) (s : State) : (applyNew d s).kept = s.kept := by
  unfold applyNew; dsimp only
  split
  · simp
  · simp only [keep_createRecord, keep_modMinute, keep_ledgerCount]
    rw [keep_whenDo _ _ _ (keep_rowAdd ..), kept_modLedger]
@[simp] theorem keep_bucketPoisoned (d : FlushReq) (s : State) : (bucketPoisoned d s).kept = s.kept := by simp [bucketPoisoned]
@[simp] theorem keep_applyFlush (d : FlushReq) (s : State) : (applyFlush d s).kept = s.kept := by unfold applyFlush; dsimp only; (repeat' split) <;> simp_all
@[simp] theorem keep_rollQuad (m : Nat) (released : Bool) (q : Nat) (s : State) : (rollQuad m released q s).kept = s.kept := by simp [rollQuad]
@[simp] theorem keep_takeRequest (q : Nat) (s : State) : (takeRequest q s).2.kept = s.kept := by unfold takeRequest; (repeat' split) <;> first | (simp; done) | (simp_all; done) | rfl
theorem keep_takeRequest_eq {q : Nat} {s : State} {zx0} {zt : State} (zh : takeRequest q s = (zx0, zt)) : zt.kept = s.kept := by
  have e := keep_takeRequest q s
  rw [zh] at e; exact e
@[simp] theorem keep_poisonLost (q a : Nat) (s : State) : (poisonLost q a s).kept = s.kept := by
  unfold poisonLost
  split <;> rename_i e <;> simpa using keep_takeRequest_eq e
@[simp] theorem keep_poisonRead (p a : Nat) (reader : PoisonReader) (s : State) : (poisonRead p a reader s).kept = s.kept := by
  unfold poisonRead; dsimp only
  (repeat' split) <;> (try have k0 := keep_takeRequest_eq ‹takeRequest _ _ = _›) <;> first | (simp_all; done) | grind
@[simp] theorem keep_ringsLost (s : State) : (ringsLost s).kept = s.kept := keep_whenDo _ _ _ rfl
@[simp] theorem keep_flushFront (q : Nat) (s : State) : (flushFront q s).kept = s.kept := by
  unfold flushFront
  split <;> rename_i e <;> simpa using keep_takeRequest_eq e
@[simp] theorem keep_emtLookup (t : Tables) (q typ key : Nat) (s : State) : (emtLookup t q typ key s).2.kept = s.kept := by unfold emtLookup; (repeat' split) <;> first | (simp; done) | (simp_all; done) | rfl
theorem keep_emtLookup_eq {t : Tables} {q typ key : Nat} {s : State} {zx0} {zt : State} (zh : emtLookup t q typ key s = (zx0, zt)) : zt.kept = s.kept := by
  have e := keep_emtLookup t q typ key s
  rw [zh] at e; exact e
@[simp] theorem keep_tabCount (q i : Nat) (s : State) : (tabCount q i s).kept = s.kept := by simp [tabCount]
@[simp] theorem keep_notify (kind q key old new : Nat) (s : State) : (notify kind q key old new s).kept = s.kept := by simp [notify]
@[simp] theorem keep_tellEvicted (q : Nat) (learned : Bool) (victim : Option EmtEntry) (s : State) : (tellEvicted q learned victim s).kept = s.kept := by unfold tellEvicted; (repeat' split) <;> first | (simp; done) | (simp_all; done) | rfl
@[simp] theorem keep_emtRemove (q pos : Nat) (s : State) : (emtRemove q pos s).kept = s.kept := by simp [emtRemove]
@[simp] theorem keep_defer (q : Nat) (d : Deferral) (s : State) : (defer q d s).kept = s.kept := by simp [defer]
@[simp] theorem keep_freeze (q pos key old new : Nat) (s : State) : (freeze q pos key old new s).kept = s.kept := by simp [freeze]
@[simp] theorem keep_flapMove (q pos key old new : Nat) (s : State) : (flapMove q pos key old new s).kept = s.kept := by unfold flapMove; (repeat' split) <;> first | (simp; done) | (simp_all; done) | rfl
@[simp] theorem keep_learnApply (q : Nat) (e : Learn) (s : State) : (learnApply q e s).kept = s.kept := by unfold learnApply; dsimp only; (repeat' split) <;> simp_all
@[simp] theorem keep_learnAt (q : Nat) (e : Learn) (s : State) : (learnAt q e s).kept = s.kept := by simp [learnAt]
@[simp] theorem keep_ageOne (q pos : Nat) (s : State) : (ageOne q pos s).kept = s.kept := by unfold ageOne; (repeat' split) <;> first | (simp; done) | (simp_all; done) | rfl
@[simp] theorem keep_ageVisit (q b : Nat) (s : State) : (ageVisit q b s).kept = s.kept := by simp [ageVisit]
@[simp] theorem keep_ageingVisit (q : Nat) (s : State) : (ageingVisit q s).kept = s.kept := by simp [ageingVisit]
@[simp] theorem keep_flapRelease (q key : Nat) (s : State) : (flapRelease q key s).kept = s.kept := by unfold flapRelease; dsimp only; (repeat' split) <;> simp_all
@[simp] theorem keep_flapWindowEnd (q key : Nat) (s : State) : (flapWindowEnd q key s).kept = s.kept := by simp [flapWindowEnd]
@[simp] theorem keep_parityInvalidate (q pos : Nat) (s : State) : (parityInvalidate q pos s).kept = s.kept := by unfold parityInvalidate; (repeat' split) <;> first | (simp; done) | (simp_all; done) | rfl
@[simp] theorem keep_applyRestore (p : Bytes) (s : State) : (applyRestore p s).kept = s.kept := by simp [applyRestore]
@[simp] theorem keep_phase1Quad (q : Nat) (s : State) : (phase1Quad q s).kept = s.kept := by simp [phase1Quad]
@[simp] theorem keep_phase1 (s : State) : (phase1 s).kept = s.kept := by simp [phase1]
@[simp] theorem keep_deferredApply (q : Nat) (d : Deferral) (s : State) : (deferredApply q d s).kept = s.kept := by unfold deferredApply; (repeat' split) <;> first | (simp; done) | (simp_all; done) | rfl
@[simp] theorem keep_releaseDeferred (q room : Nat) (s : State) : (releaseDeferred q room s).kept = s.kept := by simp [releaseDeferred]
@[simp] theorem keep_phase2Quad (q : Nat) (s : State) : (phase2Quad q s).kept = s.kept := by simp [phase2Quad]
@[simp] theorem keep_phase2 (s : State) : (phase2 s).kept = s.kept := by simp [phase2]
@[simp] theorem keep_phase4 (s : State) : (phase4 s).kept = s.kept := by simp [phase4]
@[simp] theorem keep_synceRefresh (s : State) : (synceRefresh s).kept = s.kept := by simp [synceRefresh]
@[simp] theorem keep_laneCount (l i n : Nat) (s : State) : (laneCount l i n s).kept = s.kept := by simp [laneCount]
@[simp] theorem keep_enterState (l st : Nat) (s : State) : (enterState l st s).kept = s.kept := by simp [enterState]
@[simp] theorem keep_closeSession (l outcome violation : Nat) (s : State) : (closeSession l outcome violation s).kept = s.kept := by simp [closeSession]
@[simp] theorem keep_openSession (l : Nat) (s : State) : (openSession l s).kept = s.kept := by simp [openSession]
@[simp] theorem keep_countAnswer (l row : Nat) (s : State) : (countAnswer l row s).kept = s.kept := by simp [countAnswer]
@[simp] theorem keep_trainFault (l v : Nat) (s : State) : (trainFault l v s).kept = s.kept := by simp [trainFault]
@[simp] theorem keep_enterBlind (l : Nat) (s : State) : (enterBlind l s).kept = s.kept := by simp [enterBlind]
@[simp] theorem keep_enterRxDetect (l : Nat) (s : State) : (enterRxDetect l s).kept = s.kept := by simp [enterRxDetect]
@[simp] theorem keep_enterTrain (l : Nat) (s : State) : (enterTrain l s).kept = s.kept := by simp [enterTrain]
@[simp] theorem keep_bringUpFail (l v row : Nat) (s : State) : (bringUpFail l v row s).kept = s.kept := by simp [bringUpFail]
@[simp] theorem keep_lockFail (l v row : Nat) (s : State) : (lockFail l v row s).kept = s.kept := by simp [lockFail]
@[simp] theorem keep_cutArrivals (p : Nat) (s : State) : (cutArrivals p s).kept = s.kept := by simp [cutArrivals]
@[simp] theorem keep_leaveActive (l reason next : Nat) (s : State) : (leaveActive l reason next s).kept = s.kept := by unfold leaveActive; dsimp only; (repeat' split) <;> simp_all
@[simp] theorem keep_loseLink (l reason : Nat) (s : State) : (loseLink l reason s).kept = s.kept := by simp [loseLink]
@[simp] theorem keep_disableLane (l reason : Nat) (s : State) : (disableLane l reason s).kept = s.kept := by simp [disableLane]
@[simp] theorem keep_enableLane (l : Nat) (s : State) : (enableLane l s).kept = s.kept := by simp [enableLane]
@[simp] theorem keep_answerTaps (l : Nat) (a : Nat × List Int) (s : State) : (answerTaps l a s).kept = s.kept := by simp [answerTaps]
@[simp] theorem keep_trainingRequest (l : Nat) (req : TrainReq) (s : State) : (trainingRequest l req s).kept = s.kept := by unfold trainingRequest; dsimp only; (repeat' split) <;> simp_all
@[simp] theorem keep_adaptLane (l : Nat) (s : State) : (adaptLane l s).kept = s.kept := by simp [adaptLane]
@[simp] theorem keep_laneLock (l : Nat) (s : State) : (laneLock l s).kept = s.kept := by simp [laneLock]
@[simp] theorem keep_laneUp (l : Nat) (s : State) : (laneUp l s).kept = s.kept := by simp [laneUp]
@[simp] theorem keep_relinkGiveUp (l : Nat) (s : State) : (relinkGiveUp l s).kept = s.kept := by simp [relinkGiveUp]
@[simp] theorem keep_modQuiet (l : Nat) (f : Quiet → Quiet) (s : State) : (modQuiet l f s).kept = s.kept := by simp [modQuiet]
@[simp] theorem keep_quietEnter (p : Nat) (s : State) : (quietEnter p s).kept = s.kept := by simp [quietEnter]
@[simp] theorem keep_quietBeat (p : Nat) (s : State) : (quietBeat p s).kept = s.kept := by unfold quietBeat; dsimp only; (repeat' split) <;> simp
@[simp] theorem keep_quietEnd (p : Nat) (s : State) : (quietEnd p s).kept = s.kept := by simp [quietEnd]
@[simp] theorem keep_applyLaneConfig (p : Bytes) (l : Nat) (s : State) : (applyLaneConfig p l s).kept = s.kept := by simp [applyLaneConfig]
@[simp] theorem keep_loadSet (l : Nat) (b : Bytes) (s : State) : (loadSet l b s).kept = s.kept := by simp [loadSet]
@[simp] theorem keep_enterLoopback (l code : Nat) (s : State) : (enterLoopback l code s).kept = s.kept := by simp [enterLoopback]
@[simp] theorem keep_peerTlv (l : Nat) (t : Bytes) (s : State) : (peerTlv l t s).kept = s.kept := by simp [peerTlv]
@[simp] theorem keep_adaptDsp (l : Nat) (s : State) : (adaptDsp l s).kept = s.kept := by simp [adaptDsp]
@[simp] theorem keep_anEnergy (l : Nat) (s : State) : (anEnergy l s).kept = s.kept := by simp [anEnergy]
@[simp] theorem keep_useMode (mode fec l : Nat) (s : State) : (useMode mode fec l s).kept = s.kept := by simp [useMode]
@[simp] theorem keep_anResolve (l mode : Nat) (own partner : AnPage) (s : State) : (anResolve l mode own partner s).kept = s.kept := by simp [anResolve]
@[simp] theorem keep_trainReady (l : Nat) (s : State) : (trainReady l s).kept = s.kept := by simp [trainReady]
@[simp] theorem keep_expressAwake (p : Nat) (s : State) : (expressAwake p s).kept = s.kept := by simp [expressAwake]
@[simp] theorem keep_readAdapts (l : Nat) (s : State) : (readAdapts l s).kept = s.kept := by simp [readAdapts]
@[simp] theorem keep_retrainLane (l : Nat) (s : State) : (retrainLane l s).kept = s.kept := by simp [retrainLane]
@[simp] theorem keep_measureLane (l : Nat) (s : State) : (measureLane l s).kept = s.kept := by simp [measureLane]
@[simp] theorem keep_lagRebuild (s : State) : (lagRebuild s).kept = s.kept := by simp [lagRebuild]
theorem keep_emtWrite_eq {mask : Nat} {r : Bytes} {st ne : Bool} {s t : State} {o : List (Nat × Nat)} (h : emtWrite mask r st ne s = .done t o) : t.kept = s.kept := by
  unfold emtWrite at h
  dsimp only at h
  (repeat' split at h)
  · cases h
  · cases h
    refine keep_eachDo _ _ _ ?_; intro q x; (repeat' split) <;> simp
theorem keep_lpmWrite_eq {e : LpmEntry} {del : Bool} {s t : State} {o : List (Nat × Nat)} (h : lpmWrite e del s = .done t o) : t.kept = s.kept := by
  unfold lpmWrite at h
  dsimp only at h
  (repeat' split at h) <;> cases h <;> simp
theorem keep_tableWrite_eq {c m : Nat} {r : Bytes} {st ne : Bool} {s t : State} {o : List (Nat × Nat)} (h : tableWrite c m r st ne s = .done t o) : t.kept = s.kept := by
  unfold tableWrite at h
  dsimp only at h
  (repeat' split at h) <;> first | exact keep_emtWrite_eq h | exact keep_lpmWrite_eq h | (cases h; done) | (cases h; simp)
theorem keep_tableDelete_eq {c m : Nat} {r : Bytes} {s t : State} {o : List (Nat × Nat)} (h : tableDelete c m r s = .done t o) : t.kept = s.kept := by
  unfold tableDelete at h
  dsimp only at h
  (repeat' split at h) <;> first | exact keep_lpmWrite_eq h | (cases h; done) | (cases h; simp; done) | (cases h; refine keep_eachDo _ _ _ ?_; intro q x; (repeat' split) <;> simp)
@[simp] theorem keep_applyTableInsert (order : Nat) (p : Bytes) (s : State) : (applyTableInsert order p s).kept = s.kept := by
  unfold applyTableInsert
  try dsimp only
  split
  · simp
  · rename_i h; have k := keep_tableWrite_eq h; simp [k]
@[simp] theorem keep_applyTableDelete (order : Nat) (p : Bytes) (s : State) : (applyTableDelete order p s).kept = s.kept := by
  unfold applyTableDelete
  try dsimp only
  split
  · simp
  · rename_i h; have k := keep_tableDelete_eq h; simp [k]
@[simp] theorem keep_applyTableConfig (order : Nat) (p : Bytes) (s : State) : (applyTableConfig order p s).kept = s.kept := by simp [applyTableConfig]
@[simp] theorem keep_applyTableFlush (order : Nat) (p : Bytes) (s : State) : (applyTableFlush order p s).kept = s.kept := by simp [applyTableFlush]
@[simp] theorem keep_applyLearnConfig (order : Nat) (p : Bytes) (s : State) : (applyLearnConfig order p s).kept = s.kept := by simp [applyLearnConfig]
@[simp] theorem keep_applyTableStats (order : Nat) (p : Bytes) (s : State) : (applyTableStats order p s).kept = s.kept := by simp [applyTableStats]
@[simp] theorem keep_nhQuarantineEnd (i : Nat) (s : State) : (nhQuarantineEnd i s).kept = s.kept := by unfold nhQuarantineEnd; (repeat' split) <;> first | (simp; done) | (simp_all; done) | rfl
@[simp] theorem keep_nhQuarantines (s : State) : (nhQuarantines s).kept = s.kept := by simp [nhQuarantines]

end Sys2Proof.Machine
end

