-- ==== Sys2Proof/Laws/KeepTraffic.lean ====
section
/-! SUPPORT. That each operation leaves `State.kept`: packets, the clock, Lantern, the traffic manager and the cell buffer. -/

namespace Sys2Proof.Machine

set_option linter.unusedVariables false

@[simp] theorem keep_newPkt (k : Packet) (s : State) : (newPkt k s).2.kept = s.kept := by simp [newPkt]
theorem keep_newPkt_eq {k : Packet} {s : State} {zx0} {zt : State} (zh : newPkt k s = (zx0, zt)) : zt.kept = s.kept := by
  have e := keep_newPkt k s
  rw [zh] at e; exact e
@[simp] theorem keep_newCopy (c : Copy) (s : State) : (newCopy c s).2.kept = s.kept := by simp [newCopy]
theorem keep_newCopy_eq {c : Copy} {s : State} {zx0} {zt : State} (zh : newCopy c s = (zx0, zt)) : zt.kept = s.kept := by
  have e := keep_newCopy c s
  rw [zh] at e; exact e
@[simp] theorem keep_dropPkt (i : Nat) (s : State) : (dropPkt i s).kept = s.kept := by simp [dropPkt]
@[simp] theorem keep_dropCopy (i : Nat) (s : State) : (dropCopy i s).kept = s.kept := by simp [dropCopy]
@[simp] theorem keep_modArb (sl : Nat) (f : Arb → Arb) (s : State) : (modArb sl f s).kept = s.kept := by simp [modArb]
@[simp] theorem keep_inject (sl src i : Nat) (s : State) : (inject sl src i s).kept = s.kept := by simp [inject]
@[simp] theorem keep_modTmPort (p : Nat) (f : TmPort → TmPort) (s : State) : (modTmPort p f s).kept = s.kept := by simp [modTmPort]
@[simp] theorem keep_modPool (i : Nat) (f : Pool → Pool) (s : State) : (modPool i f s).kept = s.kept := by simp [modPool]
@[simp] theorem keep_settlePool (i : Nat) (s : State) : (settlePool i s).kept = s.kept := by simp [settlePool]
@[simp] theorem keep_xoffPort (p : Nat) (s : State) : (xoffPort p s).kept = s.kept := by unfold xoffPort; (repeat' split) <;> first | (simp; done) | (simp_all; done) | rfl
@[simp] theorem keep_xoffRefresh (s : State) : (xoffRefresh s).kept = s.kept := by simp [xoffRefresh]
@[simp] theorem keep_chargePool (i : Nat) (cells : List Nat) (s : State) : (chargePool i cells s).kept = s.kept := by simp [chargePool]
@[simp] theorem keep_freeCell (sl i c : Nat) (s : State) : (freeCell sl i c s).kept = s.kept := by simp [freeCell]
@[simp] theorem keep_freeCells (sl i : Nat) (cells : List Nat) (s : State) : (freeCells sl i cells s).kept = s.kept := by simp [freeCells]
@[simp] theorem keep_freePacket (sl i : Nat) (s : State) : (freePacket sl i s).kept = s.kept := by unfold freePacket; dsimp only; (repeat' split) <;> simp_all
@[simp] theorem keep_advanceClock (s : State) : (advanceClock s).kept = s.kept := by
  unfold advanceClock; exact kept_modTime _ _
@[simp] theorem keep_hckIrq (b : Nat) (s : State) : (hckIrq b s).kept = s.kept := by simp [hckIrq]
@[simp] theorem keep_addTxts (e : Txts) (s : State) : (addTxts e s).kept = s.kept := by simp [addTxts]
@[simp] theorem keep_applyStep (sec : Int) (ns : Nat) (s : State) : (applyStep sec ns s).kept = s.kept := by simp [applyStep]
@[simp] theorem keep_refuseStep (s : State) : (refuseStep s).kept = s.kept := by simp [refuseStep]
@[simp] theorem keep_applyState (lock : Bool) (s : State) : (applyState lock s).kept = s.kept := by simp [applyState]
@[simp] theorem keep_ppsFall (s : State) : (ppsFall s).kept = s.kept := by simp [ppsFall]
@[simp] theorem keep_hckCtrlWrite (value : Nat) (s : State) : (hckCtrlWrite value s).kept = s.kept := by
  have e (b : Bool) (r : Bytes) (x : State) : (whenDo b (post 0 80896 r []) x).kept = x.kept := keep_whenDo _ _ _ (keep_post ..)
  unfold hckCtrlWrite
  dsimp only
  split
  · rw [e, e, kept_modTime]
  · split
    · rw [keep_refuseStep, e, e, kept_modTime]
    · rw [keep_post, kept_modTime, e, e, kept_modTime]
@[simp] theorem keep_applyHckCtrl (req : Bytes) (s : State) : (applyHckCtrl req s).kept = s.kept := by unfold applyHckCtrl; (repeat' split) <;> first | (simp; done) | (simp_all; done) | rfl
@[simp] theorem keep_requestRate (order kind : Nat) (r : Int) (s : State) : (requestRate order kind r s).kept = s.kept := by simp [requestRate]
@[simp] theorem keep_applyRate (req : Bytes) (s : State) : (applyRate req s).kept = s.kept := by simp [applyRate]
@[simp] theorem keep_ppsRise (s : State) : (ppsRise s).kept = s.kept := by simp [ppsRise]
@[simp] theorem keep_applyTimeStep (order : Nat) (p : Bytes) (s : State) : (applyTimeStep order p s).kept = s.kept := by simp [applyTimeStep]
@[simp] theorem keep_applyPortDelay (p : Bytes) (s : State) : (applyPortDelay p s).kept = s.kept := by simp [applyPortDelay]
@[simp] theorem keep_applyPortPtp (p : Bytes) (s : State) : (applyPortPtp p s).kept = s.kept := by simp [applyPortPtp]
@[simp] theorem keep_applyPps (p : Bytes) (s : State) : (applyPps p s).kept = s.kept := by simp [applyPps]
@[simp] theorem keep_applySynce (p : Bytes) (s : State) : (applySynce p s).kept = s.kept := by simp [applySynce]
@[simp] theorem keep_modStream (i : Nat) (f : Stream → Stream) (s : State) : (modStream i f s).kept = s.kept := by simp [modStream]
@[simp] theorem keep_streamCount (i j n : Nat) (s : State) : (streamCount i j n s).kept = s.kept := by simp [streamCount]
@[simp] theorem keep_lanternLost (i : Nat) (s : State) : (lanternLost i s).kept = s.kept := by simp [lanternLost]
@[simp] theorem keep_exportPacket (stream sl n : Nat) (msg : Bytes) (s : State) : (exportPacket stream sl n msg s).kept = s.kept := by simp [exportPacket]
@[simp] theorem keep_modBuilder (stream sl : Nat) (f : Builder → Builder) (s : State) : (modBuilder stream sl f s).kept = s.kept := by simp [modBuilder]
@[simp] theorem keep_sendTemplates (stream sl : Nat) (s : State) : (sendTemplates stream sl s).kept = s.kept := by simp [sendTemplates]
@[simp] theorem keep_sendMessage (stream sl : Nat) (s : State) : (sendMessage stream sl s).kept = s.kept := by simp [sendMessage]
@[simp] theorem keep_ipfixFlush (stream sl : Nat) (s : State) : (ipfixFlush stream sl s).kept = s.kept := by simp [ipfixFlush]
@[simp] theorem keep_ipfixRefresh (stream sl : Nat) (s : State) : (ipfixRefresh stream sl s).kept = s.kept := by simp [ipfixRefresh]
@[simp] theorem keep_takeSeq (stream : Nat) (rec_ : Bytes) (s : State) : (takeSeq stream rec_ s).2.kept = s.kept := by simp [takeSeq]
theorem keep_takeSeq_eq {stream : Nat} {rec_ : Bytes} {s : State} {zx0} {zt : State} (zh : takeSeq stream rec_ s = (zx0, zt)) : zt.kept = s.kept := by
  have e := keep_takeSeq stream rec_ s
  rw [zh] at e; exact e
@[simp] theorem keep_buildRecord (stream sl : Nat) (rec_ : Bytes) (s : State) : (buildRecord stream sl rec_ s).kept = s.kept := by simp [buildRecord]
@[simp] theorem keep_emitRecord (stream sl : Nat) (triggers : List Nat) (rec_ : Bytes) (s : State) : (emitRecord stream sl triggers rec_ s).kept = s.kept := by unfold emitRecord; dsimp only; (repeat' split) <;> simp_all
@[simp] theorem keep_streamDropFull (i : Nat) (s : State) : (streamDropFull i s).kept = s.kept := by simp [streamDropFull]
@[simp] theorem keep_lanternWrite (s : State) : (lanternWrite s).kept = s.kept := by
  unfold lanternWrite; dsimp only
  (repeat' split) <;> (try have k0 := keep_takeSeq_eq ‹takeSeq _ _ _ = _›) <;> first | (simp_all; done) | grind
@[simp] theorem keep_lanternStopHost (s : State) : (lanternStopHost s).kept = s.kept := by simp [lanternStopHost]
@[simp] theorem keep_tracerEnd (k : Packet) (e : Ending) (recirc : Bool) (last : List Nat) (s : State) : (tracerEnd k e recirc last s).kept = s.kept := by simp [tracerEnd]
@[simp] theorem keep_lanternEnd (k : Packet) (e : Ending) (last : List Nat) (s : State) : (lanternEnd k e last s).kept = s.kept := by unfold lanternEnd; dsimp only; (repeat' split) <;> simp_all
@[simp] theorem keep_applyLanternStream (order : Nat) (p : Bytes) (s : State) : (applyLanternStream order p s).kept = s.kept := by simp [applyLanternStream]
@[simp] theorem keep_applyLanternPort (order : Nat) (p : Bytes) (s : State) : (applyLanternPort order p s).kept = s.kept := by simp [applyLanternPort]
@[simp] theorem keep_applyLanternTrigger (order : Nat) (p : Bytes) (s : State) : (applyLanternTrigger order p s).kept = s.kept := by simp [applyLanternTrigger]
@[simp] theorem keep_applyLanternTenant (order : Nat) (p : Bytes) (s : State) : (applyLanternTenant order p s).kept = s.kept := by simp [applyLanternTenant]
@[simp] theorem keep_applyLanternIpfix (order : Nat) (p data : Bytes) (s : State) : (applyLanternIpfix order p data s).kept = s.kept := by simp [applyLanternIpfix]
@[simp] theorem keep_applyLanternStats (order : Nat) (p : Bytes) (s : State) : (applyLanternStats order p s).kept = s.kept := by simp [applyLanternStats]
@[simp] theorem keep_ipfixBoundary (s : State) : (ipfixBoundary s).kept = s.kept := by simp [ipfixBoundary]
@[simp] theorem keep_freshen (p q : Nat) (s : State) : (freshen p q s).kept = s.kept := by simp [freshen]
@[simp] theorem keep_unqueue (p q ci : Nat) (s : State) : (unqueue p q ci s).kept = s.kept := by simp [unqueue]
@[simp] theorem keep_releaseRef (sl i : Nat) (s : State) : (releaseRef sl i s).kept = s.kept := by simp [releaseRef]
@[simp] theorem keep_dropExtras (k : Packet) (s : State) : (dropExtras k s).kept = s.kept := by unfold dropExtras; (repeat' split) <;> first | (simp; done) | (simp_all; done) | rfl
@[simp] theorem keep_detachCopy (ci : Nat) (s : State) : (detachCopy ci s).kept = s.kept := by simp [detachCopy]
@[simp] theorem keep_dropCopyAt (sl ci reason ns : Nat) (s : State) : (dropCopyAt sl ci reason ns s).kept = s.kept := by simp [dropCopyAt]
@[simp] theorem keep_dropCopyEnd (ci reason ns : Nat) (s : State) : (dropCopyEnd ci reason ns s).kept = s.kept := by simp [dropCopyEnd]
@[simp] theorem keep_dropIngress (i reason ns : Nat) (s : State) : (dropIngress i reason ns s).kept = s.kept := by simp [dropIngress]
@[simp] theorem keep_sentCopyEnd (ci n ns : Nat) (s : State) : (sentCopyEnd ci n ns s).kept = s.kept := by unfold sentCopyEnd; dsimp only; (repeat' split) <;> simp_all
@[simp] theorem keep_recirculate (ci ns : Nat) (s : State) : (recirculate ci ns s).kept = s.kept := by simp [recirculate]
@[simp] theorem keep_recordTags (p : Nat) (tags : List (Nat × Nat × Nat)) (s : State) : (recordTags p tags s).kept = s.kept := by simp [recordTags]
@[simp] theorem keep_chargeShapers (p q wire : Nat) (s : State) : (chargeShapers p q wire s).kept = s.kept := by simp [chargeShapers]
@[simp] theorem keep_queueStat (p q : Nat) (f : QStat → QStat) (s : State) : (queueStat p q f s).kept = s.kept := by simp [queueStat]
@[simp] theorem keep_purgeHead (p q ns : Nat) (s : State) : (purgeHead p q ns s).kept = s.kept := by unfold purgeHead; (repeat' split) <;> first | (simp; done) | (simp_all; done) | rfl
@[simp] theorem keep_purgeQueue (p ns q : Nat) (s : State) : (purgeQueue p ns q s).kept = s.kept := by
  have e (l : List Nat) : ∀ x : State, (l.foldl (fun s _ => purgeHead p q ns s) x).kept = x.kept := by
    induction l with
    | nil => intro x; rfl
    | cons a l ih => intro x; simp [List.foldl, ih]
  exact e _ _
@[simp] theorem keep_enqueue (ci ns : Nat) (s : State) : (enqueue ci ns s).kept = s.kept := by simp [enqueue]
@[simp] theorem keep_police (q i colour n : Nat) (s : State) : (police q i colour n s).2.kept = s.kept := by unfold police; (repeat' split) <;> first | (simp; done) | (simp_all; done) | rfl
theorem keep_police_eq {q i colour n : Nat} {s : State} {zx0} {zt : State} (zh : police q i colour n s = (zx0, zt)) : zt.kept = s.kept := by
  have e := keep_police q i colour n s
  rw [zh] at e; exact e
@[simp] theorem keep_phase6 (s : State) : (phase6 s).kept = s.kept := by simp [phase6]
@[simp] theorem keep_sojournDrop (ci : Nat) (s : State) : (sojournDrop ci s).kept = s.kept := by simp [sojournDrop]
@[simp] theorem keep_sojournDiscard (s : State) : (sojournDiscard s).kept = s.kept := by simp [sojournDiscard]
@[simp] theorem keep_holdSojourn (p : Nat) (s : State) : (holdSojourn p s).kept = s.kept := by simp [holdSojourn]
@[simp] theorem keep_sampleQueue (pq : Nat × Nat) (s : State) : (sampleQueue pq s).kept = s.kept := by simp [sampleQueue]
@[simp] theorem keep_sampleSlice (sl : Nat) (s : State) : (sampleSlice sl s).kept = s.kept := by unfold sampleSlice; dsimp only; (repeat' split) <;> simp_all
@[simp] theorem keep_sampleAll (s : State) : (sampleAll s).kept = s.kept := by simp [sampleAll]
@[simp] theorem keep_preemptCopy (p ci n : Nat) (s : State) : (preemptCopy p ci n s).kept = s.kept := by simp [preemptCopy]
@[simp] theorem keep_preemptAt (p : Nat) (f : Nat → Option Nat) (s : State) : (preemptAt p f s).kept = s.kept := by unfold preemptAt; (repeat' split) <;> first | (simp; done) | (simp_all; done) | rfl
@[simp] theorem keep_preemptNow (p ns : Nat) (s : State) : (preemptNow p ns s).kept = s.kept := by simp [preemptNow]
@[simp] theorem keep_cutAtClose (p ns : Nat) (s : State) : (cutAtClose p ns s).kept = s.kept := by unfold cutAtClose; (repeat' split) <;> first | (simp; done) | (simp_all; done) | rfl
@[simp] theorem keep_gateTo (p now ns : Nat) (s : State) : (gateTo p now ns s).kept = s.kept := by unfold gateTo; dsimp only; (repeat' split) <;> simp_all
@[simp] theorem keep_gateChange (p now : Nat) (s : State) : (gateChange p now s).kept = s.kept := by unfold gateChange; (repeat' split) <;> first | (simp; done) | (simp_all; done) | rfl
@[simp] theorem keep_gatesRefresh (s : State) : (gatesRefresh s).kept = s.kept := by simp [gatesRefresh]
@[simp] theorem keep_latchHeld (p ns : Nat) (s : State) : (latchHeld p ns s).kept = s.kept := by simp [latchHeld]
@[simp] theorem keep_headroomEvent (port pr : Nat) (s : State) : (headroomEvent port pr s).kept = s.kept := by simp [headroomEvent]
@[simp] theorem keep_poolCount (i j n : Nat) (s : State) : (poolCount i j n s).kept = s.kept := by simp [poolCount]
@[simp] theorem keep_chargeFrame (i : Nat) (mc : Bool) (n pool : Nat) (s : State) : (chargeFrame i mc n pool s).2.kept = s.kept := by simp [chargeFrame]
theorem keep_chargeFrame_eq {i : Nat} {mc : Bool} {n pool : Nat} {s : State} {zx0} {zt : State} (zh : chargeFrame i mc n pool s = (zx0, zt)) : zt.kept = s.kept := by
  have e := keep_chargeFrame i mc n pool s
  rw [zh] at e; exact e
@[simp] theorem keep_admitPkt (i : Nat) (mc : Bool) (n ns : Nat) (s : State) : (admitPkt i mc n ns s).2.kept = s.kept := by
  unfold admitPkt; dsimp only
  (repeat' split) <;> (try have k0 := keep_chargeFrame_eq ‹chargeFrame _ _ _ _ _ = _›) <;> first | (simp_all; done) | grind
theorem keep_admitPkt_eq {i : Nat} {mc : Bool} {n ns : Nat} {s : State} {zx0} {zt : State} (zh : admitPkt i mc n ns s = (zx0, zt)) : zt.kept = s.kept := by
  have e := keep_admitPkt i mc n ns s
  rw [zh] at e; exact e
@[simp] theorem keep_trimCharge (i : Nat) (s : State) : (trimCharge i s).kept = s.kept := by unfold trimCharge; dsimp only; (repeat' split) <;> simp_all
@[simp] theorem keep_modPlane (i : Nat) (f : Plane → Plane) (s : State) : (modPlane i f s).kept = s.kept := by simp [modPlane]
@[simp] theorem keep_modStrm (k : Nat) (f : Strm → Strm) (s : State) : (modStrm k f s).kept = s.kept := by simp [modStrm]
@[simp] theorem keep_modReseq (e : Nat) (f : Reseq → Reseq) (s : State) : (modReseq e f s).kept = s.kept := by simp [modReseq]
@[simp] theorem keep_releaseCopy (ns ci : Nat) (s : State) : (releaseCopy ns ci s).kept = s.kept := by simp [releaseCopy]
@[simp] theorem keep_releaseFrame (slice pkt ns : Nat) (s : State) : (releaseFrame slice pkt ns s).kept = s.kept := by simp [releaseFrame]
@[simp] theorem keep_drainStream (slice key ns n : Nat) (s : State) : (drainStream slice key ns n s).kept = s.kept := by
  induction n generalizing s with
  | zero => simp [drainStream]
  | succ n ih => unfold drainStream; (repeat' split) <;> simp_all
@[simp] theorem keep_skipTo (slice key seq ns : Nat) (s : State) : (skipTo slice key seq ns s).kept = s.kept := by simp [skipTo]
@[simp] theorem keep_dropLate (slice pkt ns : Nat) (s : State) : (dropLate slice pkt ns s).kept = s.kept := by simp [dropLate]
@[simp] theorem keep_windowFull (slice ns : Nat) (s : State) : (windowFull slice ns s).kept = s.kept := by unfold windowFull; dsimp only; (repeat' split) <;> simp_all
@[simp] theorem keep_placeFrame (pkt slice key seq ns : Nat) (s : State) : (placeFrame pkt slice key seq ns s).kept = s.kept := by simp [placeFrame]
@[simp] theorem keep_cellArrive (pkt slice ns : Nat) (s : State) : (cellArrive pkt slice ns s).kept = s.kept := by unfold cellArrive; dsimp only; (repeat' split) <;> simp_all
@[simp] theorem keep_reseqTimeout (slice key : Nat) (s : State) : (reseqTimeout slice key s).kept = s.kept := by unfold reseqTimeout; dsimp only; (repeat' split) <;> simp_all
@[simp] theorem keep_reseqBoundary (todo : List Pend) (s : State) : (reseqBoundary todo s).kept = s.kept := by simp [reseqBoundary]
@[simp] theorem keep_changeEpoch (sl : Nat) (s : State) : (changeEpoch sl s).kept = s.kept := by simp [changeEpoch]
@[simp] theorem keep_reseqLost (slice : Nat) (s : State) : (reseqLost slice s).kept = s.kept := by simp [reseqLost]
@[simp] theorem keep_planeEvent (i : Nat) (s : State) : (planeEvent i s).kept = s.kept := by simp [planeEvent]
@[simp] theorem keep_sprayCells (pkt q n : Nat) (s : State) : (sprayCells pkt q n s).kept = s.kept := by simp [sprayCells]
@[simp] theorem keep_resendCells (i : Nat) (e : Nat × Packet) (s : State) : (resendCells i e s).kept = s.kept := by simp [resendCells]
@[simp] theorem keep_planeFail (i q : Nat) (s : State) : (planeFail i q s).kept = s.kept := by simp [planeFail]
@[simp] theorem keep_lateCell (x : LateCell) (s : State) : (lateCell x s).kept = s.kept := by simp [lateCell]
@[simp] theorem keep_xbarPlaneFail (i q : Nat) (l : List LateCell) (s : State) : (xbarPlaneFail i q l s).kept = s.kept := by simp [xbarPlaneFail]
@[simp] theorem keep_planeRetrained (i : Nat) (s : State) : (planeRetrained i s).kept = s.kept := by simp [planeRetrained]
@[simp] theorem keep_sendCells (express : Bool) (pkt q n : Nat) (s : State) : (sendCells express pkt q n s).kept = s.kept := by simp [sendCells]
@[simp] theorem keep_crossingCellCrcFail (plane q pkt cell : Nat) (s : State) : (crossingCellCrcFail plane q pkt cell s).kept = s.kept := by simp [crossingCellCrcFail]
@[simp] theorem keep_applyPoolConfig (order : Nat) (p : Bytes) (s : State) : (applyPoolConfig order p s).kept = s.kept := by simp [applyPoolConfig]
@[simp] theorem keep_applyPoolMap (order : Nat) (p : Bytes) (s : State) : (applyPoolMap order p s).kept = s.kept := by simp [applyPoolMap]
@[simp] theorem keep_applyHeadroom (order : Nat) (p : Bytes) (s : State) : (applyHeadroom order p s).kept = s.kept := by simp [applyHeadroom]
@[simp] theorem keep_applyBufStatus (order : Nat) (p : Bytes) (s : State) : (applyBufStatus order p s).kept = s.kept := by simp [applyBufStatus]
@[simp] theorem keep_applyBufStats (order : Nat) (p : Bytes) (s : State) : (applyBufStats order p s).kept = s.kept := by simp [applyBufStats]
@[simp] theorem keep_applyMcWrite (order : Nat) (p data : Bytes) (s : State) : (applyMcWrite order p data s).kept = s.kept := by simp [applyMcWrite]
@[simp] theorem keep_applyMcRead (order : Nat) (p : Bytes) (s : State) : (applyMcRead order p s).kept = s.kept := by simp [applyMcRead]
@[simp] theorem keep_applyFabricStatus (order : Nat) (p : Bytes) (s : State) : (applyFabricStatus order p s).kept = s.kept := by simp [applyFabricStatus]
@[simp] theorem keep_applyPlaneAdmin (order : Nat) (p : Bytes) (s : State) : (applyPlaneAdmin order p s).kept = s.kept := by simp [applyPlaneAdmin]
@[simp] theorem keep_applyReseqStats (order : Nat) (p : Bytes) (s : State) : (applyReseqStats order p s).kept = s.kept := by simp [applyReseqStats]
@[simp] theorem keep_auditComplete (s : State) : (auditComplete s).kept = s.kept := by simp [auditComplete]
@[simp] theorem keep_applyMirror (order : Nat) (p data : Bytes) (s : State) : (applyMirror order p data s).kept = s.kept := by simp [applyMirror]
@[simp] theorem keep_auditBoundary (todo : List Pend) (s : State) : (auditBoundary todo s).kept = s.kept := by simp [auditBoundary]

end Sys2Proof.Machine
end

