-- ==== Sys2Proof/Laws/KeepFrames.lean ====
section
/-! SUPPORT. That each operation leaves `State.kept`: what becomes of a frame, and the ports. -/

namespace Sys2Proof.Machine

set_option linter.unusedVariables false

@[simp] theorem keep_stage2 (x : Ctx) (m : ActionSet) (s : State) : (stage2 x m s).2.2.kept = s.kept := by
  unfold stage2
  dsimp only
  (repeat' split) <;> first
    | rfl
    | exact keep_emtLookup_eq ‹emtLookup x.t x.q 3 _ s = (some _, _)›
    | exact (keep_emtLookup_eq ‹emtLookup x.t x.q 2 _ _ = _›).trans (keep_emtLookup_eq ‹emtLookup x.t x.q 3 _ _ = _›)
    | exact keep_emtLookup_eq ‹emtLookup x.t x.q 2 _ s = _›
theorem keep_stage2_eq {x : Ctx} {m : ActionSet} {s : State} {zx0 zx1} {zt : State} (zh : stage2 x m s = (zx0, zx1, zt)) : zt.kept = s.kept := by
  have e := keep_stage2 x m s
  rw [zh] at e; exact e
@[simp] theorem keep_sourceLook (x : Ctx) (bd mac : Nat) (s : State) : (sourceLook x bd mac s).2.kept = s.kept := by simp [sourceLook]
theorem keep_sourceLook_eq {x : Ctx} {bd mac : Nat} {s : State} {zx0} {zt : State} (zh : sourceLook x bd mac s = (zx0, zt)) : zt.kept = s.kept := by
  have e := keep_sourceLook x bd mac s
  rw [zh] at e; exact e
@[simp] theorem keep_routeLook (x : Ctx) (h : Hdr) (vrf : Nat) (s : State) : (routeLook x h vrf s).2.2.2.kept = s.kept := by
  unfold routeLook; dsimp only
  (repeat' split) <;> (try have k0 := keep_emtLookup_eq ‹emtLookup _ _ _ _ _ = _›) <;> first | (simp_all; done) | grind
theorem keep_routeLook_eq {x : Ctx} {h : Hdr} {vrf : Nat} {s : State} {zx0 zx1 zx2} {zt : State} (zh : routeLook x h vrf s = (zx0, zx1, zx2, zt)) : zt.kept = s.kept := by
  have e := keep_routeLook x h vrf s
  rw [zh] at e; exact e
@[simp] theorem keep_stage3 (x : Ctx) (m : ActionSet) (inner : Bool) (s : State) : (stage3 x m inner s).2.kept = s.kept := by
  unfold stage3; dsimp only
  (repeat' split) <;> (try have k0 := keep_sourceLook_eq ‹sourceLook _ _ _ _ = _›) <;> (try have k1 := keep_routeLook_eq ‹routeLook _ _ _ _ = _›) <;> (try have k2 := keep_emtLookup_eq ‹emtLookup _ _ _ _ _ = _›) <;> first | (simp_all; done) | grind
theorem keep_stage3_eq {x : Ctx} {m : ActionSet} {inner : Bool} {s : State} {zx0} {zt : State} (zh : stage3 x m inner s = (zx0, zt)) : zt.kept = s.kept := by
  have e := keep_stage3 x m inner s
  rw [zh] at e; exact e
@[simp] theorem keep_stage4 (x : Ctx) (i : Nat) (m : ActionSet) (s : State) : (stage4 x i m s).2.kept = s.kept := by
  unfold stage4; dsimp only
  (repeat' split) <;> (try have k0 := keep_ternLookup_eq ‹ternLookup _ _ _ _ _ _ = _›) <;> first | (simp_all; done) | grind
theorem keep_stage4_eq {x : Ctx} {i : Nat} {m : ActionSet} {s : State} {zx0} {zt : State} (zh : stage4 x i m s = (zx0, zt)) : zt.kept = s.kept := by
  have e := keep_stage4 x i m s
  rw [zh] at e; exact e
@[simp] theorem keep_stage5 (x : Ctx) (m : ActionSet) (s : State) : (stage5 x m s).2.kept = s.kept := by simp [stage5]
theorem keep_stage5_eq {x : Ctx} {m : ActionSet} {s : State} {zx0} {zt : State} (zh : stage5 x m s = (zx0, zt)) : zt.kept = s.kept := by
  have e := keep_stage5 x m s
  rw [zh] at e; exact e
@[simp] theorem keep_stage6 (x : Ctx) (m : ActionSet) (s : State) : (stage6 x m s).2.kept = s.kept := by simp [stage6]
theorem keep_stage6_eq {x : Ctx} {m : ActionSet} {s : State} {zx0} {zt : State} (zh : stage6 x m s = (zx0, zt)) : zt.kept = s.kept := by
  have e := keep_stage6 x m s
  rw [zh] at e; exact e
@[simp] theorem keep_classify (x : Ctx) (builtin : Bool) (s : State) : (classify x builtin s).2.kept = s.kept := by simp [classify]
theorem keep_classify_eq {x : Ctx} {builtin : Bool} {s : State} {zx0} {zt : State} (zh : classify x builtin s = (zx0, zt)) : zt.kept = s.kept := by
  have e := keep_classify x builtin s
  rw [zh] at e; exact e
@[simp] theorem keep_learnEnd (x : Ctx) (k : Packet) (f : Fwd) (s : State) : (learnEnd x k f s).kept = s.kept := by
  unfold learnEnd; dsimp only
  (repeat' split) <;> first | rfl | simp only [keep_tabCount, keep_modQuad]
@[simp] theorem keep_endMinute (m : Nat) (s : State) : (endMinute m s).kept = s.kept := by simp [endMinute]
@[simp] theorem keep_minuteCross (before after : Nat) (s : State) : (minuteCross before after s).kept = s.kept := by simp [minuteCross]
@[simp] theorem keep_minuteStepped (before : Nat) (s : State) : (minuteStepped before s).kept = s.kept := by simp [minuteStepped]
@[simp] theorem keep_ledgerBoundary (s : State) : (ledgerBoundary s).kept = s.kept := by simp [ledgerBoundary]
@[simp] theorem keep_rollStart (s : State) : (rollStart s).kept = s.kept := by simp [rollStart]
@[simp] theorem keep_rollFlushDone (s : State) : (rollFlushDone s).kept = s.kept := by simp [rollFlushDone]
@[simp] theorem keep_scanPoison (m p : Nat) (s : State) : (scanPoison m p s).kept = s.kept := by
  unfold scanPoison; rw [keep_lossTold, keep_lasReadCount, kept_modLedger]
@[simp] theorem keep_scanWrite (m p : Nat) (r : LRec) (s : State) : (scanWrite m p r s).kept = s.kept := by
  unfold scanWrite; rw [kept_modLedger, keep_rowAdd, keep_ringAppend]
@[simp] theorem keep_scanIdle (p : Nat) (s : State) : (scanIdle p s).kept = s.kept := by
  unfold scanIdle; rw [keep_ledgerCount, kept_modLedger]
@[simp] theorem keep_scanRecord (m p : Nat) (s : State) : (scanRecord m p s).kept = s.kept := by
  unfold scanRecord
  split
  · rfl
  · (repeat' split) <;> first | rfl | apply keep_scanPoison | apply keep_scanWrite | apply keep_scanIdle
@[simp] theorem keep_rollScanDone (s : State) : (rollScanDone s).kept = s.kept := by simp [rollScanDone]
@[simp] theorem keep_tenantRecord (m t : Nat) (s : State) : (tenantRecord m t s).kept = s.kept := by simp [tenantRecord]
@[simp] theorem keep_poisonRow (m t : Nat) (s : State) : (poisonRow m t s).kept = s.kept := by simp [poisonRow]
@[simp] theorem keep_rollTenantDone (s : State) : (rollTenantDone s).kept = s.kept := by simp [rollTenantDone]
@[simp] theorem keep_writeSeal (slot : Nat) (bs : Bytes) (s : State) : (writeSeal slot bs s).kept = s.kept := by simp [writeSeal]
@[simp] theorem keep_rollSignDone (s : State) : (rollSignDone s).kept = s.kept := by
  unfold rollSignDone
  dsimp only
  split
  · split <;> simp only [kept_modLedger, keep_modMinute, keep_raiseEvent, keep_writeSeal, keep_takeFreeBytes]
  · rfl
@[simp] theorem keep_applyLedgerConfig (order : Nat) (p : Bytes) (s : State) : (applyLedgerConfig order p s).kept = s.kept := by simp [applyLedgerConfig]
@[simp] theorem keep_applyLedgerPolicy (order : Nat) (p : Bytes) (s : State) : (applyLedgerPolicy order p s).kept = s.kept := by simp [applyLedgerPolicy]
@[simp] theorem keep_applyLedgerRings (order : Nat) (p : Bytes) (s : State) : (applyLedgerRings order p s).kept = s.kept := by simp [applyLedgerRings]
@[simp] theorem keep_slotPoisoned (p slot : Nat) (s : State) : (slotPoisoned p slot s).kept = s.kept := by
  unfold slotPoisoned; dsimp only; split <;> simp
@[simp] theorem keep_sealRead (slot : Nat) (ps : List Nat) (s : State) : (sealRead slot ps s).2.kept = s.kept := by
  induction ps generalizing s with
  | nil => rfl
  | cons p r ih => unfold sealRead; dsimp only; split <;> simp [ih]
theorem keep_sealRead_eq {slot : Nat} {ps : List Nat} {s t : State} {o : Option Bytes} (h : sealRead slot ps s = (o, t)) :
    t.kept = s.kept := by
  have e := keep_sealRead slot ps s
  rw [h] at e; exact e
@[simp] theorem keep_readNewestSeal (s : State) : (readNewestSeal s).kept = s.kept := by
  have w (b : Bool) (l : List (Nat × Nat)) : (whenDo b (fun s => s.modLedger fun x => { x with slots := l }) s).kept = s.kept :=
    keep_whenDo _ _ _ rfl
  unfold readNewestSeal; dsimp only
  split
  · rfl
  · split
    · exact w ..
    · (repeat' split) <;> simp only [kept_modLedger, keep_sealRead, w]
@[simp] theorem keep_applyLedgerStart (order : Nat) (s : State) : (applyLedgerStart order s).kept = s.kept := by simp [applyLedgerStart]
@[simp] theorem keep_applyLedgerStop (order : Nat) (s : State) : (applyLedgerStop order s).kept = s.kept := by simp [applyLedgerStop]
@[simp] theorem keep_orFree (l : List (Option Nat)) (s : State) : (orFree l s).2.kept = s.kept := by
  have e (l : List (Option Nat)) : ∀ r : List Nat × State, (l.foldl (fun r o => match o with
    | some v => (r.1 ++ [v], r.2)
    | none => let f := takeFree r.2; (r.1 ++ [f.1], f.2)) r).2.kept = r.2.kept := by
    induction l with
    | nil => intro r; rfl
    | cons a l ih => intro r; rw [List.foldl_cons, ih]; cases a <;> simp
  exact e l ([], s)
theorem keep_orFree_eq {l : List (Option Nat)} {s : State} {x : List Nat} {t : State} (h : orFree l s = (x, t)) : t.kept = s.kept := by
  have e := keep_orFree l s
  rw [h] at e; exact e
@[simp] theorem keep_arriveUpTo (now octet : Nat) (s : State) : (arriveUpTo now octet s).kept = s.kept := by simp [arriveUpTo]
@[simp] theorem keep_takeSlot (sl ns : Nat) (s : State) : (takeSlot sl ns s).2.kept = s.kept := by unfold takeSlot; dsimp only; (repeat' split) <;> simp_all
theorem keep_takeSlot_eq {sl ns : Nat} {s : State} {zx0} {zt : State} (zh : takeSlot sl ns s = (zx0, zt)) : zt.kept = s.kept := by
  have e := keep_takeSlot sl ns s
  rw [zh] at e; exact e
@[simp] theorem keep_stamp (i ns : Nat) (s : State) : (stamp i ns s).kept = s.kept := by simp [stamp]
@[simp] theorem keep_makeMirror (k : Packet) (frame : Bytes) (session sl : Nat) (s : State) : (makeMirror k frame session sl s).kept = s.kept := by simp [makeMirror]
@[simp] theorem keep_makeCapture (q : Nat) (k : Packet) (s : State) : (makeCapture q k s).kept = s.kept := by simp [makeCapture]
@[simp] theorem keep_countRefusal (sl reason : Nat) (s : State) : (countRefusal sl reason s).kept = s.kept := by simp [countRefusal]
@[simp] theorem keep_numberCopies (i : Nat) (s : State) : (numberCopies i s).kept = s.kept := by simp [numberCopies]
@[simp] theorem keep_sendOff (i ns : Nat) (s : State) : (sendOff i ns s).kept = s.kept := by simp [sendOff]
@[simp] theorem keep_admitUnicast (i p ns : Nat) (s : State) : (admitUnicast i p ns s).kept = s.kept := by
  unfold admitUnicast; dsimp only
  (repeat' split) <;> (try have k0 := keep_admitPkt_eq ‹admitPkt _ _ _ _ _ = _›) <;> (try have k1 := keep_newCopy_eq ‹newCopy _ _ = _›) <;> first | (simp_all; done) | grind
@[simp] theorem keep_admitMulticast (i lost : Nat) (all : List Nat) (ns : Nat) (s : State) : (admitMulticast i lost all ns s).kept = s.kept := by
  unfold admitMulticast; dsimp only
  (repeat' split) <;> (try have k0 := keep_admitPkt_eq ‹admitPkt _ _ _ _ _ = _›) <;> (try have k1 := keep_newCopy_eq ‹newCopy _ _ = _›) <;> first | (simp_all; done) | grind
@[simp] theorem keep_admitNow (ns : Nat) (w : Waiting) (s : State) : (admitNow ns w s).kept = s.kept := by
  unfold admitNow; (repeat' split) <;> simp
@[simp] theorem keep_reachAdmission (ns : Nat) (w : Waiting) (s : State) : (reachAdmission ns w s).kept = s.kept := by simp [reachAdmission]
@[simp] theorem keep_trapPacket (k : Packet) (ns : Nat) (s : State) : (trapPacket k ns s).kept = s.kept := by simp [trapPacket]
@[simp] theorem keep_reachMulticast (i : Nat) (t : Tables) (flood : Bool) (ns : Nat) (s : State) : (reachMulticast i t flood ns s).kept = s.kept := by simp [reachMulticast]
@[simp] theorem keep_ingressEnd (x : Ctx) (d : Decided) (i ns : Nat) (s : State) : (ingressEnd x d i ns s).kept = s.kept := by unfold ingressEnd; dsimp only; (repeat' split) <;> simp_all
@[simp] theorem keep_ingressDirect (i p ns : Nat) (s : State) : (ingressDirect i p ns s).kept = s.kept := by unfold ingressDirect; dsimp only; (repeat' split) <;> simp_all
@[simp] theorem keep_ingressRun (i ns : Nat) (s : State) : (ingressRun i ns s).kept = s.kept := by
  unfold ingressRun; dsimp only
  (repeat' split) <;> (try have k0 := keep_classify_eq ‹classify _ _ _ = _›) <;> first | (simp_all; done) | grind
@[simp] theorem keep_admitWaiting (sl ns fuel : Nat) (s : State) : (admitWaiting sl ns fuel s).kept = s.kept := by
  induction fuel generalizing s with
  | zero => rfl
  | succ n ih => unfold admitWaiting; (repeat' split) <;> simp [ih]
@[simp] theorem keep_ingressSlot (sl ns : Nat) (s : State) : (ingressSlot sl ns s).kept = s.kept := by
  unfold ingressSlot; dsimp only
  split
  · rfl
  · split
    · simp
    · split <;> rename_i h <;> simp [keep_takeSlot_eq h]
@[simp] theorem keep_parseResume (i arrived ns : Nat) (s : State) : (parseResume i arrived ns s).kept = s.kept := by unfold parseResume; (repeat' split) <;> first | (simp; done) | (simp_all; done) | rfl
@[simp] theorem keep_drainWaiting (ns : Nat) (s : State) : (drainWaiting ns s).kept = s.kept := by simp [drainWaiting]
@[simp] theorem keep_egressMirror (k : Packet) (p session : Nat) (frame : Bytes) (s : State) : (egressMirror k p session frame s).kept = s.kept := by simp [egressMirror]
@[simp] theorem keep_beginSend (p q ci ns : Nat) (lantern : Bool) (s : State) : (beginSend p q ci ns lantern s).kept = s.kept := by
  unfold beginSend
  dsimp only
  (repeat' split) <;> simp only [keep_modPort, keep_modArb, keep_countAct, keep_modTmPort, keep_modCopy, keep_unqueue, keep_queueStat]
@[simp] theorem keep_sendBody (p ci ns tx : Nat) (k : Packet) (c : Copy) (body : Bytes) (s : State) : (sendBody p ci ns tx k c body s).kept = s.kept := by
  unfold sendBody
  dsimp only
  split
  · rw [keep_dropCopyEnd]; split <;> simp only [keep_portCount]
  · split
    · rw [keep_addTxts, keep_modCopy]; split <;> simp only [keep_portCount]
    · rw [keep_modCopy]; split <;> simp only [keep_portCount]
@[simp] theorem keep_startFrame (p q ci ns : Nat) (s : State) : (startFrame p q ci ns s).kept = s.kept := by unfold startFrame; dsimp only; (repeat' split) <;> simp_all
@[simp] theorem keep_refreshReady (p ns : Nat) (s : State) : (refreshReady p ns s).kept = s.kept := by simp [refreshReady]
@[simp] theorem keep_resume (p ci ns : Nat) (s : State) : (resume p ci ns s).kept = s.kept := by simp [resume]
@[simp] theorem keep_chooseAndStart (p ns : Nat) (s : State) : (chooseAndStart p ns s).kept = s.kept := by unfold chooseAndStart; (repeat' split) <;> first | (simp; done) | (simp_all; done) | rfl
@[simp] theorem keep_schedulerDecision (p ns : Nat) (s : State) : (schedulerDecision p ns s).kept = s.kept := by unfold schedulerDecision; dsimp only; (repeat' split) <;> simp_all
@[simp] theorem keep_countSent (p q : Nat) (out : Bytes) (s : State) : (countSent p q out s).kept = s.kept := by simp [countSent]
@[simp] theorem keep_countStomped (p n : Nat) (s : State) : (countStomped p n s).kept = s.kept := by simp [countStomped]
@[simp] theorem keep_transmitComplete (p ns : Nat) (s : State) : (transmitComplete p ns s).kept = s.kept := by unfold transmitComplete; (repeat' split) <;> first | (simp; done) | (simp_all; done) | rfl
@[simp] theorem keep_discardBad (s : State) : (discardBad s).kept = s.kept := by simp [discardBad]
@[simp] theorem keep_endEarly (reason now : Nat) (ci : Nat) (s : State) : (endEarly reason now ci s).kept = s.kept := by simp [endEarly]
@[simp] theorem keep_pfcReceive (port vec : Nat) (times : List Nat) (at_ : Nat) (s : State) : (pfcReceive port vec times at_ s).kept = s.kept := by unfold pfcReceive; (repeat' split) <;> first | (simp; done) | (simp_all; done) | rfl
@[simp] theorem keep_pauseReceive (port time at_ : Nat) (s : State) : (pauseReceive port time at_ s).kept = s.kept := by unfold pauseReceive; (repeat' split) <;> first | (simp; done) | (simp_all; done) | rfl
@[simp] theorem keep_pauseExpire (port p ns : Nat) (s : State) : (pauseExpire port p ns s).kept = s.kept := by simp [pauseExpire]
@[simp] theorem keep_sendFlow (port : Nat) (s : State) : (sendFlow port s).kept = s.kept := by simp [sendFlow]
@[simp] theorem keep_pfcFrameSend (port : Nat) (s : State) : (pfcFrameSend port s).kept = s.kept := by simp [pfcFrameSend]
@[simp] theorem keep_pfcResend (port : Nat) (s : State) : (pfcResend port s).kept = s.kept := by simp [pfcResend]
@[simp] theorem keep_flushQueues (p mask reason counter : Nat) (s : State) : (flushQueues p mask reason counter s).kept = s.kept := by simp [flushQueues]
@[simp] theorem keep_tellWatchdog (p prio : Nat) (tripped : Bool) (s : State) : (tellWatchdog p prio tripped s).kept = s.kept := by simp [tellWatchdog]
@[simp] theorem keep_watchdogTrip (port p : Nat) (s : State) : (watchdogTrip port p s).kept = s.kept := by simp [watchdogTrip]
@[simp] theorem keep_unTrip (port p : Nat) (s : State) : (unTrip port p s).kept = s.kept := by simp [unTrip]
@[simp] theorem keep_watchdogRestore (port p : Nat) (s : State) : (watchdogRestore port p s).kept = s.kept := by simp [watchdogRestore]
@[simp] theorem keep_portWatchdogs (port : Nat) (s : State) : (portWatchdogs port s).kept = s.kept := by simp [portWatchdogs]
@[simp] theorem keep_holdExpire (p : Nat) (s : State) : (holdExpire p s).kept = s.kept := by unfold holdExpire; dsimp only; (repeat' split) <;> simp_all
@[simp] theorem keep_downFlush (p : Nat) (s : State) : (downFlush p s).kept = s.kept := by simp [downFlush]
@[simp] theorem keep_abortSending (p : Nat) (s : State) : (abortSending p s).kept = s.kept := by simp [abortSending]
@[simp] theorem keep_portUp (p : Nat) (s : State) : (portUp p s).kept = s.kept := by simp [portUp]
@[simp] theorem keep_portDown (p : Nat) (s : State) : (portDown p s).kept = s.kept := by simp [portDown]
@[simp] theorem keep_linkChange (p : Nat) (s : State) : (linkChange p s).kept = s.kept := by unfold linkChange; (repeat' split) <;> first | (simp; done) | (simp_all; done) | rfl
@[simp] theorem keep_linkChanges (s : State) : (linkChanges s).kept = s.kept := by simp [linkChanges]
@[simp] theorem keep_halfRangeFold (p i : Nat) (s : State) : (halfRangeFold p i s).kept = s.kept := by simp [halfRangeFold]
@[simp] theorem keep_controlFrame (port : Nat) (frame : Bytes) (at_ : Nat) (s : State) : (controlFrame port frame at_ s).kept = s.kept := by simp [controlFrame]
@[simp] theorem keep_queueFrame (port max : Nat) (frame : Bytes) (arrived : Nat) (ok : Bool) (ns : Nat) (s : State) : (queueFrame port max frame arrived ok ns s).kept = s.kept := by simp [queueFrame]
@[simp] theorem keep_codeword (port : Nat) (s : State) : (codeword port s).kept = s.kept := by simp [codeword]
@[simp] theorem keep_frameReceive (port : Nat) (frame : Bytes) (arrived : Nat) (codeErr : Bool) (mm : MmKind) (ns : Nat) (s : State) : (frameReceive port frame arrived codeErr mm ns s).kept = s.kept := by unfold frameReceive; (repeat' split) <;> first | (simp; done) | (simp_all; done) | rfl
@[simp] theorem keep_controlOctets (port at_ : Nat) (s : State) : (controlOctets port at_ s).kept = s.kept := by simp [controlOctets]
@[simp] theorem keep_watchdogsBoundary (todo : List Pend) (s : State) : (watchdogsBoundary todo s).kept = s.kept := by simp [watchdogsBoundary]
@[simp] theorem keep_setupLane (mode fec method l : Nat) (s : State) : (setupLane mode fec method l s).kept = s.kept := by simp [setupLane]
@[simp] theorem keep_createPort (p w mode fec method : Nat) (s : State) : (createPort p w mode fec method s).kept = s.kept := by simp [createPort]
@[simp] theorem keep_applyPortCreate (order : Nat) (p : Bytes) (s : State) : (applyPortCreate order p s).kept = s.kept := by simp [applyPortCreate]
@[simp] theorem keep_deletePort (p : Nat) (s : State) : (deletePort p s).kept = s.kept := by simp [deletePort]
@[simp] theorem keep_applyPortDelete (order : Nat) (p : Bytes) (s : State) : (applyPortDelete order p s).kept = s.kept := by simp [applyPortDelete]
@[simp] theorem keep_applyPortAdmin (order : Nat) (p : Bytes) (s : State) : (applyPortAdmin order p s).kept = s.kept := by simp [applyPortAdmin]
@[simp] theorem keep_settleFlow (p : Nat) (s : State) : (settleFlow p s).kept = s.kept := by simp [settleFlow]
@[simp] theorem keep_applyPortConfig (order : Nat) (p : Bytes) (s : State) : (applyPortConfig order p s).kept = s.kept := by simp [applyPortConfig]
@[simp] theorem keep_applyPortPfcConfig (order : Nat) (p : Bytes) (s : State) : (applyPortPfcConfig order p s).kept = s.kept := by simp [applyPortPfcConfig]
@[simp] theorem keep_applyPortPreemptConfig (order : Nat) (p : Bytes) (s : State) : (applyPortPreemptConfig order p s).kept = s.kept := by simp [applyPortPreemptConfig]
@[simp] theorem keep_applyPortFlush (order : Nat) (p : Bytes) (s : State) : (applyPortFlush order p s).kept = s.kept := by simp [applyPortFlush]
@[simp] theorem keep_applyPortStats (order : Nat) (p : Bytes) (s : State) : (applyPortStats order p s).kept = s.kept := by simp [applyPortStats]

end Sys2Proof.Machine
end

