-- ==== Sys2Proof/Laws/KeepHost.lean ====
section
/-! SUPPORT. That each operation leaves `State.kept`: slices, table DMA, the host interface, trust and firmware. -/

namespace Sys2Proof.Machine

set_option linter.unusedVariables false

@[simp] theorem keep_modSlice (i : Nat) (f : Slice → Slice) (s : State) : (modSlice i f s).kept = s.kept := by simp [modSlice]
@[simp] theorem keep_setSlice (i st cause : Nat) (s : State) : (setSlice i st cause s).kept = s.kept := by simp [setSlice]
@[simp] theorem keep_putSlice (i st cause : Nat) (s : State) : (putSlice i st cause s).kept = s.kept := by simp [putSlice]
@[simp] theorem keep_sliceFault (sl : Nat) (on : Bool) (s : State) : (sliceFault sl on s).kept = s.kept := by simp [sliceFault]
@[simp] theorem keep_loseSlice (sl : Nat) (s : State) : (loseSlice sl s).kept = s.kept := by simp [loseSlice]
@[simp] theorem keep_sliceDown (sl cause : Nat) (s : State) : (sliceDown sl cause s).kept = s.kept := by simp [sliceDown]
@[simp] theorem keep_startMove (sl cause : Nat) (s : State) : (startMove sl cause s).kept = s.kept := by simp [startMove]
@[simp] theorem keep_isolateSlice (sl : Nat) (s : State) : (isolateSlice sl s).kept = s.kept := by simp [isolateSlice]
@[simp] theorem keep_emberLeaves (t : Nat) (s : State) : (emberLeaves t s).kept = s.kept := by simp [emberLeaves]
@[simp] theorem keep_isolateEmber (s : State) : (isolateEmber s).kept = s.kept := by simp [isolateEmber]
@[simp] theorem keep_isolateAll (l : List Nat) (s : State) : (isolateAll l s).kept = s.kept := by simp [isolateAll]
@[simp] theorem keep_noteSliceFault (src : Nat) (s : State) : (noteSliceFault src s).kept = s.kept := by simp [noteSliceFault]
@[simp] theorem keep_emberLoaded (s : State) : (emberLoaded s).kept = s.kept := by simp [emberLoaded]
@[simp] theorem keep_switchToEmber (t : Nat) (s : State) : (switchToEmber t s).kept = s.kept := by simp [switchToEmber]
@[simp] theorem keep_switchHome (t : Nat) (s : State) : (switchHome t s).kept = s.kept := by simp [switchHome]
@[simp] theorem keep_emberSwitch (s : State) : (emberSwitch s).kept = s.kept := by simp [emberSwitch]
@[simp] theorem keep_goHome (t : Nat) (s : State) : (goHome t s).kept = s.kept := by simp [goHome]
@[simp] theorem keep_slicesBoundary (s : State) : (slicesBoundary s).kept = s.kept := by simp [slicesBoundary]
@[simp] theorem keep_selfCheckDone (i code : Nat) (s : State) : (selfCheckDone i code s).kept = s.kept := by simp [selfCheckDone]
@[simp] theorem keep_applySliceRelease (order : Nat) (p : Bytes) (s : State) : (applySliceRelease order p s).kept = s.kept := by simp [applySliceRelease]
@[simp] theorem keep_modTdcOf (c : Nat) (f : Tdc → Tdc) (s : State) : (modTdcOf c f s).kept = s.kept := by simp [modTdcOf]
@[simp] theorem keep_tdcIrq (c : Nat) (s : State) : (tdcIrq c s).kept = s.kept := by simp [tdcIrq]
@[simp] theorem keep_tdcStop (c code fail : Nat) (s : State) : (tdcStop c code fail s).kept = s.kept := by simp [tdcStop]
@[simp] theorem keep_tdcFinish (c : Nat) (s : State) : (tdcFinish c s).kept = s.kept := by simp [tdcFinish]
@[simp] theorem keep_tdcStart (c : Nat) (h : HostAnswer) (s : State) : (tdcStart c h s).kept = s.kept := by unfold tdcStart; (repeat' split) <;> first | (simp; done) | (simp_all; done) | rfl
@[simp] theorem keep_tdcCtrlWrite (c v : Nat) (h : HostAnswer) (s : State) : (tdcCtrlWrite c v h s).kept = s.kept := by simp [tdcCtrlWrite]
@[simp] theorem keep_tdcAbort (c : Nat) (s : State) : (tdcAbort c s).kept = s.kept := by simp [tdcAbort]
@[simp] theorem keep_tdcLockClear (c : Nat) (s : State) : (tdcLockClear c s).kept = s.kept := by simp [tdcLockClear]
@[simp] theorem keep_tdcHostError (c : Nat) (s : State) : (tdcHostError c s).kept = s.kept := by simp [tdcHostError]
theorem keep_emtPoke_eq {mask : Nat} {r : Bytes} {s t : State} {o : List (Nat × Nat)} (h : emtPoke mask r s = .done t o) : t.kept = s.kept := by
  unfold emtPoke at h
  dsimp only at h
  (repeat' split at h) <;> first | (cases h; done) | (cases h; simp; done) | (cases h; refine keep_eachDo _ _ _ ?_; intro q x; (repeat' split) <;> simp)
theorem keep_tdcRecord_eq {x : Tdc} {r : Bytes} {s t : State} {o : List (Nat × Nat)} (h : tdcRecord x r s = .done t o) : t.kept = s.kept := by
  unfold tdcRecord at h
  (repeat' split at h) <;> first | exact keep_tableDelete_eq h | exact keep_emtPoke_eq h | exact keep_tableWrite_eq h | (cases h; done) | (cases h; simp; done) | (cases h; refine keep_eachDo _ _ _ ?_; intro q x; (repeat' split) <;> simp)
theorem keep_tdcRecords {x : Tdc} {l : List Bytes} : ∀ {n : Nat} {s t : State} {k : Nat} {c : Option Nat}, tdcRecords x l n s = (t, k, c) → t.kept = s.kept := by
  induction l with
  | nil => intro n s t k c h; simp [tdcRecords] at h; rw [← h.1]
  | cons r l ih =>
    intro n s t k c h
    unfold tdcRecords at h
    split at h
    · rename_i u o hu
      rw [ih h, keep_tdcRecord_eq hu]
    · injection h with h1 h2; subst h1; rfl
@[simp] theorem keep_tdcRecords_fst (x : Tdc) (l : List Bytes) (n : Nat) (s : State) : (tdcRecords x l n s).1.kept = s.kept :=
  keep_tdcRecords (k := (tdcRecords x l n s).2.1) (c := (tdcRecords x l n s).2.2) rfl
@[simp] theorem keep_flushRange (q first n : Nat) (s : State) : (flushRange q first n s).kept = s.kept := by simp [flushRange]
@[simp] theorem keep_tdcStamp (c : Nat) (s : State) : (tdcStamp c s).kept = s.kept := by simp [tdcStamp]
@[simp] theorem keep_tdcAtomic (c : Nat) (s : State) : (tdcAtomic c s).kept = s.kept := by
  unfold tdcAtomic; dsimp only
  split
  · exact keep_tdcStop ..
  · split
    · exact keep_modTdcOf ..
    · split
      · rw [keep_tdcFinish, keep_tdcStamp, keep_modTdcOf]
        exact keep_eachDo _ _ _ (fun q s => keep_flushRange ..)
      · split <;> rename_i h
        · rw [keep_tdcFinish, keep_tdcStamp, keep_modTdcOf, keep_tdcRecords h]
        · exact keep_tdcStop ..
@[simp] theorem keep_tdcMove (pre : Tables) (c : Nat) (s : State) : (tdcMove pre c s).kept = s.kept := by
  have ha (n : Nat) (x : State) : (if (x.tdcOf c).moved = n then tdcFinish c x else x).kept = x.kept := by
    split
    · exact keep_tdcFinish ..
    · rfl
  have hi (n : Nat) (x : State) : (if n = 0 then x else tdcStamp c x).kept = x.kept := by
    split
    · rfl
    · exact keep_tdcStamp ..
  unfold tdcMove; dsimp only
  split
  · rw [ha, keep_modTdcOf]
    exact keep_eachDo _ _ _ (fun i s => keep_hostWrite ..)
  · split
    · exact keep_tdcAtomic ..
    · split
      · rw [ha, keep_tdcStamp, keep_modTdcOf]
        exact keep_eachDo _ _ _ (fun q s => keep_flushRange ..)
      · split
        · rw [keep_tdcStop, keep_modTdcOf, hi, keep_tdcRecords_fst]
        · rw [ha, keep_modTdcOf, hi, keep_tdcRecords_fst]
@[simp] theorem keep_tdcStep (pre : Tables) (c : Nat) (s : State) : (tdcStep pre c s).kept = s.kept := by simp [tdcStep]
@[simp] theorem keep_tdcLocks (s : State) : (tdcLocks s).kept = s.kept := by simp [tdcLocks]
@[simp] theorem keep_tdcLockTimeout (c : Nat) (s : State) : (tdcLockTimeout c s).kept = s.kept := by simp [tdcLockTimeout]
@[simp] theorem keep_tdcStopAll (s : State) : (tdcStopAll s).kept = s.kept := by simp [tdcStopAll]
@[simp] theorem keep_tdcRunning (pre : Tables) (c : Nat) (s : State) : (tdcRunning pre c s).kept = s.kept := by simp [tdcRunning]
@[simp] theorem keep_tdcStarted (pre : Tables) (c : Nat) (s : State) : (tdcStarted pre c s).kept = s.kept := by simp [tdcStarted]
@[simp] theorem keep_modRing (r : Nat) (f : Ring → Ring) (s : State) : (modRing r f s).kept = s.kept := by simp [modRing]
@[simp] theorem keep_ringIrq (r : Nat) (s : State) : (ringIrq r s).kept = s.kept := by simp [ringIrq]
@[simp] theorem keep_ringCount (r i n : Nat) (s : State) : (ringCount r i n s).kept = s.kept := by simp [ringCount]
@[simp] theorem keep_stopRing (r code err : Nat) (s : State) : (stopRing r code err s).kept = s.kept := by simp [stopRing]
@[simp] theorem keep_freezeRing (r : Nat) (s : State) : (freezeRing r s).kept = s.kept := by simp [freezeRing]
@[simp] theorem keep_hrqTailWrite (r value : Nat) (s : State) : (hrqTailWrite r value s).kept = s.kept := by simp [hrqTailWrite]
@[simp] theorem keep_resetRing (r : Nat) (s : State) : (resetRing r s).kept = s.kept := by simp [resetRing]
@[simp] theorem keep_ringCtrlWrite (r v : Nat) (s : State) : (ringCtrlWrite r v s).kept = s.kept := by simp [ringCtrlWrite]
@[simp] theorem keep_hrqInterval (r : Nat) (s : State) : (hrqInterval r s).kept = s.kept := by simp [hrqInterval]
@[simp] theorem keep_ringComplete (r : Nat) (s : State) : (ringComplete r s).kept = s.kept := by simp [ringComplete]
@[simp] theorem keep_countHit (i : Nat) (s : State) : (countHit i s).kept = s.kept := by simp [countHit]
@[simp] theorem keep_macPop (n : Nat) (s : State) : (macPop n s).kept = s.kept := by simp [macPop]
@[simp] theorem keep_rxWrite (r : Nat) (descs frame : Bytes) (k : Packet) (byPattern : Bool) (filter : Nat) (s : State) : (rxWrite r descs frame k byPattern filter s).kept = s.kept := by simp [rxWrite]
@[simp] theorem keep_rxDeliver (r : Nat) (descs : HostAnswer) (byPattern : Bool) (filter ci ns : Nat) (s : State) : (rxDeliver r descs byPattern filter ci ns s).kept = s.kept := by unfold rxDeliver; (repeat' split) <;> first | (simp; done) | (simp_all; done) | rfl
@[simp] theorem keep_rxFrameDeliver (ns : Nat) (descs : HostAnswer) (s : State) : (rxFrameDeliver ns descs s).kept = s.kept := by unfold rxFrameDeliver; dsimp only; (repeat' split) <;> simp_all
@[simp] theorem keep_txStop (r code i : Nat) (s : State) : (txStop r code i s).kept = s.kept := by simp [txStop]
@[simp] theorem keep_txFail (r code : Nat) (s : State) : (txFail r code s).kept = s.kept := by simp [txFail]
@[simp] theorem keep_txHand (r n len : Nat) (ds data : Bytes) (s : State) : (txHand r n len ds data s).kept = s.kept := by simp [txHand]
@[simp] theorem keep_txLook (data : HostAnswer) (l : List (Nat × HostAnswer)) : ∀ s : State, (txLook data l s).kept = s.kept := by
  induction l with
  | nil => intro s; rfl
  | cons x l ih =>
    intro s
    obtain ⟨r, a⟩ := x
    unfold txLook
    (repeat' split) <;> simp [ih]
@[simp] theorem keep_txFrameFetch (descs : List HostAnswer) (data : HostAnswer) (s : State) : (txFrameFetch descs data s).kept = s.kept := by simp [txFrameFetch]
@[simp] theorem keep_hostReadFail (r : Nat) (timeout : Bool) (s : State) : (hostReadFail r timeout s).kept = s.kept := by simp [hostReadFail]
@[simp] theorem keep_filterHold (pat : Bool) (i byte value : Nat) (s : State) : (filterHold pat i byte value s).kept = s.kept := by simp [filterHold]
@[simp] theorem keep_filterWrite (offset value : Nat) (s : State) : (filterWrite offset value s).kept = s.kept := by unfold filterWrite; (repeat' split) <;> first | (simp; done) | (simp_all; done) | rfl
@[simp] theorem keep_filterCommits (s : State) : (filterCommits s).kept = s.kept := by simp [filterCommits]
@[simp] theorem keep_ringBoundary (s : State) : (ringBoundary s).kept = s.kept := by simp [ringBoundary]
@[simp] theorem keep_statFold (ring counter value : Nat) (s : State) : (statFold ring counter value s).kept = s.kept := by simp [statFold]
@[simp] theorem keep_clearPending (pf v : Nat) (s : State) : (clearPending pf v s).kept = s.kept := by simp [clearPending]
@[simp] theorem keep_msixMessage (pf v : Nat) (s : State) : (msixMessage pf v s).kept = s.kept := by simp [msixMessage]
@[simp] theorem keep_irqTestWrite (hi value : Nat) (s : State) : (irqTestWrite hi value s).kept = s.kept := by simp [irqTestWrite]
@[simp] theorem keep_setBme (pf : Nat) (b : Bool) (s : State) : (setBme pf b s).kept = s.kept := by simp [setBme]
@[simp] theorem keep_freezeRings (s : State) : (freezeRings s).kept = s.kept := by simp [freezeRings]
@[simp] theorem keep_busOff1 (s : State) : (busOff1 s).kept = s.kept := by simp [busOff1]
@[simp] theorem keep_busOff0 (s : State) : (busOff0 s).kept = s.kept := by simp [busOff0]
@[simp] theorem keep_bmeClear1 (s : State) : (bmeClear1 s).kept = s.kept := by simp [bmeClear1]
@[simp] theorem keep_bmeClear0 (s : State) : (bmeClear0 s).kept = s.kept := by simp [bmeClear0]
@[simp] theorem keep_functionOff (pf : Nat) (s : State) : (functionOff pf s).kept = s.kept := by simp [functionOff]
@[simp] theorem keep_flr1 (s : State) : (flr1 s).kept = s.kept := by simp [flr1]
@[simp] theorem keep_flrFirmware (s : State) : (flrFirmware s).kept = s.kept := by simp [flrFirmware]
@[simp] theorem keep_flrEngines (s : State) : (flrEngines s).kept = s.kept := by
  unfold flrEngines
  rw [kept_modXdc, kept_modTdc, keep_lanternStopHost, keep_xdcStopHost, keep_tdcStopAll]
@[simp] theorem keep_flrRegisters (s : State) : (flrRegisters s).kept = s.kept := by
  unfold flrRegisters
  rw [kept_modFreshSet, kept_modGlb _ _ rfl, kept_modHost, keep_functionOff]
@[simp] theorem keep_applyTrustAttest (order : Nat) (p : Bytes) (s : State) : (applyTrustAttest order p s).kept = s.kept := by simp [applyTrustAttest]
@[simp] theorem keep_returnExpire (s : State) : (returnExpire s).kept = s.kept := by unfold returnExpire; (repeat' split) <;> first | (simp; done) | (simp_all; done) | rfl
@[simp] theorem keep_openSessionOf (kind : Nat) (s : State) : (openSessionOf kind s).kept = s.kept := by simp [openSessionOf]
@[simp] theorem keep_writeDesc (slot : Nat) (s : State) : (writeDesc slot s).kept = s.kept := by simp [writeDesc]
@[simp] theorem keep_flashWriteDone (ok : Bool) (offset : Nat) (s : State) : (flashWriteDone ok offset s).kept = s.kept := by simp [flashWriteDone]
@[simp] theorem keep_raiseFloor (s : State) : (raiseFloor s).kept = s.kept := by simp [raiseFloor]
@[simp] theorem keep_startHandover (order : Nat) (raise_ : Bool) (s : State) : (startHandover order raise_ s).kept = s.kept := by simp [startHandover]
@[simp] theorem keep_activateWaiting (s : State) : (activateWaiting s).kept = s.kept := by unfold activateWaiting; (repeat' split) <;> first | (simp; done) | (simp_all; done) | rfl
@[simp] theorem keep_handoverDone (us : Nat) (s : State) : (handoverDone us s).kept = s.kept := by simp [handoverDone]
@[simp] theorem keep_handoverBack (kind : Nat) (s : State) : (handoverBack kind s).kept = s.kept := by simp [handoverBack]
@[simp] theorem keep_handoverStep (ok : Bool) (us : Nat) (s : State) : (handoverStep ok us s).kept = s.kept := by simp [handoverStep]
@[simp] theorem keep_otherSlotCheck (s : State) : (otherSlotCheck s).kept = s.kept := by simp [otherSlotCheck]

end Sys2Proof.Machine
end

