-- ==== Sys2Proof/Laws/KeepCare.lean ====
section
/-! SUPPORT. That each operation leaves `State.kept`: faults, the Dimmer, counters, start-up and register writes. -/

namespace Sys2Proof.Machine

set_option linter.unusedVariables false

@[simp] theorem keep_modSrc (i : Nat) (f : Src → Src) (s : State) : (modSrc i f s).kept = s.kept := by simp [modSrc]
@[simp] theorem keep_putLatch (i : Nat) (real : Bool) (l : Latch) (s : State) : (putLatch i real l s).kept = s.kept := by simp [putLatch]
@[simp] theorem keep_logFault (src cls eff kind flags inst : Nat) (detail : Bytes) (s : State) : (logFault src cls eff kind flags inst detail s).kept = s.kept := by simp [logFault]
@[simp] theorem keep_queueAct (i inst : Nat) (act real : Bool) (s : State) : (queueAct i inst act real s).kept = s.kept := by simp [queueAct]
@[simp] theorem keep_latchEvent (i inst cls : Nat) (real : Bool) (detail : Bytes) (s : State) : (latchEvent i inst cls real detail s).kept = s.kept := by simp [latchEvent]
@[simp] theorem keep_unwait (i : Nat) (real esc action : Bool) (s : State) : (unwait i real esc action s).kept = s.kept := by simp [unwait]
@[simp] theorem keep_releaseSafe (i : Nat) (s : State) : (releaseSafe i s).kept = s.kept := by simp [releaseSafe]
@[simp] theorem keep_dropLatch (i : Nat) (real : Bool) (s : State) : (dropLatch i real s).kept = s.kept := by simp [dropLatch]
@[simp] theorem keep_ackLatch (i : Nat) (real auto : Bool) (s : State) : (ackLatch i real auto s).kept = s.kept := by simp [ackLatch]
@[simp] theorem keep_clearLatch (i : Nat) (real : Bool) (s : State) : (clearLatch i real s).kept = s.kept := by simp [clearLatch]
@[simp] theorem keep_setForce (i : Nat) (on : Bool) (cls inst : Nat) (s : State) : (setForce i on cls inst s).kept = s.kept := by simp [setForce]
@[simp] theorem keep_setSrcCfg (i v : Nat) (s : State) : (setSrcCfg i v s).kept = s.kept := by simp [setSrcCfg]
@[simp] theorem keep_faultStep1 (w : Pend) (s : State) : (faultStep1 w s).kept = s.kept := by simp [faultStep1]
@[simp] theorem keep_faultStep2 (w : Pend) (s : State) : (faultStep2 w s).kept = s.kept := by simp [faultStep2]
@[simp] theorem keep_faultStep3 (s : State) : (faultStep3 s).kept = s.kept := by simp [faultStep3]
@[simp] theorem keep_graceEnd (t : GraceTimer) (s : State) : (graceEnd t s).kept = s.kept := by simp [graceEnd]
@[simp] theorem keep_graceEnds (which : Nat → Bool) (s : State) : (graceEnds which s).kept = s.kept := by simp [graceEnds]
@[simp] theorem keep_faultStep4 (s : State) : (faultStep4 s).kept = s.kept := by simp [faultStep4]
@[simp] theorem keep_snuffLane (i l : Nat) (s : State) : (snuffLane i l s).kept = s.kept := by simp [snuffLane]
@[simp] theorem keep_snuffPort (i p : Nat) (s : State) : (snuffPort i p s).kept = s.kept := by simp [snuffPort]
@[simp] theorem keep_haltIttas (i : Nat) (s : State) : (haltIttas i s).kept = s.kept := by simp [haltIttas]
@[simp] theorem keep_enterSafe (i inst : Nat) (s : State) : (enterSafe i inst s).kept = s.kept := by
  unfold enterSafe
  dsimp only
  split
  · exact keep_eachDo _ _ _ (fun x s => keep_snuffLane ..)
  · split
    · exact keep_snuffPort ..
    · split
      · exact keep_eachDo _ _ _ (fun x s => keep_snuffPort ..)
      · split
        · rw [keep_memLoss, keep_memLosing]
        · split
          · exact keep_haltIttas ..
          · split
            · split
              · exact keep_busOff1 ..
              · exact keep_busOff0 ..
            · split
              · rw [kept_modTime]
                exact keep_eachDo _ _ _ (fun x s => keep_snuffLane ..)
              · rfl
@[simp] theorem keep_tripStop (i : Nat) (real : Bool) (s : State) : (tripStop i real s).kept = s.kept := by
  unfold tripStop; split <;> rfl

@[simp] theorem keep_snuff (a : Nat × Nat × Bool) (s : State) : (snuff a s).kept = s.kept := by simp [snuff]
@[simp] theorem keep_faultStep5 (s : State) : (faultStep5 s).kept = s.kept := by simp [faultStep5]
@[simp] theorem keep_faultStep6 (s : State) : (faultStep6 s).kept = s.kept := by simp [faultStep6]
@[simp] theorem keep_faultReport (x : FreshLatch) (s : State) : (faultReport x s).kept = s.kept := by simp [faultReport]
@[simp] theorem keep_faultStep7 (s : State) : (faultStep7 s).kept = s.kept := by simp [faultStep7]
@[simp] theorem keep_wdogExpire (s : State) : (wdogExpire s).kept = s.kept := by simp [wdogExpire]
@[simp] theorem keep_phase9 (s : State) : (phase9 s).kept = s.kept := by simp [phase9]
@[simp] theorem keep_wickStop (s : State) : (wickStop s).kept = s.kept := by simp [wickStop]
@[simp] theorem keep_wickToggle (s : State) : (wickToggle s).kept = s.kept := by simp [wickToggle]
@[simp] theorem keep_wickBoundary (s : State) : (wickBoundary s).kept = s.kept := by simp [wickBoundary]
@[simp] theorem keep_pllUnlock (pll : Nat) (s : State) : (pllUnlock pll s).kept = s.kept := by simp [pllUnlock]
@[simp] theorem keep_badCell (reason : Nat) (ci : Nat) (j : Nat) (s : State) : (badCell reason ci j s).kept = s.kept := by simp [badCell]
@[simp] theorem keep_eccUncorr (i j : Nat) (s : State) : (eccUncorr i j s).kept = s.kept := by simp [eccUncorr]
@[simp] theorem keep_faultCauseEnd (src inst : Nat) (s : State) : (faultCauseEnd src inst s).kept = s.kept := by simp [faultCauseEnd]
@[simp] theorem keep_fltWrite (offset value : Nat) (s : State) : (fltWrite offset value s).kept = s.kept := by simp [fltWrite]
@[simp] theorem keep_pwrIrq (b : Nat) (s : State) : (pwrIrq b s).kept = s.kept := by simp [pwrIrq]
@[simp] theorem keep_modReg (i : Nat) (f : Reg → Reg) (s : State) : (modReg i f s).kept = s.kept := by simp [modReg]
@[simp] theorem keep_tellRegulator (i : Nat) (before : Bool × Bool) (s : State) : (tellRegulator i before s).kept = s.kept := by simp [tellRegulator]
@[simp] theorem keep_regRead (i : Nat) (cmd : PmbusCmd) (value : Nat) (s : State) : (regRead i cmd value s).kept = s.kept := by unfold regRead; (repeat' split) <;> first | (simp; done) | (simp_all; done) | rfl
@[simp] theorem keep_pmbusDone (i : Nat) (cmd : PmbusCmd) (ok : Bool) (value : Nat) (s : State) : (pmbusDone i cmd ok value s).kept = s.kept := by simp [pmbusDone]
@[simp] theorem keep_mismatchBegin (s : State) : (mismatchBegin s).kept = s.kept := by simp [mismatchBegin]
@[simp] theorem keep_mismatchContained (s : State) : (mismatchContained s).kept = s.kept := by simp [mismatchContained]
@[simp] theorem keep_mismatchTest (s : State) : (mismatchTest s).kept = s.kept := by simp [mismatchTest]
@[simp] theorem keep_pollEnd (s : State) : (pollEnd s).kept = s.kept := by simp [pollEnd]
@[simp] theorem keep_modSensor (i : Nat) (f : Sensor → Sensor) (s : State) : (modSensor i f s).kept = s.kept := by simp [modSensor]
@[simp] theorem keep_thermalCross (s : State) : (thermalCross s).kept = s.kept := by simp [thermalCross]
@[simp] theorem keep_excludeSensor (i : Nat) (out : Bool) (s : State) : (excludeSensor i out s).kept = s.kept := by simp [excludeSensor]
@[simp] theorem keep_sensorConverts (i : Nat) (reading : Int) (s : State) : (sensorConverts i reading s).kept = s.kept := by simp [sensorConverts]
@[simp] theorem keep_sensorStale (i : Nat) (s : State) : (sensorStale i s).kept = s.kept := by simp [sensorStale]
@[simp] theorem keep_droopEpisode (cycles ns : Nat) (s : State) : (droopEpisode cycles ns s).kept = s.kept := by unfold droopEpisode; (repeat' split) <;> first | (simp; done) | (simp_all; done) | rfl
@[simp] theorem keep_coolantLow (s : State) : (coolantLow s).kept = s.kept := by simp [coolantLow]
@[simp] theorem keep_coolantStop (s : State) : (coolantStop s).kept = s.kept := by simp [coolantStop]
@[simp] theorem keep_coolantRestore (s : State) : (coolantRestore s).kept = s.kept := by simp [coolantRestore]
@[simp] theorem keep_flowSample (ok : Bool) (s : State) : (flowSample ok s).kept = s.kept := by simp [flowSample]
@[simp] theorem keep_reasonsBoundary (s : State) : (reasonsBoundary s).kept = s.kept := by simp [reasonsBoundary]
@[simp] theorem keep_applyPowerCap (order : Nat) (p : Bytes) (s : State) : (applyPowerCap order p s).kept = s.kept := by simp [applyPowerCap]
@[simp] theorem keep_setRegulator (i a : Nat) (s : State) : (setRegulator i a s).kept = s.kept := by simp [setRegulator]
@[simp] theorem keep_applyPowerConfig (order : Nat) (p : Bytes) (s : State) : (applyPowerConfig order p s).kept = s.kept := by simp [applyPowerConfig]
@[simp] theorem keep_applyPowerReasons (order : Nat) (p : Bytes) (s : State) : (applyPowerReasons order p s).kept = s.kept := by simp [applyPowerReasons]
@[simp] theorem keep_applyPwrWrite (o v : Nat) (s : State) : (applyPwrWrite o v s).kept = s.kept := by simp [applyPwrWrite]
@[simp] theorem keep_pwrWrite (o v : Nat) (s : State) : (pwrWrite o v s).kept = s.kept := by simp [pwrWrite]
@[simp] theorem keep_healthOut (bs : Bytes) (s : State) : (healthOut bs s).kept = s.kept := by simp [healthOut]
@[simp] theorem keep_slotThreeEnd (s : State) : (slotThreeEnd s).kept = s.kept := by
  unfold slotThreeEnd; (repeat' split) <;> simp
@[simp] theorem keep_takeTurn (cmd : PmbusCmd) (s : State) : (takeTurn cmd s).kept = s.kept := by
  unfold takeTurn; split <;> simp
@[simp] theorem keep_pollBoundary (s : State) : (pollBoundary s).kept = s.kept := by simp [pollBoundary]
@[simp] theorem keep_gateBoundary (s : State) : (gateBoundary s).kept = s.kept := by simp [gateBoundary]
@[simp] theorem keep_estimateBeat (s : State) : (estimateBeat s).kept = s.kept := by simp [estimateBeat]
@[simp] theorem keep_healthSnap (s : State) : (healthSnap s).kept = s.kept := by simp [healthSnap]
@[simp] theorem keep_modUnit (u : Nat) (f : PmcUnit → PmcUnit) (s : State) : (modUnit u f s).kept = s.kept := by simp [modUnit]
@[simp] theorem keep_putUnit (u : Nat) (x : PmcUnit) (s : State) : (putUnit u x s).kept = s.kept := by simp [putUnit]
@[simp] theorem keep_pmcUnitBeat (events : List PmcSample) (u : Nat) (s : State) : (pmcUnitBeat events u s).kept = s.kept := by simp [pmcUnitBeat]
@[simp] theorem keep_pmcBeat (events : List PmcSample) (s : State) : (pmcBeat events s).kept = s.kept := by simp [pmcBeat]
@[simp] theorem keep_pmcWrap (u n : Nat) (s : State) : (pmcWrap u n s).kept = s.kept := by simp [pmcWrap]
@[simp] theorem keep_gctrlWrite (v : Nat) (s : State) : (gctrlWrite v s).kept = s.kept := by simp [gctrlWrite]
@[simp] theorem keep_pmcSnapshot (s : State) : (pmcSnapshot s).kept = s.kept := by simp [pmcSnapshot]
@[simp] theorem keep_pmcActions (s : State) : (pmcActions s).kept = s.kept := by simp [pmcActions]
@[simp] theorem keep_pmcWrite (offset value : Nat) (s : State) : (pmcWrite offset value s).kept = s.kept := by simp [pmcWrite]
@[simp] theorem keep_applyPmcDump (order : Nat) (p : Bytes) (s : State) : (applyPmcDump order p s).kept = s.kept := by simp [applyPmcDump]
@[simp] theorem keep_pwrgoodRise (straps : Nat) (s : State) : (pwrgoodRise straps s).kept = s.kept := by simp [pwrgoodRise]
@[simp] theorem keep_bootLog (stage result slot detail : Nat) (s : State) : (bootLog stage result slot detail s).kept = s.kept := by simp [bootLog]
@[simp] theorem keep_bootSlot (slot : Nat) (s : State) : (bootSlot slot s).kept = s.kept := by simp [bootSlot]
@[simp] theorem keep_enterRecovery (s : State) : (enterRecovery s).kept = s.kept := by simp [enterRecovery]
@[simp] theorem keep_stageRom (s : State) : (stageRom s).kept = s.kept := by simp [stageRom]
@[simp] theorem keep_boardSet (b : Bytes) (l : Nat) (s : State) : (boardSet b l s).kept = s.kept := by simp [boardSet]
@[simp] theorem keep_readBoard (s : State) : (readBoard s).kept = s.kept := by simp [readBoard]
@[simp] theorem keep_stageIttas (s : State) : (stageIttas s).kept = s.kept := by simp [stageIttas]
@[simp] theorem keep_autoPort (a : AutoPort) (s : State) : (autoPort a s).kept = s.kept := by simp [autoPort]
@[simp] theorem keep_stageInit (s : State) : (stageInit s).kept = s.kept := by unfold stageInit; dsimp only; (repeat' split) <;> simp_all
@[simp] theorem keep_bootStage (ms : Nat) (s : State) : (bootStage ms s).kept = s.kept := by simp [bootStage]
@[simp] theorem keep_stopIttas (s : State) : (stopIttas s).kept = s.kept := by simp [stopIttas]
@[simp] theorem keep_bootOther (s : State) : (bootOther s).kept = s.kept := by simp [bootOther]
@[simp] theorem keep_ittasRestarted (imported : Bool) (s : State) : (ittasRestarted imported s).kept = s.kept := by simp [ittasRestarted]
@[simp] theorem keep_applyTmConfig (order : Nat) (p : Bytes) (s : State) : (applyTmConfig order p s).kept = s.kept := by simp [applyTmConfig]
@[simp] theorem keep_applyTmSched (order : Nat) (p : Bytes) (s : State) : (applyTmSched order p s).kept = s.kept := by simp [applyTmSched]
@[simp] theorem keep_applyTmShaper (order : Nat) (p : Bytes) (s : State) : (applyTmShaper order p s).kept = s.kept := by simp [applyTmShaper]
@[simp] theorem keep_applyPolicerWrite (order : Nat) (p : Bytes) (s : State) : (applyPolicerWrite order p s).kept = s.kept := by simp [applyPolicerWrite]
@[simp] theorem keep_applyPolicerRead (order : Nat) (p : Bytes) (s : State) : (applyPolicerRead order p s).kept = s.kept := by unfold applyPolicerRead; (repeat' split) <;> first | (simp; done) | (simp_all; done) | rfl
@[simp] theorem keep_applyGateOff (p : Bytes) (s : State) : (applyGateOff p s).kept = s.kept := by simp [applyGateOff]
@[simp] theorem keep_applyMaxSdu (order : Nat) (p : Bytes) (s : State) : (applyMaxSdu order p s).kept = s.kept := by simp [applyMaxSdu]
@[simp] theorem keep_applyQueueStats (order : Nat) (p : Bytes) (s : State) : (applyQueueStats order p s).kept = s.kept := by simp [applyQueueStats]
@[simp] theorem keep_applySampleRing (order : Nat) (p : Bytes) (s : State) : (applySampleRing order p s).kept = s.kept := by simp [applySampleRing]
@[simp] theorem keep_applyGateStatus (order : Nat) (p : Bytes) (s : State) : (applyGateStatus order p s).kept = s.kept := by simp [applyGateStatus]
@[simp] theorem keep_microsecond (s : State) : (microsecond s).kept = s.kept := by simp [microsecond]
@[simp] theorem keep_endArrivals (s : State) : (endArrivals s).kept = s.kept := by simp [endArrivals]
@[simp] theorem keep_beatEnds (inp : BeatInput) (s : State) : (beatEnds inp s).kept = s.kept := by simp [beatEnds]
@[simp] theorem keep_phase7 (s : State) : (phase7 s).kept = s.kept := by simp [phase7]
@[simp] theorem keep_phase8 (todo : List Pend) (s : State) : (phase8 todo s).kept = s.kept := by simp [phase8]
@[simp] theorem keep_attestEnd (todo : List Pend) (s : State) : (attestEnd todo s).kept = s.kept := by simp [attestEnd]
theorem kept_iteP (c : Prop) [Decidable c] {a b s : State} (h : a.kept = s.kept) (h' : b.kept = s.kept) :
    (if c then a else b).kept = s.kept := by split <;> assumption
@[simp] theorem keep_dropUnasked (pf : Nat) (s : State) : (dropUnasked pf s).kept = s.kept := kept_modHost _ _
@[simp] theorem keep_irqStatusWrite (hi : Bool) (v : Nat) (s : State) : (irqStatusWrite hi v s).kept = s.kept := by
  unfold irqStatusWrite
  exact (keep_dropUnasked ..).trans (kept_modHost _ _)
@[simp] theorem keep_irqEnableWrite (hi : Bool) (v : Nat) (s : State) : (irqEnableWrite hi v s).kept = s.kept := by
  unfold irqEnableWrite
  exact (keep_dropUnasked ..).trans ((keep_eachDo _ _ _ (fun _ _ => kept_modHost _ _)).trans (kept_modHost _ _))
@[simp] theorem keep_irqWrite (o v : Nat) (s : State) : (irqWrite o v s).kept = s.kept := by
  unfold irqWrite
  repeat' with_reducible apply kept_iteP
  all_goals first
    | with_reducible rfl
    | with_reducible exact keep_irqStatusWrite ..
    | with_reducible exact keep_irqEnableWrite ..
    | with_reducible exact keep_irqTestWrite ..
    | with_reducible exact kept_modHost _ _

@[simp] theorem keep_glbWrite (o v : Nat) (s : State) : (glbWrite o v s).kept = s.kept := by simp [glbWrite]
@[simp] theorem keep_mbxWrite (o v : Nat) (s : State) : (mbxWrite o v s).kept = s.kept := by
  unfold mbxWrite
  repeat' with_reducible apply kept_iteP
  all_goals first
    | with_reducible rfl
    | with_reducible exact keep_doorbell ..
    | with_reducible exact keep_statusWrite ..
    | with_reducible exact keep_modBox ..
    | with_reducible exact keep_evtTailWrite ..

@[simp] theorem keep_tdcWrite (o v : Nat) (h : HostAnswer) (s : State) : (tdcWrite o v h s).kept = s.kept := by
  unfold tdcWrite
  repeat' with_reducible apply kept_iteP
  all_goals first
    | with_reducible rfl
    | with_reducible exact keep_tdcCtrlWrite ..
    | with_reducible exact keep_modTdcOf ..

@[simp] theorem keep_xdcTimeoutWrite (c v : Nat) (s : State) : (xdcTimeoutWrite c v s).kept = s.kept := by simp [xdcTimeoutWrite]
@[simp] theorem keep_xdcWrite (o v : Nat) (s : State) : (xdcWrite o v s).kept = s.kept := by
  unfold xdcWrite
  repeat' with_reducible apply kept_iteP
  all_goals first
    | with_reducible rfl
    | with_reducible exact keep_xdcCtrlWrite ..
    | with_reducible exact keep_xdcStatusWrite ..
    | with_reducible exact keep_xdcTimeoutWrite ..
    | with_reducible exact keep_modXdcOf ..

@[simp] theorem keep_hckWrite (o v : Nat) (s : State) : (hckWrite o v s).kept = s.kept := by
  unfold hckWrite
  repeat' with_reducible apply kept_iteP
  all_goals first
    | with_reducible rfl
    | with_reducible exact keep_hckCtrlWrite ..
    | with_reducible exact kept_modTime _ _
    | with_reducible exact (keep_synceRefresh ..).trans (kept_modTime _ _)
    | exact kept_modTime _ _
    | exact (keep_requestRate ..).trans (kept_modTime _ _)

@[simp] theorem keep_pmcRegWrite (o v : Nat) (s : State) : (pmcRegWrite o v s).kept = s.kept := by
  unfold pmcRegWrite
  repeat' with_reducible apply kept_iteP
  all_goals first
    | with_reducible rfl
    | with_reducible exact kept_modPmc _ _
    | with_reducible exact keep_gctrlWrite ..
    | with_reducible exact keep_pmcWrite ..
    | with_reducible exact keep_modUnit ..

@[simp] theorem keep_msixWrite (pf o v : Nat) (s : State) : (msixWrite pf o v s).kept = s.kept := by
  unfold msixWrite
  repeat' with_reducible apply kept_iteP
  all_goals first
    | with_reducible rfl
    | with_reducible exact kept_modHost _ _

@[simp] theorem keep_pf0Write (o v : Nat) (h : HostAnswer) (s : State) : (pf0Write o v h s).kept = s.kept := by
  unfold pf0Write
  repeat' with_reducible apply kept_iteP
  all_goals first
    | with_reducible rfl
    | with_reducible exact keep_glbWrite ..
    | with_reducible exact keep_mbxWrite ..
    | with_reducible exact keep_tdcWrite ..
    | with_reducible exact keep_xdcWrite ..
    | with_reducible exact keep_irqWrite ..
    | with_reducible exact keep_fltWrite ..
    | with_reducible exact keep_hckWrite ..
    | with_reducible exact keep_pwrWrite ..
    | with_reducible exact keep_pmcRegWrite ..
    | with_reducible exact keep_msixWrite ..

@[simp] theorem keep_hrqWrite (o v : Nat) (s : State) : (hrqWrite o v s).kept = s.kept := by
  unfold hrqWrite
  repeat' with_reducible apply kept_iteP
  all_goals first
    | with_reducible rfl
    | with_reducible exact keep_modRing ..
    | with_reducible exact keep_ringCtrlWrite ..
    | with_reducible exact (keep_dropUnasked ..).trans (keep_modRing ..)
    | with_reducible exact keep_hrqTailWrite ..

@[simp] theorem keep_pf1Write (o v : Nat) (s : State) : (pf1Write o v s).kept = s.kept := by
  unfold pf1Write
  repeat' with_reducible apply kept_iteP
  all_goals first
    | with_reducible rfl
    | with_reducible exact keep_hrqWrite ..
    | with_reducible exact keep_statFold ..
    | with_reducible exact keep_msixWrite ..
    | with_reducible exact keep_filterWrite ..

@[simp] theorem keep_write4 (pf o v : Nat) (h : HostAnswer) (s : State) : (write4 pf o v h s).kept = s.kept := by
  unfold write4
  repeat' with_reducible apply kept_iteP
  all_goals first
    | with_reducible rfl
    | with_reducible exact keep_pf0Write ..
    | with_reducible exact keep_pf1Write ..

@[simp] theorem keep_registerWrite (pf o size v : Nat) (h : HostAnswer) (s : State) : (registerWrite pf o size v h s).kept = s.kept := by
  unfold registerWrite
  repeat' with_reducible apply kept_iteP
  all_goals first
    | with_reducible rfl
    | with_reducible exact keep_write4 ..
    | with_reducible exact (keep_write4 ..).trans (keep_write4 ..)
    | with_reducible exact keep_hostErrBit ..


end Sys2Proof.Machine
end

