-- ==== Sys2Proof/Laws/MildCommands.lean ====
section
/-! SUPPORT. `Mild`: a change that leaves the beat counter, the ACTIVE bank, the queue and the invariant; and that every mailbox
command, where it is accepted, changes the state so. -/

namespace Sys2Proof.Machine

set_option linter.unusedVariables false

/-- What a change of the state leaves: the beat counter, which bank is ACTIVE, the Dimmer's level and clock state, the
queue, and the invariant; and the life cycle does not go back. -/
structure Mild (s t : State) : Prop where
  beat : t.glb.beat = s.glb.beat
  active : t.rules.active = s.rules.active
  level : t.power.level = s.power.level
  clk : t.power.clk = s.power.clk
  lc : s.trust.lc ≤ t.trust.lc
  pending : t.pending = s.pending
  inv : Inv s → Inv t

@[simp] theorem Mild.refl (s : State) : Mild s s := ⟨rfl, rfl, rfl, rfl, Nat.le_refl _, rfl, id⟩

theorem Mild.trans {s t u : State} (h : Mild s t) (k : Mild t u) : Mild s u :=
  ⟨k.beat.trans h.beat, k.active.trans h.active, k.level.trans h.level, k.clk.trans h.clk, Nat.le_trans h.lc k.lc,
    k.pending.trans h.pending, fun i => k.inv (h.inv i)⟩

theorem mild_of_kept {s t : State} (h : t.kept = s.kept) : Mild s t := by
  simp only [State.kept, Rules.codes, List.cons_append, List.nil_append, Prod.mk.injEq, List.cons.injEq, and_true] at h
  obtain ⟨⟨ha, hw, h0, p0, h1, p1, hl, hv, hc, he, hb⟩, hp⟩ := h
  refine ⟨hb, ha, hv, hc, Nat.le_of_eq hl.symm, hp, fun i => ?_⟩
  unfold Inv oneActive at *
  rw [ha, h0, p0, h1, p1, hl, hv, hc, he]
  exact i

theorem kept_lc {s t : State} (h : t.kept = s.kept) : t.trust.lc = s.trust.lc := by
  simp only [State.kept, Rules.codes, List.cons_append, List.nil_append, Prod.mk.injEq, List.cons.injEq, and_true] at h
  obtain ⟨⟨-, -, -, -, -, -, hl, -⟩, -⟩ := h
  exact hl

theorem mild_ite {c : Prop} [Decidable c] {s a b : State} (h : Mild s a) (k : Mild s b) : Mild s (if c then a else b) := by
  split <;> assumption

theorem mild_eachDo {α : Type} (l : List α) (f : α → State → State) (s : State) (h : ∀ x s, Mild s (f x s)) :
    Mild s (eachDo l f s) := by
  unfold eachDo
  induction l generalizing s with
  | nil => exact Mild.refl s
  | cons a l ih => exact (h a s).trans (ih (f a s))

/-- After a change that keeps everything, a mild one. -/
theorem Mild.after {s t u : State} (h : Mild t u) (k : t.kept = s.kept) : Mild s u := (mild_of_kept k).trans h

/-- A mild change, and then one that keeps everything. -/
theorem Mild.andKept {s t u : State} (h : Mild s t) (k : u.kept = t.kept) : Mild s u := h.trans (mild_of_kept k)

/-- The bank that is not ACTIVE may take any state but ACTIVE. -/
theorem mild_modBank (s : State) (f : Bank → Bank) (h : ∀ b, b.st ≠ 3 → b.pst ≠ 3 → (f b).st ≠ 3 ∧ (f b).pst ≠ 3) :
    Mild s (modBank (otherBank s) f s) := by
  refine ⟨rfl, ?_, rfl, rfl, Nat.le_refl _, rfl, ?_⟩
  · unfold modBank State.modRules; dsimp only; split <;> rfl
  · rintro ⟨i, r⟩
    refine ⟨?_, r⟩
    unfold oneActive at *
    rcases i with ⟨a, b, c, d⟩ | ⟨a, b, c, d⟩
    · left
      have e : (modBank (otherBank s) f s).rules = { s.rules with b1 := f s.rules.b1 } := by
        unfold modBank otherBank State.modRules; rw [a]; rfl
      rw [e]; exact ⟨a, b, h _ c d⟩
    · right
      have e : (modBank (otherBank s) f s).rules = { s.rules with b0 := f s.rules.b0 } := by
        unfold modBank otherBank State.modRules; rw [a]; rfl
      rw [e]; exact ⟨a, b, h _ c d⟩

/-- A change of the rules' other fields. -/
theorem mild_modRules (s : State) (f : Rules → Rules) (h : (f s.rules).active = s.rules.active)
    (h0 : (f s.rules).b0 = s.rules.b0) (h1 : (f s.rules).b1 = s.rules.b1) : Mild s (s.modRules f) := by
  refine ⟨rfl, h, rfl, rfl, Nat.le_refl _, rfl, fun ⟨i, r⟩ => ⟨?_, r⟩⟩
  unfold oneActive at *
  rw [State.modRules, h, h0, h1]
  exact i

theorem mild_modLc (s : State) (f : Trust → Trust) (k : s.trust.lc ≤ (f s.trust).lc) (h : (f s.trust).lc ≤ 3) :
    Mild s (s.modTrust f) :=
  ⟨rfl, rfl, rfl, rfl, k, rfl, fun ⟨a, _, c⟩ => ⟨a, h, c⟩⟩

theorem mild_lcStep {target : Nat} (s : State) (k : s.trust.lc ≤ target) (h : target ≤ 3) : Mild s (lcStep target s) :=
  (mild_modLc s (fun t => { t with lc := target }) k h).andKept (keep_raiseEvent ..)

/-- A verdict that, where it accepts, changes the state mildly. -/
def VMild (s : State) : Verdict → Prop
  | .refuse _ _ => True
  | .refuseWith _ _ => True
  | .accept t _ => Mild s t

@[simp] theorem vmild_refuse (s : State) (a b : Nat) : VMild s (.refuse a b) := trivial
@[simp] theorem vmild_refuseWith (s : State) (a : Nat) (b : Bytes) : VMild s (.refuseWith a b) := trivial
@[simp] theorem vmild_checks {s : State} {v : Verdict} (h : VMild s v) : ∀ l, VMild s (checks l v)
  | [] => h
  | (b, o) :: r => by unfold checks; split; exact vmild_checks h r; trivial
@[simp] theorem vmild_require {s : State} {v : Verdict} (b : Bool) (n : Nat) (h : VMild s v) : VMild s (require b n v) := by
  unfold require; split; exact h; trivial
@[simp] theorem vmild_hostReady {s t : State} {v : Verdict} (h : VMild s v) : VMild s (hostReady t v) := by
  unfold hostReady; split; exact h; trivial
@[simp] theorem vmild_withHost {s t : State} {a : HostAnswer} {f : Bytes → Verdict} (h : ∀ bs, VMild s (f bs)) : VMild s (withHost a t f) := by
  unfold withHost; split; trivial; split; exact h _; trivial; trivial
@[simp] theorem vmild_replyNow {s t : State} (h : Mild s t) (p : Bytes) : VMild s (replyNow t p) := h
@[simp] theorem vmild_replyLater {s t : State} (h : Mild s t) : VMild s (replyLater t) := h
@[simp] theorem vmild_postCmd {s t : State} (h : Mild s t) (c : Cmd) (p d : Bytes) : VMild s (postCmd c p d t) :=
  h.andKept (keep_post ..)
@[simp] theorem vmild_accept {s t : State} (h : Mild s t) (r) : VMild s (.accept t r) := h
@[simp] theorem vmild_memPortArg {s : State} {v : Verdict} (p : Bytes) (h : VMild s v) : VMild s (memPortArg p v) := vmild_checks h _
@[simp] theorem vmild_manyQuads {s : State} {v : Verdict} (p : Bytes) (h : VMild s v) : VMild s (manyQuads p v) := vmild_checks h _
@[simp] theorem vmild_oneQuad {s : State} {f : Nat → Verdict} (p : Bytes) (h : ∀ q, VMild s (f q)) : VMild s (oneQuad p f) := by
  unfold oneQuad; split
  · split
    · exact h _
    · trivial
  · trivial
@[simp] theorem vmild_badArg (s : State) (o : Nat) : VMild s (badArg o) := trivial
theorem mild_lcAfter {s t : State} {n : Nat} (h : t.kept = s.kept) (l : s.trust.lc ≤ n) (k : n ≤ 3) : Mild s (lcStep n t) := by
  refine (mild_lcStep t ?_ k).after h
  simp only [State.kept, Rules.codes, List.cons_append, List.nil_append, Prod.mk.injEq, List.cons.injEq] at h
  rw [h.1.2.2.2.2.2.2.1]; exact l
/-- A condition that a refusal stands behind may be used. -/
theorem vmild_requireH {s : State} {v : Verdict} (b : Bool) (n : Nat) (h : b = true → VMild s v) : VMild s (require b n v) := by
  unfold require; split
  · rename_i k; exact h k
  · trivial
@[simp] theorem vmild_trustGenerate (s : State) : VMild s (trustGenerate s) :=
  mild_of_kept ((kept_modTrust _ _ rfl).trans (keep_takeFreeBytes 48 s))
theorem vmild_trustInstall (h : HostAnswer) (s : State) (l : s.trust.lc = 0) : VMild s (trustInstall h s) := by
  unfold trustInstall
  apply vmild_withHost; intro bs
  dsimp only
  split
  · trivial
  · exact mild_lcAfter (by simp) (by rw [l]; decide) (by decide)
@[simp] theorem vmild_ite {c : Prop} [Decidable c] {s : State} {a b : Verdict} (h : VMild s a) (k : VMild s b) :
    VMild s (if c then a else b) := by
  split <;> assumption
theorem mild_bufPoolConfigSpec (c : Cmd) (p : Bytes) (h : HostAnswer) (s : State) : VMild s (bufPoolConfigSpec.run c p h s) := by
  unfold bufPoolConfigSpec; dsimp only
  (repeat' first
    | with_reducible apply vmild_checks
    | with_reducible apply vmild_postCmd
    | exact mild_of_kept (by simp; done)
    | split)
theorem mild_bufPoolMapSpec (c : Cmd) (p : Bytes) (h : HostAnswer) (s : State) : VMild s (bufPoolMapSpec.run c p h s) := by
  unfold bufPoolMapSpec; dsimp only
  (repeat' first
    | with_reducible apply vmild_checks
    | with_reducible apply vmild_postCmd
    | exact mild_of_kept (by simp; done))
theorem mild_bufHeadroomSpec (c : Cmd) (p : Bytes) (h : HostAnswer) (s : State) : VMild s (bufHeadroomSpec.run c p h s) := by
  unfold bufHeadroomSpec; dsimp only
  (repeat' first
    | with_reducible apply vmild_checks
    | with_reducible apply vmild_postCmd
    | exact mild_of_kept (by simp; done))
theorem mild_bufStatusSpec (c : Cmd) (p : Bytes) (h : HostAnswer) (s : State) : VMild s (bufStatusSpec.run c p h s) := by
  unfold bufStatusSpec; dsimp only
  (repeat' first
    | with_reducible apply vmild_postCmd
    | exact mild_of_kept (by simp; done))
theorem mild_bufStatsSpec (c : Cmd) (p : Bytes) (h : HostAnswer) (s : State) : VMild s (bufStatsSpec.run c p h s) := by
  unfold bufStatsSpec; dsimp only
  (repeat' first
    | with_reducible apply vmild_postCmd
    | exact mild_of_kept (by simp; done))
theorem mild_bufMcWriteSpec (c : Cmd) (p : Bytes) (h : HostAnswer) (s : State) : VMild s (bufMcWriteSpec.run c p h s) := by
  unfold bufMcWriteSpec; dsimp only
  (repeat' first
    | with_reducible apply vmild_checks
    | with_reducible apply vmild_require
    | with_reducible apply vmild_postCmd
    | (with_reducible apply vmild_withHost; intro bs)
    | exact mild_of_kept (by simp; done)
    | split)
theorem mild_bufMcReadSpec (c : Cmd) (p : Bytes) (h : HostAnswer) (s : State) : VMild s (bufMcReadSpec.run c p h s) := by
  unfold bufMcReadSpec; dsimp only
  (repeat' first
    | with_reducible apply vmild_hostReady
    | with_reducible apply vmild_postCmd
    | exact mild_of_kept (by simp; done))
theorem mild_bufFabricStatusSpec (c : Cmd) (p : Bytes) (h : HostAnswer) (s : State) : VMild s (bufFabricStatusSpec.run c p h s) := by
  unfold bufFabricStatusSpec; dsimp only
  (repeat' first
    | with_reducible apply vmild_postCmd
    | exact mild_of_kept (by simp; done))
theorem mild_bufPlaneAdminSpec (c : Cmd) (p : Bytes) (h : HostAnswer) (s : State) : VMild s (bufPlaneAdminSpec.run c p h s) := by
  unfold bufPlaneAdminSpec; dsimp only
  (repeat' first
    | with_reducible apply vmild_checks
    | with_reducible apply vmild_require
    | with_reducible apply vmild_postCmd
    | exact mild_of_kept (by simp; done))
theorem mild_bufReseqStatsSpec (c : Cmd) (p : Bytes) (h : HostAnswer) (s : State) : VMild s (bufReseqStatsSpec.run c p h s) := by
  unfold bufReseqStatsSpec; dsimp only
  (repeat' first
    | with_reducible apply vmild_checks
    | with_reducible apply vmild_postCmd
    | exact mild_of_kept (by simp; done))
theorem mild_bufAuditSpec (c : Cmd) (p : Bytes) (h : HostAnswer) (s : State) : VMild s (bufAuditSpec.run c p h s) := by
  unfold bufAuditSpec; dsimp only
  (repeat' first
    | with_reducible apply vmild_replyLater
    | exact mild_of_kept (by simp; done))
theorem mild_bufMirrorSpec (c : Cmd) (p : Bytes) (h : HostAnswer) (s : State) : VMild s (bufMirrorSpec.run c p h s) := by
  unfold bufMirrorSpec; dsimp only
  (repeat' first
    | with_reducible apply vmild_checks
    | with_reducible apply vmild_postCmd
    | (with_reducible apply vmild_withHost; intro bs)
    | exact mild_of_kept (by simp; done)
    | split)
theorem mild_timeStatusSpec (c : Cmd) (p : Bytes) (h : HostAnswer) (s : State) : VMild s (timeStatusSpec.run c p h s) := by
  unfold timeStatusSpec; dsimp only
  (repeat' first
    | with_reducible apply vmild_replyNow
    | exact mild_of_kept (by simp; done))
theorem mild_timeStepSpec (c : Cmd) (p : Bytes) (h : HostAnswer) (s : State) : VMild s (timeStepSpec.run c p h s) := by
  unfold timeStepSpec; dsimp only
  (repeat' first
    | with_reducible apply vmild_checks
    | with_reducible apply vmild_postCmd
    | exact mild_of_kept (by simp; done))
theorem mild_timeRateSpec (c : Cmd) (p : Bytes) (h : HostAnswer) (s : State) : VMild s (timeRateSpec.run c p h s) := by
  unfold timeRateSpec; dsimp only
  (repeat' first
    | with_reducible apply vmild_replyLater
    | exact mild_of_kept (by simp; done))
theorem mild_timeStateSpec (c : Cmd) (p : Bytes) (h : HostAnswer) (s : State) : VMild s (timeStateSpec.run c p h s) := by
  unfold timeStateSpec; dsimp only
  (repeat' first
    | with_reducible apply vmild_checks
    | with_reducible apply vmild_postCmd
    | exact mild_of_kept (by simp; done))
theorem mild_timePortDelaySpec (c : Cmd) (p : Bytes) (h : HostAnswer) (s : State) : VMild s (timePortDelaySpec.run c p h s) := by
  unfold timePortDelaySpec; dsimp only
  (repeat' first
    | with_reducible apply vmild_checks
    | with_reducible apply vmild_postCmd
    | exact mild_of_kept (by simp; done))
theorem mild_timePortPtpSpec (c : Cmd) (p : Bytes) (h : HostAnswer) (s : State) : VMild s (timePortPtpSpec.run c p h s) := by
  unfold timePortPtpSpec; dsimp only
  (repeat' first
    | with_reducible apply vmild_checks
    | with_reducible apply vmild_postCmd
    | exact mild_of_kept (by simp; done))
theorem mild_timePpsSpec (c : Cmd) (p : Bytes) (h : HostAnswer) (s : State) : VMild s (timePpsSpec.run c p h s) := by
  unfold timePpsSpec; dsimp only
  (repeat' first
    | with_reducible apply vmild_checks
    | with_reducible apply vmild_postCmd
    | exact mild_of_kept (by simp; done))
theorem mild_timeSynceSpec (c : Cmd) (p : Bytes) (h : HostAnswer) (s : State) : VMild s (timeSynceSpec.run c p h s) := by
  unfold timeSynceSpec; dsimp only
  (repeat' first
    | with_reducible apply vmild_checks
    | with_reducible apply vmild_postCmd
    | exact mild_of_kept (by simp; done))
theorem mild_timeTxtsReadSpec (c : Cmd) (p : Bytes) (h : HostAnswer) (s : State) : VMild s (timeTxtsReadSpec.run c p h s) := by
  unfold timeTxtsReadSpec; dsimp only
  (repeat' first
    | with_reducible apply vmild_hostReady
    | with_reducible apply vmild_replyNow
    | exact mild_of_kept (by simp; done))
theorem mild_powerStatusSpec (c : Cmd) (p : Bytes) (h : HostAnswer) (s : State) : VMild s (powerStatusSpec.run c p h s) := by
  unfold powerStatusSpec; dsimp only
  (repeat' first
    | with_reducible apply vmild_replyNow
    | exact mild_of_kept (by simp; done))
theorem mild_powerCapSpec (c : Cmd) (p : Bytes) (h : HostAnswer) (s : State) : VMild s (powerCapSpec.run c p h s) := by
  unfold powerCapSpec; dsimp only
  (repeat' first
    | with_reducible apply vmild_checks
    | with_reducible apply vmild_postCmd
    | exact mild_of_kept (by simp; done))
theorem mild_powerConfigSpec (c : Cmd) (p : Bytes) (h : HostAnswer) (s : State) : VMild s (powerConfigSpec.run c p h s) := by
  unfold powerConfigSpec; dsimp only
  (repeat' first
    | with_reducible apply vmild_checks
    | with_reducible apply vmild_require
    | with_reducible apply vmild_postCmd
    | exact mild_of_kept (by simp; done)
    | split)
theorem mild_powerReasonsSpec (c : Cmd) (p : Bytes) (h : HostAnswer) (s : State) : VMild s (powerReasonsSpec.run c p h s) := by
  unfold powerReasonsSpec; dsimp only
  (repeat' first
    | with_reducible apply vmild_postCmd
    | exact mild_of_kept (by simp; done))
theorem mild_powerSensorsSpec (c : Cmd) (p : Bytes) (h : HostAnswer) (s : State) : VMild s (powerSensorsSpec.run c p h s) := by
  unfold powerSensorsSpec; dsimp only
  (repeat' first
    | with_reducible apply vmild_replyNow
    | exact mild_of_kept (by simp; done))
theorem mild_faultStatusSpec (c : Cmd) (p : Bytes) (h : HostAnswer) (s : State) : VMild s (faultStatusSpec.run c p h s) := by
  unfold faultStatusSpec; dsimp only
  (repeat' first
    | with_reducible apply vmild_checks
    | with_reducible apply vmild_replyNow
    | exact mild_of_kept (by simp; done)
    | split)
theorem mild_faultAckSpec (c : Cmd) (p : Bytes) (h : HostAnswer) (s : State) : VMild s (faultAckSpec.run c p h s) := by
  unfold faultAckSpec; dsimp only
  (repeat' first
    | with_reducible apply vmild_checks
    | with_reducible apply vmild_postCmd
    | exact mild_of_kept (by simp; done))
theorem mild_faultClearSpec (c : Cmd) (p : Bytes) (h : HostAnswer) (s : State) : VMild s (faultClearSpec.run c p h s) := by
  unfold faultClearSpec; dsimp only
  (repeat' first
    | with_reducible apply vmild_checks
    | with_reducible apply vmild_postCmd
    | exact mild_of_kept (by simp; done))
theorem mild_faultForceSpec (c : Cmd) (p : Bytes) (h : HostAnswer) (s : State) : VMild s (faultForceSpec.run c p h s) := by
  unfold faultForceSpec; dsimp only
  (repeat' first
    | with_reducible apply vmild_checks
    | with_reducible apply vmild_postCmd
    | exact mild_of_kept (by simp; done))
theorem mild_faultLogSpec (c : Cmd) (p : Bytes) (h : HostAnswer) (s : State) : VMild s (faultLogSpec.run c p h s) := by
  unfold faultLogSpec; dsimp only
  (repeat' first
    | with_reducible apply vmild_checks
    | with_reducible apply vmild_hostReady
    | with_reducible apply vmild_replyNow
    | exact mild_of_kept (by simp; done)
    | split)
theorem mild_faultConfigSpec (c : Cmd) (p : Bytes) (h : HostAnswer) (s : State) : VMild s (faultConfigSpec.run c p h s) := by
  unfold faultConfigSpec; dsimp only
  (repeat' first
    | with_reducible apply vmild_checks
    | with_reducible apply vmild_postCmd
    | exact mild_of_kept (by simp; done))
theorem mild_fwStatusSpec (c : Cmd) (p : Bytes) (h : HostAnswer) (s : State) : VMild s (fwStatusSpec.run c p h s) := by
  unfold fwStatusSpec; dsimp only
  (repeat' first
    | with_reducible apply vmild_replyNow
    | exact mild_of_kept (by simp; done))
theorem mild_fwStageSpec (c : Cmd) (p : Bytes) (h : HostAnswer) (s : State) : VMild s (fwStageSpec.run c p h s) := by
  unfold fwStageSpec; dsimp only
  (repeat' first
    | with_reducible apply vmild_checks
    | with_reducible apply vmild_require
    | with_reducible apply vmild_replyNow
    | (with_reducible apply vmild_withHost; intro bs)
    | exact mild_of_kept (by simp; done)
    | split)
theorem mild_fwVerifySpec (c : Cmd) (p : Bytes) (h : HostAnswer) (s : State) : VMild s (fwVerifySpec.run c p h s) := by
  unfold fwVerifySpec; dsimp only
  (repeat' first
    | with_reducible apply vmild_require
    | with_reducible apply vmild_replyNow
    | with_reducible apply vmild_accept
    | exact mild_of_kept (by simp; done)
    | split)
theorem mild_fwActivateSpec (c : Cmd) (p : Bytes) (h : HostAnswer) (s : State) : VMild s (fwActivateSpec.run c p h s) := by
  unfold fwActivateSpec; dsimp only
  (repeat' first
    | with_reducible apply vmild_require
    | with_reducible apply vmild_replyNow
    | with_reducible apply vmild_replyLater
    | exact mild_of_kept (by simp; done)
    | split)
theorem mild_fwAbortSpec (c : Cmd) (p : Bytes) (h : HostAnswer) (s : State) : VMild s (fwAbortSpec.run c p h s) :=
  vmild_require _ _ (mild_of_kept (kept_modFw _ _))
theorem mild_laneConfigSpec (c : Cmd) (p : Bytes) (h : HostAnswer) (s : State) : VMild s (laneConfigSpec.run c p h s) := by
  unfold laneConfigSpec; dsimp only
  (repeat' first
    | with_reducible apply vmild_checks
    | with_reducible apply vmild_replyNow
    | exact mild_of_kept (by simp; done)
    | split)
theorem mild_laneEnableSpec (c : Cmd) (p : Bytes) (h : HostAnswer) (s : State) : VMild s (laneEnableSpec.run c p h s) := by
  unfold laneEnableSpec; dsimp only
  (repeat' first
    | with_reducible apply vmild_checks
    | with_reducible apply vmild_require
    | with_reducible apply vmild_replyNow
    | exact mild_of_kept (by simp; done))
theorem mild_laneDisableSpec (c : Cmd) (p : Bytes) (h : HostAnswer) (s : State) : VMild s (laneDisableSpec.run c p h s) := by
  unfold laneDisableSpec; dsimp only
  (repeat' first
    | with_reducible apply vmild_checks
    | with_reducible apply vmild_replyNow
    | exact mild_of_kept (by simp; done))
theorem mild_laneStatusSpec (c : Cmd) (p : Bytes) (h : HostAnswer) (s : State) : VMild s (laneStatusSpec.run c p h s) := by
  unfold laneStatusSpec; dsimp only
  (repeat' first
    | with_reducible apply vmild_checks
    | with_reducible apply vmild_replyNow
    | exact mild_of_kept (by simp; done))
theorem mild_laneGetCoeffSpec (c : Cmd) (p : Bytes) (h : HostAnswer) (s : State) : VMild s (laneGetCoeffSpec.run c p h s) := by
  unfold laneGetCoeffSpec; dsimp only
  (repeat' first
    | with_reducible apply vmild_checks
    | with_reducible apply vmild_replyNow
    | exact mild_of_kept (by simp; done)
    | split)
theorem mild_laneSetCoeffSpec (c : Cmd) (p : Bytes) (h : HostAnswer) (s : State) : VMild s (laneSetCoeffSpec.run c p h s) := by
  unfold laneSetCoeffSpec; dsimp only
  (repeat' first
    | with_reducible apply vmild_checks
    | with_reducible apply vmild_require
    | with_reducible apply vmild_replyNow
    | exact mild_of_kept (by simp; done))
theorem mild_laneRetrainSpec (c : Cmd) (p : Bytes) (h : HostAnswer) (s : State) : VMild s (laneRetrainSpec.run c p h s) := by
  unfold laneRetrainSpec; dsimp only
  (repeat' first
    | with_reducible apply vmild_checks
    | with_reducible apply vmild_require
    | with_reducible apply vmild_replyNow
    | exact mild_of_kept (by simp; done))
theorem mild_laneLoopbackSpec (c : Cmd) (p : Bytes) (h : HostAnswer) (s : State) : VMild s (laneLoopbackSpec.run c p h s) := by
  unfold laneLoopbackSpec; dsimp only
  (repeat' first
    | with_reducible apply vmild_checks
    | with_reducible apply vmild_require
    | with_reducible apply vmild_replyNow
    | exact mild_of_kept (by simp; done)
    | split)
theorem mild_lanePrbsSpec (c : Cmd) (p : Bytes) (h : HostAnswer) (s : State) : VMild s (lanePrbsSpec.run c p h s) := by
  unfold lanePrbsSpec; dsimp only
  (repeat' first
    | with_reducible apply vmild_checks
    | with_reducible apply vmild_require
    | with_reducible apply vmild_replyNow
    | exact mild_of_kept (by simp; done))
theorem mild_laneEyeSpec (c : Cmd) (p : Bytes) (h : HostAnswer) (s : State) : VMild s (laneEyeSpec.run c p h s) := by
  unfold laneEyeSpec; dsimp only
  (repeat' first
    | with_reducible apply vmild_checks
    | with_reducible apply vmild_require
    | with_reducible apply vmild_replyNow
    | exact mild_of_kept (by simp; done)
    | split)
theorem mild_laneCountersSpec (c : Cmd) (p : Bytes) (h : HostAnswer) (s : State) : VMild s (laneCountersSpec.run c p h s) := by
  unfold laneCountersSpec; dsimp only
  (repeat' first
    | with_reducible apply vmild_checks
    | with_reducible apply vmild_replyNow
    | exact mild_of_kept (by simp; done)
    | split)
theorem mild_laneTrainLogSpec (c : Cmd) (p : Bytes) (h : HostAnswer) (s : State) : VMild s (laneTrainLogSpec.run c p h s) := by
  unfold laneTrainLogSpec; dsimp only
  (repeat' first
    | with_reducible apply vmild_checks
    | with_reducible apply vmild_replyNow
    | exact mild_of_kept (by simp; done)
    | split)
theorem mild_laneQuietTlvSpec (c : Cmd) (p : Bytes) (h : HostAnswer) (s : State) : VMild s (laneQuietTlvSpec.run c p h s) := by
  unfold laneQuietTlvSpec; dsimp only
  (repeat' first
    | with_reducible apply vmild_checks
    | with_reducible apply vmild_replyNow
    | with_reducible exact vmild_refuse ..
    | exact mild_of_kept (by simp; done)
    | split)
theorem mild_laneQuietPeerSpec (c : Cmd) (p : Bytes) (h : HostAnswer) (s : State) : VMild s (laneQuietPeerSpec.run c p h s) := by
  unfold laneQuietPeerSpec; dsimp only
  (repeat' first
    | with_reducible apply vmild_checks
    | with_reducible apply vmild_replyNow
    | exact mild_of_kept (by simp; done)
    | split)
theorem mild_laneQuietConfigSpec (c : Cmd) (p : Bytes) (h : HostAnswer) (s : State) : VMild s (laneQuietConfigSpec.run c p h s) := by
  unfold laneQuietConfigSpec; dsimp only
  (repeat' first
    | with_reducible apply vmild_checks
    | with_reducible apply vmild_replyNow
    | exact mild_of_kept (by simp; done))
theorem mild_lanternStreamSpec (c : Cmd) (p : Bytes) (h : HostAnswer) (s : State) : VMild s (lanternStreamSpec.run c p h s) := by
  unfold lanternStreamSpec; dsimp only
  (repeat' first
    | with_reducible apply vmild_checks
    | with_reducible apply vmild_require
    | with_reducible apply vmild_postCmd
    | exact mild_of_kept (by simp; done))
theorem mild_lanternPortSpec (c : Cmd) (p : Bytes) (h : HostAnswer) (s : State) : VMild s (lanternPortSpec.run c p h s) := by
  unfold lanternPortSpec; dsimp only
  (repeat' first
    | with_reducible apply vmild_checks
    | with_reducible apply vmild_postCmd
    | exact mild_of_kept (by simp; done))
theorem mild_lanternTriggerSpec (c : Cmd) (p : Bytes) (h : HostAnswer) (s : State) : VMild s (lanternTriggerSpec.run c p h s) := by
  unfold lanternTriggerSpec; dsimp only
  (repeat' first
    | with_reducible apply vmild_checks
    | with_reducible apply vmild_postCmd
    | exact mild_of_kept (by simp; done))
theorem mild_lanternTenantSpec (c : Cmd) (p : Bytes) (h : HostAnswer) (s : State) : VMild s (lanternTenantSpec.run c p h s) := by
  unfold lanternTenantSpec; dsimp only
  (repeat' first
    | with_reducible apply vmild_checks
    | with_reducible apply vmild_postCmd
    | exact mild_of_kept (by simp; done))
theorem mild_lanternIpfixSpec (c : Cmd) (p : Bytes) (h : HostAnswer) (s : State) : VMild s (lanternIpfixSpec.run c p h s) := by
  unfold lanternIpfixSpec; dsimp only
  (repeat' first
    | with_reducible apply vmild_checks
    | with_reducible apply vmild_postCmd
    | (with_reducible apply vmild_withHost; intro bs)
    | exact mild_of_kept (by simp; done))
theorem mild_lanternAckSpec (c : Cmd) (p : Bytes) (h : HostAnswer) (s : State) : VMild s (lanternAckSpec.run c p h s) := by
  unfold lanternAckSpec; dsimp only
  (repeat' first
    | with_reducible apply vmild_checks
    | with_reducible apply vmild_replyNow
    | exact mild_of_kept (by simp; done))
theorem mild_lanternStatsSpec (c : Cmd) (p : Bytes) (h : HostAnswer) (s : State) : VMild s (lanternStatsSpec.run c p h s) := by
  unfold lanternStatsSpec; dsimp only
  (repeat' first
    | with_reducible apply vmild_postCmd
    | exact mild_of_kept (by simp; done))
theorem mild_memStatusSpec (c : Cmd) (p : Bytes) (h : HostAnswer) (s : State) : VMild s (memStatusSpec.run c p h s) := by
  unfold memStatusSpec
  apply vmild_memPortArg
  unfold rebuildLeft
  with_reducible apply vmild_replyNow
  split
  · exact mild_of_kept (keep_takeFree s)
  · exact Mild.refl s
theorem mild_memLayoutSpec (c : Cmd) (p : Bytes) (h : HostAnswer) (s : State) : VMild s (memLayoutSpec.run c p h s) := by
  unfold memLayoutSpec takeLayout; dsimp only
  (repeat' first
    | with_reducible apply vmild_checks
    | with_reducible apply vmild_require
    | with_reducible apply vmild_replyNow
    | exact mild_of_kept (by simp; done)
    | split)
theorem mild_memRegionSpec (c : Cmd) (p : Bytes) (h : HostAnswer) (s : State) : VMild s (memRegionSpec.run c p h s) := by
  unfold memRegionSpec setRegion; dsimp only
  (repeat' first
    | with_reducible apply vmild_checks
    | with_reducible apply vmild_require
    | with_reducible apply vmild_replyNow
    | exact mild_of_kept (by simp; done)
    | split)
theorem mild_memOnlineSpec (c : Cmd) (p : Bytes) (h : HostAnswer) (s : State) : VMild s (memOnlineSpec.run c p h s) := by
  unfold memOnlineSpec; dsimp only
  (repeat' first
    | with_reducible apply vmild_memPortArg
    | with_reducible apply vmild_replyNow
    | with_reducible exact vmild_refuse ..
    | exact mild_of_kept (by simp; done)
    | split)
theorem mild_memOfflineSpec (c : Cmd) (p : Bytes) (h : HostAnswer) (s : State) : VMild s (memOfflineSpec.run c p h s) := by
  unfold memOfflineSpec; dsimp only
  (repeat' first
    | with_reducible apply vmild_memPortArg
    | with_reducible apply vmild_replyLater
    | with_reducible exact vmild_refuse ..
    | exact mild_of_kept (by simp; done)
    | split)
theorem mild_memRebuildRateSpec (c : Cmd) (p : Bytes) (h : HostAnswer) (s : State) : VMild s (memRebuildRateSpec.run c p h s) := by
  unfold memRebuildRateSpec; dsimp only
  (repeat' first
    | with_reducible apply vmild_checks
    | with_reducible apply vmild_replyNow
    | exact mild_of_kept (by simp; done))
theorem mild_memCaptureSpec (c : Cmd) (p : Bytes) (h : HostAnswer) (s : State) : VMild s (memCaptureSpec.run c p h s) := by
  unfold memCaptureSpec; dsimp only
  (repeat' first
    | with_reducible apply vmild_checks
    | with_reducible apply vmild_replyNow
    | exact mild_of_kept (by simp; done)
    | split)
theorem mild_memCaptureAckSpec (c : Cmd) (p : Bytes) (h : HostAnswer) (s : State) : VMild s (memCaptureAckSpec.run c p h s) := by
  unfold memCaptureAckSpec; dsimp only
  (repeat' first
    | with_reducible apply vmild_checks
    | with_reducible apply vmild_replyNow
    | with_reducible exact vmild_refuse ..
    | exact mild_of_kept (by simp; done)
    | split)
theorem mild_memStatsSpec (c : Cmd) (p : Bytes) (h : HostAnswer) (s : State) : VMild s (memStatsSpec.run c p h s) := by
  unfold memStatsSpec; dsimp only
  (repeat' first
    | with_reducible apply vmild_memPortArg
    | with_reducible apply vmild_replyNow
    | exact mild_of_kept (by simp; done)
    | split)
theorem mild_ledgerConfigSpec (c : Cmd) (p : Bytes) (h : HostAnswer) (s : State) : VMild s (ledgerConfigSpec.run c p h s) := by
  unfold ledgerConfigSpec; dsimp only
  (repeat' first
    | with_reducible apply vmild_checks
    | with_reducible apply vmild_require
    | with_reducible apply vmild_postCmd
    | exact mild_of_kept (by simp; done))
theorem mild_ledgerPolicySpec (c : Cmd) (p : Bytes) (h : HostAnswer) (s : State) : VMild s (ledgerPolicySpec.run c p h s) := by
  unfold ledgerPolicySpec; dsimp only
  (repeat' first
    | with_reducible apply vmild_checks
    | with_reducible apply vmild_postCmd
    | exact mild_of_kept (by simp; done))
theorem mild_ledgerRingsSpec (c : Cmd) (p : Bytes) (h : HostAnswer) (s : State) : VMild s (ledgerRingsSpec.run c p h s) := by
  unfold ledgerRingsSpec; dsimp only
  (repeat' first
    | with_reducible apply vmild_checks
    | with_reducible apply vmild_require
    | with_reducible apply vmild_postCmd
    | exact mild_of_kept (by simp; done))
theorem mild_ledgerStartSpec (c : Cmd) (p : Bytes) (h : HostAnswer) (s : State) : VMild s (ledgerStartSpec.run c p h s) := by
  unfold ledgerStartSpec; dsimp only
  (repeat' first
    | with_reducible apply vmild_require
    | with_reducible apply vmild_postCmd
    | exact mild_of_kept (by simp; done)
    | split)
theorem mild_ledgerStopSpec (c : Cmd) (p : Bytes) (h : HostAnswer) (s : State) : VMild s (ledgerStopSpec.run c p h s) := by
  unfold ledgerStopSpec; dsimp only
  (repeat' first
    | with_reducible apply vmild_require
    | with_reducible apply vmild_postCmd
    | exact mild_of_kept (by simp; done))
theorem mild_ledgerStatusSpec (c : Cmd) (p : Bytes) (h : HostAnswer) (s : State) : VMild s (ledgerStatusSpec.run c p h s) := by
  unfold ledgerStatusSpec; dsimp only
  (repeat' first
    | with_reducible apply vmild_replyNow
    | exact mild_of_kept (by simp; done)
    | split)
theorem mild_ledgerSealGetSpec (c : Cmd) (p : Bytes) (h : HostAnswer) (s : State) : VMild s (ledgerSealGetSpec.run c p h s) := by
  unfold ledgerSealGetSpec; dsimp only
  split
  · with_reducible exact vmild_refuse ..
  · refine vmild_hostReady ?_
    split <;> rename_i e
    · exact vmild_replyNow (mild_of_kept (by simp [keep_sealRead_eq e])) _
    · exact vmild_accept (mild_of_kept (keep_sealRead_eq e)) _
theorem mild_ledgerTenantGetSpec (c : Cmd) (p : Bytes) (h : HostAnswer) (s : State) : VMild s (ledgerTenantGetSpec.run c p h s) := by
  unfold ledgerTenantGetSpec; dsimp only
  (repeat' first
    | with_reducible apply vmild_checks
    | with_reducible apply vmild_hostReady
    | with_reducible apply vmild_replyNow
    | with_reducible exact vmild_refuse ..
    | exact mild_of_kept (by simp; done)
    | split)
theorem mild_ledgerFlowGetSpec (c : Cmd) (p : Bytes) (h : HostAnswer) (s : State) : VMild s (ledgerFlowGetSpec.run c p h s) := by
  unfold ledgerFlowGetSpec; dsimp only
  (repeat' first
    | with_reducible apply vmild_checks
    | with_reducible apply vmild_replyNow
    | with_reducible exact vmild_refuse ..
    | exact mild_of_kept (by simp; done)
    | split)
theorem mild_ledgerStatsSpec (c : Cmd) (p : Bytes) (h : HostAnswer) (s : State) : VMild s (ledgerStatsSpec.run c p h s) := by
  unfold ledgerStatsSpec; dsimp only
  (repeat' first
    | with_reducible apply vmild_replyNow
    | exact mild_of_kept (by simp; done)
    | split)
theorem mild_sysEventRingSpec (c : Cmd) (p : Bytes) (h : HostAnswer) (s : State) : VMild s (sysEventRingSpec.run c p h s) := by
  unfold sysEventRingSpec; dsimp only
  (repeat' first
    | with_reducible apply vmild_checks
    | with_reducible apply vmild_replyNow
    | exact mild_of_kept (by simp; done))
theorem mild_sysEventMaskSpec (c : Cmd) (p : Bytes) (h : HostAnswer) (s : State) : VMild s (sysEventMaskSpec.run c p h s) := by
  unfold sysEventMaskSpec; dsimp only
  (repeat' first
    | with_reducible apply vmild_replyNow
    | exact mild_of_kept (by simp; done))
theorem mild_diagEchoSpec (c : Cmd) (p : Bytes) (h : HostAnswer) (s : State) : VMild s (diagEchoSpec.run c p h s) := by
  unfold diagEchoSpec; dsimp only
  (repeat' first
    | with_reducible apply vmild_replyNow
    | exact mild_of_kept (by simp; done))
theorem mild_diagDelaySpec (c : Cmd) (p : Bytes) (h : HostAnswer) (s : State) : VMild s (diagDelaySpec.run c p h s) := by
  unfold diagDelaySpec; dsimp only
  (repeat' first
    | with_reducible apply vmild_checks
    | with_reducible apply vmild_replyNow
    | exact mild_of_kept (by simp; done)
    | split)
theorem mild_diagProtoLogSpec (c : Cmd) (p : Bytes) (h : HostAnswer) (s : State) : VMild s (diagProtoLogSpec.run c p h s) := by
  unfold diagProtoLogSpec; dsimp only
  (repeat' first
    | with_reducible apply vmild_replyNow
    | exact mild_of_kept (by simp; done)
    | split)
theorem mild_lanternPmcDumpSpec (c : Cmd) (p : Bytes) (h : HostAnswer) (s : State) : VMild s (lanternPmcDumpSpec.run c p h s) := by
  unfold lanternPmcDumpSpec; dsimp only
  (repeat' first
    | with_reducible apply vmild_hostReady
    | with_reducible apply vmild_postCmd
    | exact mild_of_kept (by simp; done))
theorem mild_portCreateSpec (c : Cmd) (p : Bytes) (h : HostAnswer) (s : State) : VMild s (portCreateSpec.run c p h s) := by
  unfold portCreateSpec; dsimp only
  (repeat' first
    | with_reducible apply vmild_checks
    | with_reducible apply vmild_require
    | with_reducible apply vmild_postCmd
    | exact mild_of_kept (by simp; done))
theorem mild_portDeleteSpec (c : Cmd) (p : Bytes) (h : HostAnswer) (s : State) : VMild s (portDeleteSpec.run c p h s) := by
  unfold portDeleteSpec; dsimp only
  (repeat' first
    | with_reducible apply vmild_checks
    | with_reducible apply vmild_require
    | with_reducible apply vmild_postCmd
    | exact mild_of_kept (by simp; done))
theorem mild_portAdminSpec (c : Cmd) (p : Bytes) (h : HostAnswer) (s : State) : VMild s (portAdminSpec.run c p h s) := by
  unfold portAdminSpec; dsimp only
  (repeat' first
    | with_reducible apply vmild_checks
    | with_reducible apply vmild_postCmd
    | exact mild_of_kept (by simp; done))
theorem mild_portConfigSpec (c : Cmd) (p : Bytes) (h : HostAnswer) (s : State) : VMild s (portConfigSpec.run c p h s) := by
  unfold portConfigSpec; dsimp only
  (repeat' first
    | with_reducible apply vmild_checks
    | with_reducible apply vmild_postCmd
    | exact mild_of_kept (by simp; done))
theorem mild_portPfcConfigSpec (c : Cmd) (p : Bytes) (h : HostAnswer) (s : State) : VMild s (portPfcConfigSpec.run c p h s) := by
  unfold portPfcConfigSpec; dsimp only
  (repeat' first
    | with_reducible apply vmild_checks
    | with_reducible apply vmild_postCmd
    | exact mild_of_kept (by simp; done))
theorem mild_portPreemptConfigSpec (c : Cmd) (p : Bytes) (h : HostAnswer) (s : State) : VMild s (portPreemptConfigSpec.run c p h s) := by
  unfold portPreemptConfigSpec; dsimp only
  (repeat' first
    | with_reducible apply vmild_checks
    | with_reducible apply vmild_postCmd
    | exact mild_of_kept (by simp; done))
theorem mild_portFlushSpec (c : Cmd) (p : Bytes) (h : HostAnswer) (s : State) : VMild s (portFlushSpec.run c p h s) := by
  unfold portFlushSpec; dsimp only
  (repeat' first
    | with_reducible apply vmild_checks
    | with_reducible apply vmild_require
    | with_reducible apply vmild_postCmd
    | exact mild_of_kept (by simp; done))
theorem mild_portStatusSpec (c : Cmd) (p : Bytes) (h : HostAnswer) (s : State) : VMild s (portStatusSpec.run c p h s) := by
  unfold portStatusSpec; dsimp only
  (repeat' first
    | with_reducible apply vmild_checks
    | with_reducible apply vmild_replyNow
    | exact mild_of_kept (by simp; done))
theorem mild_portStatsSpec (c : Cmd) (p : Bytes) (h : HostAnswer) (s : State) : VMild s (portStatsSpec.run c p h s) := by
  unfold portStatsSpec; dsimp only
  (repeat' first
    | with_reducible apply vmild_checks
    | with_reducible apply vmild_postCmd
    | exact mild_of_kept (by simp; done))
theorem mild_ruleOpenSpec (c : Cmd) (p : Bytes) (h : HostAnswer) (s : State) : VMild s (ruleOpenSpec.run c p h s) := by
  unfold ruleOpenSpec; dsimp only
  (repeat' first
    | with_reducible apply vmild_require
    | with_reducible apply vmild_postCmd
    | exact mild_of_kept (by simp; done)
    | (with_reducible apply mild_modBank; intro b h h'; exact ⟨h, by simp⟩))
theorem mild_ruleLoadSpec (c : Cmd) (p : Bytes) (h : HostAnswer) (s : State) : VMild s (ruleLoadSpec.run c p h s) := by
  unfold ruleLoadSpec
  dsimp only
  (repeat' first
    | with_reducible apply vmild_checks
    | with_reducible apply vmild_require
    | (with_reducible apply vmild_withHost; intro bs)
    | with_reducible apply vmild_replyNow
    | with_reducible apply vmild_postCmd
    | exact mild_modRules _ _ rfl rfl rfl
    | exact (mild_modRules _ _ rfl rfl rfl).trans (mild_modRules _ _ rfl rfl rfl)
    | split)
theorem mild_ruleCommitSpec (c : Cmd) (p : Bytes) (h : HostAnswer) (s : State) : VMild s (ruleCommitSpec.run c p h s) := by
  unfold ruleCommitSpec; dsimp only
  (repeat' first
    | with_reducible apply vmild_require
    | with_reducible apply vmild_postCmd
    | exact mild_of_kept (by simp; done)
    | exact mild_modRules _ _ rfl rfl rfl)
theorem mild_ruleAbortSpec (c : Cmd) (p : Bytes) (h : HostAnswer) (s : State) : VMild s (ruleAbortSpec.run c p h s) := by
  unfold ruleAbortSpec; dsimp only
  (repeat' first
    | with_reducible apply vmild_require
    | with_reducible apply vmild_replyNow
    | exact mild_of_kept (by simp; done)
    | (with_reducible apply mild_modBank; intro b h h'; exact ⟨h, by simp⟩))
theorem mild_ruleRevertSpec (c : Cmd) (p : Bytes) (h : HostAnswer) (s : State) : VMild s (ruleRevertSpec.run c p h s) := by
  unfold ruleRevertSpec; dsimp only
  (repeat' first
    | with_reducible apply vmild_require
    | with_reducible apply vmild_postCmd
    | exact mild_of_kept (by simp; done)
    | exact mild_modRules _ _ rfl rfl rfl)
theorem mild_ruleStatusSpec (c : Cmd) (p : Bytes) (h : HostAnswer) (s : State) : VMild s (ruleStatusSpec.run c p h s) := by
  unfold ruleStatusSpec; dsimp only
  (repeat' first
    | with_reducible apply vmild_replyNow
    | exact mild_of_kept (by simp; done))
theorem mild_ruleHashProbeSpec (c : Cmd) (p : Bytes) (h : HostAnswer) (s : State) : VMild s (ruleHashProbeSpec.run c p h s) := by
  unfold ruleHashProbeSpec; dsimp only
  (repeat' first
    | with_reducible apply vmild_checks
    | with_reducible apply vmild_replyNow
    | exact mild_of_kept (by simp; done)
    | split)
theorem mild_ruleParseStatsSpec (c : Cmd) (p : Bytes) (h : HostAnswer) (s : State) : VMild s (ruleParseStatsSpec.run c p h s) := by
  unfold ruleParseStatsSpec; dsimp only
  (repeat' first
    | with_reducible apply vmild_checks
    | with_reducible apply vmild_replyNow
    | exact mild_of_kept (by simp; done)
    | split)
theorem mild_sliceStatusSpec (c : Cmd) (p : Bytes) (h : HostAnswer) (s : State) : VMild s (sliceStatusSpec.run c p h s) := by
  unfold sliceStatusSpec; dsimp only
  (repeat' first
    | with_reducible apply vmild_replyNow
    | exact mild_of_kept (by simp; done))
theorem mild_sliceTakeoverSpec (c : Cmd) (p : Bytes) (h : HostAnswer) (s : State) : VMild s (sliceTakeoverSpec.run c p h s) := by
  unfold sliceTakeoverSpec; dsimp only
  (repeat' first
    | with_reducible apply vmild_checks
    | with_reducible apply vmild_require
    | with_reducible apply vmild_replyLater
    | exact mild_of_kept (by simp; done))
theorem mild_sliceReleaseSpec (c : Cmd) (p : Bytes) (h : HostAnswer) (s : State) : VMild s (sliceReleaseSpec.run c p h s) := by
  unfold sliceReleaseSpec; dsimp only
  (repeat' first
    | with_reducible apply vmild_checks
    | with_reducible apply vmild_require
    | with_reducible apply vmild_replyLater
    | with_reducible apply vmild_postCmd
    | exact mild_of_kept (by simp; done)
    | split)
theorem mild_sliceSelfCheckSpec (c : Cmd) (p : Bytes) (h : HostAnswer) (s : State) : VMild s (sliceSelfCheckSpec.run c p h s) := by
  unfold sliceSelfCheckSpec; dsimp only
  (repeat' first
    | with_reducible apply vmild_checks
    | with_reducible apply vmild_require
    | with_reducible apply vmild_replyNow
    | exact mild_of_kept (by simp; done)
    | split)
theorem mild_sysInfoSpec (c : Cmd) (p : Bytes) (h : HostAnswer) (s : State) : VMild s (sysInfoSpec.run c p h s) := by
  unfold sysInfoSpec; dsimp only
  (repeat' first
    | with_reducible apply vmild_replyNow
    | exact mild_of_kept (by simp; done))
theorem mild_sysStatusSpec (c : Cmd) (p : Bytes) (h : HostAnswer) (s : State) : VMild s (sysStatusSpec.run c p h s) := by
  unfold sysStatusSpec; dsimp only
  (repeat' first
    | with_reducible apply vmild_replyNow
    | exact mild_of_kept (by simp; done))
theorem mild_sysResetSpec (c : Cmd) (p : Bytes) (h : HostAnswer) (s : State) : VMild s (sysResetSpec.run c p h s) := by
  unfold sysResetSpec; dsimp only
  (repeat' first
    | with_reducible apply vmild_require
    | with_reducible apply vmild_replyNow
    | with_reducible exact vmild_badArg ..
    | exact mild_of_kept (by simp; done)
    | split)
theorem mild_sysBootLogSpec (c : Cmd) (p : Bytes) (h : HostAnswer) (s : State) : VMild s (sysBootLogSpec.run c p h s) := by
  unfold sysBootLogSpec; dsimp only
  (repeat' first
    | with_reducible apply vmild_hostReady
    | with_reducible apply vmild_replyNow
    | exact mild_of_kept (by simp; done))
theorem mild_tableInsertSpec (c : Cmd) (p : Bytes) (h : HostAnswer) (s : State) : VMild s (tableInsertSpec.run c p h s) := by
  unfold tableInsertSpec; dsimp only
  (repeat' first
    | with_reducible apply vmild_checks
    | with_reducible apply vmild_postCmd
    | exact mild_of_kept (by simp; done))
theorem mild_tableDeleteSpec (c : Cmd) (p : Bytes) (h : HostAnswer) (s : State) : VMild s (tableDeleteSpec.run c p h s) := by
  unfold tableDeleteSpec; dsimp only
  (repeat' first
    | with_reducible apply vmild_checks
    | with_reducible apply vmild_postCmd
    | exact mild_of_kept (by simp; done))
theorem mild_tableReadSpec (c : Cmd) (p : Bytes) (h : HostAnswer) (s : State) : VMild s (tableReadSpec.run c p h s) := by
  unfold tableReadSpec; dsimp only
  (repeat' first
    | with_reducible apply vmild_checks
    | with_reducible apply vmild_replyNow
    | with_reducible exact vmild_refuse ..
    | exact mild_of_kept (by simp; done)
    | split)
theorem mild_tableConfigSpec (c : Cmd) (p : Bytes) (h : HostAnswer) (s : State) : VMild s (tableConfigSpec.run c p h s) := by
  unfold tableConfigSpec; dsimp only
  (repeat' first
    | with_reducible apply vmild_checks
    | with_reducible apply vmild_postCmd
    | exact mild_of_kept (by simp; done))
theorem mild_tableFlushSpec (c : Cmd) (p : Bytes) (h : HostAnswer) (s : State) : VMild s (tableFlushSpec.run c p h s) := by
  unfold tableFlushSpec; dsimp only
  (repeat' first
    | with_reducible apply vmild_checks
    | with_reducible apply vmild_manyQuads
    | with_reducible apply vmild_postCmd
    | exact mild_of_kept (by simp; done))
theorem mild_tableLearnConfigSpec (c : Cmd) (p : Bytes) (h : HostAnswer) (s : State) : VMild s (tableLearnConfigSpec.run c p h s) := by
  unfold tableLearnConfigSpec; dsimp only
  (repeat' first
    | with_reducible apply vmild_checks
    | with_reducible apply vmild_postCmd
    | exact mild_of_kept (by simp; done))
theorem mild_tableLearnStatusSpec (c : Cmd) (p : Bytes) (h : HostAnswer) (s : State) : VMild s (tableLearnStatusSpec.run c p h s) := by
  unfold tableLearnStatusSpec; dsimp only
  (repeat' first
    | with_reducible apply vmild_checks
    | with_reducible apply vmild_replyNow
    | exact mild_of_kept (by simp; done))
theorem mild_tableNotifyRingSpec (c : Cmd) (p : Bytes) (h : HostAnswer) (s : State) : VMild s (tableNotifyRingSpec.run c p h s) := by
  unfold tableNotifyRingSpec; dsimp only
  (repeat' first
    | with_reducible apply vmild_checks
    | with_reducible apply vmild_replyNow
    | exact mild_of_kept (by simp; done))
theorem mild_tableStatsSpec (c : Cmd) (p : Bytes) (h : HostAnswer) (s : State) : VMild s (tableStatsSpec.run c p h s) := by
  unfold tableStatsSpec; dsimp only
  (repeat' first
    | with_reducible apply vmild_checks
    | with_reducible apply vmild_postCmd
    | exact mild_of_kept (by simp; done))
theorem mild_tableNhStatusSpec (c : Cmd) (p : Bytes) (h : HostAnswer) (s : State) : VMild s (tableNhStatusSpec.run c p h s) := by
  unfold tableNhStatusSpec; dsimp only
  (repeat' first
    | with_reducible apply vmild_checks
    | with_reducible apply vmild_replyNow
    | exact mild_of_kept (by simp; done)
    | split)
theorem mild_ternGroupSpec (c : Cmd) (p : Bytes) (h : HostAnswer) (s : State) : VMild s (ternGroupSpec.run c p h s) := by
  unfold ternGroupSpec; dsimp only
  (repeat' first
    | with_reducible apply vmild_checks
    | with_reducible apply vmild_require
    | with_reducible apply vmild_postCmd
    | exact mild_of_kept (by simp; done)
    | split)
theorem mild_ternWriteSpec (c : Cmd) (p : Bytes) (h : HostAnswer) (s : State) : VMild s (ternWriteSpec.run c p h s) := by
  unfold ternWriteSpec; dsimp only
  (repeat' first
    | with_reducible apply vmild_checks
    | with_reducible apply vmild_require
    | with_reducible apply vmild_manyQuads
    | with_reducible apply vmild_postCmd
    | (with_reducible apply vmild_withHost; intro bs)
    | exact mild_of_kept (by simp; done))
theorem mild_ternMoveSpec (c : Cmd) (p : Bytes) (h : HostAnswer) (s : State) : VMild s (ternMoveSpec.run c p h s) := by
  unfold ternMoveSpec; dsimp only
  (repeat' first
    | with_reducible apply vmild_checks
    | with_reducible apply vmild_require
    | with_reducible apply vmild_postCmd
    | (with_reducible apply vmild_oneQuad; intro q)
    | (with_reducible apply vmild_withHost; intro bs)
    | exact mild_of_kept (by simp; done))
theorem mild_ternBlockMoveSpec (c : Cmd) (p : Bytes) (h : HostAnswer) (s : State) : VMild s (ternBlockMoveSpec.run c p h s) := by
  unfold ternBlockMoveSpec; dsimp only
  (repeat' first
    | with_reducible apply vmild_checks
    | with_reducible apply vmild_require
    | with_reducible apply vmild_replyNow
    | (with_reducible apply vmild_oneQuad; intro q)
    | exact mild_of_kept (by simp; done)
    | split)
theorem mild_ternReadSpec (c : Cmd) (p : Bytes) (h : HostAnswer) (s : State) : VMild s (ternReadSpec.run c p h s) := by
  unfold ternReadSpec ternDump; dsimp only
  (repeat' first
    | with_reducible apply vmild_checks
    | with_reducible apply vmild_hostReady
    | with_reducible apply vmild_replyNow
    | (with_reducible apply vmild_oneQuad; intro q)
    | exact mild_of_kept (by simp; done))
theorem mild_ternStatusSpec (c : Cmd) (p : Bytes) (h : HostAnswer) (s : State) : VMild s (ternStatusSpec.run c p h s) := by
  unfold ternStatusSpec; dsimp only
  (repeat' first
    | with_reducible apply vmild_replyNow
    | (with_reducible apply vmild_oneQuad; intro q)
    | exact mild_of_kept (by simp; done)
    | split)
theorem mild_ternStatsSpec (c : Cmd) (p : Bytes) (h : HostAnswer) (s : State) : VMild s (ternStatsSpec.run c p h s) := by
  unfold ternStatsSpec; dsimp only
  (repeat' first
    | with_reducible apply vmild_postCmd
    | (with_reducible apply vmild_oneQuad; intro q)
    | exact mild_of_kept (by simp; done))
theorem mild_autoLoadSpec (c : Cmd) (p : Bytes) (h : HostAnswer) (s : State) : VMild s (autoLoadSpec.run c p h s) := by
  unfold autoLoadSpec; dsimp only
  (repeat' first
    | with_reducible apply vmild_checks
    | with_reducible apply vmild_require
    | with_reducible apply vmild_manyQuads
    | with_reducible apply vmild_postCmd
    | (with_reducible apply vmild_withHost; intro bs)
    | exact mild_of_kept (by simp; done))
theorem mild_autoStatusSpec (c : Cmd) (p : Bytes) (h : HostAnswer) (s : State) : VMild s (autoStatusSpec.run c p h s) := by
  unfold autoStatusSpec; dsimp only
  (repeat' first
    | with_reducible apply vmild_replyNow
    | (with_reducible apply vmild_oneQuad; intro q)
    | exact mild_of_kept (by simp; done))
theorem mild_autoStatsSpec (c : Cmd) (p : Bytes) (h : HostAnswer) (s : State) : VMild s (autoStatsSpec.run c p h s) := by
  unfold autoStatsSpec; dsimp only
  (repeat' first
    | with_reducible apply vmild_hostReady
    | with_reducible apply vmild_replyNow
    | (with_reducible apply vmild_oneQuad; intro q)
    | exact mild_of_kept (by simp; done)
    | split)
theorem mild_autoRepairSpec (c : Cmd) (p : Bytes) (h : HostAnswer) (s : State) : VMild s (autoRepairSpec.run c p h s) := by
  unfold autoRepairSpec; dsimp only
  (repeat' first
    | with_reducible apply vmild_checks
    | with_reducible apply vmild_manyQuads
    | with_reducible apply vmild_postCmd
    | (with_reducible apply vmild_withHost; intro bs)
    | exact mild_of_kept (by simp; done))
theorem mild_tmConfigSpec (c : Cmd) (p : Bytes) (h : HostAnswer) (s : State) : VMild s (tmConfigSpec.run c p h s) := by
  unfold tmConfigSpec; dsimp only
  (repeat' first
    | with_reducible apply vmild_checks
    | with_reducible apply vmild_postCmd
    | exact mild_of_kept (by simp; done))
theorem mild_tmSchedSpec (c : Cmd) (p : Bytes) (h : HostAnswer) (s : State) : VMild s (tmSchedSpec.run c p h s) := by
  unfold tmSchedSpec; dsimp only
  (repeat' first
    | with_reducible apply vmild_checks
    | with_reducible apply vmild_postCmd
    | exact mild_of_kept (by simp; done)
    | split)
theorem mild_tmShaperSpec (c : Cmd) (p : Bytes) (h : HostAnswer) (s : State) : VMild s (tmShaperSpec.run c p h s) := by
  unfold tmShaperSpec; dsimp only
  (repeat' first
    | with_reducible apply vmild_checks
    | with_reducible apply vmild_postCmd
    | exact mild_of_kept (by simp; done))
theorem mild_tmPolicerWriteSpec (c : Cmd) (p : Bytes) (h : HostAnswer) (s : State) : VMild s (tmPolicerWriteSpec.run c p h s) := by
  unfold tmPolicerWriteSpec; dsimp only
  (repeat' first
    | with_reducible apply vmild_checks
    | with_reducible apply vmild_postCmd
    | exact mild_of_kept (by simp; done))
theorem mild_tmPolicerReadSpec (c : Cmd) (p : Bytes) (h : HostAnswer) (s : State) : VMild s (tmPolicerReadSpec.run c p h s) := by
  unfold tmPolicerReadSpec; dsimp only
  (repeat' first
    | with_reducible apply vmild_postCmd
    | (with_reducible apply vmild_oneQuad; intro q)
    | exact mild_of_kept (by simp; done))
theorem mild_tmGateListSpec (c : Cmd) (p : Bytes) (h : HostAnswer) (s : State) : VMild s (tmGateListSpec.run c p h s) := by
  unfold tmGateListSpec pendGates; dsimp only
  (repeat' first
    | with_reducible apply vmild_checks
    | with_reducible apply vmild_replyNow
    | (with_reducible apply vmild_withHost; intro bs)
    | with_reducible exact vmild_badArg ..
    | exact mild_of_kept (by simp; done)
    | split)
theorem mild_tmGateStatusSpec (c : Cmd) (p : Bytes) (h : HostAnswer) (s : State) : VMild s (tmGateStatusSpec.run c p h s) := by
  unfold tmGateStatusSpec; dsimp only
  (repeat' first
    | with_reducible apply vmild_checks
    | with_reducible apply vmild_replyNow
    | exact mild_of_kept (by simp; done))
theorem mild_tmMaxSduSpec (c : Cmd) (p : Bytes) (h : HostAnswer) (s : State) : VMild s (tmMaxSduSpec.run c p h s) := by
  unfold tmMaxSduSpec; dsimp only
  (repeat' first
    | with_reducible apply vmild_checks
    | with_reducible apply vmild_postCmd
    | exact mild_of_kept (by simp; done))
theorem mild_tmQueueStatsSpec (c : Cmd) (p : Bytes) (h : HostAnswer) (s : State) : VMild s (tmQueueStatsSpec.run c p h s) := by
  unfold tmQueueStatsSpec; dsimp only
  (repeat' first
    | with_reducible apply vmild_checks
    | with_reducible apply vmild_postCmd
    | exact mild_of_kept (by simp; done))
theorem mild_tmSampleRingSpec (c : Cmd) (p : Bytes) (h : HostAnswer) (s : State) : VMild s (tmSampleRingSpec.run c p h s) := by
  unfold tmSampleRingSpec; dsimp only
  (repeat' first
    | with_reducible apply vmild_checks
    | with_reducible apply vmild_postCmd
    | exact mild_of_kept (by simp; done))
theorem mild_trustIdentitySpec (c : Cmd) (p : Bytes) (h : HostAnswer) (s : State) : VMild s (trustIdentitySpec.run c p h s) := by
  unfold trustIdentitySpec; dsimp only
  (repeat' first
    | with_reducible apply vmild_hostReady
    | with_reducible apply vmild_replyNow
    | exact mild_of_kept (by simp; done)
    | split)
theorem mild_trustProvisionSpec (c : Cmd) (p : Bytes) (h : HostAnswer) (s : State) : VMild s (trustProvisionSpec.run c p h s) := by
  unfold trustProvisionSpec; dsimp only
  apply vmild_checks
  apply vmild_requireH
  intro k
  simp only [Bool.and_eq_true, beq_iff_eq] at k
  split
  · exact vmild_trustGenerate s
  · exact vmild_trustInstall h s k.1
theorem mild_trustAttestSpec (c : Cmd) (p : Bytes) (h : HostAnswer) (s : State) : VMild s (trustAttestSpec.run c p h s) := by
  unfold trustAttestSpec; dsimp only
  (repeat' first
    | with_reducible apply vmild_require
    | with_reducible apply vmild_hostReady
    | with_reducible apply vmild_postCmd
    | exact mild_of_kept (by simp; done))
theorem mild_trustLcStatusSpec (c : Cmd) (p : Bytes) (h : HostAnswer) (s : State) : VMild s (trustLcStatusSpec.run c p h s) := by
  unfold trustLcStatusSpec; dsimp only
  (repeat' first
    | with_reducible apply vmild_replyNow
    | exact mild_of_kept (by simp; done)
    | split)
theorem mild_trustLcAdvanceSpec (c : Cmd) (p : Bytes) (h : HostAnswer) (s : State) : VMild s (trustLcAdvanceSpec.run c p h s) := by
  unfold trustLcAdvanceSpec; dsimp only
  apply vmild_requireH
  intro k
  simp only [Bool.and_eq_true, beq_iff_eq] at k
  exact vmild_require _ _ (mild_lcAfter (kept_modTrust _ _ rfl) (by rw [k.1]; decide) (by decide))
theorem mild_trustReturnSpec (c : Cmd) (p : Bytes) (h : HostAnswer) (s : State) : VMild s (trustReturnSpec.run c p h s) := by
  unfold trustReturnSpec; dsimp only
  (repeat' first
    | with_reducible apply vmild_checks
    | with_reducible apply vmild_require
    | with_reducible apply vmild_replyNow
    | (with_reducible apply vmild_withHost; intro bs)
    | exact mild_of_kept (by simp; done))
theorem mild_trustConsentSpec (c : Cmd) (p : Bytes) (h : HostAnswer) (s : State) : VMild s (trustConsentSpec.run c p h s) := by
  unfold trustConsentSpec
  dsimp only
  split
  · trivial
  · apply vmild_require
    apply vmild_requireH
    intro k
    simp only [Bool.and_eq_true, beq_iff_eq] at k
    exact mild_lcAfter ((kept_modTrust _ _ rfl).trans (kept_modLedger _ _)) (by rw [k.2]; decide) (by decide)
theorem mild_ledgerKeyCreateSpec (c : Cmd) (p : Bytes) (h : HostAnswer) (s : State) : VMild s (ledgerKeyCreateSpec.run c p h s) := by
  unfold ledgerKeyCreateSpec; dsimp only
  (repeat' first
    | with_reducible apply vmild_require
    | with_reducible apply vmild_hostReady
    | with_reducible apply vmild_replyNow
    | exact mild_of_kept (by simp; done))
end Sys2Proof.Machine
end

