-- ==== Sys2Proof/Laws/MildAccept.lean ====
section
/-! SUPPORT. Taking up a mailbox command changes the state mildly. -/

namespace Sys2Proof.Machine

set_option linter.unusedVariables false

/-- Every command of the opcode index changes the state mildly. -/
def SpecMild (sp : CmdSpec) : Prop := ∀ c p h s, VMild s (sp.run c p h s)

theorem vmild_decideCmd (s : State) (c : Cmd) (spec : Option CmdSpec) (h : HostAnswer) (k : ∀ sp, spec = some sp → SpecMild sp) :
    VMild s (decideCmd s c spec h) := by
  unfold decideCmd
  dsimp only
  split
  · trivial
  · split
    · trivial
    · split
      · trivial
      · exact k _ rfl _ _ _ _

theorem mild_takeUp (s : State) (c : Cmd) (spec : Option CmdSpec) (h : HostAnswer) (k : ∀ sp, spec = some sp → SpecMild sp) :
    Mild s (takeUp s c spec h) := by
  unfold takeUp
  have v := vmild_decideCmd s c spec h k
  split
  · exact mild_of_kept ((keep_answer ..).trans (keep_refusalViolation ..))
  · exact mild_of_kept (keep_answer ..)
  · rename_i t r e
    rw [e] at v
    have w : Mild s (markAccepted c t) := Mild.andKept v (keep_markAccepted ..)
    dsimp only
    split
    · exact w.andKept (keep_answer ..)
    · exact w

theorem mild_acceptAny (specOf : Nat → Option CmdSpec) (m : Nat) (h : HostAnswer) (s : State)
    (k : ∀ op sp, specOf op = some sp → SpecMild sp) : Mild s (acceptAny specOf m h s) := by
  unfold acceptAny
  split
  · exact Mild.refl s
  · split
    · exact mild_takeUp _ _ _ _ (k _)
    · exact Mild.refl s

/-- Whether a command leaves the beat counter, the ACTIVE bank, the queue and the invariant, where it answers a next
state. -/
def OMild (s : State) : Outc → Prop
  | .next t => Mild s t
  | _ => True

theorem omild_need {s : State} {b : Bool} {w : String} {o : Outc} (h : OMild s o) : OMild s (need b w o) := by
  unfold need; split
  · exact h
  · trivial

theorem omild_acceptAs (op : Nat) (sp : CmdSpec) (m : Nat) (h : HostAnswer) (s : State) (k : SpecMild sp) :
    OMild s (acceptAs op sp m h s) := by
  unfold acceptAs
  apply omild_need
  show Mild s _
  split
  · exact Mild.refl s
  · split
    · exact mild_takeUp _ _ _ _ (by intro sp' e; cases e; exact k)
    · exact Mild.refl s

theorem specOf_mild (op : Nat) (sp : CmdSpec) (h : specOf op = some sp) : SpecMild sp := by
  unfold specOf at h
  have all : ∀ e ∈ opcodeIndex, SpecMild e.2 := by
    unfold opcodeIndex
    simp only [List.forall_mem_append]
    refine ⟨⟨⟨⟨⟨⟨⟨⟨⟨⟨⟨⟨⟨⟨⟨⟨?_, ?_⟩, ?_⟩, ?_⟩, ?_⟩, ?_⟩, ?_⟩, ?_⟩, ?_⟩, ?_⟩, ?_⟩, ?_⟩, ?_⟩, ?_⟩, ?_⟩, ?_⟩, ?_⟩ <;>
      simp only [opsSys, opsFw, opsTrust, opsPort, opsLane, opsRule, opsTable, opsTm, opsBuf, opsLedger, opsMem, opsLantern,
        opsTime, opsFault, opsPower, opsSlice, opsDiag, List.forall_mem_cons, List.not_mem_nil, false_implies, implies_true, and_true]
    · exact ⟨mild_sysEventRingSpec, mild_sysEventMaskSpec, mild_sysInfoSpec, mild_sysStatusSpec, mild_sysResetSpec, mild_sysBootLogSpec⟩
    · exact ⟨mild_fwStatusSpec, mild_fwStageSpec, mild_fwVerifySpec, mild_fwActivateSpec, mild_fwAbortSpec⟩
    · exact ⟨mild_trustIdentitySpec, mild_trustProvisionSpec, mild_trustAttestSpec, mild_trustLcStatusSpec, mild_trustLcAdvanceSpec, mild_trustReturnSpec, mild_trustConsentSpec⟩
    · exact ⟨mild_portCreateSpec, mild_portDeleteSpec, mild_portAdminSpec, mild_portConfigSpec, mild_portStatusSpec, mild_portStatsSpec, mild_portPfcConfigSpec, mild_portPreemptConfigSpec, mild_portFlushSpec⟩
    · exact ⟨mild_laneConfigSpec, mild_laneEnableSpec, mild_laneDisableSpec, mild_laneStatusSpec, mild_laneGetCoeffSpec, mild_laneSetCoeffSpec, mild_laneRetrainSpec, mild_laneLoopbackSpec, mild_lanePrbsSpec, mild_laneEyeSpec, mild_laneCountersSpec, mild_laneTrainLogSpec, mild_laneQuietTlvSpec, mild_laneQuietPeerSpec, mild_laneQuietConfigSpec⟩
    · exact ⟨mild_ruleOpenSpec, mild_ruleLoadSpec, mild_ruleCommitSpec, mild_ruleAbortSpec, mild_ruleRevertSpec, mild_ruleStatusSpec, mild_ruleHashProbeSpec, mild_ruleParseStatsSpec⟩
    · exact ⟨mild_tableConfigSpec, mild_tableInsertSpec, mild_tableDeleteSpec, mild_tableReadSpec, mild_tableFlushSpec, mild_tableLearnConfigSpec, mild_tableLearnStatusSpec, mild_tableNotifyRingSpec, mild_tableStatsSpec, mild_tableNhStatusSpec, mild_ternGroupSpec, mild_ternWriteSpec, mild_ternMoveSpec, mild_ternBlockMoveSpec, mild_ternReadSpec, mild_ternStatusSpec, mild_ternStatsSpec, mild_autoLoadSpec, mild_autoStatusSpec, mild_autoStatsSpec, mild_autoRepairSpec⟩
    · exact ⟨mild_tmConfigSpec, mild_tmSchedSpec, mild_tmShaperSpec, mild_tmPolicerWriteSpec, mild_tmPolicerReadSpec, mild_tmGateListSpec, mild_tmGateStatusSpec, mild_tmMaxSduSpec, mild_tmQueueStatsSpec, mild_tmSampleRingSpec⟩
    · exact ⟨mild_bufPoolConfigSpec, mild_bufPoolMapSpec, mild_bufHeadroomSpec, mild_bufStatusSpec, mild_bufStatsSpec, mild_bufMcWriteSpec, mild_bufMcReadSpec, mild_bufFabricStatusSpec, mild_bufPlaneAdminSpec, mild_bufReseqStatsSpec, mild_bufAuditSpec, mild_bufMirrorSpec⟩
    · exact ⟨mild_ledgerConfigSpec, mild_ledgerPolicySpec, mild_ledgerRingsSpec, mild_ledgerKeyCreateSpec, mild_ledgerStartSpec, mild_ledgerStopSpec, mild_ledgerStatusSpec, mild_ledgerSealGetSpec, mild_ledgerTenantGetSpec, mild_ledgerFlowGetSpec, mild_ledgerStatsSpec⟩
    · exact ⟨mild_memStatusSpec, mild_memLayoutSpec, mild_memRegionSpec, mild_memOnlineSpec, mild_memOfflineSpec, mild_memRebuildRateSpec, mild_memCaptureSpec, mild_memCaptureAckSpec, mild_memStatsSpec⟩
    · exact ⟨mild_lanternStreamSpec, mild_lanternPortSpec, mild_lanternTriggerSpec, mild_lanternTenantSpec, mild_lanternIpfixSpec, mild_lanternAckSpec, mild_lanternStatsSpec, mild_lanternPmcDumpSpec⟩
    · exact ⟨mild_timeStatusSpec, mild_timeStepSpec, mild_timeRateSpec, mild_timeStateSpec, mild_timePortDelaySpec, mild_timePortPtpSpec, mild_timePpsSpec, mild_timeSynceSpec, mild_timeTxtsReadSpec⟩
    · exact ⟨mild_faultStatusSpec, mild_faultAckSpec, mild_faultClearSpec, mild_faultForceSpec, mild_faultLogSpec, mild_faultConfigSpec⟩
    · exact ⟨mild_powerStatusSpec, mild_powerCapSpec, mild_powerConfigSpec, mild_powerReasonsSpec, mild_powerSensorsSpec⟩
    · exact ⟨mild_sliceStatusSpec, mild_sliceTakeoverSpec, mild_sliceReleaseSpec, mild_sliceSelfCheckSpec⟩
    · exact ⟨mild_diagEchoSpec, mild_diagDelaySpec, mild_diagProtoLogSpec⟩
  cases e : opcodeIndex.find? fun e => e.1 == op with
  | none => rw [e] at h; cases h
  | some x => rw [e] at h; cases h; exact all _ (List.mem_of_find?_eq_some e)

end Sys2Proof.Machine
end

