-- ==== Sys2Proof/Laws/MildSettings.lean ====
section
/-! SUPPORT. Function resets, faults, the rule banks' operations and every posted setting change the state mildly. -/

namespace Sys2Proof.Machine

set_option linter.unusedVariables false

theorem mild_abandonRuleLoad (s : State) : Mild s (abandonRuleLoad s) := by
  unfold abandonRuleLoad
  dsimp only
  split
  · exact (mild_modBank s _ fun b h h' => by exact ⟨h, by simp⟩).trans (mild_modRules _ _ rfl rfl rfl)
  · exact Mild.refl s

theorem mild_flr0 (s : State) : Mild s (flr0 s) :=
  ((((((mild_abandonRuleLoad (flrMailboxes s)).after (keep_flrMailboxes s)).andKept (keep_abandonAutoLoads _)).andKept
    (keep_flrFirmware _)).andKept (keep_flrEngines _))).andKept (keep_flrRegisters _)

theorem keep_hotReset (s : State) : (hotReset s).kept = (flr1 (flr0 s)).kept := by
  unfold hotReset
  generalize flr1 (flr0 s) = t
  exact kept_modGlb _ _ rfl

theorem mild_hotReset (s : State) : Mild s (hotReset s) :=
  ((mild_flr0 s).andKept (keep_flr1 _)).andKept (keep_hotReset s)

theorem mild_refclkLoss (i : Nat) (s : State) : Mild s (refclkLoss i s) := by
  unfold refclkLoss
  split
  · exact mild_of_kept (by simp)
  · dsimp only
    refine Mild.andKept ?_ (keep_eachDo _ _ _ fun x s => keep_memLosing ..)
    have e := (keep_detect 444 i 0 [] (s.modBoot fun b => { b with pcieLost := true })).trans (kept_modBoot _ _)
    split
    · exact (mild_hotReset _).after e
    · exact mild_of_kept e

theorem mild_iteSnd {c : Prop} [Decidable c] {s : State} {a b : Bool × State} (h : Mild s a.2) (k : Mild s b.2) :
    Mild s (if c then a else b).2 := by
  split <;> assumption

theorem mild_faultEffect (i j : Nat) (d : Bytes) (s : State) : Mild s (faultEffect i j d s).2 := by
  unfold faultEffect
  repeat' with_reducible apply mild_iteSnd
  · exact mild_of_kept (kept_modBuf ..)
  · exact mild_of_kept (keep_modQuad ..)
  · exact Mild.refl s
  · exact mild_of_kept (keep_post ..)
  · exact mild_of_kept (keep_ternUpset ..)
  · exact mild_of_kept (keep_autoWeakWord ..)
  · exact mild_of_kept (keep_post ..)
  · exact mild_of_kept (keep_autoBadWord ..)
  · exact mild_of_kept (keep_planeFail ..)
  · exact mild_of_kept (kept_modBuf ..)
  · exact mild_of_kept (kept_iteP _ (kept_modBuf ..) (keep_eccUncorr ..))
  · exact mild_of_kept (keep_pllUnlock ..)
  · exact mild_refclkLoss ..
  · exact Mild.refl s

theorem mild_drainComplete (s : State) : Mild s (drainComplete s) := by
  unfold drainComplete
  dsimp only
  split
  · exact (mild_modBank s _ fun b h h' => by simp).andKept (keep_raiseEvent ..)
  · exact Mild.refl s

theorem mild_drainStuck (s : State) : Mild s (drainStuck s) := by
  unfold drainStuck
  dsimp only
  split
  · refine Mild.andKept (Mild.trans ?_ (mild_modRules _ _ rfl rfl rfl)) (kept_modBuf _ _)
    refine Mild.andKept ?_ (keep_modInflight ..)
    generalize e : raiseEvent 0x0603 _ _ = u
    have k : u.kept = s.kept := by rw [← e]; exact (keep_raiseEvent ..).trans (keep_detect ..)
    have o : otherBank s = otherBank u := by
      unfold otherBank; rw [(mild_of_kept k).active]
    rw [o]
    exact (mild_modBank u _ fun b h h' => by simp).after k
  · exact Mild.refl s

theorem mild_drainWatch (s : State) : Mild s (drainWatch s) := mild_modRules _ _ rfl rfl rfl

theorem mild_showStates (s : State) : Mild s (showStates s) := by
  refine ⟨rfl, ?_, rfl, rfl, Nat.le_refl _, rfl, ?_⟩
  · unfold showStates State.modRules; dsimp only; split <;> rfl
  · rintro ⟨i, r⟩
    refine ⟨?_, r⟩
    unfold oneActive showStates State.modRules at *
    dsimp only
    rcases i with ⟨a, b, c, d⟩ | ⟨a, b, c, d⟩
    · rw [if_pos a]; exact .inl ⟨a, b, d, d⟩
    · rw [if_neg (by rw [a]; decide)]; exact .inr ⟨a, b, d, d⟩

/-- The other bank, named from a state before. -/
theorem mild_modOther {s : State} (o : Nat) (f : Bank → Bank) (e : o = otherBank s)
    (h : ∀ b, b.st ≠ 3 → b.pst ≠ 3 → (f b).st ≠ 3 ∧ (f b).pst ≠ 3) : Mild s (modBank o f s) := by
  subst e; exact mild_modBank s f h

theorem Mild.otherBank {s t : State} (h : Mild s t) : Sys2Proof.Machine.otherBank s = Sys2Proof.Machine.otherBank t := by
  unfold Sys2Proof.Machine.otherBank; rw [h.active]

theorem mild_applyRuleOpen (n : Nat) (p : Bytes) (s : State) : Mild s (applyRuleOpen n p s) := by
  unfold applyRuleOpen
  refine Mild.andKept ?_ (keep_answerOk ..)
  refine Mild.trans ?_ (mild_modRules _ _ rfl rfl rfl)
  exact mild_modBank s _ fun b h h' => ⟨h, h'⟩

theorem mild_applyRuleLoad (n : Nat) (p : Bytes) (s : State) : Mild s (applyRuleLoad n p s) := by
  have k0 : Mild s (s.modRules fun r => { r with placing := none }) := mild_modRules _ _ rfl rfl rfl
  unfold applyRuleLoad
  dsimp only
  split
  · exact mild_of_kept (keep_answer ..)
  · split
    · exact mild_of_kept (keep_post ..)
    · split
      · refine Mild.andKept ?_ (keep_answer ..)
        exact k0.trans (mild_modOther _ _ k0.otherBank fun b h h' => ⟨h, by simp⟩)
      · rename_i body e
        refine Mild.andKept ?_ (keep_answer ..)
        have k := k0.andKept (keep_eachDo body.tern (placeEntry (Machine.otherBank s)) _ fun y s => keep_placeEntry ..)
        exact k.trans (mild_modOther _ _ k.otherBank fun b h h' => ⟨h, by simp⟩)

/-- A mild change that leaves the posted switch. -/
structure Still (s t : State) : Prop where
  mild : Mild s t
  sw : t.rules.sw = s.rules.sw

theorem Still.refl (s : State) : Still s s := ⟨Mild.refl s, rfl⟩
theorem Still.trans {s t u : State} (h : Still s t) (k : Still t u) : Still s u := ⟨h.mild.trans k.mild, k.sw.trans h.sw⟩
theorem still_of_kept {s t : State} (h : t.kept = s.kept) : Still s t := by
  refine ⟨mild_of_kept h, ?_⟩
  simp only [State.kept, Rules.codes, List.cons_append, List.nil_append, Prod.mk.injEq, List.cons.injEq] at h
  exact h.1.2.1
theorem Still.andKept {s t u : State} (h : Still s t) (k : u.kept = t.kept) : Still s u := h.trans (still_of_kept k)
theorem still_eachDo {α : Type} (l : List α) (f : α → State → State) (s : State) (h : ∀ x s, Still s (f x s)) :
    Still s (eachDo l f s) := by
  unfold eachDo
  induction l generalizing s with
  | nil => exact Still.refl s
  | cons a l ih => exact (h a s).trans (ih (f a s))

theorem modBank_sw (i : Nat) (f : Bank → Bank) (s : State) : (modBank i f s).rules.sw = s.rules.sw := by
  unfold modBank State.modRules; dsimp only; split <;> rfl

theorem still_applyRuleOpen (n : Nat) (p : Bytes) (s : State) : Still s (applyRuleOpen n p s) := by
  refine ⟨mild_applyRuleOpen n p s, ?_⟩
  unfold applyRuleOpen
  dsimp only
  rw [(still_of_kept (keep_answerOk ..)).sw]
  exact modBank_sw ..

theorem still_applyRuleLoad (n : Nat) (p : Bytes) (s : State) : Still s (applyRuleLoad n p s) := by
  refine ⟨mild_applyRuleLoad n p s, ?_⟩
  unfold applyRuleLoad
  dsimp only
  split
  · exact (still_of_kept (keep_answer ..)).sw
  · split
    · exact (still_of_kept (keep_post ..)).sw
    · split
      · exact (still_of_kept (keep_answer ..)).sw.trans (modBank_sw ..)
      · rename_i body e
        refine (still_of_kept (keep_answer ..)).sw.trans ((modBank_sw ..).trans ?_)
        exact (still_of_kept (keep_eachDo body.tern (placeEntry (Machine.otherBank s)) _ fun y s => keep_placeEntry ..)).sw

/-- A setting that changes the state mildly and posts no switch. -/
def SettingMild (e : Setting) : Prop := ∀ w s, Still s (e.2 w s)

/-- A list of such settings. -/
def AllMild (l : List Setting) : Prop := ∀ e ∈ l, SettingMild e

theorem allMild_nil : AllMild [] := fun _ h => absurd h List.not_mem_nil
theorem allMild_cons {e : Setting} {l : List Setting} (h : SettingMild e) (k : AllMild l) : AllMild (e :: l) :=
  List.forall_mem_cons.2 ⟨h, k⟩
theorem mild_bySetting {k : Nat} {f : Nat → Bytes → State → State} (h : ∀ o r s, Still s (f o r s)) : SettingMild (bySetting k f) :=
  fun _ _ => h ..
theorem mild_byData {k : Nat} {f : Nat → Bytes → Bytes → State → State} (h : ∀ o r d s, Still s (f o r d s)) :
    SettingMild (byData k f) := fun _ _ => h ..
theorem mild_byWrite {k : Nat} {f : Bytes → State → State} (h : ∀ r s, Still s (f r s)) : SettingMild (byWrite k f) :=
  fun _ _ => h ..
theorem mild_beatAnswered {k : Nat} {f : Bytes → State → State} (h : ∀ r s, Still s (f r s)) : SettingMild (beatAnswered k f) :=
  fun _ _ => (h ..).andKept (keep_answerBeat ..)

theorem allMild_settingsPort : AllMild (settingsPort) := by
  unfold settingsPort
  refine allMild_cons (mild_bySetting fun _ _ _ => still_of_kept (keep_applyPortCreate ..)) ?_
  refine allMild_cons (mild_bySetting fun _ _ _ => still_of_kept (keep_applyPortDelete ..)) ?_
  refine allMild_cons (mild_bySetting fun _ _ _ => still_of_kept (keep_applyPortAdmin ..)) ?_
  refine allMild_cons (mild_bySetting fun _ _ _ => still_of_kept (keep_applyPortConfig ..)) ?_
  refine allMild_cons (mild_bySetting fun _ _ _ => still_of_kept (keep_applyPortStats ..)) ?_
  refine allMild_cons (mild_bySetting fun _ _ _ => still_of_kept (keep_applyPortPfcConfig ..)) ?_
  refine allMild_cons (mild_bySetting fun _ _ _ => still_of_kept (keep_applyPortPreemptConfig ..)) ?_
  refine allMild_cons (mild_bySetting fun _ _ _ => still_of_kept (keep_applyPortFlush ..)) ?_
  refine allMild_cons (mild_bySetting fun _ _ _ => still_applyRuleOpen ..) ?_
  refine allMild_cons (mild_bySetting fun _ _ _ => still_applyRuleLoad ..) ?_
  refine allMild_cons (mild_bySetting fun _ _ _ => still_of_kept (keep_answerBeat ..)) ?_
  refine allMild_cons (mild_bySetting fun _ _ _ => still_of_kept (keep_applyRuleRevert ..)) ?_
  exact allMild_nil

theorem allMild_settingsTable (pre : Tables) : AllMild (settingsTable pre) := by
  unfold settingsTable
  refine allMild_cons (mild_bySetting fun _ _ _ => still_of_kept (keep_applyTableConfig ..)) ?_
  refine allMild_cons (mild_bySetting fun _ _ _ => still_of_kept (keep_applyTableInsert ..)) ?_
  refine allMild_cons (mild_bySetting fun _ _ _ => still_of_kept (keep_applyTableDelete ..)) ?_
  refine allMild_cons (mild_bySetting fun _ _ _ => still_of_kept (keep_applyTableFlush ..)) ?_
  refine allMild_cons (mild_bySetting fun _ _ _ => still_of_kept (keep_applyLearnConfig ..)) ?_
  refine allMild_cons (mild_bySetting fun _ _ _ => still_of_kept (keep_applyTableStats ..)) ?_
  refine allMild_cons (mild_bySetting fun _ _ _ => still_of_kept (keep_applyTernGroup ..)) ?_
  refine allMild_cons (mild_byData fun _ _ _ _ => still_of_kept (keep_applyTernWrite ..)) ?_
  refine allMild_cons (mild_byData fun _ _ _ _ => still_of_kept (keep_applyTernMove ..)) ?_
  refine allMild_cons (mild_bySetting fun _ _ _ => still_of_kept (keep_applyTernStats ..)) ?_
  refine allMild_cons (mild_byWrite fun _ _ => still_of_kept (keep_tdcStarted ..)) ?_
  refine allMild_cons (mild_byData fun _ _ _ _ => still_of_kept (keep_applyAutoLoad ..)) ?_
  refine allMild_cons (mild_byData fun _ _ _ _ => still_of_kept (keep_applyAutoRepair ..)) ?_
  exact allMild_nil

theorem allMild_settingsTraffic : AllMild (settingsTraffic) := by
  unfold settingsTraffic
  refine allMild_cons (mild_bySetting fun _ _ _ => still_of_kept (keep_applyTmConfig ..)) ?_
  refine allMild_cons (mild_bySetting fun _ _ _ => still_of_kept (keep_applyTmSched ..)) ?_
  refine allMild_cons (mild_bySetting fun _ _ _ => still_of_kept (keep_applyTmShaper ..)) ?_
  refine allMild_cons (mild_bySetting fun _ _ _ => still_of_kept (keep_applyPolicerWrite ..)) ?_
  refine allMild_cons (mild_bySetting fun _ _ _ => still_of_kept (keep_applyPolicerRead ..)) ?_
  refine allMild_cons (mild_byWrite fun _ _ => still_of_kept (keep_applyGateOff ..)) ?_
  refine allMild_cons (mild_bySetting fun _ _ _ => still_of_kept (keep_applyGateStatus ..)) ?_
  refine allMild_cons (mild_bySetting fun _ _ _ => still_of_kept (keep_applyMaxSdu ..)) ?_
  refine allMild_cons (mild_bySetting fun _ _ _ => still_of_kept (keep_applyQueueStats ..)) ?_
  refine allMild_cons (mild_bySetting fun _ _ _ => still_of_kept (keep_applySampleRing ..)) ?_
  refine allMild_cons (mild_bySetting fun _ _ _ => still_of_kept (keep_applyPoolConfig ..)) ?_
  refine allMild_cons (mild_bySetting fun _ _ _ => still_of_kept (keep_applyPoolMap ..)) ?_
  refine allMild_cons (mild_bySetting fun _ _ _ => still_of_kept (keep_applyHeadroom ..)) ?_
  refine allMild_cons (mild_bySetting fun _ _ _ => still_of_kept (keep_applyBufStatus ..)) ?_
  refine allMild_cons (mild_bySetting fun _ _ _ => still_of_kept (keep_applyBufStats ..)) ?_
  refine allMild_cons (mild_byData fun _ _ _ _ => still_of_kept (keep_applyMcWrite ..)) ?_
  refine allMild_cons (mild_bySetting fun _ _ _ => still_of_kept (keep_applyMcRead ..)) ?_
  refine allMild_cons (mild_bySetting fun _ _ _ => still_of_kept (keep_applyFabricStatus ..)) ?_
  refine allMild_cons (mild_bySetting fun _ _ _ => still_of_kept (keep_applyPlaneAdmin ..)) ?_
  refine allMild_cons (mild_bySetting fun _ _ _ => still_of_kept (keep_applyReseqStats ..)) ?_
  refine allMild_cons (mild_byData fun _ _ _ _ => still_of_kept (keep_applyMirror ..)) ?_
  exact allMild_nil

theorem allMild_settingsServices : AllMild (settingsServices) := by
  unfold settingsServices
  refine allMild_cons (mild_bySetting fun _ _ _ => still_of_kept (keep_applyLedgerConfig ..)) ?_
  refine allMild_cons (mild_bySetting fun _ _ _ => still_of_kept (keep_applyLedgerPolicy ..)) ?_
  refine allMild_cons (mild_bySetting fun _ _ _ => still_of_kept (keep_applyLedgerRings ..)) ?_
  refine allMild_cons (mild_bySetting fun _ _ _ => still_of_kept (keep_applyMemRegion ..)) ?_
  refine allMild_cons (mild_bySetting fun _ _ _ => still_of_kept (keep_applyLedgerStart ..)) ?_
  refine allMild_cons (mild_bySetting fun _ _ _ => still_of_kept (keep_applyLedgerStop ..)) ?_
  refine allMild_cons (mild_bySetting fun _ _ _ => still_of_kept (keep_applyLanternStream ..)) ?_
  refine allMild_cons (mild_bySetting fun _ _ _ => still_of_kept (keep_applyLanternPort ..)) ?_
  refine allMild_cons (mild_bySetting fun _ _ _ => still_of_kept (keep_applyLanternTrigger ..)) ?_
  refine allMild_cons (mild_bySetting fun _ _ _ => still_of_kept (keep_applyLanternTenant ..)) ?_
  refine allMild_cons (mild_byData fun _ _ _ _ => still_of_kept (keep_applyLanternIpfix ..)) ?_
  refine allMild_cons (mild_bySetting fun _ _ _ => still_of_kept (keep_applyLanternStats ..)) ?_
  refine allMild_cons (mild_bySetting fun _ _ _ => still_of_kept (keep_applyPmcDump ..)) ?_
  refine allMild_cons (mild_bySetting fun _ _ _ => still_of_kept (keep_applyTimeStep ..)) ?_
  refine allMild_cons (mild_beatAnswered fun _ _ => still_of_kept (keep_applyRate ..)) ?_
  refine allMild_cons (mild_beatAnswered fun _ _ => still_of_kept (keep_applyState ..)) ?_
  refine allMild_cons (mild_beatAnswered fun _ _ => still_of_kept (keep_applyPortDelay ..)) ?_
  refine allMild_cons (mild_beatAnswered fun _ _ => still_of_kept (keep_applyPortPtp ..)) ?_
  refine allMild_cons (mild_beatAnswered fun _ _ => still_of_kept (keep_applyPps ..)) ?_
  refine allMild_cons (mild_beatAnswered fun _ _ => still_of_kept (keep_applySynce ..)) ?_
  refine allMild_cons (mild_bySetting fun _ _ _ => still_of_kept (keep_applyPowerCap ..)) ?_
  refine allMild_cons (mild_bySetting fun _ _ _ => still_of_kept (keep_applyPowerConfig ..)) ?_
  refine allMild_cons (mild_bySetting fun _ _ _ => still_of_kept (keep_applyPowerReasons ..)) ?_
  refine allMild_cons (mild_bySetting fun _ _ _ => still_of_kept (keep_applySliceRelease ..)) ?_
  exact allMild_nil

theorem allMild_settingsRegister : AllMild settingsRegister := by
  unfold settingsRegister
  refine allMild_cons (mild_byWrite fun _ _ => still_of_kept (keep_applyHckCtrl ..)) ?_
  refine allMild_cons (mild_byWrite fun _ _ => still_of_kept (keep_applyRate ..)) ?_
  refine allMild_cons (mild_byWrite fun _ _ => still_of_kept (keep_applyRestore ..)) ?_
  refine allMild_cons (mild_byWrite fun _ _ => still_of_kept (keep_scrubRepair ..)) ?_
  refine allMild_cons (mild_byWrite fun _ _ => still_of_kept (keep_applyAutoRewrite ..)) ?_
  refine allMild_cons (mild_byWrite fun _ _ => still_of_kept (keep_ternLose ..)) ?_
  intro e he
  obtain ⟨o, _, rfl⟩ := List.mem_map.1 he
  exact mild_byWrite fun _ _ => still_of_kept (keep_applyPwrWrite ..)

theorem allMild_settings (pre : Tables) : AllMild (settings pre) := by
  unfold AllMild settings
  simp only [List.forall_mem_append]
  exact ⟨⟨⟨⟨allMild_settingsPort, allMild_settingsTable pre⟩, allMild_settingsTraffic⟩, allMild_settingsServices⟩,
    allMild_settingsRegister⟩

theorem still_applySetting (pre : Tables) (w : Pend) (s : State) : Still s (applySetting pre w s) := by
  unfold applySetting
  split
  · exact Still.refl s
  · rename_i e h
    have k := allMild_settings pre e (List.mem_of_find?_eq_some h) w s
    dsimp only
    split
    · exact k
    · exact (k.andKept (keep_minuteStepped ..)).andKept (keep_minuteCross ..)

theorem still_phase3 (pre : Tables) (todo : List Pend) (s : State) : Still s (phase3 pre todo s) := by
  unfold phase3
  dsimp only
  refine Still.andKept ?_ (keep_gatesRefresh ..)
  refine Still.andKept ?_ (keep_nhQuarantines ..)
  refine Still.andKept ?_ (keep_linkChanges ..)
  refine Still.andKept ?_ (keep_watchdogsBoundary ..)
  refine Still.andKept ?_ (keep_slicesBoundary ..)
  refine Still.andKept ?_ (keep_memBoundary ..)
  refine Still.andKept ?_ (keep_applyOpenClear ..)
  refine Still.andKept ?_ (keep_eachDo _ _ _ fun _ _ => keep_ternMoveStep ..)
  refine Still.andKept ?_ (keep_pmcActions ..)
  refine Still.andKept ?_ (keep_eachDo _ _ _ fun _ _ => keep_tdcLockTimeout ..)
  refine Still.trans ?_ (still_eachDo _ _ _ fun w s => still_applySetting pre w s)
  refine Still.andKept ?_ (keep_eachDo _ _ _ fun _ _ => keep_tdcRunning ..)
  refine Still.trans ?_ (still_eachDo _ _ _ fun w s => still_applySetting pre w s)
  exact still_of_kept (keep_eachDo _ _ _ fun _ _ => keep_scrubQuad ..)

end Sys2Proof.Machine
end

