-- ==== Sys2Proof/Laws/Boundary.lean ====
section
/-! SUPPORT. What a beat boundary does to the beat counter, the ACTIVE bank, the queue and the invariant, phase by phase. -/

namespace Sys2Proof.Machine

set_option linter.unusedVariables false

/-- What every phase of the boundary but the last leaves: the beat counter, the queue and the invariant; the life cycle
does not go back. -/
structure Calm (s t : State) : Prop where
  beat : t.glb.beat = s.glb.beat
  lc : s.trust.lc ≤ t.trust.lc
  pending : t.pending = s.pending
  inv : Inv s → Inv t

/-- The Dimmer's level and its clock state move by one step at most. -/
structure OneStep (s t : State) : Prop where
  up : t.power.level ≤ s.power.level + 1
  down : s.power.level ≤ t.power.level + 1
  clkUp : t.power.clk ≤ s.power.clk + 1
  clkDown : s.power.clk ≤ t.power.clk + 1

theorem Mild.oneStepL {s t u : State} (h : Mild s t) (k : OneStep t u) : OneStep s u := by
  obtain ⟨a, b, c, d⟩ := k
  rw [h.level] at a b
  rw [h.clk] at c d
  exact ⟨a, b, c, d⟩
theorem OneStep.andMild {s t u : State} (h : OneStep s t) (k : Mild t u) : OneStep s u := by
  obtain ⟨a, b, c, d⟩ := h
  exact ⟨k.level ▸ a, k.level ▸ b, k.clk ▸ c, k.clk ▸ d⟩

theorem Mild.calm {s t : State} (h : Mild s t) : Calm s t := ⟨h.beat, h.lc, h.pending, h.inv⟩
theorem Calm.trans {s t u : State} (h : Calm s t) (k : Calm t u) : Calm s u :=
  ⟨k.beat.trans h.beat, Nat.le_trans h.lc k.lc, k.pending.trans h.pending, fun i => k.inv (h.inv i)⟩
theorem Calm.andKept {s t u : State} (h : Calm s t) (k : u.kept = t.kept) : Calm s u := h.trans (mild_of_kept k).calm

theorem ruleSwitch_active (s : State) :
    (ruleSwitch s).rules.active = if s.rules.sw = 0 then s.rules.active else if s.rules.active = 0 then 1 else 0 := by
  unfold ruleSwitch
  by_cases h : s.rules.sw = 0
  · simp [h]
  · rw [if_neg (by simpa using h), if_neg h]
    dsimp only
    rw [(mild_of_kept (keep_raiseEvent ..)).active]
    rfl

theorem calm_ruleSwitch (s : State) : Calm s (ruleSwitch s) := by
  unfold ruleSwitch
  split
  · exact (Mild.refl s).calm
  · dsimp only
    refine Calm.andKept ?_ (keep_raiseEvent ..)
    refine ⟨rfl, Nat.le_refl _, rfl, ?_⟩
    rintro ⟨i, r⟩
    refine ⟨?_, r⟩
    unfold oneActive otherBank State.modRules at *
    dsimp only
    rcases i with ⟨a, b, c, d⟩ | ⟨a, b, c, d⟩
    · rw [a]; right; simp
    · rw [a]; left; simp

theorem calm_phase5 (s : State) : Calm s (phase5 s) := by
  unfold phase5
  refine Calm.andKept ?_ (keep_ruleRegs ..)
  have a := ((mild_drainWatch s).trans (mild_showStates _)).calm
  exact ((a.trans (calm_ruleSwitch _)).trans (mild_drainComplete _).calm).trans (mild_drainStuck _).calm

theorem phase5_active (s : State) :
    (phase5 s).rules.active = if s.rules.sw = 0 then s.rules.active else if s.rules.active = 0 then 1 else 0 := by
  unfold phase5
  have a := (mild_drainWatch s).trans (mild_showStates _)
  have w : (showStates (drainWatch s)).rules.sw = s.rules.sw := by
    unfold showStates drainWatch State.modRules; dsimp only; split <;> rfl
  have e := ruleSwitch_active (showStates (drainWatch s))
  rw [(mild_of_kept (keep_ruleRegs _)).active, (mild_drainStuck _).active, (mild_drainComplete _).active, e, w, a.active]

theorem levelStep_ext (s : State) : (levelStep s).ext = s.power.ext := by
  unfold levelStep; dsimp only; repeat' split
  all_goals rfl

theorem levelFloor_le (s : State) (h : s.power.ext ≤ 4) : levelFloor s ≤ 4 := by
  have k : ∀ r, reasonMin s r ≤ 4 := by
    intro r
    unfold reasonMin
    repeat' split
    all_goals omega
  unfold levelFloor
  have := k 1; have := k 3; have := k 4
  omega

theorem levelStep_level (s : State) (h : s.power.ext ≤ 4) (k : s.power.level ≤ 4) : (levelStep s).level ≤ 4 := by
  have f := levelFloor_le s h
  unfold levelStep
  dsimp only
  repeat' split
  all_goals simp_all
  all_goals omega

theorem levelStep_clk (s : State) : (levelStep s).clk = s.power.clk := by
  unfold levelStep; dsimp only; repeat' split
  all_goals rfl

theorem dimmerPower_level (s : State) : (dimmerPower s).level = (levelStep s).level := (rfl)
theorem dimmerPower_ext (s : State) : (dimmerPower s).ext = s.power.ext := levelStep_ext s
theorem dimmerPower_clk (s : State) : (dimmerPower s).clk = clockStep s.power.clk (levelClock (levelStep s).level) := by
  rw [← levelStep_clk]; rfl

theorem levelClock_le (l : Nat) : levelClock l ≤ 2 := by
  unfold levelClock; split
  · decide
  · split <;> decide

theorem clockStep_le {a b : Nat} (h : a ≤ 2) (k : b ≤ 2) : clockStep a b ≤ 2 := by
  unfold clockStep
  repeat' split
  all_goals omega

theorem levelStep_near (s : State) : (levelStep s).level ≤ s.power.level + 1 ∧ s.power.level ≤ (levelStep s).level + 1 := by
  unfold levelStep
  dsimp only
  repeat' split
  all_goals constructor
  all_goals dsimp only
  all_goals omega

theorem clockStep_near (a b : Nat) : clockStep a b ≤ a + 1 ∧ a ≤ clockStep a b + 1 := by
  unfold clockStep
  repeat' split
  all_goals constructor
  all_goals omega

/-- The Dimmer's decision: all but its own level and clock state stay; those move by one step at most (R35, R475). -/
theorem calm_modDimmer (s : State) :
    Calm s (s.modPower fun _ => dimmerPower s) ∧ OneStep s (s.modPower fun _ => dimmerPower s) := by
  constructor
  · refine ⟨rfl, Nat.le_refl _, rfl, fun ⟨a, b, c, d, e⟩ => ⟨a, b, ?_, ?_, ?_⟩⟩
    · rw [modPower_power, dimmerPower_level]; exact levelStep_level s e c
    · rw [modPower_power, dimmerPower_clk]; exact clockStep_le d (levelClock_le _)
    · rw [modPower_power, dimmerPower_ext]; exact e
  · have l := levelStep_near s
    have k := clockStep_near s.power.clk (levelClock (levelStep s).level)
    refine ⟨?_, ?_, ?_, ?_⟩
    · rw [modPower_power, dimmerPower_level]; exact l.1
    · rw [modPower_power, dimmerPower_level]; exact l.2
    · rw [modPower_power, dimmerPower_clk]; exact k.1
    · rw [modPower_power, dimmerPower_clk]; exact k.2

theorem dimmerStep_rest (s : State) : Mild (s.modPower fun _ => dimmerPower s) (dimmerStep s) := by
  unfold dimmerStep
  dsimp only
  have n := (mild_of_kept (keep_reasonsBoundary (s.modPower fun _ => dimmerPower s))).andKept (keep_gateBoundary _)
  generalize gateBoundary _ = t at *
  split
  · exact n
  · have k := n.andKept (keep_pwrIrq 0 t)
    generalize pwrIrq 0 t = u at *
    split
    · exact k.andKept ((keep_raiseEvent ..).trans (kept_modPower _ _ rfl rfl rfl))
    · exact k

theorem phase10_step (s : State) :
    Calm s (phase10 s) ∧ OneStep s (phase10 s) ∧ (phase10 s).rules.active = s.rules.active := by
  unfold phase10
  have k : (thermalCross (eachDo (List.range 64) sensorStale (pollBoundary (estimateBeat s)))).kept = s.kept := by
    rw [keep_thermalCross, keep_eachDo _ _ _ fun _ _ => keep_sensorStale .., keep_pollBoundary, keep_estimateBeat]
  have m := mild_of_kept k
  generalize thermalCross _ = t at *
  have d := calm_modDimmer t
  have r := dimmerStep_rest t
  exact ⟨(m.calm.trans d.1).trans r.calm, m.oneStepL (d.2.andMild r), r.active.trans m.active⟩

/-- P11 ends with the beat counter's step; what it does before keeps what the laws speak of. -/
theorem phase11_split (old s : State) : ∃ u : State, u.kept = s.kept ∧
    phase11 old s = u.modGlb fun g => { g with lostCycles := 0, beat := (g.beat + 1) % 2 ^ 64 } := by
  refine ⟨_, ?_, rfl⟩
  rw [kept_modLantern, kept_modLedger, kept_modTabPrev, kept_modBuf, kept_modTab, kept_modFreshSet, keep_healthSnap,
    keep_releaseEvents, keep_wickBoundary]

theorem phase11_beat (old s : State) : (phase11 old s).glb.beat = (s.glb.beat + 1) % 2 ^ 64 := by
  obtain ⟨u, k, e⟩ := phase11_split old s
  rw [e, ← (mild_of_kept k).beat]; rfl

theorem phase11_rest (old s : State) :
    (phase11 old s).pending = s.pending ∧ (phase11 old s).rules.active = s.rules.active ∧
      s.trust.lc ≤ (phase11 old s).trust.lc ∧
      (phase11 old s).power.level = s.power.level ∧ (phase11 old s).power.clk = s.power.clk ∧ (Inv s → Inv (phase11 old s)) := by
  obtain ⟨u, h, e⟩ := phase11_split old s
  have k := mild_of_kept h
  rw [e]
  exact ⟨k.pending, k.active, k.lc, k.level, k.clk, k.inv⟩

theorem still_beforeP5 (inp : BeatInput) (s : State) : Still s (beforeP5 inp s) := by
  unfold beforeP5
  dsimp only
  refine Still.andKept ?_ (keep_phase4 _)
  refine Still.trans ?_ (still_phase3 _ _ _)
  refine still_of_kept ?_
  rw [kept_modBuf, keep_phase2, keep_tdcLocks, keep_phase1, keep_gatherEvents, keep_beatEnds, kept_modPend]

theorem modRules_power_level (s : State) (f : Rules → Rules) : (s.modRules f).power.level = s.power.level := rfl
theorem modRules_power_clk (s : State) (f : Rules → Rules) : (s.modRules f).power.clk = s.power.clk := rfl

theorem phase5_power (s : State) : (phase5 s).power.level = s.power.level ∧ (phase5 s).power.clk = s.power.clk := by
  unfold phase5
  have a := (mild_drainWatch s).trans (mild_showStates _)
  have b : ∀ t, (ruleSwitch t).power.level = t.power.level ∧ (ruleSwitch t).power.clk = t.power.clk := by
    intro t
    unfold ruleSwitch
    split
    · exact ⟨rfl, rfl⟩
    · dsimp only
      rw [(mild_of_kept (keep_raiseEvent ..)).level, (mild_of_kept (keep_raiseEvent ..)).clk]
      exact ⟨modRules_power_level .., modRules_power_clk ..⟩
  have c := ((mild_drainComplete (ruleSwitch (showStates (drainWatch s)))).trans (mild_drainStuck _)).andKept (keep_ruleRegs _)
  exact ⟨c.level.trans ((b _).1.trans a.level), c.clk.trans ((b _).2.trans a.clk)⟩

theorem afterP5_step (todo : List Pend) (s : State) :
    Calm s (afterP5 todo s) ∧ OneStep s (afterP5 todo s) ∧ (afterP5 todo s).rules.active = s.rules.active := by
  have k : (phase9 (phase8 todo (phase7 (phase6 s)))).kept = s.kept := by
    rw [keep_phase9, keep_phase8, keep_phase7, keep_phase6]
  have m := mild_of_kept k
  unfold afterP5
  dsimp only
  generalize phase9 _ = t at *
  have p := phase10_step t
  generalize phase10 t = u at *
  have q : Mild u (eachDo u.ports.keys quietEnter u) := mild_of_kept (keep_eachDo _ _ _ fun p x => keep_quietEnter p x)
  generalize eachDo u.ports.keys quietEnter u = v at *
  exact ⟨(m.calm.trans p.1).trans q.calm, m.oneStepL (p.2.1.andMild q), q.active.trans (p.2.2.trans m.active)⟩

/-- A boundary: the beat counter counts, the queue stays, the life cycle does not go back, the Dimmer moves by one step at
most, and the invariant is kept (R35, R36, R443, R475). -/
theorem beatBoundary_step (inp : BeatInput) (s : State) :
    (beatBoundary inp s).glb.beat = (s.glb.beat + 1) % 2 ^ 64 ∧ (beatBoundary inp s).pending = s.pending ∧
      s.trust.lc ≤ (beatBoundary inp s).trust.lc ∧ OneStep s (beatBoundary inp s) ∧ (Inv s → Inv (beatBoundary inp s)) := by
  unfold beatBoundary
  have m := (still_beforeP5 inp s).mild
  generalize beforeP5 inp s = b at *
  have p := calm_phase5 b
  have v := phase5_power b
  generalize phase5 b = q at *
  have a := afterP5_step (dueItems s) q
  generalize afterP5 (dueItems s) q = r at *
  have e := mild_of_kept (keep_attestEnd (dueItems s) r)
  generalize attestEnd (dueItems s) r = w at *
  have c := ((m.calm.trans p).trans a.1).trans e.calm
  have n := phase11_beat s w
  have x := phase11_rest s w
  generalize phase11 s w = z at *
  obtain ⟨f, _, g, l, k, d⟩ := x
  obtain ⟨o1, o2, o3, o4⟩ := a.2.1.andMild e
  rw [v.1, m.level] at o1 o2
  rw [v.2, m.clk] at o3 o4
  exact ⟨n.trans (by rw [c.beat]), f.trans c.pending, Nat.le_trans c.lc g, ⟨l ▸ o1, l ▸ o2, k ▸ o3, k ▸ o4⟩,
    fun h => d (c.inv h)⟩

/-- A boundary changes which bank is ACTIVE where a switch is posted, and nothing else does (R127). -/
theorem beatBoundary_active (inp : BeatInput) (s : State) : (beatBoundary inp s).rules.active =
    if s.rules.sw = 0 then s.rules.active else if s.rules.active = 0 then 1 else 0 := by
  unfold beatBoundary
  have a := still_beforeP5 inp s
  refine (phase11_rest ..).2.1.trans ((mild_of_kept (keep_attestEnd ..)).active.trans ((afterP5_step _ _).2.2.trans ?_))
  rw [phase5_active, a.sw, a.mild.active]

end Sys2Proof.Machine
end

