-- ==== Sys2Proof/Laws/MildExec.lean ====
section
/-! SUPPORT. Every command but the beat boundary and the resets changes the state mildly. -/

namespace Sys2Proof.Machine

set_option linter.unusedVariables false

theorem omild_next {s t : State} {o : Outc} (h : OMild s o) (e : o = .next t) : Mild s t := by
  subst e; exact h

theorem omild_execCommandAccept (m : Nat) (h : HostAnswer) (s : State) : OMild s (execCommandAccept m h s) := by
  unfold execCommandAccept
  exact omild_need (mild_acceptAny _ _ _ _ fun _ _ e => specOf_mild _ _ e)
theorem omild_execCollectorRunStoppedBeat (flowOk : Bool) (s : State) : OMild s (execCollectorRunStoppedBeat flowOk s) := by
  unfold execCollectorRunStoppedBeat; exact mild_of_kept (by simp)
theorem omild_execBufPoolConfig (m : Nat) (h : HostAnswer) (s : State) : OMild s (execBufPoolConfig m h s) := omild_acceptAs _ _ _ _ _ mild_bufPoolConfigSpec
theorem omild_execBufPoolMap (m : Nat) (h : HostAnswer) (s : State) : OMild s (execBufPoolMap m h s) := omild_acceptAs _ _ _ _ _ mild_bufPoolMapSpec
theorem omild_execBufHeadroom (m : Nat) (h : HostAnswer) (s : State) : OMild s (execBufHeadroom m h s) := omild_acceptAs _ _ _ _ _ mild_bufHeadroomSpec
theorem omild_execBufStatus (m : Nat) (h : HostAnswer) (s : State) : OMild s (execBufStatus m h s) := omild_acceptAs _ _ _ _ _ mild_bufStatusSpec
theorem omild_execBufStats (m : Nat) (h : HostAnswer) (s : State) : OMild s (execBufStats m h s) := omild_acceptAs _ _ _ _ _ mild_bufStatsSpec
theorem omild_execBufMcWrite (m : Nat) (h : HostAnswer) (s : State) : OMild s (execBufMcWrite m h s) := omild_acceptAs _ _ _ _ _ mild_bufMcWriteSpec
theorem omild_execBufMcRead (m : Nat) (h : HostAnswer) (s : State) : OMild s (execBufMcRead m h s) := omild_acceptAs _ _ _ _ _ mild_bufMcReadSpec
theorem omild_execBufFabricStatus (m : Nat) (h : HostAnswer) (s : State) : OMild s (execBufFabricStatus m h s) := omild_acceptAs _ _ _ _ _ mild_bufFabricStatusSpec
theorem omild_execBufPlaneAdmin (m : Nat) (h : HostAnswer) (s : State) : OMild s (execBufPlaneAdmin m h s) := omild_acceptAs _ _ _ _ _ mild_bufPlaneAdminSpec
theorem omild_execBufReseqStats (m : Nat) (h : HostAnswer) (s : State) : OMild s (execBufReseqStats m h s) := omild_acceptAs _ _ _ _ _ mild_bufReseqStatsSpec
theorem omild_execBufAudit (m : Nat) (h : HostAnswer) (s : State) : OMild s (execBufAudit m h s) := omild_acceptAs _ _ _ _ _ mild_bufAuditSpec
theorem omild_execBufAuditComplete (s : State) : OMild s (execBufAuditComplete s) := by
  unfold execBufAuditComplete; exact mild_of_kept (by simp)
theorem omild_execBufMirror (m : Nat) (h : HostAnswer) (s : State) : OMild s (execBufMirror m h s) := omild_acceptAs _ _ _ _ _ mild_bufMirrorSpec
theorem omild_execCellArriveResequencer (pkt slice ns : Nat) (s : State) : OMild s (execCellArriveResequencer pkt slice ns s) := by
  unfold execCellArriveResequencer; exact omild_need (mild_of_kept (by simp))
theorem omild_execReseqSkipTimeout (slice stream : Nat) (s : State) : OMild s (execReseqSkipTimeout slice stream s) := by
  unfold execReseqSkipTimeout; exact omild_need (mild_of_kept (by simp))
theorem omild_execEgressCutThroughStart (ci _ns : Nat) (s : State) : OMild s (execEgressCutThroughStart ci _ns s) := by
  unfold execEgressCutThroughStart; exact mild_of_kept (by simp)
theorem omild_execCrossingCellCrcFail (plane q pkt cell : Nat) (s : State) : OMild s (execCrossingCellCrcFail plane q pkt cell s) := by
  unfold execCrossingCellCrcFail; exact omild_need (mild_of_kept (by simp))
theorem omild_execXbarPlaneFail (plane q : Nat) (late : List LateCell) (s : State) : OMild s (execXbarPlaneFail plane q late s) := by
  unfold execXbarPlaneFail; exact omild_need (mild_of_kept (by simp))
theorem omild_execXbarPlaneRetrained (plane : Nat) (s : State) : OMild s (execXbarPlaneRetrained plane s) := by
  unfold execXbarPlaneRetrained; exact omild_need (mild_of_kept (by simp))
theorem omild_execHckStep (value : Nat) (s : State) : OMild s (execHckStep value s) := by
  unfold execHckStep; exact mild_of_kept (by simp)
theorem omild_execHckLock (value : Nat) (s : State) : OMild s (execHckLock value s) := by
  unfold execHckLock; exact mild_of_kept (by simp)
theorem omild_execHckRelease (value : Nat) (s : State) : OMild s (execHckRelease value s) := by
  unfold execHckRelease; exact mild_of_kept (by simp)
theorem omild_execHckRateWrite (value : Nat) (s : State) : OMild s (execHckRateWrite value s) := by
  exact mild_of_kept (keep_whenDo _ _ _ (kept_modTime ..))
theorem omild_execHckRateHiWrite (value : Nat) (s : State) : OMild s (execHckRateHiWrite value s) := by
  exact mild_of_kept (keep_whenDo _ _ _ ((keep_requestRate ..).trans (kept_modTime ..)))
theorem omild_execHckNsRead (s : State) : OMild s (execHckNsRead s) := by
  unfold execHckNsRead; exact mild_of_kept (by simp)
theorem omild_execHckTxtsInfoRead (s : State) : OMild s (execHckTxtsInfoRead s) := by
  unfold execHckTxtsInfoRead; exact mild_of_kept (by simp)
theorem omild_execHckTxtsPop (s : State) : OMild s (execHckTxtsPop s) := by
  exact mild_of_kept (keep_whenDo _ _ _ (kept_modTime ..))
theorem omild_execHckTxtsOvfCntRead (s : State) : OMild s (execHckTxtsOvfCntRead s) := by
  unfold execHckTxtsOvfCntRead; exact mild_of_kept (by simp)
theorem omild_execPpsInEdge (falling : Bool) (ns : Nat) (s : State) : OMild s (execPpsInEdge falling ns s) := by
  unfold execPpsInEdge; exact omild_need (mild_of_kept (by simp))
theorem omild_execPpsOutSecond (s : State) : OMild s (execPpsOutSecond s) := by
  unfold execPpsOutSecond; exact mild_of_kept (by simp)
theorem omild_execPpsOutWidthEnd (s : State) : OMild s (execPpsOutWidthEnd s) := by
  unfold execPpsOutWidthEnd; exact mild_of_kept (by simp)
theorem omild_execTimeStatus (m : Nat) (h : HostAnswer) (s : State) : OMild s (execTimeStatus m h s) := omild_acceptAs _ _ _ _ _ mild_timeStatusSpec
theorem omild_execTimeStep (m : Nat) (h : HostAnswer) (s : State) : OMild s (execTimeStep m h s) := omild_acceptAs _ _ _ _ _ mild_timeStepSpec
theorem omild_execTimeRate (m : Nat) (h : HostAnswer) (s : State) : OMild s (execTimeRate m h s) := omild_acceptAs _ _ _ _ _ mild_timeRateSpec
theorem omild_execTimeState (m : Nat) (h : HostAnswer) (s : State) : OMild s (execTimeState m h s) := omild_acceptAs _ _ _ _ _ mild_timeStateSpec
theorem omild_execTimePortDelay (m : Nat) (h : HostAnswer) (s : State) : OMild s (execTimePortDelay m h s) := omild_acceptAs _ _ _ _ _ mild_timePortDelaySpec
theorem omild_execTimePortPtp (m : Nat) (h : HostAnswer) (s : State) : OMild s (execTimePortPtp m h s) := omild_acceptAs _ _ _ _ _ mild_timePortPtpSpec
theorem omild_execTimePps (m : Nat) (h : HostAnswer) (s : State) : OMild s (execTimePps m h s) := omild_acceptAs _ _ _ _ _ mild_timePpsSpec
theorem omild_execTimeSynce (m : Nat) (h : HostAnswer) (s : State) : OMild s (execTimeSynce m h s) := omild_acceptAs _ _ _ _ _ mild_timeSynceSpec
theorem omild_execTimeTxtsRead (m : Nat) (h : HostAnswer) (s : State) : OMild s (execTimeTxtsRead m h s) := omild_acceptAs _ _ _ _ _ mild_timeTxtsReadSpec
theorem omild_execPmbusTransaction (reg : Nat) (cmd : PmbusCmd) (ok : Bool) (value : Nat) (s : State) : OMild s (execPmbusTransaction reg cmd ok value s) := by
  unfold execPmbusTransaction; exact omild_need (mild_of_kept (by simp))
theorem omild_execPmbAlert (reg status : Nat) (s : State) : OMild s (execPmbAlert reg status s) := by
  unfold execPmbAlert; exact omild_need (mild_of_kept (by simp))
theorem omild_execMismatchSteerBegin (s : State) : OMild s (execMismatchSteerBegin s) := by
  unfold execMismatchSteerBegin; exact mild_of_kept (by simp)
theorem omild_execMismatchContained (s : State) : OMild s (execMismatchContained s) := by
  unfold execMismatchContained; exact mild_of_kept (by simp)
theorem omild_execPollCycleEnd (s : State) : OMild s (execPollCycleEnd s) := by
  unfold execPollCycleEnd; exact mild_of_kept (by simp)
theorem omild_execSensorConversion (sensor : Nat) (reading : Int) (s : State) : OMild s (execSensorConversion sensor reading s) := by
  unfold execSensorConversion; exact omild_need (mild_of_kept (by simp))
theorem omild_execSensorStale (sensor : Nat) (s : State) : OMild s (execSensorStale sensor s) := by
  unfold execSensorStale; exact omild_need (mild_of_kept (by simp))
theorem omild_execDroopEpisode (cycles ns : Nat) (s : State) : OMild s (execDroopEpisode cycles ns s) := by
  unfold execDroopEpisode; exact omild_need (mild_of_kept (by simp))
theorem omild_execCoolantLow (s : State) : OMild s (execCoolantLow s) := by
  unfold execCoolantLow; exact mild_of_kept (by simp)
theorem omild_execCoolantStop (s : State) : OMild s (execCoolantStop s) := by
  unfold execCoolantStop; exact mild_of_kept (by simp)
theorem omild_execCoolantRestore (s : State) : OMild s (execCoolantRestore s) := by
  unfold execCoolantRestore; exact mild_of_kept (by simp)
theorem omild_execIdleUnitGate (unit : Nat) (s : State) : OMild s (execIdleUnitGate unit s) := by
  unfold execIdleUnitGate; exact omild_need (mild_of_kept (by simp))
theorem omild_execUnitUngate (unit : Nat) (s : State) : OMild s (execUnitUngate unit s) := by
  unfold execUnitUngate; exact mild_of_kept (by simp)
theorem omild_execPowerStatus (m : Nat) (h : HostAnswer) (s : State) : OMild s (execPowerStatus m h s) := omild_acceptAs _ _ _ _ _ mild_powerStatusSpec
theorem omild_execPowerCap (m : Nat) (h : HostAnswer) (s : State) : OMild s (execPowerCap m h s) := omild_acceptAs _ _ _ _ _ mild_powerCapSpec
theorem omild_execPowerConfig (m : Nat) (h : HostAnswer) (s : State) : OMild s (execPowerConfig m h s) := omild_acceptAs _ _ _ _ _ mild_powerConfigSpec
theorem omild_execPowerReasons (m : Nat) (h : HostAnswer) (s : State) : OMild s (execPowerReasons m h s) := omild_acceptAs _ _ _ _ _ mild_powerReasonsSpec
theorem omild_execPowerSensors (m : Nat) (h : HostAnswer) (s : State) : OMild s (execPowerSensors m h s) := omild_acceptAs _ _ _ _ _ mild_powerSensorsSpec
theorem omild_execPwrReasonBeatsLoRead (s : State) : OMild s (execPwrReasonBeatsLoRead s) := by
  unfold execPwrReasonBeatsLoRead; exact mild_of_kept (by simp)
theorem omild_execPwrDroopCntRead (s : State) : OMild s (execPwrDroopCntRead s) := by
  unfold execPwrDroopCntRead; exact mild_of_kept (by simp)
theorem omild_execHpVersion (s : State) : OMild s (execHpVersion s) := by
  unfold execHpVersion; exact mild_of_kept (by simp)
theorem omild_execHpSummary (s : State) : OMild s (execHpSummary s) := by
  unfold execHpSummary; exact mild_of_kept (by simp)
theorem omild_execHpTmax (s : State) : OMild s (execHpTmax s) := by
  unfold execHpTmax; exact mild_of_kept (by simp)
theorem omild_execHpTmaxSensor (s : State) : OMild s (execHpTmaxSensor s) := by
  unfold execHpTmaxSensor; exact mild_of_kept (by simp)
theorem omild_execHpPower (s : State) : OMild s (execHpPower s) := by
  unfold execHpPower; exact mild_of_kept (by simp)
theorem omild_execHpMeas (s : State) : OMild s (execHpMeas s) := by
  unfold execHpMeas; exact mild_of_kept (by simp)
theorem omild_execHpEst (s : State) : OMild s (execHpEst s) := by
  unfold execHpEst; exact mild_of_kept (by simp)
theorem omild_execHpFlow (s : State) : OMild s (execHpFlow s) := by
  unfold execHpFlow; exact mild_of_kept (by simp)
theorem omild_execHpFaults (s : State) : OMild s (execHpFaults s) := by
  unfold execHpFaults; exact mild_of_kept (by simp)
theorem omild_execHpSensor (sensor : Nat) (s : State) : OMild s (execHpSensor sensor s) := by
  unfold execHpSensor; exact omild_need (mild_of_kept (by simp))
theorem omild_execHpExtLevelRead (s : State) : OMild s (execHpExtLevelRead s) := by
  unfold execHpExtLevelRead; exact mild_of_kept (by simp)
theorem omild_execHpExtLevelWrite (level : Nat) (s : State) : OMild s (execHpExtLevelWrite level s) := by
  unfold execHpExtLevelWrite
  show Mild s _
  split
  · rename_i h
    simp only [Bool.and_eq_true, decide_eq_true_eq] at h
    exact ⟨rfl, rfl, rfl, rfl, Nat.le_refl _, rfl, fun ⟨a, b, c, d, _⟩ => ⟨a, b, c, d, Nat.le_of_lt_succ h.2⟩⟩
  · exact Mild.refl s
theorem omild_execSchedulerDecision (port ns : Nat) (s : State) : OMild s (execSchedulerDecision port ns s) := by
  unfold execSchedulerDecision; exact omild_need (mild_of_kept (by simp))
theorem omild_execTransmitComplete (port ns : Nat) (s : State) : OMild s (execTransmitComplete port ns s) := by
  unfold execTransmitComplete; exact omild_need (mild_of_kept (by simp))
theorem omild_execAgeingVisit (q : Nat) (s : State) : OMild s (execAgeingVisit q s) := by
  unfold execAgeingVisit; exact omild_need (mild_of_kept (by simp))
theorem omild_execFlapRelease (q key : Nat) (s : State) : OMild s (execFlapRelease q key s) := by
  unfold execFlapRelease; exact omild_need (mild_of_kept (by simp))
theorem omild_execFlapWindowEnd (q key : Nat) (s : State) : OMild s (execFlapWindowEnd q key s) := by
  unfold execFlapWindowEnd; exact omild_need (mild_of_kept (by simp))
theorem omild_execDeferredLearnRelease (q : Nat) (s : State) : OMild s (execDeferredLearnRelease q s) := by
  unfold execDeferredLearnRelease; exact omild_need (mild_of_kept (by simp))
theorem omild_execWickToggle (s : State) : OMild s (execWickToggle s) := by
  unfold execWickToggle; exact mild_of_kept (by simp)
theorem omild_execIttasWdogExpire (s : State) : OMild s (execIttasWdogExpire s) := by
  unfold execIttasWdogExpire; exact mild_of_kept (by simp)
theorem omild_execIttasWdogRestart (s : State) : OMild s (execIttasWdogRestart s) := by
  unfold execIttasWdogRestart; exact mild_of_kept (by simp)
theorem omild_execGraceTimerExpire (src : Nat) (s : State) : OMild s (execGraceTimerExpire src s) := by
  unfold execGraceTimerExpire; exact omild_need (mild_of_kept (by simp))
theorem omild_execPllUnlock (pll : Nat) (s : State) : OMild s (execPllUnlock pll s) := by
  unfold execPllUnlock; exact mild_of_kept (by simp)
theorem omild_execRefclkLoss (inst : Nat) (s : State) : OMild s (execRefclkLoss inst s) := by
  unfold execRefclkLoss
  exact omild_need (mild_ite (mild_refclkLoss ..) (Mild.refl s))
theorem omild_execFaultDetect (src inst cls : Nat) (detail : Bytes) (s : State) : OMild s (execFaultDetect src inst cls detail s) := by
  unfold execFaultDetect
  refine omild_need (mild_ite (Mild.refl s) ?_)
  exact mild_ite ((mild_faultEffect ..).andKept (keep_detect ..)) (mild_faultEffect ..)
theorem omild_execFaultCauseEnd (src inst : Nat) (s : State) : OMild s (execFaultCauseEnd src inst s) := by
  unfold execFaultCauseEnd; exact omild_need (mild_of_kept (by simp))
theorem omild_execFaultStatus (m : Nat) (h : HostAnswer) (s : State) : OMild s (execFaultStatus m h s) := omild_acceptAs _ _ _ _ _ mild_faultStatusSpec
theorem omild_execFaultAck (m : Nat) (h : HostAnswer) (s : State) : OMild s (execFaultAck m h s) := omild_acceptAs _ _ _ _ _ mild_faultAckSpec
theorem omild_execFaultClear (m : Nat) (h : HostAnswer) (s : State) : OMild s (execFaultClear m h s) := omild_acceptAs _ _ _ _ _ mild_faultClearSpec
theorem omild_execFaultForce (m : Nat) (h : HostAnswer) (s : State) : OMild s (execFaultForce m h s) := omild_acceptAs _ _ _ _ _ mild_faultForceSpec
theorem omild_execFaultLog (m : Nat) (h : HostAnswer) (s : State) : OMild s (execFaultLog m h s) := omild_acceptAs _ _ _ _ _ mild_faultLogSpec
theorem omild_execFaultConfig (m : Nat) (h : HostAnswer) (s : State) : OMild s (execFaultConfig m h s) := omild_acceptAs _ _ _ _ _ mild_faultConfigSpec
theorem omild_execFltAckWrite (value : Nat) (s : State) : OMild s (execFltAckWrite value s) := by
  unfold execFltAckWrite; exact mild_of_kept (by simp)
theorem omild_execFltClearWrite (value : Nat) (s : State) : OMild s (execFltClearWrite value s) := by
  unfold execFltClearWrite; exact mild_of_kept (by simp)
theorem omild_execFltForceWrite (n value : Nat) (s : State) : OMild s (execFltForceWrite n value s) := by
  unfold execFltForceWrite; exact omild_need (mild_of_kept (by simp))
theorem omild_execFltLogLostRead (s : State) : OMild s (execFltLogLostRead s) := by
  unfold execFltLogLostRead; exact mild_of_kept (by simp)
theorem omild_execFltPartnerCntRead (s : State) : OMild s (execFltPartnerCntRead s) := by
  unfold execFltPartnerCntRead; exact mild_of_kept (by simp)
theorem omild_execWickStopsRead (s : State) : OMild s (execWickStopsRead s) := by
  unfold execWickStopsRead; exact mild_of_kept (by simp)
theorem omild_execFwStatus (m : Nat) (h : HostAnswer) (s : State) : OMild s (execFwStatus m h s) := omild_acceptAs _ _ _ _ _ mild_fwStatusSpec
theorem omild_execFwStage (m : Nat) (h : HostAnswer) (s : State) : OMild s (execFwStage m h s) := omild_acceptAs _ _ _ _ _ mild_fwStageSpec
theorem omild_execFwVerify (m : Nat) (h : HostAnswer) (s : State) : OMild s (execFwVerify m h s) := omild_acceptAs _ _ _ _ _ mild_fwVerifySpec
theorem omild_execFwFlashWriteDone (ok : Bool) (offset : Nat) (s : State) : OMild s (execFwFlashWriteDone ok offset s) := by
  unfold execFwFlashWriteDone; exact mild_of_kept (by simp)
theorem omild_execFwActivate (m : Nat) (h : HostAnswer) (s : State) : OMild s (execFwActivate m h s) := omild_acceptAs _ _ _ _ _ mild_fwActivateSpec
theorem omild_execRollSignDone (s : State) : OMild s (execRollSignDone s) := by
  unfold execRollSignDone; exact mild_of_kept (by simp)
theorem omild_execHandoverStepDone (ok : Bool) (us : Nat) (s : State) : OMild s (execHandoverStepDone ok us s) := by
  unfold execHandoverStepDone; exact mild_of_kept (by simp)
theorem omild_execHandoverTimerExpire (s : State) : OMild s (execHandoverTimerExpire s) := by
  unfold execHandoverTimerExpire; exact mild_of_kept (by simp)
theorem omild_execFwAbort (m : Nat) (h : HostAnswer) (s : State) : OMild s (execFwAbort m h s) := omild_acceptAs _ _ _ _ _ mild_fwAbortSpec
theorem omild_execOtherSlotCheck (s : State) : OMild s (execOtherSlotCheck s) := by
  unfold execOtherSlotCheck; exact mild_of_kept (by simp)
theorem omild_execHrqTailWrite (ring value : Nat) (s : State) : OMild s (execHrqTailWrite ring value s) := by
  unfold execHrqTailWrite; exact omild_need (mild_of_kept (by simp))
theorem omild_execHrqReset (ring : Nat) (s : State) : OMild s (execHrqReset ring s) := by
  unfold execHrqReset; exact omild_need (mild_of_kept (by simp))
theorem omild_execHrqEnable (ring value : Nat) (s : State) : OMild s (execHrqEnable ring value s) := by
  unfold execHrqEnable; exact omild_need (mild_of_kept (by simp))
theorem omild_execHrqInterruptInterval (ring : Nat) (s : State) : OMild s (execHrqInterruptInterval ring s) := by
  unfold execHrqInterruptInterval; exact omild_need (mild_of_kept (by simp))
theorem omild_execRxFrameDeliver (ns : Nat) (descs : HostAnswer) (s : State) : OMild s (execRxFrameDeliver ns descs s) := by
  unfold execRxFrameDeliver; exact mild_of_kept (by simp)
theorem omild_execTxFrameFetch (descs : List HostAnswer) (data : HostAnswer) (s : State) : OMild s (execTxFrameFetch descs data s) := by
  unfold execTxFrameFetch; exact mild_of_kept (by simp)
theorem omild_execHostReadFail (ring : Nat) (timeout : Bool) (s : State) : OMild s (execHostReadFail ring timeout s) := by
  unfold execHostReadFail; exact omild_need (mild_of_kept (by simp))
theorem omild_execFilterCommitWrite (offset value : Nat) (s : State) : OMild s (execFilterCommitWrite offset value s) := by
  unfold execFilterCommitWrite; exact mild_of_kept (by simp)
theorem omild_execQueueStatFoldWrite (ring counter : Nat) (s : State) : OMild s (execQueueStatFoldWrite ring counter s) := by
  unfold execQueueStatFoldWrite; exact omild_need (mild_of_kept (by simp))
theorem omild_execMsixMessage (pf vector : Nat) (s : State) : OMild s (execMsixMessage pf vector s) := by
  unfold execMsixMessage; exact omild_need (mild_of_kept (by simp))
theorem omild_execIrqTestWrite (hi value : Nat) (s : State) : OMild s (execIrqTestWrite hi value s) := by
  unfold execIrqTestWrite; exact mild_of_kept (by simp)
theorem omild_execBmeClearPf1 (s : State) : OMild s (execBmeClearPf1 s) := by
  unfold execBmeClearPf1; exact mild_of_kept (by simp)
theorem omild_execBmeClearPf0 (s : State) : OMild s (execBmeClearPf0 s) := by
  unfold execBmeClearPf0; exact mild_of_kept (by simp)
theorem omild_execBmeSet (pf : Nat) (msix : Bool) (s : State) : OMild s (execBmeSet pf msix s) := by
  unfold execBmeSet; exact omild_need (mild_of_kept (by simp))
theorem omild_execFlrPf1 (s : State) : OMild s (execFlrPf1 s) := by
  unfold execFlrPf1; exact mild_of_kept (by simp)
theorem omild_execFlrPf0 (s : State) : OMild s (execFlrPf0 s) := by
  exact mild_flr0 s
theorem omild_execPcieHotReset (s : State) : OMild s (execPcieHotReset s) := by
  exact mild_hotReset s
theorem omild_execPcieLinkTrained (rate width : Nat) (s : State) : OMild s (execPcieLinkTrained rate width s) := by
  unfold execPcieLinkTrained; exact mild_of_kept (by simp)
theorem omild_execPciePartnerViolation (pf code : Nat) (s : State) : OMild s (execPciePartnerViolation pf code s) := by
  unfold execPciePartnerViolation; exact omild_need (mild_of_kept (by simp))
theorem omild_execGlbBeatLoRead (s : State) : OMild s (execGlbBeatLoRead s) := by
  unfold execGlbBeatLoRead; exact mild_of_kept (by simp)
theorem omild_execIngressSlot (slice ns : Nat) (s : State) : OMild s (execIngressSlot slice ns s) := by
  unfold execIngressSlot; exact omild_need (mild_of_kept (by simp))
theorem omild_execParseResume (pkt arrived ns : Nat) (s : State) : OMild s (execParseResume pkt arrived ns s) := by
  unfold execParseResume; exact mild_of_kept (by simp)
theorem omild_execLaneEnergyDetect (lane : Nat) (s : State) : OMild s (execLaneEnergyDetect lane s) := by
  unfold execLaneEnergyDetect; exact omild_need (mild_of_kept (by simp))
theorem omild_execAnResolved (lane : Nat) (page : AnPage) (s : State) : OMild s (execAnResolved lane page s) := by
  unfold execAnResolved
  refine omild_need (mild_of_kept (kept_iteP _ ?_ rfl))
  dsimp only
  split <;> simp
theorem omild_execPartnerTrainingRequest (lane : Nat) (req : TrainReq) (s : State) : OMild s (execPartnerTrainingRequest lane req s) := by
  unfold execPartnerTrainingRequest; exact omild_need (mild_of_kept (by simp))
theorem omild_execTrainReceiverReady (lane : Nat) (s : State) : OMild s (execTrainReceiverReady lane s) := by
  unfold execTrainReceiverReady; exact omild_need (mild_of_kept (by simp))
theorem omild_execLaneLockAchieved (lane : Nat) (s : State) : OMild s (execLaneLockAchieved lane s) := by
  unfold execLaneLockAchieved; exact omild_need (mild_of_kept (by simp))
theorem omild_execCapexComplete (lane : Nat) (check : CapexResult) (s : State) : OMild s (execCapexComplete lane check s) := by
  unfold execCapexComplete
  refine omild_need (mild_of_kept (kept_iteP _ rfl ?_))
  cases check
  · exact kept_iteP _ (keep_eachDo _ _ _ fun _ _ => keep_laneUp ..) rfl
  · exact keep_eachDo _ _ _ fun _ _ => keep_bringUpFail ..
  · exact keep_eachDo _ _ _ fun _ _ => keep_bringUpFail ..
theorem omild_execTrainingLimitExpire (lane : Nat) (s : State) : OMild s (execTrainingLimitExpire lane s) := by
  unfold execTrainingLimitExpire; exact omild_need (mild_of_kept (by simp))
theorem omild_execLockLimitExpire (lane : Nat) (s : State) : OMild s (execLockLimitExpire lane s) := by
  unfold execLockLimitExpire; exact omild_need (mild_of_kept (by simp))
theorem omild_execCapabilityLimitExpire (lane : Nat) (deskew : Bool) (s : State) : OMild s (execCapabilityLimitExpire lane deskew s) := by
  unfold execCapabilityLimitExpire
  refine omild_need (mild_of_kept (kept_iteP _ (keep_eachDo _ _ _ fun _ _ => ?_) rfl))
  split <;> exact keep_bringUpFail ..
theorem omild_execBlindLimitExpire (lane : Nat) (s : State) : OMild s (execBlindLimitExpire lane s) := by
  unfold execBlindLimitExpire; exact omild_need (mild_of_kept (by simp))
theorem omild_execRelinkWindowExpire (lane : Nat) (s : State) : OMild s (execRelinkWindowExpire lane s) := by
  unfold execRelinkWindowExpire; exact omild_need (mild_of_kept (by simp))
theorem omild_execRelinkLimitExpire (lane : Nat) (s : State) : OMild s (execRelinkLimitExpire lane s) := by
  unfold execRelinkLimitExpire; exact omild_need (mild_of_kept (by simp))
theorem omild_execRetryBackoffExpire (lane : Nat) (s : State) : OMild s (execRetryBackoffExpire lane s) := by
  unfold execRetryBackoffExpire; exact omild_need (mild_of_kept (by simp))
theorem omild_execLosDetect (lane : Nat) (s : State) : OMild s (execLosDetect lane s) := by
  unfold execLosDetect; exact omild_need (mild_of_kept (by simp))
theorem omild_execCdrLockLoss (lane : Nat) (s : State) : OMild s (execCdrLockLoss lane s) := by
  unfold execCdrLockLoss; exact omild_need (mild_of_kept (by simp))
theorem omild_execFecAlignLoss (lane : Nat) (s : State) : OMild s (execFecAlignLoss lane s) := by
  unfold execFecAlignLoss; exact omild_need (mild_of_kept (by simp))
theorem omild_execHiSer (lane : Nat) (s : State) : OMild s (execHiSer lane s) := by
  unfold execHiSer; exact omild_need (mild_of_kept (by simp))
theorem omild_execPartnerTrainingSeen (lane : Nat) (s : State) : OMild s (execPartnerTrainingSeen lane s) := by
  unfold execPartnerTrainingSeen; exact omild_need (mild_of_kept (by simp))
theorem omild_execRsFaultReceive (port : Nat) (lf rf : Bool) (s : State) : OMild s (execRsFaultReceive port lf rf s) := by
  unfold execRsFaultReceive; exact omild_need (mild_of_kept (by simp))
theorem omild_execKnownGoodStore (lane : Nat) (dsp : Bytes) (s : State) : OMild s (execKnownGoodStore lane dsp s) := by
  unfold execKnownGoodStore; exact omild_need (mild_of_kept (by simp))
theorem omild_execQuietIdleThreshold (port : Nat) (s : State) : OMild s (execQuietIdleThreshold port s) := by
  unfold execQuietIdleThreshold; exact omild_need (mild_of_kept (by simp))
theorem omild_execQuietWake (port : Nat) (s : State) : OMild s (execQuietWake port s) := by
  unfold execQuietWake; exact omild_need (mild_of_kept (by simp))
theorem omild_execQuietWakeComplete (port : Nat) (s : State) : OMild s (execQuietWakeComplete port s) := by
  unfold execQuietWakeComplete; exact omild_need (mild_of_kept (by simp))
theorem omild_execQuietRefresh (port : Nat) (s : State) : OMild s (execQuietRefresh port s) := by
  unfold execQuietRefresh; exact omild_need (mild_of_kept (by simp))
theorem omild_execPartnerQuietSignal (port : Nat) (signal : QuietSignal) (s : State) : OMild s (execPartnerQuietSignal port signal s) := by
  unfold execPartnerQuietSignal; refine omild_need (mild_of_kept ?_); (repeat' split) <;> simp_all
theorem omild_execQuietRefreshMiss (port : Nat) (s : State) : OMild s (execQuietRefreshMiss port s) := by
  unfold execQuietRefreshMiss; exact omild_need (mild_of_kept (by simp))
theorem omild_execEeeLpiReceive (port : Nat) (lpi : Lpi) (s : State) : OMild s (execEeeLpiReceive port lpi s) := by
  unfold execEeeLpiReceive; exact omild_need (mild_of_kept (by simp))
theorem omild_execEeeLpiTransmit (port : Nat) (lpi : Lpi) (s : State) : OMild s (execEeeLpiTransmit port lpi s) := by
  unfold execEeeLpiTransmit; exact omild_need (mild_of_kept (by simp))
theorem omild_execLaneConfig (m : Nat) (h : HostAnswer) (s : State) : OMild s (execLaneConfig m h s) := omild_acceptAs _ _ _ _ _ mild_laneConfigSpec
theorem omild_execLaneEnable (m : Nat) (h : HostAnswer) (s : State) : OMild s (execLaneEnable m h s) := omild_acceptAs _ _ _ _ _ mild_laneEnableSpec
theorem omild_execLaneDisable (m : Nat) (h : HostAnswer) (s : State) : OMild s (execLaneDisable m h s) := omild_acceptAs _ _ _ _ _ mild_laneDisableSpec
theorem omild_execLaneStatus (m : Nat) (h : HostAnswer) (s : State) : OMild s (execLaneStatus m h s) := omild_acceptAs _ _ _ _ _ mild_laneStatusSpec
theorem omild_execLaneGetCoeff (m : Nat) (h : HostAnswer) (s : State) : OMild s (execLaneGetCoeff m h s) := omild_acceptAs _ _ _ _ _ mild_laneGetCoeffSpec
theorem omild_execLaneSetCoeff (m : Nat) (h : HostAnswer) (s : State) : OMild s (execLaneSetCoeff m h s) := omild_acceptAs _ _ _ _ _ mild_laneSetCoeffSpec
theorem omild_execLaneRetrain (m : Nat) (h : HostAnswer) (s : State) : OMild s (execLaneRetrain m h s) := omild_acceptAs _ _ _ _ _ mild_laneRetrainSpec
theorem omild_execLaneLoopback (m : Nat) (h : HostAnswer) (s : State) : OMild s (execLaneLoopback m h s) := omild_acceptAs _ _ _ _ _ mild_laneLoopbackSpec
theorem omild_execLanePrbs (m : Nat) (h : HostAnswer) (s : State) : OMild s (execLanePrbs m h s) := omild_acceptAs _ _ _ _ _ mild_lanePrbsSpec
theorem omild_execLaneEye (m : Nat) (h : HostAnswer) (s : State) : OMild s (execLaneEye m h s) := omild_acceptAs _ _ _ _ _ mild_laneEyeSpec
theorem omild_execLaneCounters (m : Nat) (h : HostAnswer) (s : State) : OMild s (execLaneCounters m h s) := omild_acceptAs _ _ _ _ _ mild_laneCountersSpec
theorem omild_execLaneTrainLog (m : Nat) (h : HostAnswer) (s : State) : OMild s (execLaneTrainLog m h s) := omild_acceptAs _ _ _ _ _ mild_laneTrainLogSpec
theorem omild_execLaneQuietTlv (m : Nat) (h : HostAnswer) (s : State) : OMild s (execLaneQuietTlv m h s) := omild_acceptAs _ _ _ _ _ mild_laneQuietTlvSpec
theorem omild_execLaneQuietPeer (m : Nat) (h : HostAnswer) (s : State) : OMild s (execLaneQuietPeer m h s) := omild_acceptAs _ _ _ _ _ mild_laneQuietPeerSpec
theorem omild_execLaneQuietConfig (m : Nat) (h : HostAnswer) (s : State) : OMild s (execLaneQuietConfig m h s) := omild_acceptAs _ _ _ _ _ mild_laneQuietConfigSpec
theorem omild_execIpfixFlushTimeout (stream sl : Nat) (s : State) : OMild s (execIpfixFlushTimeout stream sl s) := by
  unfold execIpfixFlushTimeout; exact omild_need (mild_of_kept (by simp))
theorem omild_execIpfixTemplateRefresh (stream sl : Nat) (s : State) : OMild s (execIpfixTemplateRefresh stream sl s) := by
  unfold execIpfixTemplateRefresh; exact omild_need (mild_of_kept (by simp))
theorem omild_execLanternRingWrite (s : State) : OMild s (execLanternRingWrite s) := by
  unfold execLanternRingWrite; exact mild_of_kept (by simp)
theorem omild_execLanternStream (m : Nat) (h : HostAnswer) (s : State) : OMild s (execLanternStream m h s) := omild_acceptAs _ _ _ _ _ mild_lanternStreamSpec
theorem omild_execLanternPort (m : Nat) (h : HostAnswer) (s : State) : OMild s (execLanternPort m h s) := omild_acceptAs _ _ _ _ _ mild_lanternPortSpec
theorem omild_execLanternTrigger (m : Nat) (h : HostAnswer) (s : State) : OMild s (execLanternTrigger m h s) := omild_acceptAs _ _ _ _ _ mild_lanternTriggerSpec
theorem omild_execLanternTenant (m : Nat) (h : HostAnswer) (s : State) : OMild s (execLanternTenant m h s) := omild_acceptAs _ _ _ _ _ mild_lanternTenantSpec
theorem omild_execLanternIpfix (m : Nat) (h : HostAnswer) (s : State) : OMild s (execLanternIpfix m h s) := omild_acceptAs _ _ _ _ _ mild_lanternIpfixSpec
theorem omild_execLanternAck (m : Nat) (h : HostAnswer) (s : State) : OMild s (execLanternAck m h s) := omild_acceptAs _ _ _ _ _ mild_lanternAckSpec
theorem omild_execLanternStats (m : Nat) (h : HostAnswer) (s : State) : OMild s (execLanternStats m h s) := omild_acceptAs _ _ _ _ _ mild_lanternStatsSpec
theorem omild_execFlushRequestApply (q : Nat) (s : State) : OMild s (execFlushRequestApply q s) := by
  unfold execFlushRequestApply; exact omild_need (mild_of_kept (by simp))
theorem omild_execMemPoisonRead (p a : Nat) (reader : PoisonReader) (s : State) : OMild s (execMemPoisonRead p a reader s) := by
  unfold execMemPoisonRead; exact omild_need (mild_of_kept (by simp))
theorem omild_execMemPresenceStable (p : Nat) (s : State) : OMild s (execMemPresenceStable p s) := by
  unfold execMemPresenceStable; exact omild_need (mild_of_kept (by simp))
theorem omild_execMemPerstRelease (p : Nat) (s : State) : OMild s (execMemPerstRelease p s) := by
  unfold execMemPerstRelease; exact omild_need (mild_of_kept (by simp))
theorem omild_execMemLinkL0 (p rate width : Nat) (cxl : Bool) (s : State) : OMild s (execMemLinkL0 p rate width cxl s) := by
  unfold execMemLinkL0; exact omild_need (mild_of_kept (by simp))
theorem omild_execMemTrainingTimeout (p : Nat) (s : State) : OMild s (execMemTrainingTimeout p s) := by
  unfold execMemTrainingTimeout; exact omild_need (mild_of_kept (by simp))
theorem omild_execMemEnumerationDone (p : Nat) (ident : MemIdent) (s : State) : OMild s (execMemEnumerationDone p ident s) := by
  unfold execMemEnumerationDone; exact omild_need (mild_of_kept (by simp))
theorem omild_execMemLinkDown (p : Nat) (s : State) : OMild s (execMemLinkDown p s) := by
  unfold execMemLinkDown; exact omild_need (mild_of_kept (by simp))
theorem omild_execMemPresenceLost (p : Nat) (s : State) : OMild s (execMemPresenceLost p s) := by
  unfold execMemPresenceLost; exact omild_need (mild_of_kept (by simp))
theorem omild_execMemRequestTimeout (p : Nat) (s : State) : OMild s (execMemRequestTimeout p s) := by
  unfold execMemRequestTimeout; exact omild_need (mild_of_kept (by simp))
theorem omild_execMemBadCompletion (p code : Nat) (s : State) : OMild s (execMemBadCompletion p code s) := by
  unfold execMemBadCompletion; exact omild_need (mild_of_kept (by simp))
theorem omild_execMemViralIndication (p : Nat) (s : State) : OMild s (execMemViralIndication p s) := by
  unfold execMemViralIndication; exact omild_need (mild_of_kept (by simp))
theorem omild_execMemHealthRecord (p : Nat) (record : Bytes) (s : State) : OMild s (execMemHealthRecord p record s) := by
  unfold execMemHealthRecord; exact omild_need (mild_of_kept (by simp))
theorem omild_execResilverComplete (p : Nat) (s : State) : OMild s (execResilverComplete p s) := by
  unfold execResilverComplete; exact omild_need (mild_of_kept (by simp))
theorem omild_execZeroingComplete (p : Nat) (s : State) : OMild s (execZeroingComplete p s) := by
  unfold execZeroingComplete; exact omild_need (mild_of_kept (by simp))
theorem omild_execMemOfflineReached (p : Nat) (s : State) : OMild s (execMemOfflineReached p s) := by
  unfold execMemOfflineReached; refine omild_need (mild_of_kept ?_); (repeat' split) <;> simp_all
theorem omild_execMemStatus (m : Nat) (h : HostAnswer) (s : State) : OMild s (execMemStatus m h s) := omild_acceptAs _ _ _ _ _ mild_memStatusSpec
theorem omild_execMemLayout (m : Nat) (h : HostAnswer) (s : State) : OMild s (execMemLayout m h s) := omild_acceptAs _ _ _ _ _ mild_memLayoutSpec
theorem omild_execMemRegion (m : Nat) (h : HostAnswer) (s : State) : OMild s (execMemRegion m h s) := omild_acceptAs _ _ _ _ _ mild_memRegionSpec
theorem omild_execMemOnline (m : Nat) (h : HostAnswer) (s : State) : OMild s (execMemOnline m h s) := omild_acceptAs _ _ _ _ _ mild_memOnlineSpec
theorem omild_execMemOffline (m : Nat) (h : HostAnswer) (s : State) : OMild s (execMemOffline m h s) := omild_acceptAs _ _ _ _ _ mild_memOfflineSpec
theorem omild_execMemRebuildRate (m : Nat) (h : HostAnswer) (s : State) : OMild s (execMemRebuildRate m h s) := omild_acceptAs _ _ _ _ _ mild_memRebuildRateSpec
theorem omild_execMemCapture (m : Nat) (h : HostAnswer) (s : State) : OMild s (execMemCapture m h s) := omild_acceptAs _ _ _ _ _ mild_memCaptureSpec
theorem omild_execMemCaptureAck (m : Nat) (h : HostAnswer) (s : State) : OMild s (execMemCaptureAck m h s) := omild_acceptAs _ _ _ _ _ mild_memCaptureAckSpec
theorem omild_execMemStats (m : Nat) (h : HostAnswer) (s : State) : OMild s (execMemStats m h s) := omild_acceptAs _ _ _ _ _ mild_memStatsSpec
theorem omild_execCaptureRecordWrite (q : Nat) (s : State) : OMild s (execCaptureRecordWrite q s) := by
  unfold execCaptureRecordWrite; exact omild_need (mild_of_kept (by simp))
theorem omild_execMinuteEnd (s : State) : OMild s (execMinuteEnd s) := by
  unfold execMinuteEnd; exact mild_of_kept (by simp)
theorem omild_execRollStart (s : State) : OMild s (execRollStart s) := by
  unfold execRollStart; exact mild_of_kept (by simp)
theorem omild_execRollFlushDone (s : State) : OMild s (execRollFlushDone s) := by
  unfold execRollFlushDone; exact mild_of_kept (by simp)
theorem omild_execRollScanDone (s : State) : OMild s (execRollScanDone s) := by
  unfold execRollScanDone; exact mild_of_kept (by simp)
theorem omild_execRollTenantDone (s : State) : OMild s (execRollTenantDone s) := by
  unfold execRollTenantDone; exact mild_of_kept (by simp)
theorem omild_execLedgerConfig (m : Nat) (h : HostAnswer) (s : State) : OMild s (execLedgerConfig m h s) := omild_acceptAs _ _ _ _ _ mild_ledgerConfigSpec
theorem omild_execLedgerPolicy (m : Nat) (h : HostAnswer) (s : State) : OMild s (execLedgerPolicy m h s) := omild_acceptAs _ _ _ _ _ mild_ledgerPolicySpec
theorem omild_execLedgerRings (m : Nat) (h : HostAnswer) (s : State) : OMild s (execLedgerRings m h s) := omild_acceptAs _ _ _ _ _ mild_ledgerRingsSpec
theorem omild_execLedgerStart (m : Nat) (h : HostAnswer) (s : State) : OMild s (execLedgerStart m h s) := omild_acceptAs _ _ _ _ _ mild_ledgerStartSpec
theorem omild_execLedgerStop (m : Nat) (h : HostAnswer) (s : State) : OMild s (execLedgerStop m h s) := omild_acceptAs _ _ _ _ _ mild_ledgerStopSpec
theorem omild_execLedgerStatus (m : Nat) (h : HostAnswer) (s : State) : OMild s (execLedgerStatus m h s) := omild_acceptAs _ _ _ _ _ mild_ledgerStatusSpec
theorem omild_execLedgerSealGet (m : Nat) (h : HostAnswer) (s : State) : OMild s (execLedgerSealGet m h s) := omild_acceptAs _ _ _ _ _ mild_ledgerSealGetSpec
theorem omild_execLedgerTenantGet (m : Nat) (h : HostAnswer) (s : State) : OMild s (execLedgerTenantGet m h s) := omild_acceptAs _ _ _ _ _ mild_ledgerTenantGetSpec
theorem omild_execLedgerFlowGet (m : Nat) (h : HostAnswer) (s : State) : OMild s (execLedgerFlowGet m h s) := omild_acceptAs _ _ _ _ _ mild_ledgerFlowGetSpec
theorem omild_execLedgerStats (m : Nat) (h : HostAnswer) (s : State) : OMild s (execLedgerStats m h s) := omild_acceptAs _ _ _ _ _ mild_ledgerStatsSpec
theorem omild_execMbxDoorbell (m value : Nat) (s : State) : OMild s (execMbxDoorbell m value s) := by
  unfold execMbxDoorbell; exact omild_need (mild_of_kept (by simp))
theorem omild_execMailboxAreaWrite (offset : Nat) (bytes : Bytes) (s : State) : OMild s (execMailboxAreaWrite offset bytes s) := by
  unfold execMailboxAreaWrite; exact omild_need (mild_of_kept (by simp))
theorem omild_execEventRingWrite (s : State) : OMild s (execEventRingWrite s) := by
  unfold execEventRingWrite; exact mild_of_kept (by simp)
theorem omild_execResponsePost (m : Nat) (s : State) : OMild s (execResponsePost m s) := by
  unfold execResponsePost; exact omild_need (mild_of_kept (by simp))
theorem omild_execMbxGuardExpire (m : Nat) (s : State) : OMild s (execMbxGuardExpire m s) := by
  unfold execMbxGuardExpire; exact omild_need (mild_of_kept (by simp))
theorem omild_execMbxRespValidClear (m value : Nat) (s : State) : OMild s (execMbxRespValidClear m value s) := by
  unfold execMbxRespValidClear; exact omild_need (mild_of_kept (by simp))
theorem omild_execMbxEvtTailWrite (value : Nat) (s : State) : OMild s (execMbxEvtTailWrite value s) := by
  unfold execMbxEvtTailWrite; exact mild_of_kept (by simp)
theorem omild_execMbxOverrunCntRead (m : Nat) (s : State) : OMild s (execMbxOverrunCntRead m s) := by
  unfold execMbxOverrunCntRead; exact omild_need (mild_of_kept (by simp))
theorem omild_execMbxLateCntRead (m : Nat) (s : State) : OMild s (execMbxLateCntRead m s) := by
  unfold execMbxLateCntRead; exact omild_need (mild_of_kept (by simp))
theorem omild_execMbxEvtLostRead (s : State) : OMild s (execMbxEvtLostRead s) := by
  unfold execMbxEvtLostRead; exact mild_of_kept (by simp)
theorem omild_execSysEventRing (m : Nat) (h : HostAnswer) (s : State) : OMild s (execSysEventRing m h s) := omild_acceptAs _ _ _ _ _ mild_sysEventRingSpec
theorem omild_execSysEventMask (m : Nat) (h : HostAnswer) (s : State) : OMild s (execSysEventMask m h s) := omild_acceptAs _ _ _ _ _ mild_sysEventMaskSpec
theorem omild_execDiagEcho (m : Nat) (h : HostAnswer) (s : State) : OMild s (execDiagEcho m h s) := omild_acceptAs _ _ _ _ _ mild_diagEchoSpec
theorem omild_execDiagDelay (m : Nat) (h : HostAnswer) (s : State) : OMild s (execDiagDelay m h s) := omild_acceptAs _ _ _ _ _ mild_diagDelaySpec
theorem omild_execDiagProtoLog (m : Nat) (h : HostAnswer) (s : State) : OMild s (execDiagProtoLog m h s) := omild_acceptAs _ _ _ _ _ mild_diagProtoLogSpec
theorem omild_execXdcGo (c value : Nat) (s : State) : OMild s (execXdcGo c value s) := by
  unfold execXdcGo; exact omild_need (mild_of_kept (by simp))
theorem omild_execXdcAbort (c : Nat) (s : State) : OMild s (execXdcAbort c s) := by
  unfold execXdcAbort; exact omild_need (mild_of_kept (by simp))
theorem omild_execXdcErrorClear (c : Nat) (s : State) : OMild s (execXdcErrorClear c s) := by
  unfold execXdcErrorClear; exact omild_need (mild_of_kept (by simp))
theorem omild_execMoverChainDone (c : Nat) (s : State) : OMild s (execMoverChainDone c s) := by
  unfold execMoverChainDone; exact omild_need (mild_of_kept (by simp))
theorem omild_execMoverChannelStop (c code addr : Nat) (s : State) : OMild s (execMoverChannelStop c code addr s) := by
  unfold execMoverChannelStop; exact omild_need (mild_of_kept (by simp))
theorem omild_execMoverDescriptor (c : Nat) (desc table data : HostAnswer) (s : State) : OMild s (execMoverDescriptor c desc table data s) := by
  unfold execMoverDescriptor; exact omild_need (mild_of_kept (by simp))
theorem omild_execPmcCounterWrap (unit counter : Nat) (s : State) : OMild s (execPmcCounterWrap unit counter s) := by
  unfold execPmcCounterWrap; exact omild_need (mild_of_kept (by simp))
theorem omild_execPmcSnap (value : Nat) (s : State) : OMild s (execPmcSnap value s) := by
  unfold execPmcSnap; exact mild_of_kept (by simp)
theorem omild_execPmcClear (value : Nat) (s : State) : OMild s (execPmcClear value s) := by
  unfold execPmcClear; exact mild_of_kept (by simp)
theorem omild_execPmcRun (value : Nat) (s : State) : OMild s (execPmcRun value s) := by
  unfold execPmcRun; exact mild_of_kept (by simp)
theorem omild_execPmcCounterWrite (offset value : Nat) (s : State) : OMild s (execPmcCounterWrite offset value s) := by
  unfold execPmcCounterWrite; exact mild_of_kept (by simp)
theorem omild_execPmcCycLoRead (s : State) : OMild s (execPmcCycLoRead s) := by
  unfold execPmcCycLoRead; exact mild_of_kept (by simp)
theorem omild_execPmcSnapBeatLoRead (s : State) : OMild s (execPmcSnapBeatLoRead s) := by
  unfold execPmcSnapBeatLoRead; exact mild_of_kept (by simp)
theorem omild_execLanternPmcDump (m : Nat) (h : HostAnswer) (s : State) : OMild s (execLanternPmcDump m h s) := omild_acceptAs _ _ _ _ _ mild_lanternPmcDumpSpec
theorem omild_execPortCreate (m : Nat) (h : HostAnswer) (s : State) : OMild s (execPortCreate m h s) := omild_acceptAs _ _ _ _ _ mild_portCreateSpec
theorem omild_execPortDelete (m : Nat) (h : HostAnswer) (s : State) : OMild s (execPortDelete m h s) := omild_acceptAs _ _ _ _ _ mild_portDeleteSpec
theorem omild_execPortAdmin (m : Nat) (h : HostAnswer) (s : State) : OMild s (execPortAdmin m h s) := omild_acceptAs _ _ _ _ _ mild_portAdminSpec
theorem omild_execPortConfig (m : Nat) (h : HostAnswer) (s : State) : OMild s (execPortConfig m h s) := omild_acceptAs _ _ _ _ _ mild_portConfigSpec
theorem omild_execPortPfcConfig (m : Nat) (h : HostAnswer) (s : State) : OMild s (execPortPfcConfig m h s) := omild_acceptAs _ _ _ _ _ mild_portPfcConfigSpec
theorem omild_execPortPreemptConfig (m : Nat) (h : HostAnswer) (s : State) : OMild s (execPortPreemptConfig m h s) := omild_acceptAs _ _ _ _ _ mild_portPreemptConfigSpec
theorem omild_execPortFlush (m : Nat) (h : HostAnswer) (s : State) : OMild s (execPortFlush m h s) := omild_acceptAs _ _ _ _ _ mild_portFlushSpec
theorem omild_execPortStatus (m : Nat) (h : HostAnswer) (s : State) : OMild s (execPortStatus m h s) := omild_acceptAs _ _ _ _ _ mild_portStatusSpec
theorem omild_execPortStats (m : Nat) (h : HostAnswer) (s : State) : OMild s (execPortStats m h s) := omild_acceptAs _ _ _ _ _ mild_portStatsSpec
theorem omild_execPfcFrameReceive (port vec : Nat) (times : List Nat) (ns : Nat) (s : State) : OMild s (execPfcFrameReceive port vec times ns s) := by
  unfold execPfcFrameReceive; exact omild_need (mild_of_kept (by simp))
theorem omild_execPauseFrameReceive (port time ns : Nat) (s : State) : OMild s (execPauseFrameReceive port time ns s) := by
  unfold execPauseFrameReceive; exact omild_need (mild_of_kept (by simp))
theorem omild_execPauseTimerExpire (port prio ns : Nat) (s : State) : OMild s (execPauseTimerExpire port prio ns s) := by
  unfold execPauseTimerExpire; exact omild_need (mild_of_kept (by simp))
theorem omild_execPfcFrameSend (port : Nat) (s : State) : OMild s (execPfcFrameSend port s) := by
  unfold execPfcFrameSend; exact omild_need (mild_of_kept (by simp))
theorem omild_execPfcResend (port : Nat) (s : State) : OMild s (execPfcResend port s) := by
  unfold execPfcResend; exact omild_need (mild_of_kept (by simp))
theorem omild_execPfcWatchdogTrip (port prio : Nat) (s : State) : OMild s (execPfcWatchdogTrip port prio s) := by
  unfold execPfcWatchdogTrip; exact omild_need (mild_of_kept (by simp))
theorem omild_execPfcWatchdogRestore (port prio : Nat) (s : State) : OMild s (execPfcWatchdogRestore port prio s) := by
  unfold execPfcWatchdogRestore; exact omild_need (mild_of_kept (by simp))
theorem omild_execMmVerifyResponse (port : Nat) (s : State) : OMild s (execMmVerifyResponse port s) := by
  unfold execMmVerifyResponse; exact omild_need (mild_of_kept (by simp))
theorem omild_execMmVerifyTimeout (port : Nat) (s : State) : OMild s (execMmVerifyTimeout port s) := by
  unfold execMmVerifyTimeout; exact omild_need (mild_of_kept (by simp))
theorem omild_execHoldWindowExpire (port : Nat) (s : State) : OMild s (execHoldWindowExpire port s) := by
  unfold execHoldWindowExpire; exact omild_need (mild_of_kept (by simp))
theorem omild_execHalfRangeFold (port counter : Nat) (s : State) : OMild s (execHalfRangeFold port counter s) := by
  unfold execHalfRangeFold; exact omild_need (mild_of_kept (by simp))
theorem omild_execFrameReceive (port : Nat) (frame : Bytes) (arrived : Nat) (codeErr : Bool) (mm : MmKind) (ns : Nat) (s : State) : OMild s (execFrameReceive port frame arrived codeErr mm ns s) := by
  unfold execFrameReceive; exact omild_need (mild_of_kept (by simp))
theorem omild_execRegisterWrite (pf offset size value : Nat) (host : HostAnswer) (s : State) : OMild s (execRegisterWrite pf offset size value host s) := by
  unfold execRegisterWrite; exact omild_need (mild_of_kept (by simp))
theorem omild_execRuleOpen (m : Nat) (h : HostAnswer) (s : State) : OMild s (execRuleOpen m h s) := omild_acceptAs _ _ _ _ _ mild_ruleOpenSpec
theorem omild_execRuleLoad (m : Nat) (h : HostAnswer) (s : State) : OMild s (execRuleLoad m h s) := omild_acceptAs _ _ _ _ _ mild_ruleLoadSpec
theorem omild_execRuleCommit (m : Nat) (h : HostAnswer) (s : State) : OMild s (execRuleCommit m h s) := omild_acceptAs _ _ _ _ _ mild_ruleCommitSpec
theorem omild_execRuleAbort (m : Nat) (h : HostAnswer) (s : State) : OMild s (execRuleAbort m h s) := omild_acceptAs _ _ _ _ _ mild_ruleAbortSpec
theorem omild_execRuleRevert (m : Nat) (h : HostAnswer) (s : State) : OMild s (execRuleRevert m h s) := omild_acceptAs _ _ _ _ _ mild_ruleRevertSpec
theorem omild_execRuleStatus (m : Nat) (h : HostAnswer) (s : State) : OMild s (execRuleStatus m h s) := omild_acceptAs _ _ _ _ _ mild_ruleStatusSpec
theorem omild_execRuleHashProbe (m : Nat) (h : HostAnswer) (s : State) : OMild s (execRuleHashProbe m h s) := omild_acceptAs _ _ _ _ _ mild_ruleHashProbeSpec
theorem omild_execRuleParseStats (m : Nat) (h : HostAnswer) (s : State) : OMild s (execRuleParseStats m h s) := omild_acceptAs _ _ _ _ _ mild_ruleParseStatsSpec
theorem omild_execRuleDrainComplete (s : State) : OMild s (execRuleDrainComplete s) := by
  unfold execRuleDrainComplete; exact mild_of_kept (by simp)
theorem omild_execRuleDrainStuck (s : State) : OMild s (execRuleDrainStuck s) := by
  unfold execRuleDrainStuck; exact mild_of_kept (by simp)
theorem omild_execEmberConfigLoaded (s : State) : OMild s (execEmberConfigLoaded s) := by
  unfold execEmberConfigLoaded; exact mild_of_kept (by simp)
theorem omild_execEmberSwitch (s : State) : OMild s (execEmberSwitch s) := by
  unfold execEmberSwitch; exact mild_of_kept (by simp)
theorem omild_execSelfCheckDone (slice code : Nat) (s : State) : OMild s (execSelfCheckDone slice code s) := by
  unfold execSelfCheckDone; exact omild_need (mild_of_kept (by simp))
theorem omild_execSliceStatus (m : Nat) (h : HostAnswer) (s : State) : OMild s (execSliceStatus m h s) := omild_acceptAs _ _ _ _ _ mild_sliceStatusSpec
theorem omild_execSliceTakeover (m : Nat) (h : HostAnswer) (s : State) : OMild s (execSliceTakeover m h s) := omild_acceptAs _ _ _ _ _ mild_sliceTakeoverSpec
theorem omild_execSliceRelease (m : Nat) (h : HostAnswer) (s : State) : OMild s (execSliceRelease m h s) := omild_acceptAs _ _ _ _ _ mild_sliceReleaseSpec
theorem omild_execSliceSelfCheck (m : Nat) (h : HostAnswer) (s : State) : OMild s (execSliceSelfCheck m h s) := omild_acceptAs _ _ _ _ _ mild_sliceSelfCheckSpec
theorem omild_execPwrgoodRise (straps : Nat) (s : State) : OMild s (execPwrgoodRise straps s) := by
  unfold execPwrgoodRise; exact mild_of_kept (by simp)
theorem omild_execPerstNDeassert (s : State) : OMild s (execPerstNDeassert s) := by
  unfold execPerstNDeassert; exact mild_of_kept (by simp)
theorem omild_execBootStageComplete (ms : Nat) (s : State) : OMild s (execBootStageComplete ms s) := by
  unfold execBootStageComplete; exact mild_of_kept (by simp)
theorem omild_execIttasRestartDone (imported : Bool) (s : State) : OMild s (execIttasRestartDone imported s) := by
  unfold execIttasRestartDone; exact mild_of_kept (by simp)
theorem omild_execSysInfo (m : Nat) (h : HostAnswer) (s : State) : OMild s (execSysInfo m h s) := omild_acceptAs _ _ _ _ _ mild_sysInfoSpec
theorem omild_execSysStatus (m : Nat) (h : HostAnswer) (s : State) : OMild s (execSysStatus m h s) := omild_acceptAs _ _ _ _ _ mild_sysStatusSpec
theorem omild_execSysReset (m : Nat) (h : HostAnswer) (s : State) : OMild s (execSysReset m h s) := omild_acceptAs _ _ _ _ _ mild_sysResetSpec
theorem omild_execSysBootLog (m : Nat) (h : HostAnswer) (s : State) : OMild s (execSysBootLog m h s) := omild_acceptAs _ _ _ _ _ mild_sysBootLogSpec
theorem omild_execTdcGo (c value : Nat) (h : HostAnswer) (s : State) : OMild s (execTdcGo c value h s) := by
  unfold execTdcGo; exact omild_need (mild_of_kept (by simp))
theorem omild_execTdcAbort (c : Nat) (s : State) : OMild s (execTdcAbort c s) := by
  unfold execTdcAbort; exact omild_need (mild_of_kept (by simp))
theorem omild_execTdcLockClear (c : Nat) (s : State) : OMild s (execTdcLockClear c s) := by
  unfold execTdcLockClear; exact omild_need (mild_of_kept (by simp))
theorem omild_execTdcHostError (c : Nat) (s : State) : OMild s (execTdcHostError c s) := by
  unfold execTdcHostError; exact omild_need (mild_of_kept (by simp))
theorem omild_execTdcDone (c : Nat) (s : State) : OMild s (execTdcDone c s) := by
  unfold execTdcDone; exact omild_need (mild_of_kept (by simp))
theorem omild_execTdcLockTimeout (c : Nat) (s : State) : OMild s (execTdcLockTimeout c s) := by
  unfold execTdcLockTimeout; exact omild_need (mild_of_kept (by simp))
theorem omild_execTableInsert (m : Nat) (h : HostAnswer) (s : State) : OMild s (execTableInsert m h s) := omild_acceptAs _ _ _ _ _ mild_tableInsertSpec
theorem omild_execTableDelete (m : Nat) (h : HostAnswer) (s : State) : OMild s (execTableDelete m h s) := omild_acceptAs _ _ _ _ _ mild_tableDeleteSpec
theorem omild_execTableRead (m : Nat) (h : HostAnswer) (s : State) : OMild s (execTableRead m h s) := omild_acceptAs _ _ _ _ _ mild_tableReadSpec
theorem omild_execTableConfig (m : Nat) (h : HostAnswer) (s : State) : OMild s (execTableConfig m h s) := omild_acceptAs _ _ _ _ _ mild_tableConfigSpec
theorem omild_execTableFlush (m : Nat) (h : HostAnswer) (s : State) : OMild s (execTableFlush m h s) := omild_acceptAs _ _ _ _ _ mild_tableFlushSpec
theorem omild_execTableLearnConfig (m : Nat) (h : HostAnswer) (s : State) : OMild s (execTableLearnConfig m h s) := omild_acceptAs _ _ _ _ _ mild_tableLearnConfigSpec
theorem omild_execTableLearnStatus (m : Nat) (h : HostAnswer) (s : State) : OMild s (execTableLearnStatus m h s) := omild_acceptAs _ _ _ _ _ mild_tableLearnStatusSpec
theorem omild_execTableNotifyRing (m : Nat) (h : HostAnswer) (s : State) : OMild s (execTableNotifyRing m h s) := omild_acceptAs _ _ _ _ _ mild_tableNotifyRingSpec
theorem omild_execTableStats (m : Nat) (h : HostAnswer) (s : State) : OMild s (execTableStats m h s) := omild_acceptAs _ _ _ _ _ mild_tableStatsSpec
theorem omild_execTableNhStatus (m : Nat) (h : HostAnswer) (s : State) : OMild s (execTableNhStatus m h s) := omild_acceptAs _ _ _ _ _ mild_tableNhStatusSpec
theorem omild_execNhQuarantineEnd (index : Nat) (s : State) : OMild s (execNhQuarantineEnd index s) := by
  unfold execNhQuarantineEnd; exact omild_need (mild_of_kept (by simp))
theorem omild_execTernBlockMoveDone (q : Nat) (s : State) : OMild s (execTernBlockMoveDone q s) := by
  unfold execTernBlockMoveDone; exact omild_need (mild_of_kept (by simp))
theorem omild_execTableTernGroup (m : Nat) (h : HostAnswer) (s : State) : OMild s (execTableTernGroup m h s) := omild_acceptAs _ _ _ _ _ mild_ternGroupSpec
theorem omild_execTableTernWrite (m : Nat) (h : HostAnswer) (s : State) : OMild s (execTableTernWrite m h s) := omild_acceptAs _ _ _ _ _ mild_ternWriteSpec
theorem omild_execTableTernMove (m : Nat) (h : HostAnswer) (s : State) : OMild s (execTableTernMove m h s) := omild_acceptAs _ _ _ _ _ mild_ternMoveSpec
theorem omild_execTableTernBlockMove (m : Nat) (h : HostAnswer) (s : State) : OMild s (execTableTernBlockMove m h s) := omild_acceptAs _ _ _ _ _ mild_ternBlockMoveSpec
theorem omild_execTableTernRead (m : Nat) (h : HostAnswer) (s : State) : OMild s (execTableTernRead m h s) := omild_acceptAs _ _ _ _ _ mild_ternReadSpec
theorem omild_execTableTernStatus (m : Nat) (h : HostAnswer) (s : State) : OMild s (execTableTernStatus m h s) := omild_acceptAs _ _ _ _ _ mild_ternStatusSpec
theorem omild_execTableTernStats (m : Nat) (h : HostAnswer) (s : State) : OMild s (execTableTernStats m h s) := omild_acceptAs _ _ _ _ _ mild_ternStatsSpec
theorem omild_execTableAutoLoad (m : Nat) (h : HostAnswer) (s : State) : OMild s (execTableAutoLoad m h s) := omild_acceptAs _ _ _ _ _ mild_autoLoadSpec
theorem omild_execTableAutoStatus (m : Nat) (h : HostAnswer) (s : State) : OMild s (execTableAutoStatus m h s) := omild_acceptAs _ _ _ _ _ mild_autoStatusSpec
theorem omild_execTableAutoStats (m : Nat) (h : HostAnswer) (s : State) : OMild s (execTableAutoStats m h s) := omild_acceptAs _ _ _ _ _ mild_autoStatsSpec
theorem omild_execTableAutoRepair (m : Nat) (h : HostAnswer) (s : State) : OMild s (execTableAutoRepair m h s) := omild_acceptAs _ _ _ _ _ mild_autoRepairSpec
theorem omild_execTmConfig (m : Nat) (h : HostAnswer) (s : State) : OMild s (execTmConfig m h s) := omild_acceptAs _ _ _ _ _ mild_tmConfigSpec
theorem omild_execTmSched (m : Nat) (h : HostAnswer) (s : State) : OMild s (execTmSched m h s) := omild_acceptAs _ _ _ _ _ mild_tmSchedSpec
theorem omild_execTmShaper (m : Nat) (h : HostAnswer) (s : State) : OMild s (execTmShaper m h s) := omild_acceptAs _ _ _ _ _ mild_tmShaperSpec
theorem omild_execTmPolicerWrite (m : Nat) (h : HostAnswer) (s : State) : OMild s (execTmPolicerWrite m h s) := omild_acceptAs _ _ _ _ _ mild_tmPolicerWriteSpec
theorem omild_execTmPolicerRead (m : Nat) (h : HostAnswer) (s : State) : OMild s (execTmPolicerRead m h s) := omild_acceptAs _ _ _ _ _ mild_tmPolicerReadSpec
theorem omild_execTmGateList (m : Nat) (h : HostAnswer) (s : State) : OMild s (execTmGateList m h s) := omild_acceptAs _ _ _ _ _ mild_tmGateListSpec
theorem omild_execTmGateStatus (m : Nat) (h : HostAnswer) (s : State) : OMild s (execTmGateStatus m h s) := omild_acceptAs _ _ _ _ _ mild_tmGateStatusSpec
theorem omild_execTmMaxSdu (m : Nat) (h : HostAnswer) (s : State) : OMild s (execTmMaxSdu m h s) := omild_acceptAs _ _ _ _ _ mild_tmMaxSduSpec
theorem omild_execTmQueueStats (m : Nat) (h : HostAnswer) (s : State) : OMild s (execTmQueueStats m h s) := omild_acceptAs _ _ _ _ _ mild_tmQueueStatsSpec
theorem omild_execTmSampleRing (m : Nat) (h : HostAnswer) (s : State) : OMild s (execTmSampleRing m h s) := omild_acceptAs _ _ _ _ _ mild_tmSampleRingSpec
theorem omild_execSojournDiscard (s : State) : OMild s (execSojournDiscard s) := by
  unfold execSojournDiscard; exact mild_of_kept (by simp)
theorem omild_execHoldSojournDrop (p : Nat) (s : State) : OMild s (execHoldSojournDrop p s) := by
  unfold execHoldSojournDrop; exact omild_need (mild_of_kept (by simp))
theorem omild_execGateEvent (p ns : Nat) (s : State) : OMild s (execGateEvent p ns s) := by
  unfold execGateEvent; exact omild_need (mild_of_kept (by simp))
theorem omild_execGateConfigChange (p ns : Nat) (s : State) : OMild s (execGateConfigChange p ns s) := by
  unfold execGateConfigChange; exact omild_need (mild_of_kept (by simp))
theorem omild_execTrustIdentity (m : Nat) (h : HostAnswer) (s : State) : OMild s (execTrustIdentity m h s) := omild_acceptAs _ _ _ _ _ mild_trustIdentitySpec
theorem omild_execTrustProvision (m : Nat) (h : HostAnswer) (s : State) : OMild s (execTrustProvision m h s) := omild_acceptAs _ _ _ _ _ mild_trustProvisionSpec
theorem omild_execIdentityCertWrite (s : State) : OMild s (execIdentityCertWrite s) := by
  unfold execIdentityCertWrite
  refine mild_of_kept (kept_iteP _ ?_ rfl)
  exact (kept_modTrust _ _ rfl).trans (kept_modFw _ _)
theorem omild_execTrustAttest (m : Nat) (h : HostAnswer) (s : State) : OMild s (execTrustAttest m h s) := omild_acceptAs _ _ _ _ _ mild_trustAttestSpec
theorem omild_execTrustLcStatus (m : Nat) (h : HostAnswer) (s : State) : OMild s (execTrustLcStatus m h s) := omild_acceptAs _ _ _ _ _ mild_trustLcStatusSpec
theorem omild_execTrustLcAdvance (m : Nat) (h : HostAnswer) (s : State) : OMild s (execTrustLcAdvance m h s) := omild_acceptAs _ _ _ _ _ mild_trustLcAdvanceSpec
theorem omild_execTrustReturn (m : Nat) (h : HostAnswer) (s : State) : OMild s (execTrustReturn m h s) := omild_acceptAs _ _ _ _ _ mild_trustReturnSpec
theorem omild_execTrustConsent (m : Nat) (h : HostAnswer) (s : State) : OMild s (execTrustConsent m h s) := omild_acceptAs _ _ _ _ _ mild_trustConsentSpec
theorem omild_execReturnPendingExpire (s : State) : OMild s (execReturnPendingExpire s) := by
  unfold execReturnPendingExpire; exact mild_of_kept (by simp)
theorem omild_execDeepDebugOpen (kind : Nat) (s : State) : OMild s (execDeepDebugOpen kind s) := by
  unfold execDeepDebugOpen; exact omild_need (mild_of_kept (by simp))
theorem omild_execDebugTokenShift (token : Bytes) (s : State) : OMild s (execDebugTokenShift token s) := by
  unfold execDebugTokenShift; exact mild_of_kept (by simp)
theorem omild_execLedgerKeyCreate (m : Nat) (h : HostAnswer) (s : State) : OMild s (execLedgerKeyCreate m h s) := omild_acceptAs _ _ _ _ _ mild_ledgerKeyCreateSpec
end Sys2Proof.Machine
end

