-- ==== Sys2Proof/Laws/Resets.lean ====
section
/-! SUPPORT. Core reset, the fall of PWRGOOD, PERST_N and a restart of Ittas: a mild change, or a wipe of the state. -/

namespace Sys2Proof.Machine

set_option linter.unusedVariables false

/-- What a reset leaves of the state: the queue and the life cycle; what follows has the reset bank, beat counter and
Dimmer. -/
structure Wiped (s t : State) : Prop where
  pending : t.pending = s.pending
  lc : t.trust.lc = s.trust.lc
  rules : t.rules = {}
  power : t.power = {}
  beat : t.glb.beat = 0

theorem wiped_afterReset (s : State) (f : MemPort → MemPort) : Wiped s (afterReset s f) :=
  ⟨rfl, rfl, rfl, rfl, rfl⟩

theorem Wiped.modBoot {s t : State} (h : Wiped s t) (f : Boot → Boot) : Wiped s (t.modBoot f) :=
  ⟨h.pending, h.lc, h.rules, h.power, h.beat⟩

/-- A loop of steps that change the ledger memory alone changes it alone. -/
theorem eachDo_mem {α : Type} {f : α → State → State} (h : ∀ a s, ∃ m, f a s = s.modMem fun _ => m) (l : List α) :
    ∀ s, ∃ m, eachDo l f s = s.modMem fun _ => m := by
  induction l with
  | nil => exact fun s => ⟨s.mem, rfl⟩
  | cons a l ih =>
    intro s
    obtain ⟨m, k⟩ := h a s
    obtain ⟨n, k'⟩ := ih (f a s)
    exact ⟨n, by rw [show eachDo (a :: l) f s = eachDo l f (f a s) from rfl, k', k]; rfl⟩

/-- Bytes put into the modules change the ledger memory alone. -/
theorem lasPut_mem (a : Nat) (bs : Bytes) (s : State) : ∃ m, lasPut a bs s = s.modMem fun _ => m :=
  eachDo_mem (fun _ _ => ⟨_, rfl⟩) _ s

/-- The ledger laid out as bytes changes the ledger memory alone. -/
theorem ledgerToBytes_mem (s : State) : ∃ m, ledgerToBytes s = s.modMem fun _ => m := by
  unfold ledgerToBytes
  obtain ⟨m, h⟩ := eachDo_mem (f := fun (e : Nat × LRec) s => lasPut (recordLas s e.1) (recordBytes e.2) s)
    (fun _ _ => lasPut_mem _ _ _) s.ledger.recs s
  rw [h]
  obtain ⟨n, k⟩ := eachDo_mem (f := fun (e : Nat × Row) s =>
      lasPut (rowLas s (e.1 / 2) + 64 * (e.1 % 2)) (rowBytes (e.1 / 2) false e.2) s)
    (fun _ _ => lasPut_mem _ _ _) (s.modMem fun _ => m).ledger.rows (s.modMem fun _ => m)
  exact ⟨n, k⟩

theorem wiped_coreReset (n : Nat) (s : State) : Wiped s (coreReset n s) := by
  have k := keep_ledgerToBytes s
  unfold coreReset
  generalize ledgerToBytes s = u at *
  have h := wiped_afterReset u resetModule
  exact ⟨h.pending.trans (mild_of_kept k).pending, h.lc.trans (kept_lc k), h.rules, h.power, h.beat⟩

theorem wiped_pwrgoodFall (s : State) : Wiped s (pwrgoodFall s) :=
  have h := wiped_afterReset s coldModule
  ⟨h.pending, h.lc, h.rules, h.power, h.beat⟩

/-- A reset keeps the invariant. -/
theorem Wiped.inv {s t : State} (h : Wiped s t) (i : Inv s) : Inv t := by
  unfold Inv
  rw [h.rules, h.power, h.lc]
  exact ⟨.inl ⟨rfl, rfl, by decide, by decide⟩, i.2.1, by decide, by decide, by decide⟩

/-- A mild change or a reset. -/
def MildOrWiped (s t : State) : Prop := Mild s t ∨ Wiped s t

theorem MildOrWiped.pending {s t : State} (h : MildOrWiped s t) : t.pending = s.pending :=
  h.elim Mild.pending Wiped.pending
theorem MildOrWiped.inv {s t : State} (h : MildOrWiped s t) (i : Inv s) : Inv t :=
  h.elim (fun k => k.inv i) (fun k => k.inv i)

theorem mow_perstAssert (s : State) : MildOrWiped s (perstAssert s) := by
  unfold perstAssert
  have k := kept_modBoot (fun b => { b with perstHigh := false }) s
  have w := wiped_coreReset 3 (s.modBoot fun b => { b with perstHigh := false })
  dsimp only
  split
  · exact .inl (mild_of_kept k)
  · split
    · split
      · exact .inl (mild_of_kept k)
      · exact .inr ⟨w.pending, w.lc, w.rules, w.power, w.beat⟩
    · exact .inl ((mild_hotReset _).after k)

theorem mow_ittasRestart (b : Bool) (s : State) : MildOrWiped s (ittasRestart b s) := by
  unfold ittasRestart
  dsimp only
  split
  · exact .inl (Mild.refl s)
  · split
    · exact .inl (mild_of_kept (kept_modBoot ..))
    · generalize e : s.modBoot _ = u
      have k : u.kept = s.kept := by rw [← e]; exact kept_modBoot ..
      have w := wiped_coreReset 6 u
      have m := mild_of_kept k
      have l : u.trust.lc = s.trust.lc := by rw [← e]; rfl
      split
      · exact .inl (m.andKept (keep_stopIttas u))
      · split
        · exact .inl ((m.andKept (keep_bootOther u)).andKept (keep_stopIttas _))
        · exact .inr ⟨w.pending.trans m.pending, w.lc.trans l, w.rules, w.power, w.beat⟩

end Sys2Proof.Machine
end

