-- ==== Sys2Proof/Tests/Slice0.lean ====
section
/-! SUPPORT. Tests: ill-formed commands are refused, one step on small states, and for every statement with hypotheses a
state and operands that meet them. -/

namespace Sys2Proof.Machine

set_option linter.unusedVariables false

/-- A powered device that runs its image, with the data plane up and the host's link open. -/
def up : State := State.reset.modBoot fun b => { b with
  pwrgood := true, perstHigh := true, everUp := true, dpReady := true, ittasRun := true, stage := 5 }

/-- The command that `asked` puts into a mailbox. -/
def askedCmd (m op : Nat) : Cmd := { order := 1, m := m, op := op, tag := 0, flags := 0, door := 0 }

/-- A request of opcode `op` with payload `p` waits in mailbox `m`. -/
def asked (m op : Nat) (p : Bytes) (s : State) : State := s.modMbx fun b => { b with
  area := b.area.writeN (0x2000 * m) (le 2 op ++ le 2 0 ++ le 4 p.length ++ le 1 0 ++ le 1 1 ++ zeros 6 ++ p)
  next := 2
  cmds := [askedCmd m op] }

/-! Each range that `WellFormed` checks, just outside it. -/

theorem test_illformed_event1 : ∀ i ∈ ([
    .frameReceive 768 [] 0 false .whole 0, .frameReceive 0 [] 0 false .whole 1000, .pfcFrameReceive 768 0 [0, 0, 0, 0, 0, 0, 0, 0] 0, .pfcFrameReceive 0 256 [0, 0, 0, 0, 0, 0, 0, 0] 0,
    .pfcFrameReceive 0 0 [0, 0, 0, 0, 0, 0, 0, 0] 1000, .pfcFrameReceive 0 0 [0] 0, .pauseFrameReceive 768 0 0, .pauseFrameReceive 0 0 1000,
    .pauseTimerExpire 768 0 0, .pauseTimerExpire 0 8 0, .pauseTimerExpire 0 0 1000, .pfcFrameSend 768,
    .pfcResend 768, .pfcWatchdogTrip 768 0, .pfcWatchdogTrip 0 8, .pfcWatchdogRestore 768 0,
    .pfcWatchdogRestore 0 8, .mmVerifyResponse 768, .mmVerifyTimeout 768, .ingressSlot 32 0] : List Instr),
    WellFormed i = false := by decide

theorem test_illformed_event2 : ∀ i ∈ ([
    .ingressSlot 0 1000, .parseResume 0 0 1000, .cellArriveResequencer 0 32 0, .cellArriveResequencer 0 0 1000,
    .reseqSkipTimeout 32 0, .reseqSkipTimeout 0 256, .crossingCellCrcFail 4 0 0 0, .crossingCellCrcFail 0 4 0 0,
    .xbarPlaneFail 4 0 [], .xbarPlaneFail 0 4 [], .egressCutThroughStart 0 1000, .schedulerDecision 802 0,
    .schedulerDecision 0 1000, .transmitComplete 802 0, .transmitComplete 0 1000, .holdSojournDrop 768,
    .holdWindowExpire 768, .gateEvent 768 0, .gateEvent 0 1000, .gateConfigChange 768 0] : List Instr),
    WellFormed i = false := by decide

theorem test_illformed_event3 : ∀ i ∈ ([
    .gateConfigChange 0 1000, .laneEnergyDetect 768, .anResolved 768 ({} : AnPage), .partnerTrainingRequest 768 .hold,
    .trainReceiverReady 768, .laneLockAchieved 768, .capexComplete 768 .matched, .trainingLimitExpire 768,
    .lockLimitExpire 768, .capabilityLimitExpire 768 false, .blindLimitExpire 768, .relinkWindowExpire 768,
    .relinkLimitExpire 768, .retryBackoffExpire 768, .losDetect 768, .cdrLockLoss 768,
    .fecAlignLoss 768, .hiSer 768, .rsFaultReceive 768 false false, .partnerTrainingSeen 768] : List Instr),
    WellFormed i = false := by decide

theorem test_illformed_event4 : ∀ i ∈ ([
    .knownGoodStore 768 [], .quietIdleThreshold 768, .quietWake 768, .quietWakeComplete 768,
    .quietRefresh 768, .partnerQuietSignal 768 .sleep, .quietRefreshMiss 768, .eeeLpiReceive 768 .off,
    .ageingVisit 4, .flapRelease 4 0, .flapWindowEnd 4 0, .nhQuarantineEnd 131072,
    .tdcLockTimeout 4, .tdcDone 4, .tdcHostError 4, .deferredLearnRelease 4,
    .ternBlockMoveDone 4, .flushRequestApply 4, .memPresenceStable 4, .memPerstRelease 4] : List Instr),
    WellFormed i = false := by decide

theorem test_illformed_event5 : ∀ i ∈ ([
    .memLinkL0 4 0 0 false, .memTrainingTimeout 4, .memEnumerationDone 4 ⟨true, false, 0, true, true⟩, .memLinkDown 4,
    .memPresenceLost 4, .memRequestTimeout 4, .memPoisonRead 4 0 (.ledger 0), .memPoisonRead 0 0 (.ledger 4),
    .memPoisonRead 0 0 (.mover 8), .memBadCompletion 4 0, .memHealthRecord 4 [], .memOfflineReached 4,
    .resilverComplete 4, .zeroingComplete 4, .moverChainDone 8, .moverDescriptor 8 .urca .urca .urca,
    .moverChannelStop 8 0 0, .captureRecordWrite 4, .ipfixFlushTimeout 16 0, .ipfixFlushTimeout 0 32] : List Instr),
    WellFormed i = false := by decide

theorem test_illformed_event6 : ∀ i ∈ ([
    .ipfixTemplateRefresh 16 0, .ipfixTemplateRefresh 0 32, .ppsInEdge false 1000, .refclkLoss 2,
    .pllUnlock 6, .faultDetect 448 0 0 [], .faultDetect 0 0 4 [], .faultCauseEnd 448 0,
    .graceTimerExpire 448, .pmbusTransaction 8 .readPout false 0, .pmbAlert 8 0, .sensorConversion 64 0,
    .sensorStale 64, .droopEpisode 10 0, .droopEpisode 0 1000, .idleUnitGate 32,
    .idleUnitGate 68, .idleUnitGate 88, .idleUnitGate 128, .hpSensor 64] : List Instr),
    WellFormed i = false := by decide

theorem test_illformed_event7 : ∀ i ∈ ([
    .pwrgoodRise 16, .selfCheckDone 33 0, .registerWrite 2 0 0 0 .urca, .registerWrite 0 65536 0 0 .urca,
    .mailboxAreaWrite 131073 [], .mbxDoorbell 16 0, .mbxDoorbell 0 4294967296, .responsePost 16,
    .mbxGuardExpire 16, .msixMessage 2 0, .msixMessage 0 64, .hrqTailWrite 32 0,
    .hrqReset 32, .hrqEnable 32 0, .rxFrameDeliver 1000 .urca, .hrqInterruptInterval 32,
    .hostReadFail 32 false, .queueStatFoldWrite 32 0, .queueStatFoldWrite 0 5, .bmeSet 2 false] : List Instr),
    WellFormed i = false := by decide

theorem test_illformed_event8 : ∀ i ∈ ([
    .pmcCounterWrap 40 0, .pmcCounterWrap 0 8, .tdcGo 4 0 .urca, .tdcAbort 4,
    .tdcLockClear 4, .xdcGo 8 0, .xdcAbort 8, .mbxOverrunCntRead 16,
    .mbxLateCntRead 16, .fltForceWrite 14 0, .deepDebugOpen 0, .deepDebugOpen 3,
    .memViralIndication 4, .pciePartnerViolation 2 0, .xbarPlaneRetrained 4, .mbxRespValidClear 16 0,
    .xdcErrorClear 8, .halfRangeFold 768 0, .halfRangeFold 0 64, .eeeLpiTransmit 768 .off] : List Instr),
    WellFormed i = false := by decide

theorem test_illformed_mailbox1 : ∀ i ∈ ([
    .commandAccept 16 .urca, .sysEventRing 16 .urca, .sysEventMask 16 .urca, .sysInfo 16 .urca,
    .sysStatus 16 .urca, .sysReset 16 .urca, .sysBootLog 16 .urca, .fwStatus 16 .urca,
    .fwStage 16 .urca, .fwVerify 16 .urca, .fwActivate 16 .urca, .fwAbort 16 .urca,
    .trustIdentity 16 .urca, .trustProvision 16 .urca, .trustAttest 16 .urca, .trustLcStatus 16 .urca,
    .trustLcAdvance 16 .urca, .trustReturn 16 .urca, .trustConsent 16 .urca, .portCreate 16 .urca,
    .portDelete 16 .urca, .portAdmin 16 .urca, .portConfig 16 .urca, .portStatus 16 .urca,
    .portStats 16 .urca, .portPfcConfig 16 .urca, .portPreemptConfig 16 .urca, .portFlush 16 .urca,
    .laneConfig 16 .urca, .laneEnable 16 .urca, .laneDisable 16 .urca, .laneStatus 16 .urca,
    .laneGetCoeff 16 .urca, .laneSetCoeff 16 .urca, .laneRetrain 16 .urca, .laneLoopback 16 .urca,
    .lanePrbs 16 .urca, .laneEye 16 .urca, .laneCounters 16 .urca, .laneTrainLog 16 .urca] : List Instr),
    WellFormed i = false := by decide

theorem test_illformed_mailbox2 : ∀ i ∈ ([
    .laneQuietTlv 16 .urca, .laneQuietPeer 16 .urca, .laneQuietConfig 16 .urca, .ruleOpen 16 .urca,
    .ruleLoad 16 .urca, .ruleCommit 16 .urca, .ruleAbort 16 .urca, .ruleRevert 16 .urca,
    .ruleStatus 16 .urca, .ruleHashProbe 16 .urca, .ruleParseStats 16 .urca, .tableConfig 16 .urca,
    .tableInsert 16 .urca, .tableDelete 16 .urca, .tableRead 16 .urca, .tableFlush 16 .urca,
    .tableLearnConfig 16 .urca, .tableLearnStatus 16 .urca, .tableNotifyRing 16 .urca, .tableStats 16 .urca,
    .tableNhStatus 16 .urca, .tableTernGroup 16 .urca, .tableTernWrite 16 .urca, .tableTernMove 16 .urca,
    .tableTernBlockMove 16 .urca, .tableTernRead 16 .urca, .tableTernStatus 16 .urca, .tableTernStats 16 .urca,
    .tableAutoLoad 16 .urca, .tableAutoStatus 16 .urca, .tableAutoStats 16 .urca, .tableAutoRepair 16 .urca,
    .tmConfig 16 .urca, .tmSched 16 .urca, .tmShaper 16 .urca, .tmPolicerWrite 16 .urca,
    .tmPolicerRead 16 .urca, .tmGateList 16 .urca, .tmGateStatus 16 .urca, .tmMaxSdu 16 .urca] : List Instr),
    WellFormed i = false := by decide

theorem test_illformed_mailbox3 : ∀ i ∈ ([
    .tmQueueStats 16 .urca, .tmSampleRing 16 .urca, .bufPoolConfig 16 .urca, .bufPoolMap 16 .urca,
    .bufHeadroom 16 .urca, .bufStatus 16 .urca, .bufStats 16 .urca, .bufMcWrite 16 .urca,
    .bufMcRead 16 .urca, .bufFabricStatus 16 .urca, .bufPlaneAdmin 16 .urca, .bufReseqStats 16 .urca,
    .bufAudit 16 .urca, .bufMirror 16 .urca, .ledgerConfig 16 .urca, .ledgerPolicy 16 .urca,
    .ledgerRings 16 .urca, .ledgerKeyCreate 16 .urca, .ledgerStart 16 .urca, .ledgerStop 16 .urca,
    .ledgerStatus 16 .urca, .ledgerSealGet 16 .urca, .ledgerTenantGet 16 .urca, .ledgerFlowGet 16 .urca,
    .ledgerStats 16 .urca, .memStatus 16 .urca, .memLayout 16 .urca, .memRegion 16 .urca,
    .memOnline 16 .urca, .memOffline 16 .urca, .memRebuildRate 16 .urca, .memCapture 16 .urca,
    .memCaptureAck 16 .urca, .memStats 16 .urca, .lanternStream 16 .urca, .lanternPort 16 .urca,
    .lanternTrigger 16 .urca, .lanternTenant 16 .urca, .lanternIpfix 16 .urca, .lanternAck 16 .urca] : List Instr),
    WellFormed i = false := by decide

theorem test_illformed_mailbox4 : ∀ i ∈ ([
    .lanternStats 16 .urca, .lanternPmcDump 16 .urca, .timeStatus 16 .urca, .timeStep 16 .urca,
    .timeRate 16 .urca, .timeState 16 .urca, .timePortDelay 16 .urca, .timePortPtp 16 .urca,
    .timePps 16 .urca, .timeSynce 16 .urca, .timeTxtsRead 16 .urca, .faultStatus 16 .urca,
    .faultAck 16 .urca, .faultClear 16 .urca, .faultForce 16 .urca, .faultLog 16 .urca,
    .faultConfig 16 .urca, .powerStatus 16 .urca, .powerCap 16 .urca, .powerConfig 16 .urca,
    .powerReasons 16 .urca, .powerSensors 16 .urca, .sliceStatus 16 .urca, .sliceTakeover 16 .urca,
    .sliceRelease 16 .urca, .sliceSelfCheck 16 .urca, .diagEcho 16 .urca, .diagDelay 16 .urca,
    .diagProtoLog 16 .urca] : List Instr),
    WellFormed i = false := by decide

/-! What the table's rows spell, and small facts of the spec's own examples. -/

/-- No row has bits, so no word spells a command. -/
theorem test_no_word_spells_a_command : decodeTableWord 32 0x12345678 = none ∧ up.withFetchWord 32 0 = up := ⟨rfl, rfl⟩

/-- Port 104 of R9's example: slice 4, quadrant 0. -/
theorem test_home_of_port_104 : sliceOfPort 104 = 4 ∧ quadOfSlice (sliceOfPort 104) = 0 := by decide

/-- The example of R355: from 999,999,700 ns to 900 ns, one beat apart, is 1,200 ns. -/
theorem test_sojourn_across_a_second : tsDiff 999999700 900 (some 1) = 1200 := by decide

/-- R521: all ones, one advance of the 32-bit generator: shifted right, then the tap mask. -/
theorem test_lfsr_first_advance : lfsr32 0xFFFFFFFF = Nat.xor 0x7FFFFFFF 0x80200003 := by decide

/-- CRC-32 and CRC-32C of the nine digits, the check values of IEEE 802.3 and RFC 3720. -/
theorem test_crc_check_values : crc32 [0x31, 0x32, 0x33, 0x34, 0x35, 0x36, 0x37, 0x38, 0x39] = 0xCBF43926 ∧
    crc32c [0x31, 0x32, 0x33, 0x34, 0x35, 0x36, 0x37, 0x38, 0x39] = 0xE3069283 := by decide +kernel

/-- SHA-256 of "abc", the example of FIPS 180-4, its first and last words. -/
theorem test_sha256_abc : (sha256 [0x61, 0x62, 0x63]).take 4 = [0xBA, 0x78, 0x16, 0xBF] ∧
    (sha256 [0x61, 0x62, 0x63]).drop 28 = [0xF2, 0x00, 0x15, 0xAD] := by decide +kernel

/-- A step takes the front command and leaves the rest. -/
theorem test_step_takes_front : (match step { up with pending := [.hpExtLevelWrite 3, .rollStart] } with
    | .next t => (t.power.ext, t.pending)
    | _ => (0, [])) = (3, [.rollStart]) := by decide

/-- A doorbell with bit 0 set makes an idle mailbox BUSY; an even value does nothing (Table 14.3). -/
theorem test_doorbell : (match exec (.mbxDoorbell 5 1) up with | .next t => (t.box 5).st | _ => 9) = 1 ∧
    (match exec (.mbxDoorbell 5 2) up with | .next t => (t.box 5).st | _ => 9) = 0 := by decide

/-- An operand that names nothing ends the step. -/
theorem test_no_such_lane : exec (.losDetect 768) up = .fault (.noSuchItem "lane") := rfl


/-! States and operands that meet the hypotheses of the statements. -/

theorem test_premises_step_front : ∃ s : State, s.pending = .eventRingWrite :: [.rollStart] := ⟨{ up with pending := [.eventRingWrite, .rollStart] }, rfl⟩
theorem test_premises_step_idle : State.reset.pending = [] := rfl

theorem test_premises_operands : WellFormed (.laneEnergyDetect 767) = true ∧ WellFormed (.schedulerDecision 801 999) = true ∧
    WellFormed (.mbxDoorbell 15 1) = true ∧ WellFormed (.laneEnergyDetect 768) = false := by decide

theorem test_premises_reset : State.reset.rules.b0.builtin = true := by decide

theorem test_premises_step_keeps : Inv State.reset ∧ ∃ t, step { State.reset with pending := [.pwrgoodRise 0] } = .next t :=
  ⟨by unfold Inv oneActive; decide, _, rfl⟩

theorem test_premises_queue : ∃ t, exec (.pwrgoodRise 3) { State.reset with pending := [.rollStart] } = .next t := ⟨_, rfl⟩

theorem test_premises_life_cycle : ∃ t, exec .pwrgoodFall ((up.modTrust fun t => { t with lc := 3 })) = .next t ∧ t.trust.lc = 3 := ⟨_, rfl, rfl⟩

theorem test_premises_beat_runs : beatRuns up = true ∧ beatRuns State.reset = false := by decide
theorem test_premises_core_due : (up.modBoot fun b => { b with coreDue := true }).boot.coreDue = true ∧
    timeCome (up.modBoot fun b => { b with coreDue := true }) 0 = true ∧ up.mbx.cmds = [] := by decide
theorem test_premises_beat_other : ∃ t, exec .pwrgoodFall up = .next t ∧ t.glb.beat = 0 := ⟨_, rfl, rfl⟩

theorem test_premises_switch : beatRuns (up.modRules fun r => { r with sw := 1 }) = true ∧ beatRuns up = true ∧ up.rules.sw = 0 := by decide
theorem test_premises_switch_other : ∃ t, exec .rollStart up = .next t := ⟨_, rfl⟩

theorem test_premises_dimmer : beatRuns (up.modPower fun p => { p with level := 4, clk := 2 }) = true := by decide
theorem test_premises_dimmer_other : ∃ t, exec (.hpExtLevelWrite 4) up = .next t := ⟨_, rfl⟩

theorem test_premises_taken : isCommand (.sysEventMask, 0x0102, sysEventMaskSpec) ∧
    ready 0x0102 sysEventMaskSpec 3 (asked 3 0x0102 (le 4 5) up) (askedCmd 3 0x0102) = true ∧
    ∃ t r, sysEventMaskSpec.run (askedCmd 3 0x0102) (payload (asked 3 0x0102 (le 4 5) up) 3) .urca (asked 3 0x0102 (le 4 5) up) =
      .accept t r :=
  ⟨.inl (by unfold inServiceSys; simp), by decide, _, _, rfl⟩

theorem test_premises_refused : isCommand (.diagDelay, 0x1102, diagDelaySpec) ∧
    ready 0x1102 diagDelaySpec 15 (asked 15 0x1102 (le 4 5001) up) (askedCmd 15 0x1102) = true ∧
    diagDelaySpec.run (askedCmd 15 0x1102) (payload (asked 15 0x1102 (le 4 5001) up) 15) .urca (asked 15 0x1102 (le 4 5001) up) = .refuse 3 0 :=
  ⟨by unfold isCommand inServiceDiag; simp, by decide, by rfl⟩
theorem test_premises_refused_with : isCommand (.trustProvision, 0x0302, trustProvisionSpec) ∧
    ready 0x0302 trustProvisionSpec 2 (asked 2 0x0302 (le 4 2 ++ le 4 7984 ++ zeros 8) ((up.modTrust fun t => { t with heldSeeds := [1] }).modHost fun h => { h with bme := [true, true] })) (askedCmd 2 0x0302) = true ∧
    trustProvisionSpec.run (askedCmd 2 0x0302) (payload (asked 2 0x0302 (le 4 2 ++ le 4 7984 ++ zeros 8) ((up.modTrust fun t => { t with heldSeeds := [1] }).modHost fun h => { h with bme := [true, true] })) 2) (.data [])
      (asked 2 0x0302 (le 4 2 ++ le 4 7984 ++ zeros 8) ((up.modTrust fun t => { t with heldSeeds := [1] }).modHost fun h => { h with bme := [true, true] })) = .refuseWith 0x0302 (le 1 1) :=
  ⟨by unfold isCommand inServiceTrust; simp, by decide, by rfl⟩
theorem test_premises_none_waits : waitingIn up 0 = none := by decide
theorem test_premises_unknown_opcode : waitingIn (asked 0 0x0199 [] up) 0 = some (askedCmd 0 0x0199) ∧ specOf 0x0199 = none ∧
    serving (asked 0 0x0199 [] up) = true ∧ eligible (asked 0 0x0199 [] up) (askedCmd 0 0x0199) = true ∧
    headerFault (asked 0 0x0199 [] up) 0 none = 0 := by
  refine ⟨by decide, by rfl, by decide, by decide, by decide⟩

theorem test_premises_sysEventRing : ∃ (m : Nat) (s : State) (c : Cmd) (p : Bytes), ready 0x0101 sysEventRingSpec m s c = true ∧ p = payload s m ∧
    (rd p 0 8 % 4096 = 0) ∧
    ((rd p 8 4 = 0 ∨ powerOfTwo 64 65536 (rd p 8 4) = true)) :=
  ⟨2, (asked 2 0x0101 (le 8 8192 ++ le 4 64) up), (askedCmd 2 0x0101), payload (asked 2 0x0101 (le 8 8192 ++ le 4 64) up) 2, by decide, rfl, by decide, by decide⟩
theorem test_premises_sysEventMask : ∃ (m : Nat) (s : State) (c : Cmd) (p : Bytes), ready 0x0102 sysEventMaskSpec m s c = true ∧ p = payload s m :=
  ⟨2, (asked 2 0x0102 (le 4 0xFFFFFFFF) up), (askedCmd 2 0x0102), payload (asked 2 0x0102 (le 4 0xFFFFFFFF) up) 2, by decide, rfl⟩
theorem test_premises_sysInfo : ∃ (m : Nat) (s : State) (c : Cmd) (p : Bytes), ready 0x0110 sysInfoSpec m s c = true ∧ p = payload s m :=
  ⟨2, (asked 2 0x0110 ([]) up), (askedCmd 2 0x0110), payload (asked 2 0x0110 ([]) up) 2, by decide, rfl⟩
theorem test_premises_sysStatus : ∃ (m : Nat) (s : State) (c : Cmd) (p : Bytes), ready 0x0111 sysStatusSpec m s c = true ∧ p = payload s m :=
  ⟨2, (asked 2 0x0111 ([]) up), (askedCmd 2 0x0111), payload (asked 2 0x0111 ([]) up) 2, by decide, rfl⟩
theorem test_premises_sysReset1 : ∃ (m : Nat) (s : State) (c : Cmd) (p : Bytes), ready 0x0112 sysResetSpec m s c = true ∧ p = payload s m ∧
    (rd p 0 1 = 1) :=
  ⟨2, (asked 2 0x0112 (le 1 1) up), (askedCmd 2 0x0112), payload (asked 2 0x0112 (le 1 1) up) 2, by decide, rfl, by decide⟩
theorem test_premises_sysReset3 : ∃ (m : Nat) (s : State) (c : Cmd) (p : Bytes), ready 0x0112 sysResetSpec m s c = true ∧ p = payload s m ∧
    (rd p 0 1 = 3) ∧
    (rd p 4 4 = 0x434F5245) ∧
    (s.boot.stopped = false) :=
  ⟨2, (asked 2 0x0112 (le 4 3 ++ le 4 0x434F5245) up), (askedCmd 2 0x0112), payload (asked 2 0x0112 (le 4 3 ++ le 4 0x434F5245) up) 2, by decide, rfl, by decide, by decide, by decide⟩
theorem test_premises_sysBootLog : ∃ (m : Nat) (s : State) (c : Cmd) (p : Bytes), ready 0x0113 sysBootLogSpec m s c = true ∧ p = payload s m ∧
    (bmeOf s 0 = true) :=
  ⟨2, (asked 2 0x0113 (le 8 4096) (up.modHost fun h => { h with bme := [true, true] })), (askedCmd 2 0x0113), payload (asked 2 0x0113 (le 8 4096) (up.modHost fun h => { h with bme := [true, true] })) 2, by decide, rfl, by decide⟩

theorem test_premises_fwStatus : ∃ (m : Nat) (s : State) (c : Cmd) (p : Bytes), ready 0x0201 fwStatusSpec m s c = true ∧ p = payload s m :=
  ⟨2, (asked 2 0x0201 ([]) up), (askedCmd 2 0x0201), payload (asked 2 0x0201 ([]) up) 2, by decide, rfl⟩
theorem test_premises_fwStageMore : ∃ (m : Nat) (s : State) (c : Cmd) (p : Bytes) (bs : Bytes), ready 0x0202 fwStageSpec m s c = true ∧ p = payload s m ∧
    (s.fw.st = 0 ∨ s.fw.st = 1 ∨ s.fw.st = 4) ∧
    (rd p 0 4 = nextChunk s) ∧
    (1 ≤ rd p 4 4) ∧
    (rd p 4 4 ≤ 1048576) ∧
    (rd p 0 4 + rd p 4 4 ≤ 3145728) ∧
    (bit (rd p 16 1) 0 = false) ∧
    (bmeOf s 0 = true) :=
  ⟨2, (asked 2 0x0202 (le 4 0 ++ le 4 1 ++ le 8 0 ++ [0]) (up.modHost fun h => { h with bme := [true, true] })), (askedCmd 2 0x0202), payload (asked 2 0x0202 (le 4 0 ++ le 4 1 ++ le 8 0 ++ [0]) (up.modHost fun h => { h with bme := [true, true] })) 2, [7], by decide, rfl, by decide, by decide, by decide, by decide, by decide, by decide, by decide⟩
theorem test_premises_fwStageLast : ∃ (m : Nat) (s : State) (c : Cmd) (p : Bytes) (bs : Bytes), ready 0x0202 fwStageSpec m s c = true ∧ p = payload s m ∧
    (s.fw.st = 0 ∨ s.fw.st = 1 ∨ s.fw.st = 4) ∧
    (rd p 0 4 = nextChunk s) ∧
    (1 ≤ rd p 4 4) ∧
    (rd p 4 4 ≤ 1048576) ∧
    (rd p 0 4 + rd p 4 4 ≤ 3145728) ∧
    (bit (rd p 16 1) 0 = true) ∧
    (bmeOf s 0 = true) :=
  ⟨2, (asked 2 0x0202 (le 4 0 ++ le 4 1048576 ++ le 8 0 ++ [1]) (up.modHost fun h => { h with bme := [true, true] })), (askedCmd 2 0x0202), payload (asked 2 0x0202 (le 4 0 ++ le 4 1048576 ++ le 8 0 ++ [1]) (up.modHost fun h => { h with bme := [true, true] })) 2, [7], by decide, rfl, by decide, by decide, by decide, by decide, by decide, by decide, by decide⟩
theorem test_premises_fwVerify : ∃ (m : Nat) (s : State) (c : Cmd) (p : Bytes), ready 0x0203 fwVerifySpec m s c = true ∧ p = payload s m ∧
    (s.fw.st = 2) ∧
    (imageLen s.fw.other = s.fw.other.length) :=
  ⟨2, (asked 2 0x0203 ([]) (up.modFw fun f => { f with st := 2, other := [] })), (askedCmd 2 0x0203), payload (asked 2 0x0203 ([]) (up.modFw fun f => { f with st := 2, other := [] })) 2, by decide, rfl, by decide, by decide⟩
theorem test_premises_fwActivateNext : ∃ (m : Nat) (s : State) (c : Cmd) (p : Bytes), ready 0x0204 fwActivateSpec m s c = true ∧ p = payload s m ∧
    (s.fw.st = 4) ∧
    (inRecovery s = false) ∧
    (s.trust.floor ≤ rd s.fw.other 6 1) ∧
    (bit (rd p 0 1) 1 = true) :=
  ⟨2, (asked 2 0x0204 ([2]) (up.modFw fun f => { f with st := 4 })), (askedCmd 2 0x0204), payload (asked 2 0x0204 ([2]) (up.modFw fun f => { f with st := 4 })) 2, by decide, rfl, by decide, by decide, by decide, by decide⟩
theorem test_premises_fwActivateNow : ∃ (m : Nat) (s : State) (c : Cmd) (p : Bytes), ready 0x0204 fwActivateSpec m s c = true ∧ p = payload s m ∧
    (s.fw.st = 4) ∧
    (inRecovery s = false) ∧
    (s.trust.floor ≤ rd s.fw.other 6 1) ∧
    (bit (rd p 0 1) 1 = false) ∧
    (stateFormatOk s s.fw.other = true) ∧
    ((rolling s && s.ledger.roll.handed) = false) :=
  ⟨2, (asked 2 0x0204 ([0]) (up.modFw fun f => { f with st := 4 })), (askedCmd 2 0x0204), payload (asked 2 0x0204 ([0]) (up.modFw fun f => { f with st := 4 })) 2, by decide, rfl, by decide, by decide, by decide, by decide, by decide, by decide⟩
theorem test_premises_fwActivateWaits : ∃ (m : Nat) (s : State) (c : Cmd) (p : Bytes), ready 0x0204 fwActivateSpec m s c = true ∧ p = payload s m ∧
    (s.fw.st = 4) ∧
    (inRecovery s = false) ∧
    (s.trust.floor ≤ rd s.fw.other 6 1) ∧
    (bit (rd p 0 1) 1 = false) ∧
    (stateFormatOk s s.fw.other = true) ∧
    ((rolling s && s.ledger.roll.handed) = true) :=
  ⟨2, (asked 2 0x0204 ([0]) ((up.modFw fun f => { f with st := 4 }).modLedger fun l => { l with st := 1, roll := { l.roll with step := 3, handed := true } })), (askedCmd 2 0x0204), payload (asked 2 0x0204 ([0]) ((up.modFw fun f => { f with st := 4 }).modLedger fun l => { l with st := 1, roll := { l.roll with step := 3, handed := true } })) 2, by decide, rfl, by decide, by decide, by decide, by decide, by decide, by decide⟩
theorem test_premises_fwActivateRecovery : ∃ (m : Nat) (s : State) (c : Cmd) (p : Bytes), ready 0x0204 fwActivateSpec m s c = true ∧ p = payload s m ∧
    (s.fw.st = 3 ∨ s.fw.st = 4) ∧
    (inRecovery s = true) ∧
    (s.trust.floor ≤ rd s.fw.other 6 1) :=
  ⟨2, (asked 2 0x0204 ([0]) ((up.modFw fun f => { f with st := 3 }).modBoot fun b => { b with stage := 15 })), (askedCmd 2 0x0204), payload (asked 2 0x0204 ([0]) ((up.modFw fun f => { f with st := 3 }).modBoot fun b => { b with stage := 15 })) 2, by decide, rfl, .inl (by decide), by decide, by decide⟩
theorem test_premises_fwAbort : ∃ (m : Nat) (s : State) (c : Cmd) (p : Bytes), ready 0x0205 fwAbortSpec m s c = true ∧ p = payload s m ∧
    (s.fw.st = 1 ∨ s.fw.st = 2) :=
  ⟨2, (asked 2 0x0205 ([]) (up.modFw fun f => { f with st := 2 })), (askedCmd 2 0x0205), payload (asked 2 0x0205 ([]) (up.modFw fun f => { f with st := 2 })) 2, by decide, rfl, by decide⟩
theorem test_premises_fwAbortErase : ∃ (m : Nat) (s : State) (c : Cmd) (p : Bytes), ready 0x0205 fwAbortSpec m s c = true ∧ p = payload s m ∧
    (3 ≤ s.fw.st) :=
  ⟨2, (asked 2 0x0205 ([]) (up.modFw fun f => { f with st := 3 })), (askedCmd 2 0x0205), payload (asked 2 0x0205 ([]) (up.modFw fun f => { f with st := 3 })) 2, by decide, rfl, by decide⟩

theorem test_premises_trustIdentity : ∃ (m : Nat) (s : State) (c : Cmd) (p : Bytes), ready 0x0301 trustIdentitySpec m s c = true ∧ p = payload s m ∧
    (bit (rd p 0 1) 0 = false) :=
  ⟨2, (asked 2 0x0301 (zeros 16) up), (askedCmd 2 0x0301), payload (asked 2 0x0301 (zeros 16) up) 2, by decide, rfl, by decide⟩
theorem test_premises_trustIdentityWritten : ∃ (m : Nat) (s : State) (c : Cmd) (p : Bytes), ready 0x0301 trustIdentitySpec m s c = true ∧ p = payload s m ∧
    (bit (rd p 0 1) 0 = true) ∧
    (bmeOf s 0 = true) :=
  ⟨2, (asked 2 0x0301 (le 8 1 ++ le 8 4096) (up.modHost fun h => { h with bme := [true, true] })), (askedCmd 2 0x0301), payload (asked 2 0x0301 (le 8 1 ++ le 8 4096) (up.modHost fun h => { h with bme := [true, true] })) 2, by decide, rfl, by decide, by decide⟩
theorem test_premises_trustProvision : ∃ (m : Nat) (s : State) (c : Cmd) (p : Bytes), ready 0x0302 trustProvisionSpec m s c = true ∧ p = payload s m ∧
    (s.trust.lc = 0) ∧
    (rd p 0 1 = 1) :=
  ⟨2, (asked 2 0x0302 (le 16 1) up), (askedCmd 2 0x0302), payload (asked 2 0x0302 (le 16 1) up) 2, by decide, rfl, by decide, by decide⟩
theorem test_premises_trustProvisionCert : ∃ (m : Nat) (s : State) (c : Cmd) (p : Bytes) (bs : Bytes), ready 0x0302 trustProvisionSpec m s c = true ∧ p = payload s m ∧
    (s.trust.lc = 0) ∧
    (rd p 0 1 = 2) ∧
    (rd p 4 4 = 7984) ∧
    (s.trust.heldSeeds ≠ []) ∧
    (bmeOf s 0 = true) :=
  ⟨2, (asked 2 0x0302 (le 4 2 ++ le 4 7984 ++ zeros 8) ((up.modTrust fun t => { t with heldSeeds := [1] }).modHost fun h => { h with bme := [true, true] })), (askedCmd 2 0x0302), payload (asked 2 0x0302 (le 4 2 ++ le 4 7984 ++ zeros 8) ((up.modTrust fun t => { t with heldSeeds := [1] }).modHost fun h => { h with bme := [true, true] })) 2, [], by decide, rfl, by decide, by decide, by decide, by decide, by decide⟩
theorem test_premises_trustAttest : ∃ (m : Nat) (s : State) (c : Cmd) (p : Bytes), ready 0x0303 trustAttestSpec m s c = true ∧ p = payload s m ∧
    (s.trust.lc ≠ 0) ∧
    (bmeOf s 0 = true) :=
  ⟨2, (asked 2 0x0303 (zeros 40) ((up.modTrust fun t => { t with lc := 1 }).modHost fun h => { h with bme := [true, true] })), (askedCmd 2 0x0303), payload (asked 2 0x0303 (zeros 40) ((up.modTrust fun t => { t with lc := 1 }).modHost fun h => { h with bme := [true, true] })) 2, by decide, rfl, by decide, by decide⟩
theorem test_premises_trustLcStatus : ∃ (m : Nat) (s : State) (c : Cmd) (p : Bytes), ready 0x0304 trustLcStatusSpec m s c = true ∧ p = payload s m :=
  ⟨2, (asked 2 0x0304 ([]) up), (askedCmd 2 0x0304), payload (asked 2 0x0304 ([]) up) 2, by decide, rfl⟩
theorem test_premises_trustLcAdvance : ∃ (m : Nat) (s : State) (c : Cmd) (p : Bytes), ready 0x0305 trustLcAdvanceSpec m s c = true ∧ p = payload s m ∧
    (s.trust.lc = 1) ∧
    (rd p 0 1 = 2) :=
  ⟨2, (asked 2 0x0305 (le 8 2 ++ zeros 8) (up.modTrust fun t => { t with lc := 1 })), (askedCmd 2 0x0305), payload (asked 2 0x0305 (le 8 2 ++ zeros 8) (up.modTrust fun t => { t with lc := 1 })) 2, by decide, rfl, by decide, by decide⟩
theorem test_premises_trustReturn : ∃ (m : Nat) (s : State) (c : Cmd) (p : Bytes) (bs : Bytes), ready 0x0306 trustReturnSpec m s c = true ∧ p = payload s m ∧
    (s.trust.lc = 2) ∧
    (rd p 8 4 = 7984) ∧
    (bmeOf s 0 = true) :=
  ⟨2, (asked 2 0x0306 (zeros 8 ++ le 4 7984) ((up.modTrust fun t => { t with lc := 2 }).modHost fun h => { h with bme := [true, true] })), (askedCmd 2 0x0306), payload (asked 2 0x0306 (zeros 8 ++ le 4 7984) ((up.modTrust fun t => { t with lc := 2 }).modHost fun h => { h with bme := [true, true] })) 2, [], by decide, rfl, by decide, by decide, by decide⟩
theorem test_premises_trustConsent : ∃ (m : Nat) (s : State) (c : Cmd) (p : Bytes), ready 0x0307 trustConsentSpec m s c = true ∧ p = payload s m ∧
    ((∃ b, returnNow s = some (part p 0 32, b))) ∧
    (s.ledger.st = 0) ∧
    (s.trust.lc = 2) :=
  ⟨2, (asked 2 0x0307 (zeros 40) (up.modTrust fun t => { t with lc := 2, ret := some (zeros 32, 0) })), (askedCmd 2 0x0307), payload (asked 2 0x0307 (zeros 40) (up.modTrust fun t => { t with lc := 2, ret := some (zeros 32, 0) })) 2, by decide, rfl, ⟨0, by decide⟩, by decide, by decide⟩

theorem test_premises_portCreate : ∃ (m : Nat) (s : State) (c : Cmd) (p : Bytes), ready 0x0401 portCreateSpec m s c = true ∧ p = payload s m ∧
    (portArg p < 768) ∧
    (rd p 2 1 = 1 ∨ rd p 2 1 = 2 ∨ rd p 2 1 = 4 ∨ rd p 2 1 = 8) ∧
    (portArg p % rd p 2 1 = 0) ∧
    (widthAllowed (rd p 2 1) (rd p 3 1) = true) ∧
    (fecAllowed (rd p 3 1) (rd p 4 1) = true) ∧
    (rd p 5 1 ≤ 2) ∧
    (lanesTaken s (portArg p) (rd p 2 1) = false) :=
  ⟨2, (asked 2 0x0401 (le 2 0 ++ [4, 3, 3, 0]) up), (askedCmd 2 0x0401), payload (asked 2 0x0401 (le 2 0 ++ [4, 3, 3, 0]) up) 2, by decide, rfl, by decide, by decide, by decide, by decide, by decide, by decide, by decide⟩
theorem test_premises_portDelete : ∃ (m : Nat) (s : State) (c : Cmd) (p : Bytes), ready 0x0402 portDeleteSpec m s c = true ∧ p = payload s m ∧
    (portArg p < 768) ∧
    (portThere s (portArg p) = true) ∧
    (adminAhead s (portArg p) = false) :=
  ⟨2, (asked 2 0x0402 (le 2 0) (up.modPorts fun t => t.put 0 {})), (askedCmd 2 0x0402), payload (asked 2 0x0402 (le 2 0) (up.modPorts fun t => t.put 0 {})) 2, by decide, rfl, by decide, by decide, by decide⟩
theorem test_premises_portAdmin : ∃ (m : Nat) (s : State) (c : Cmd) (p : Bytes), ready 0x0403 portAdminSpec m s c = true ∧ p = payload s m ∧
    (portArg p < 768) ∧
    (portThere s (portArg p) = true) ∧
    (rd p 2 1 ≤ 1) :=
  ⟨2, (asked 2 0x0403 ([0, 0, 1]) (up.modPorts fun t => t.put 0 {})), (askedCmd 2 0x0403), payload (asked 2 0x0403 ([0, 0, 1]) (up.modPorts fun t => t.put 0 {})) 2, by decide, rfl, by decide, by decide, by decide⟩
theorem test_premises_portConfig : ∃ (m : Nat) (s : State) (c : Cmd) (p : Bytes), ready 0x0404 portConfigSpec m s c = true ∧ p = payload s m ∧
    (portArg p < 768) ∧
    (portThere s (portArg p) = true) ∧
    (rd p 2 1 < 8) ∧
    (1518 ≤ rd p 4 2) ∧
    (rd p 4 2 ≤ 16384) ∧
    (rd p 8 4 ≤ 1000000) :=
  ⟨2, (asked 2 0x0404 (le 4 0 ++ le 4 1518 ++ zeros 8) (up.modPorts fun t => t.put 0 {})), (askedCmd 2 0x0404), payload (asked 2 0x0404 (le 4 0 ++ le 4 1518 ++ zeros 8) (up.modPorts fun t => t.put 0 {})) 2, by decide, rfl, by decide, by decide, by decide, by decide, by decide, by decide⟩
theorem test_premises_portStatus : ∃ (m : Nat) (s : State) (c : Cmd) (p : Bytes), ready 0x0405 portStatusSpec m s c = true ∧ p = payload s m ∧
    (portArg p < 768) ∧
    (portThere s (portArg p) = true) :=
  ⟨2, (asked 2 0x0405 (le 2 0) (up.modPorts fun t => t.put 0 {})), (askedCmd 2 0x0405), payload (asked 2 0x0405 (le 2 0) (up.modPorts fun t => t.put 0 {})) 2, by decide, rfl, by decide, by decide⟩
theorem test_premises_portStats : ∃ (m : Nat) (s : State) (c : Cmd) (p : Bytes), ready 0x0406 portStatsSpec m s c = true ∧ p = payload s m ∧
    (portArg p < 768) ∧
    (portThere s (portArg p) = true) :=
  ⟨2, (asked 2 0x0406 (le 3 0) (up.modPorts fun t => t.put 0 {})), (askedCmd 2 0x0406), payload (asked 2 0x0406 (le 3 0) (up.modPorts fun t => t.put 0 {})) 2, by decide, rfl, by decide, by decide⟩
theorem test_premises_portPfcConfig : ∃ (m : Nat) (s : State) (c : Cmd) (p : Bytes), ready 0x0407 portPfcConfigSpec m s c = true ∧ p = payload s m ∧
    (portArg p < 768) ∧
    (portThere s (portArg p) = true) ∧
    (bit (rd p 2 1) s.tm.expressTc = false) ∧
    (rd p 6 2 < rd p 4 2) ∧
    (rd p 8 4 ≤ 1000000) ∧
    (1 ≤ rd p 12 4) ∧
    (rd p 12 4 ≤ 1000000) :=
  ⟨2, (asked 2 0x0407 (le 4 0 ++ le 2 1 ++ le 2 0 ++ le 4 0 ++ le 4 1) (up.modPorts fun t => t.put 0 {})), (askedCmd 2 0x0407), payload (asked 2 0x0407 (le 4 0 ++ le 2 1 ++ le 2 0 ++ le 4 0 ++ le 4 1) (up.modPorts fun t => t.put 0 {})) 2, by decide, rfl, by decide, by decide, by decide, by decide, by decide, by decide, by decide⟩
theorem test_premises_portPreemptConfig : ∃ (m : Nat) (s : State) (c : Cmd) (p : Bytes), ready 0x0408 portPreemptConfigSpec m s c = true ∧ p = payload s m ∧
    (portArg p < 768) ∧
    (portThere s (portArg p) = true) ∧
    (rd p 2 1 < 4) ∧
    (bit (rd p 3 1) s.tm.expressTc = false) ∧
    (rd p 4 1 ≤ 3) ∧
    (1 ≤ rd p 5 1) ∧
    (rd p 5 1 ≤ 128) :=
  ⟨2, (asked 2 0x0408 ([0, 0, 0, 0, 0, 1]) (up.modPorts fun t => t.put 0 {})), (askedCmd 2 0x0408), payload (asked 2 0x0408 ([0, 0, 0, 0, 0, 1]) (up.modPorts fun t => t.put 0 {})) 2, by decide, rfl, by decide, by decide, by decide, by decide, by decide, by decide, by decide⟩
theorem test_premises_portFlush : ∃ (m : Nat) (s : State) (c : Cmd) (p : Bytes), ready 0x0409 portFlushSpec m s c = true ∧ p = payload s m ∧
    (portArg p < 768) ∧
    (portThere s (portArg p) = true) ∧
    ((s.port (portArg p)).up = false) :=
  ⟨2, (asked 2 0x0409 ([0, 0, 1]) (up.modPorts fun t => t.put 0 {})), (askedCmd 2 0x0409), payload (asked 2 0x0409 ([0, 0, 1]) (up.modPorts fun t => t.put 0 {})) 2, by decide, rfl, by decide, by decide, by decide⟩

theorem test_premises_laneConfig : ∃ (m : Nat) (s : State) (c : Cmd) (p : Bytes), ready 0x0501 laneConfigSpec m s c = true ∧ p = payload s m ∧
    (laneArg p < 768) ∧
    (rd p 2 1 ≤ 5) ∧
    ((∀ q, portOfLane s (laneArg p) = some q → widthAllowed (s.port q).width (rd p 2 1) = true)) ∧
    (fecAllowed (rd p 2 1) (rd p 3 1) = true) ∧
    (rd p 4 1 ≤ 2) ∧
    (rd p 5 1 < 32) ∧
    (500 ≤ rd p 6 2) ∧
    (rd p 6 2 ≤ 12000) ∧
    (1 ≤ rd p 8 2) ∧
    (rd p 8 2 ≤ 10000) ∧
    (rd p 10 2 ≤ 10000) :=
  ⟨2, (asked 2 0x0501 (le 2 0 ++ [3, 3, 0, 9] ++ le 2 3000 ++ le 2 100 ++ le 2 1000 ++ zeros 4) up), (askedCmd 2 0x0501), payload (asked 2 0x0501 (le 2 0 ++ [3, 3, 0, 9] ++ le 2 3000 ++ le 2 100 ++ le 2 1000 ++ zeros 4) up) 2, by decide, rfl, by decide, by decide, (by intro q h; have e : portOfLane (asked 2 0x0501 (le 2 0 ++ [3, 3, 0, 9] ++ le 2 3000 ++ le 2 100 ++ le 2 1000 ++ zeros 4) up) (laneArg (payload (asked 2 0x0501 (le 2 0 ++ [3, 3, 0, 9] ++ le 2 3000 ++ le 2 100 ++ le 2 1000 ++ zeros 4) up) 2)) = none := (by decide); rw [e] at h; cases h), by decide, by decide, by decide, by decide, by decide, by decide, by decide, by decide⟩
theorem test_premises_laneEnable : ∃ (m : Nat) (s : State) (c : Cmd) (p : Bytes), ready 0x0502 laneEnableSpec m s c = true ∧ p = payload s m ∧
    (laneArg p < 768) ∧
    ((s.lane (laneArg p)).state = 0) ∧
    ((s.lane (laneArg p)).mode ≠ 0) ∧
    (((groupOfLane s (laneArg p)).all fun l => (s.lane l).held.isEmpty) = true) :=
  ⟨2, (asked 2 0x0502 (le 2 0) (modLane 0 (fun x => { x with state := 0, mode := 3 }) up)), (askedCmd 2 0x0502), payload (asked 2 0x0502 (le 2 0) (modLane 0 (fun x => { x with state := 0, mode := 3 }) up)) 2, by decide, rfl, by decide, by decide, by decide, by decide⟩
theorem test_premises_laneDisable : ∃ (m : Nat) (s : State) (c : Cmd) (p : Bytes), ready 0x0503 laneDisableSpec m s c = true ∧ p = payload s m ∧
    (laneArg p < 768) :=
  ⟨2, (asked 2 0x0503 (le 2 0) up), (askedCmd 2 0x0503), payload (asked 2 0x0503 (le 2 0) up) 2, by decide, rfl, by decide⟩
theorem test_premises_laneStatus : ∃ (m : Nat) (s : State) (c : Cmd) (p : Bytes), ready 0x0504 laneStatusSpec m s c = true ∧ p = payload s m ∧
    (laneArg p < 768) :=
  ⟨2, (asked 2 0x0504 (le 2 0) up), (askedCmd 2 0x0504), payload (asked 2 0x0504 (le 2 0) up) 2, by decide, rfl, by decide⟩
theorem test_premises_laneGetCoeff : ∃ (m : Nat) (s : State) (c : Cmd) (p : Bytes), ready 0x0505 laneGetCoeffSpec m s c = true ∧ p = payload s m ∧
    (laneArg p < 768) :=
  ⟨2, (asked 2 0x0505 (le 2 0) up), (askedCmd 2 0x0505), payload (asked 2 0x0505 (le 2 0) up) 2, by decide, rfl, by decide⟩
theorem test_premises_laneSetCoeff : ∃ (m : Nat) (s : State) (c : Cmd) (p : Bytes), ready 0x0506 laneSetCoeffSpec m s c = true ∧ p = payload s m ∧
    (laneArg p < 768) ∧
    (badTap (s.lane (laneArg p)).mode (tapsOf (part p 2 16)) = none) ∧
    (tapsJoint (tapsOf (part p 2 16)) = true) ∧
    (rd p 7 1 ≤ 20) ∧
    ((s.lane (laneArg p)).state = 0 ∨ (s.lane (laneArg p)).state = 7) :=
  ⟨2, (asked 2 0x0506 (le 2 0 ++ [0, 0, 0, 64, 0, 0] ++ zeros 10) up), (askedCmd 2 0x0506), payload (asked 2 0x0506 (le 2 0 ++ [0, 0, 0, 64, 0, 0] ++ zeros 10) up) 2, by decide, rfl, by decide, by decide, by decide, by decide, by decide⟩
theorem test_premises_laneRetrain : ∃ (m : Nat) (s : State) (c : Cmd) (p : Bytes), ready 0x0507 laneRetrainSpec m s c = true ∧ p = payload s m ∧
    (laneArg p < 768) ∧
    ((s.lane (laneArg p)).state = 6) :=
  ⟨2, (asked 2 0x0507 (le 2 0) (modLane 0 (fun x => { x with state := 6, mode := 3 }) up)), (askedCmd 2 0x0507), payload (asked 2 0x0507 (le 2 0) (modLane 0 (fun x => { x with state := 6, mode := 3 }) up)) 2, by decide, rfl, by decide, by decide⟩
theorem test_premises_laneLoopbackOff : ∃ (m : Nat) (s : State) (c : Cmd) (p : Bytes), ready 0x0508 laneLoopbackSpec m s c = true ∧ p = payload s m ∧
    (laneArg p < 768) ∧
    (rd p 2 1 = 0) :=
  ⟨2, (asked 2 0x0508 (le 3 0) up), (askedCmd 2 0x0508), payload (asked 2 0x0508 (le 3 0) up) 2, by decide, rfl, by decide, by decide⟩
theorem test_premises_laneLoopback : ∃ (m : Nat) (s : State) (c : Cmd) (p : Bytes), ready 0x0508 laneLoopbackSpec m s c = true ∧ p = payload s m ∧
    (laneArg p < 768) ∧
    (1 ≤ rd p 2 1) ∧
    (rd p 2 1 ≤ 4) ∧
    ((s.lane (laneArg p)).held = []) ∧
    ((s.lane (laneArg p)).state = 0 ∨ (∃ q, portOfLane s (laneArg p) = some q ∧ (s.port q).admin = false)) :=
  ⟨2, (asked 2 0x0508 (le 2 0 ++ [1]) up), (askedCmd 2 0x0508), payload (asked 2 0x0508 (le 2 0 ++ [1]) up) 2, by decide, rfl, by decide, by decide, by decide, by decide, Or.inl (by decide)⟩
theorem test_premises_lanePrbs : ∃ (m : Nat) (s : State) (c : Cmd) (p : Bytes), ready 0x0509 lanePrbsSpec m s c = true ∧ p = payload s m ∧
    (laneArg p < 768) ∧
    (prbsOk (s.lane (laneArg p)).mode (rd p 2 1) = true) ∧
    (rd p 3 1 < 4) ∧
    ((s.lane (laneArg p)).state = 0 ∨ (s.lane (laneArg p)).state = 9) :=
  ⟨2, (asked 2 0x0509 (le 2 0 ++ [0, 3]) up), (askedCmd 2 0x0509), payload (asked 2 0x0509 (le 2 0 ++ [0, 3]) up) 2, by decide, rfl, by decide, by decide, by decide, by decide⟩
theorem test_premises_laneEye : ∃ (m : Nat) (s : State) (c : Cmd) (p : Bytes), ready 0x050A laneEyeSpec m s c = true ∧ p = payload s m ∧
    (laneArg p < 768) ∧
    ((s.lane (laneArg p)).state = 6 ∨ (s.lane (laneArg p)).state = 9) :=
  ⟨2, (asked 2 0x050A (le 2 0) (modLane 0 (fun x => { x with state := 6, mode := 3 }) up)), (askedCmd 2 0x050A), payload (asked 2 0x050A (le 2 0) (modLane 0 (fun x => { x with state := 6, mode := 3 }) up)) 2, by decide, rfl, by decide, by decide⟩
theorem test_premises_laneCounters : ∃ (m : Nat) (s : State) (c : Cmd) (p : Bytes), ready 0x050B laneCountersSpec m s c = true ∧ p = payload s m ∧
    (laneArg p < 768) :=
  ⟨2, (asked 2 0x050B (le 3 0) up), (askedCmd 2 0x050B), payload (asked 2 0x050B (le 3 0) up) 2, by decide, rfl, by decide⟩
theorem test_premises_laneTrainLog : ∃ (m : Nat) (s : State) (c : Cmd) (p : Bytes), ready 0x050C laneTrainLogSpec m s c = true ∧ p = payload s m ∧
    (laneArg p < 768) :=
  ⟨2, (asked 2 0x050C (le 2 0) up), (askedCmd 2 0x050C), payload (asked 2 0x050C (le 2 0) up) 2, by decide, rfl, by decide⟩
theorem test_premises_laneQuietTlv : ∃ (m : Nat) (s : State) (c : Cmd) (p : Bytes), ready 0x050D laneQuietTlvSpec m s c = true ∧ p = payload s m ∧
    (laneArg p < 768) ∧
    ((portOfLane s (laneArg p)).isSome = true) :=
  ⟨2, (asked 2 0x050D (le 2 0) (up.modPorts fun t => t.put 0 {})), (askedCmd 2 0x050D), payload (asked 2 0x050D (le 2 0) (up.modPorts fun t => t.put 0 {})) 2, by decide, rfl, by decide, by decide⟩
theorem test_premises_laneQuietPeerEnd : ∃ (m : Nat) (s : State) (c : Cmd) (p : Bytes), ready 0x050E laneQuietPeerSpec m s c = true ∧ p = payload s m ∧
    (laneArg p < 768) ∧
    (rd p 2 1 = 0) :=
  ⟨2, (asked 2 0x050E (le 3 0) up), (askedCmd 2 0x050E), payload (asked 2 0x050E (le 3 0) up) 2, by decide, rfl, by decide, by decide⟩
theorem test_premises_laneQuietPeer : ∃ (m : Nat) (s : State) (c : Cmd) (p : Bytes), ready 0x050E laneQuietPeerSpec m s c = true ∧ p = payload s m ∧
    (laneArg p < 768) ∧
    (rd p 2 1 = 12) :=
  ⟨2, (asked 2 0x050E (le 2 0 ++ [12] ++ zeros 12) up), (askedCmd 2 0x050E), payload (asked 2 0x050E (le 2 0 ++ [12] ++ zeros 12) up) 2, by decide, rfl, by decide, by decide⟩
theorem test_premises_laneQuietConfig : ∃ (m : Nat) (s : State) (c : Cmd) (p : Bytes), ready 0x050F laneQuietConfigSpec m s c = true ∧ p = payload s m ∧
    (laneArg p < 768) ∧
    (1 ≤ rd p 3 2) :=
  ⟨2, (asked 2 0x050F (le 2 0 ++ [1] ++ le 2 1) up), (askedCmd 2 0x050F), payload (asked 2 0x050F (le 2 0 ++ [1] ++ le 2 1) up) 2, by decide, rfl, by decide, by decide⟩

theorem test_premises_ruleOpen : ∃ (m : Nat) (s : State) (c : Cmd) (p : Bytes), ready 0x0601 ruleOpenSpec m s c = true ∧ p = payload s m ∧
    (s.rules.sw = 0) ∧
    (bankNow s = 0 ∨ bankNow s = 5) ∧
    (rd p 0 2 = nextVersion s) :=
  ⟨2, (asked 2 0x0601 (le 2 1) up), (askedCmd 2 0x0601), payload (asked 2 0x0601 (le 2 1) up) 2, by decide, rfl, by decide, by decide, by decide⟩
theorem test_premises_ruleLoadMore : ∃ (m : Nat) (s : State) (c : Cmd) (p : Bytes) (bs : Bytes), ready 0x0602 ruleLoadSpec m s c = true ∧ p = payload s m ∧
    (s.rules.sw = 0) ∧
    (bankNow s = 1) ∧
    (s.rules.placing = none) ∧
    (rd p 0 4 = s.rules.loadOff) ∧
    (1 ≤ rd p 4 4) ∧
    (rd p 4 4 ≤ 4194304) ∧
    (bit (rd p 16 1) 0 = false) ∧
    (bmeOf s 0 = true) :=
  ⟨2, (asked 2 0x0602 (le 4 0 ++ le 4 1 ++ zeros 9) ((modBank 1 (fun b => { b with st := 1, pst := 1 }) up).modHost fun h => { h with bme := [true, true] })), (askedCmd 2 0x0602), payload (asked 2 0x0602 (le 4 0 ++ le 4 1 ++ zeros 9) ((modBank 1 (fun b => { b with st := 1, pst := 1 }) up).modHost fun h => { h with bme := [true, true] })) 2, [], by decide, rfl, by decide, by decide, by decide, by decide, by decide, by decide, by decide, by decide⟩
theorem test_premises_ruleLoadLast : ∃ (m : Nat) (s : State) (c : Cmd) (p : Bytes) (bs : Bytes), ready 0x0602 ruleLoadSpec m s c = true ∧ p = payload s m ∧
    (s.rules.sw = 0) ∧
    (bankNow s = 1) ∧
    (s.rules.placing = none) ∧
    (rd p 0 4 = s.rules.loadOff) ∧
    (1 ≤ rd p 4 4) ∧
    (rd p 4 4 ≤ 4194304) ∧
    (bit (rd p 16 1) 0 = true) ∧
    (bmeOf s 0 = true) :=
  ⟨2, (asked 2 0x0602 (le 4 0 ++ le 4 1 ++ zeros 8 ++ [1]) ((modBank 1 (fun b => { b with st := 1, pst := 1 }) up).modHost fun h => { h with bme := [true, true] })), (askedCmd 2 0x0602), payload (asked 2 0x0602 (le 4 0 ++ le 4 1 ++ zeros 8 ++ [1]) ((modBank 1 (fun b => { b with st := 1, pst := 1 }) up).modHost fun h => { h with bme := [true, true] })) 2, [], by decide, rfl, by decide, by decide, by decide, by decide, by decide, by decide, by decide, by decide⟩
theorem test_premises_ruleCommit : ∃ (m : Nat) (s : State) (c : Cmd) (p : Bytes), ready 0x0603 ruleCommitSpec m s c = true ∧ p = payload s m ∧
    (s.rules.sw = 0) ∧
    (bankNow s = 2) :=
  ⟨2, (asked 2 0x0603 ([]) (modBank 1 (fun b => { b with st := 2, pst := 2 }) up)), (askedCmd 2 0x0603), payload (asked 2 0x0603 ([]) (modBank 1 (fun b => { b with st := 2, pst := 2 }) up)) 2, by decide, rfl, by decide, by decide⟩
theorem test_premises_ruleAbort : ∃ (m : Nat) (s : State) (c : Cmd) (p : Bytes), ready 0x0604 ruleAbortSpec m s c = true ∧ p = payload s m ∧
    (s.rules.sw = 0) ∧
    (bankNow s = 1 ∨ bankNow s = 2) :=
  ⟨2, (asked 2 0x0604 ([]) (modBank 1 (fun b => { b with st := 2, pst := 2 }) up)), (askedCmd 2 0x0604), payload (asked 2 0x0604 ([]) (modBank 1 (fun b => { b with st := 2, pst := 2 }) up)) 2, by decide, rfl, by decide, by decide⟩
theorem test_premises_ruleRevert : ∃ (m : Nat) (s : State) (c : Cmd) (p : Bytes), ready 0x0605 ruleRevertSpec m s c = true ∧ p = payload s m ∧
    (s.rules.sw = 0) ∧
    (bankNow s = 4 ∨ bankNow s = 5) :=
  ⟨2, (asked 2 0x0605 ([]) (modBank 1 (fun b => { b with st := 5, pst := 5 }) up)), (askedCmd 2 0x0605), payload (asked 2 0x0605 ([]) (modBank 1 (fun b => { b with st := 5, pst := 5 }) up)) 2, by decide, rfl, by decide, by decide⟩
theorem test_premises_ruleStatus : ∃ (m : Nat) (s : State) (c : Cmd) (p : Bytes), ready 0x0606 ruleStatusSpec m s c = true ∧ p = payload s m :=
  ⟨2, (asked 2 0x0606 ([]) up), (askedCmd 2 0x0606), payload (asked 2 0x0606 ([]) up) 2, by decide, rfl⟩
theorem test_premises_ruleHashProbe : ∃ (m : Nat) (s : State) (c : Cmd) (p : Bytes), ready 0x0607 ruleHashProbeSpec m s c = true ∧ p = payload s m ∧
    (rd p 0 4 < 2 ^ 20) ∧
    (14 ≤ rd p 4 2) ∧
    (rd p 4 2 ≤ 512) :=
  ⟨2, (asked 2 0x0607 (le 4 0 ++ le 2 14 ++ zeros 14) up), (askedCmd 2 0x0607), payload (asked 2 0x0607 (le 4 0 ++ le 2 14 ++ zeros 14) up) 2, by decide, rfl, by decide, by decide, by decide⟩
theorem test_premises_ruleParseStats : ∃ (m : Nat) (s : State) (c : Cmd) (p : Bytes), ready 0x0608 ruleParseStatsSpec m s c = true ∧ p = payload s m ∧
    (rd p 0 2 < 802) :=
  ⟨2, (asked 2 0x0608 (le 3 0) up), (askedCmd 2 0x0608), payload (asked 2 0x0608 (le 3 0) up) 2, by decide, rfl, by decide⟩

theorem test_premises_tableConfig : ∃ (m : Nat) (s : State) (c : Cmd) (p : Bytes), ready 0x0701 tableConfigSpec m s c = true ∧ p = payload s m ∧
    (1 ≤ rd p 10 1) ∧
    (rd p 10 1 ≤ 15) ∧
    (rd p 16 4 ≠ 0) ∧
    (rd p 24 4 ≠ 0) :=
  ⟨2, (asked 2 0x0701 (zeros 10 ++ [1] ++ zeros 5 ++ le 8 1 ++ le 4 1) up), (askedCmd 2 0x0701), payload (asked 2 0x0701 (zeros 10 ++ [1] ++ zeros 5 ++ le 8 1 ++ le 4 1) up) 2, by decide, rfl, by decide, by decide, by decide, by decide⟩
theorem test_premises_tableInsert : ∃ (m : Nat) (s : State) (c : Cmd) (p : Bytes), ready 0x0702 tableInsertSpec m s c = true ∧ p = payload s m ∧
    (passes (tableHead p true ++ inPayload (recordChecks (rd p 0 1) (part p 4 32)) ++ [(rd p 0 1 != 5 || lagRules s (part p 4 32), 6)])) :=
  ⟨2, (asked 2 0x0702 ([8, 15] ++ zeros 34) up), (askedCmd 2 0x0702), payload (asked 2 0x0702 ([8, 15] ++ zeros 34) up) 2, by decide, rfl, by decide⟩
theorem test_premises_tableDelete : ∃ (m : Nat) (s : State) (c : Cmd) (p : Bytes), ready 0x0703 tableDeleteSpec m s c = true ∧ p = payload s m ∧
    (passes (tableHead p true ++ inPayload (keyChecks (rd p 0 1) (part p 4 32)))) :=
  ⟨2, (asked 2 0x0703 ([8, 15] ++ zeros 34) up), (askedCmd 2 0x0703), payload (asked 2 0x0703 ([8, 15] ++ zeros 34) up) 2, by decide, rfl, by decide⟩
theorem test_premises_tableRead : ∃ (m : Nat) (s : State) (c : Cmd) (p : Bytes) (r : Bytes), ready 0x0704 tableReadSpec m s c = true ∧ p = payload s m ∧
    (passes (tableHead p false ++ inPayload (keyChecks (rd p 0 1) (part p 4 32)))) ∧
    (recordOf s.tab (rd p 0 1) ((quadsOf (rd p 1 1)).headD 0) (part p 4 32) = some r) :=
  ⟨2, (asked 2 0x0704 ([8, 15] ++ zeros 34) up), (askedCmd 2 0x0704), payload (asked 2 0x0704 ([8, 15] ++ zeros 34) up) 2, zeros 32, by decide, rfl, by decide, by decide⟩
theorem test_premises_tableFlush : ∃ (m : Nat) (s : State) (c : Cmd) (p : Bytes), ready 0x0705 tableFlushSpec m s c = true ∧ p = payload s m ∧
    (rd p 0 1 ≠ 0) ∧
    (rd p 0 1 < 16) ∧
    (rd p 1 1 < 4) ∧
    ((bit (rd p 1 1) 1 = true → destOk 0 (rd p 4 3) = true)) :=
  ⟨2, (asked 2 0x0705 ([1] ++ zeros 6) up), (askedCmd 2 0x0705), payload (asked 2 0x0705 ([1] ++ zeros 6) up) 2, by decide, rfl, by decide, by decide, by decide, by decide⟩
theorem test_premises_tableLearnConfig : ∃ (m : Nat) (s : State) (c : Cmd) (p : Bytes), ready 0x0706 tableLearnConfigSpec m s c = true ∧ p = payload s m ∧
    (learnKeyOk (rd p 0 2) = true) ∧
    (1 ≤ rd p 4 4) ∧
    (rd p 4 4 ≤ 1048576) :=
  ⟨2, (asked 2 0x0706 (le 4 0 ++ le 4 1) up), (askedCmd 2 0x0706), payload (asked 2 0x0706 (le 4 0 ++ le 4 1) up) 2, by decide, rfl, by decide, by decide, by decide⟩
theorem test_premises_tableLearnStatus : ∃ (m : Nat) (s : State) (c : Cmd) (p : Bytes), ready 0x0707 tableLearnStatusSpec m s c = true ∧ p = payload s m ∧
    (learnKeyOk (rd p 0 2) = true) :=
  ⟨2, (asked 2 0x0707 (le 2 0) up), (askedCmd 2 0x0707), payload (asked 2 0x0707 (le 2 0) up) 2, by decide, rfl, by decide⟩
theorem test_premises_tableNotifyRing : ∃ (m : Nat) (s : State) (c : Cmd) (p : Bytes), ready 0x0708 tableNotifyRingSpec m s c = true ∧ p = payload s m ∧
    (powerOfTwo 64 65536 (rd p 8 4) = true) ∧
    (rd p 13 2 ≠ 0) :=
  ⟨2, (asked 2 0x0708 (le 8 0 ++ le 4 64 ++ [0] ++ le 2 1) up), (askedCmd 2 0x0708), payload (asked 2 0x0708 (le 8 0 ++ le 4 64 ++ [0] ++ le 2 1) up) 2, by decide, rfl, by decide, by decide⟩
theorem test_premises_tableStats : ∃ (m : Nat) (s : State) (c : Cmd) (p : Bytes), ready 0x0709 tableStatsSpec m s c = true ∧ p = payload s m ∧
    (rd p 0 1 < 4) :=
  ⟨2, (asked 2 0x0709 (le 2 0) up), (askedCmd 2 0x0709), payload (asked 2 0x0709 (le 2 0) up) 2, by decide, rfl, by decide⟩
theorem test_premises_tableNhStatus : ∃ (m : Nat) (s : State) (c : Cmd) (p : Bytes), ready 0x070A tableNhStatusSpec m s c = true ∧ p = payload s m ∧
    (rd p 0 4 < 131072) :=
  ⟨2, (asked 2 0x070A (le 4 0) up), (askedCmd 2 0x070A), payload (asked 2 0x070A (le 4 0) up) 2, by decide, rfl, by decide⟩

theorem test_premises_tableTernGroup : ∃ (m : Nat) (s : State) (c : Cmd) (p : Bytes), ready 0x0710 ternGroupSpec m s c = true ∧ p = payload s m ∧
    (passes (groupChecks s p)) ∧
    (groupHeld s (rd p 0 1) = false) ∧
    (groupNamed s (rd p 0 1) = false) :=
  ⟨2, (asked 2 0x0710 ([0, 0, 1, 1, 0]) up), (askedCmd 2 0x0710), payload (asked 2 0x0710 ([0, 0, 1, 1, 0]) up) 2, by decide, rfl, by decide, by decide, by decide⟩
theorem test_premises_tableTernWrite : ∃ (m : Nat) (s : State) (c : Cmd) (p : Bytes) (bs : Bytes), ready 0x0711 ternWriteSpec m s c = true ∧ p = payload s m ∧
    (rd p 0 1 ≠ 0) ∧
    (rd p 0 1 < 16) ∧
    (1 ≤ rd p 2 2) ∧
    (rd p 2 2 ≤ 1024) ∧
    (bmeOf s 0 = true) ∧
    (((ternRecords (rd p 2 2) bs).all (ternRecordOk (groupsSoon s))) = true) ∧
    (((quadsOf (rd p 0 1)).any fun q => (ternRecords (rd p 2 2) bs).any fun r => ternLocked s q (ternRecord r).2.2) = false) :=
  ⟨2, (asked 2 0x0711 ([1, 0] ++ le 2 1 ++ zeros 12) ((up.modTab fun t => { t with groups := t.groups.put 0 { first := 0, count := 16, width := 1 } }).modHost fun h => { h with bme := [true, true] })), (askedCmd 2 0x0711), payload (asked 2 0x0711 ([1, 0] ++ le 2 1 ++ zeros 12) ((up.modTab fun t => { t with groups := t.groups.put 0 { first := 0, count := 16, width := 1 } }).modHost fun h => { h with bme := [true, true] })) 2, zeros 96, by decide, rfl, by decide, by decide, by decide, by decide, by decide, by decide, by decide⟩
theorem test_premises_tableTernMove : ∃ (m : Nat) (s : State) (c : Cmd) (p : Bytes) (bs : Bytes) (q : Nat), ready 0x0712 ternMoveSpec m s c = true ∧ p = payload s m ∧
    (quadsOf (rd p 0 1) = [q]) ∧
    (rd p 0 1 < 16) ∧
    (1 ≤ rd p 2 2) ∧
    (rd p 2 2 ≤ 1024) ∧
    (bmeOf s 0 = true) ∧
    (movesOk s q (movePairs (rd p 2 2) bs) = true) ∧
    (((movePairs (rd p 2 2) bs).any fun x => ternLocked s q x.1 || ternLocked s q x.2) = false) :=
  ⟨2, (asked 2 0x0712 ([1, 0] ++ le 2 1 ++ zeros 12) ((up.modTab fun t => { t with groups := t.groups.put 0 { first := 0, count := 16, width := 1 } }).modHost fun h => { h with bme := [true, true] })), (askedCmd 2 0x0712), payload (asked 2 0x0712 ([1, 0] ++ le 2 1 ++ zeros 12) ((up.modTab fun t => { t with groups := t.groups.put 0 { first := 0, count := 16, width := 1 } }).modHost fun h => { h with bme := [true, true] })) 2, le 4 0 ++ le 4 1, 0, by decide, rfl, by decide, by decide, by decide, by decide, by decide, by decide, by decide⟩
theorem test_premises_tableTernBlockMove : ∃ (m : Nat) (s : State) (c : Cmd) (p : Bytes) (q : Nat), ready 0x0713 ternBlockMoveSpec m s c = true ∧ p = payload s m ∧
    (quadsOf (rd p 0 1) = [q]) ∧
    (rd p 0 1 < 16) ∧
    (passes (blockChecks s q p)) ∧
    ((s.quad q).move = none) :=
  ⟨2, (asked 2 0x0713 ([1, 0, 0, 0] ++ le 4 0 ++ le 4 1) (up.modTab fun t => { t with groups := t.groups.put 0 { first := 0, count := 16, width := 1 } })), (askedCmd 2 0x0713), payload (asked 2 0x0713 ([1, 0, 0, 0] ++ le 4 0 ++ le 4 1) (up.modTab fun t => { t with groups := t.groups.put 0 { first := 0, count := 16, width := 1 } })) 2, 0, by decide, rfl, by decide, by decide, by decide, by decide⟩
theorem test_premises_tableTernRead : ∃ (m : Nat) (s : State) (c : Cmd) (p : Bytes) (q : Nat), ready 0x0714 ternReadSpec m s c = true ∧ p = payload s m ∧
    (quadsOf (rd p 0 1) = [q]) ∧
    (rd p 0 1 < 16) ∧
    (rd p 4 4 < 131072) ∧
    (rd p 4 4 + rd p 8 4 ≤ 131072) ∧
    (bmeOf s 0 = true) :=
  ⟨2, (asked 2 0x0714 (le 4 1 ++ le 4 0 ++ le 4 0 ++ zeros 12) (up.modHost fun h => { h with bme := [true, true] })), (askedCmd 2 0x0714), payload (asked 2 0x0714 (le 4 1 ++ le 4 0 ++ le 4 0 ++ zeros 12) (up.modHost fun h => { h with bme := [true, true] })) 2, 0, by decide, rfl, by decide, by decide, by decide, by decide, by decide⟩
theorem test_premises_tableTernStatus : ∃ (m : Nat) (s : State) (c : Cmd) (p : Bytes) (q : Nat), ready 0x0715 ternStatusSpec m s c = true ∧ p = payload s m ∧
    (quadsOf (rd p 0 1) = [q]) ∧
    (rd p 0 1 < 16) :=
  ⟨2, (asked 2 0x0715 ([1]) up), (askedCmd 2 0x0715), payload (asked 2 0x0715 ([1]) up) 2, 0, by decide, rfl, by decide, by decide⟩
theorem test_premises_tableTernStats : ∃ (m : Nat) (s : State) (c : Cmd) (p : Bytes) (q : Nat), ready 0x0716 ternStatsSpec m s c = true ∧ p = payload s m ∧
    (quadsOf (rd p 0 1) = [q]) ∧
    (rd p 0 1 < 16) :=
  ⟨2, (asked 2 0x0716 (le 2 1) up), (askedCmd 2 0x0716), payload (asked 2 0x0716 (le 2 1) up) 2, 0, by decide, rfl, by decide, by decide⟩
theorem test_premises_tableAutoLoad : ∃ (m : Nat) (s : State) (c : Cmd) (p : Bytes) (bs : Bytes), ready 0x0720 autoLoadSpec m s c = true ∧ p = payload s m ∧
    (rd p 0 1 ≠ 0) ∧
    (rd p 0 1 < 16) ∧
    (rd p 1 1 < 2) ∧
    (rd p 4 4 ≤ 8388608) ∧
    (((quadsOf (rd p 0 1)).any fun q => autoSelected s q (rd p 1 1) || ((s.quad q).autoSlot (rd p 1 1)).st == 2) = false) ∧
    (bmeOf s 0 = true) :=
  ⟨2, (asked 2 0x0720 ([1, 1] ++ zeros 14) (up.modHost fun h => { h with bme := [true, true] })), (askedCmd 2 0x0720), payload (asked 2 0x0720 ([1, 1] ++ zeros 14) (up.modHost fun h => { h with bme := [true, true] })) 2, [], by decide, rfl, by decide, by decide, by decide, by decide, by decide, by decide⟩
theorem test_premises_tableAutoStatus : ∃ (m : Nat) (s : State) (c : Cmd) (p : Bytes) (q : Nat), ready 0x0721 autoStatusSpec m s c = true ∧ p = payload s m ∧
    (quadsOf (rd p 0 1) = [q]) ∧
    (rd p 0 1 < 16) :=
  ⟨2, (asked 2 0x0721 ([1]) up), (askedCmd 2 0x0721), payload (asked 2 0x0721 ([1]) up) 2, 0, by decide, rfl, by decide, by decide⟩
theorem test_premises_tableAutoStatsKeep : ∃ (m : Nat) (s : State) (c : Cmd) (p : Bytes) (q : Nat), ready 0x0722 autoStatsSpec m s c = true ∧ p = payload s m ∧
    (quadsOf (rd p 0 1) = [q]) ∧
    (rd p 0 1 < 16) ∧
    (bit (rd p 1 1) 0 = false) ∧
    (bmeOf s 0 = true) :=
  ⟨2, (asked 2 0x0722 ([1, 0] ++ zeros 14) (up.modHost fun h => { h with bme := [true, true] })), (askedCmd 2 0x0722), payload (asked 2 0x0722 ([1, 0] ++ zeros 14) (up.modHost fun h => { h with bme := [true, true] })) 2, 0, by decide, rfl, by decide, by decide, by decide, by decide⟩
theorem test_premises_tableAutoStatsClear : ∃ (m : Nat) (s : State) (c : Cmd) (p : Bytes) (q : Nat), ready 0x0722 autoStatsSpec m s c = true ∧ p = payload s m ∧
    (quadsOf (rd p 0 1) = [q]) ∧
    (rd p 0 1 < 16) ∧
    (bit (rd p 1 1) 0 = true) ∧
    (bmeOf s 0 = true) :=
  ⟨2, (asked 2 0x0722 ([1, 1] ++ zeros 14) (up.modHost fun h => { h with bme := [true, true] })), (askedCmd 2 0x0722), payload (asked 2 0x0722 ([1, 1] ++ zeros 14) (up.modHost fun h => { h with bme := [true, true] })) 2, 0, by decide, rfl, by decide, by decide, by decide, by decide⟩
theorem test_premises_tableAutoRepair : ∃ (m : Nat) (s : State) (c : Cmd) (p : Bytes) (bs : Bytes), ready 0x0723 autoRepairSpec m s c = true ∧ p = payload s m ∧
    (rd p 0 1 ≠ 0) ∧
    (rd p 0 1 < 16) ∧
    (rd p 1 1 < 2) ∧
    (rd p 4 4 ≤ 8388608) ∧
    (bmeOf s 0 = true) :=
  ⟨2, (asked 2 0x0723 ([1, 1] ++ zeros 14) (up.modHost fun h => { h with bme := [true, true] })), (askedCmd 2 0x0723), payload (asked 2 0x0723 ([1, 1] ++ zeros 14) (up.modHost fun h => { h with bme := [true, true] })) 2, [], by decide, rfl, by decide, by decide, by decide, by decide, by decide⟩

theorem test_premises_tmConfig : ∃ (m : Nat) (s : State) (c : Cmd) (p : Bytes), ready 0x0801 tmConfigSpec m s c = true ∧ p = payload s m ∧
    (passes (tmConfigChecks s p)) :=
  ⟨2, (asked 2 0x0801 ([255, 0, 0, 0] ++ le 4 100) up), (askedCmd 2 0x0801), payload (asked 2 0x0801 ([255, 0, 0, 0] ++ le 4 100) up) 2, by decide, rfl, by decide⟩
set_option maxRecDepth 6000 in
theorem test_premises_tmSched : ∃ (m : Nat) (s : State) (c : Cmd) (p : Bytes), ready 0x0802 tmSchedSpec m s c = true ∧ p = payload s m ∧
    (passes (schedChecks s p)) :=
  ⟨2, (asked 2 0x0802 (le 2 768 ++ zeros 14 ++ List.replicate 72 1) up), (askedCmd 2 0x0802), payload (asked 2 0x0802 (le 2 768 ++ zeros 14 ++ List.replicate 72 1) up) 2, by decide, rfl, by decide⟩
theorem test_premises_tmShaper : ∃ (m : Nat) (s : State) (c : Cmd) (p : Bytes), ready 0x0803 tmShaperSpec m s c = true ∧ p = payload s m ∧
    (passes (shaperChecks s p)) :=
  ⟨2, (asked 2 0x0803 (le 2 800 ++ [0, 0] ++ zeros 4 ++ le 4 1 ++ le 4 64) up), (askedCmd 2 0x0803), payload (asked 2 0x0803 (le 2 800 ++ [0, 0] ++ zeros 4 ++ le 4 1 ++ le 4 64) up) 2, by decide, rfl, by decide⟩
theorem test_premises_tmPolicerWrite : ∃ (m : Nat) (s : State) (c : Cmd) (p : Bytes), ready 0x0804 tmPolicerWriteSpec m s c = true ∧ p = payload s m ∧
    (passes (policerChecks p)) :=
  ⟨2, (asked 2 0x0804 ([1] ++ zeros 7 ++ le 4 1 ++ le 4 1 ++ le 4 64 ++ le 4 64) up), (askedCmd 2 0x0804), payload (asked 2 0x0804 ([1] ++ zeros 7 ++ le 4 1 ++ le 4 1 ++ le 4 64 ++ le 4 64) up) 2, by decide, rfl, by decide⟩
theorem test_premises_tmPolicerRead : ∃ (m : Nat) (s : State) (c : Cmd) (p : Bytes) (q : Nat), ready 0x0805 tmPolicerReadSpec m s c = true ∧ p = payload s m ∧
    (quadsOf (rd p 0 1) = [q]) ∧
    (rd p 0 1 < 16) :=
  ⟨2, (asked 2 0x0805 ([1] ++ zeros 4) up), (askedCmd 2 0x0805), payload (asked 2 0x0805 ([1] ++ zeros 4) up) 2, 0, by decide, rfl, by decide, by decide⟩
theorem test_premises_tmGateListOff : ∃ (m : Nat) (s : State) (c : Cmd) (p : Bytes), ready 0x0806 tmGateListSpec m s c = true ∧ p = payload s m ∧
    (bit (rd p 2 1) 0 = false) ∧
    (s.ports.has (rd p 0 2) = true) :=
  ⟨2, (asked 2 0x0806 (zeros 36) (up.modPorts fun t => t.put 0 {})), (askedCmd 2 0x0806), payload (asked 2 0x0806 (zeros 36) (up.modPorts fun t => t.put 0 {})) 2, by decide, rfl, by decide, by decide⟩
theorem test_premises_tmGateListOn : ∃ (m : Nat) (s : State) (c : Cmd) (p : Bytes) (bs : Bytes), ready 0x0806 tmGateListSpec m s c = true ∧ p = payload s m ∧
    (bit (rd p 2 1) 0 = true) ∧
    (passes (gateChecks s p)) ∧
    (bmeOf s 0 = true) ∧
    (gatesOk (gateEntries (rd p 4 2) bs) = true) :=
  ⟨2, (asked 2 0x0806 ([0, 0, 1, 0] ++ le 2 1 ++ zeros 22 ++ le 4 1000 ++ le 4 0) ((up.modPorts fun t => t.put 0 {}).modHost fun h => { h with bme := [true, true] })), (askedCmd 2 0x0806), payload (asked 2 0x0806 ([0, 0, 1, 0] ++ le 2 1 ++ zeros 22 ++ le 4 1000 ++ le 4 0) ((up.modPorts fun t => t.put 0 {}).modHost fun h => { h with bme := [true, true] })) 2, le 8 64, by decide, rfl, by decide, by decide, by decide, by decide⟩
theorem test_premises_tmGateStatus : ∃ (m : Nat) (s : State) (c : Cmd) (p : Bytes), ready 0x0807 tmGateStatusSpec m s c = true ∧ p = payload s m ∧
    (s.ports.has (rd p 0 2) = true) :=
  ⟨2, (asked 2 0x0807 (le 2 0) (up.modPorts fun t => t.put 0 {})), (askedCmd 2 0x0807), payload (asked 2 0x0807 (le 2 0) (up.modPorts fun t => t.put 0 {})) 2, by decide, rfl, by decide⟩
theorem test_premises_tmMaxSdu : ∃ (m : Nat) (s : State) (c : Cmd) (p : Bytes), ready 0x0808 tmMaxSduSpec m s c = true ∧ p = payload s m ∧
    (passes (maxSduChecks s p)) :=
  ⟨2, (asked 2 0x0808 (zeros 18) (up.modPorts fun t => t.put 0 {})), (askedCmd 2 0x0808), payload (asked 2 0x0808 (zeros 18) (up.modPorts fun t => t.put 0 {})) 2, by decide, rfl, by decide⟩
theorem test_premises_tmQueueStats : ∃ (m : Nat) (s : State) (c : Cmd) (p : Bytes), ready 0x0809 tmQueueStatsSpec m s c = true ∧ p = payload s m ∧
    (tmPortOk s (rd p 0 2) = true) ∧
    (rd p 2 1 ∈ portQueues (rd p 0 2)) :=
  ⟨2, (asked 2 0x0809 (le 4 768) up), (askedCmd 2 0x0809), payload (asked 2 0x0809 (le 4 768) up) 2, by decide, rfl, by decide, by decide⟩
set_option maxRecDepth 6000 in
theorem test_premises_tmSampleRing : ∃ (m : Nat) (s : State) (c : Cmd) (p : Bytes), ready 0x080A tmSampleRingSpec m s c = true ∧ p = payload s m ∧
    (passes (sampleChecks s p)) :=
  ⟨2, (asked 2 0x080A (le 8 0 ++ le 4 64 ++ zeros 68) up), (askedCmd 2 0x080A), payload (asked 2 0x080A (le 8 0 ++ le 4 64 ++ zeros 68) up) 2, by decide, rfl, by decide⟩

theorem test_premises_bufPoolConfig : ∃ (m : Nat) (s : State) (c : Cmd) (p : Bytes), ready 0x0901 bufPoolConfigSpec m s c = true ∧ p = payload s m ∧
    (passes (poolChecks s p)) :=
  ⟨2, (asked 2 0x0901 (le 4 16 ++ zeros 20) up), (askedCmd 2 0x0901), payload (asked 2 0x0901 (le 4 16 ++ zeros 20) up) 2, by decide, rfl, by decide⟩
theorem test_premises_bufPoolMap : ∃ (m : Nat) (s : State) (c : Cmd) (p : Bytes), ready 0x0902 bufPoolMapSpec m s c = true ∧ p = payload s m ∧
    (passes ((List.range 16).map fun o => (decide (rd p o 1 < 16), o))) :=
  ⟨2, (asked 2 0x0902 (zeros 16) up), (askedCmd 2 0x0902), payload (asked 2 0x0902 (zeros 16) up) 2, by decide, rfl, by decide⟩
theorem test_premises_bufHeadroom : ∃ (m : Nat) (s : State) (c : Cmd) (p : Bytes), ready 0x0903 bufHeadroomSpec m s c = true ∧ p = payload s m ∧
    (s.ports.has (rd p 0 2) = true) ∧
    (rd p 4 4 ≤ 262144) :=
  ⟨2, (asked 2 0x0903 (zeros 8) (up.modPorts fun t => t.put 0 {})), (askedCmd 2 0x0903), payload (asked 2 0x0903 (zeros 8) (up.modPorts fun t => t.put 0 {})) 2, by decide, rfl, by decide, by decide⟩
theorem test_premises_bufStatus : ∃ (m : Nat) (s : State) (c : Cmd) (p : Bytes), ready 0x0904 bufStatusSpec m s c = true ∧ p = payload s m :=
  ⟨2, (asked 2 0x0904 ([0]) up), (askedCmd 2 0x0904), payload (asked 2 0x0904 ([0]) up) 2, by decide, rfl⟩
theorem test_premises_bufStats : ∃ (m : Nat) (s : State) (c : Cmd) (p : Bytes), ready 0x0905 bufStatsSpec m s c = true ∧ p = payload s m :=
  ⟨2, (asked 2 0x0905 ([0]) up), (askedCmd 2 0x0905), payload (asked 2 0x0905 ([0]) up) 2, by decide, rfl⟩
theorem test_premises_bufMcWriteNone : ∃ (m : Nat) (s : State) (c : Cmd) (p : Bytes), ready 0x0906 bufMcWriteSpec m s c = true ∧ p = payload s m ∧
    (rd p 4 2 = 0) ∧
    (membersOk s (memberList 0 []) = true) ∧
    (storeAhead s (rd p 0 2) ≤ 524288) ∧
    (bmeOf s 0 = true) :=
  ⟨2, (asked 2 0x0906 (zeros 16) (up.modHost fun h => { h with bme := [true, true] })), (askedCmd 2 0x0906), payload (asked 2 0x0906 (zeros 16) (up.modHost fun h => { h with bme := [true, true] })) 2, by decide, rfl, by decide, by decide, by decide, by decide⟩
theorem test_premises_bufMcWrite : ∃ (m : Nat) (s : State) (c : Cmd) (p : Bytes) (bs : Bytes), ready 0x0906 bufMcWriteSpec m s c = true ∧ p = payload s m ∧
    (1 ≤ rd p 4 2) ∧
    (rd p 4 2 ≤ 1023) ∧
    (bmeOf s 0 = true) ∧
    (membersOk s (memberList (rd p 4 2) bs) = true) ∧
    (storeAhead s (rd p 0 2) + rd p 4 2 ≤ 524288) :=
  ⟨2, (asked 2 0x0906 (zeros 4 ++ le 2 1 ++ zeros 10) (up.modHost fun h => { h with bme := [true, true] })), (askedCmd 2 0x0906), payload (asked 2 0x0906 (zeros 4 ++ le 2 1 ++ zeros 10) (up.modHost fun h => { h with bme := [true, true] })) 2, le 2 5, by decide, rfl, by decide, by decide, by decide, by decide, by decide⟩
theorem test_premises_bufMcRead : ∃ (m : Nat) (s : State) (c : Cmd) (p : Bytes), ready 0x0907 bufMcReadSpec m s c = true ∧ p = payload s m ∧
    (bmeOf s 0 = true) :=
  ⟨2, (asked 2 0x0907 (zeros 16) (up.modHost fun h => { h with bme := [true, true] })), (askedCmd 2 0x0907), payload (asked 2 0x0907 (zeros 16) (up.modHost fun h => { h with bme := [true, true] })) 2, by decide, rfl, by decide⟩
theorem test_premises_bufFabricStatus : ∃ (m : Nat) (s : State) (c : Cmd) (p : Bytes), ready 0x0908 bufFabricStatusSpec m s c = true ∧ p = payload s m :=
  ⟨2, (asked 2 0x0908 ([0]) up), (askedCmd 2 0x0908), payload (asked 2 0x0908 ([0]) up) 2, by decide, rfl⟩
theorem test_premises_bufPlaneAdminDown : ∃ (m : Nat) (s : State) (c : Cmd) (p : Bytes), ready 0x0909 bufPlaneAdminSpec m s c = true ∧ p = payload s m ∧
    (rd p 0 1 < 4) ∧
    (rd p 1 1 = 0) ∧
    (3 ≤ planesLeft s (rd p 0 1)) :=
  ⟨2, (asked 2 0x0909 ([0, 0]) up), (askedCmd 2 0x0909), payload (asked 2 0x0909 ([0, 0]) up) 2, by decide, rfl, by decide, by decide, by decide⟩
theorem test_premises_bufPlaneAdminUp : ∃ (m : Nat) (s : State) (c : Cmd) (p : Bytes), ready 0x0909 bufPlaneAdminSpec m s c = true ∧ p = payload s m ∧
    (rd p 0 1 < 4) ∧
    (rd p 1 1 = 1) ∧
    ((s.buf.planes.getD (rd p 0 1) {}).trained = true) :=
  ⟨2, (asked 2 0x0909 ([0, 1]) up), (askedCmd 2 0x0909), payload (asked 2 0x0909 ([0, 1]) up) 2, by decide, rfl, by decide, by decide, by decide⟩
theorem test_premises_bufReseqStats : ∃ (m : Nat) (s : State) (c : Cmd) (p : Bytes), ready 0x090A bufReseqStatsSpec m s c = true ∧ p = payload s m ∧
    (rd p 0 1 < 32) :=
  ⟨2, (asked 2 0x090A ([0, 0]) up), (askedCmd 2 0x090A), payload (asked 2 0x090A ([0, 0]) up) 2, by decide, rfl, by decide⟩
theorem test_premises_bufAudit : ∃ (m : Nat) (s : State) (c : Cmd) (p : Bytes), ready 0x090B bufAuditSpec m s c = true ∧ p = payload s m :=
  ⟨2, (asked 2 0x090B ([]) up), (askedCmd 2 0x090B), payload (asked 2 0x090B ([]) up) 2, by decide, rfl⟩
theorem test_premises_bufMirrorEnd : ∃ (m : Nat) (s : State) (c : Cmd) (p : Bytes), ready 0x090C bufMirrorSpec m s c = true ∧ p = payload s m ∧
    (1 ≤ rd p 0 1) ∧
    (rd p 0 1 ≤ 15) ∧
    (bit (rd p 1 1) 1 = true) :=
  ⟨2, (asked 2 0x090C ([1, 2] ++ zeros 22) up), (askedCmd 2 0x090C), payload (asked 2 0x090C ([1, 2] ++ zeros 22) up) 2, by decide, rfl, by decide, by decide, by decide⟩
theorem test_premises_bufMirrorPlain : ∃ (m : Nat) (s : State) (c : Cmd) (p : Bytes), ready 0x090C bufMirrorSpec m s c = true ∧ p = payload s m ∧
    (bit (rd p 1 1) 1 = false) ∧
    (passes (mirrorChecks s p)) ∧
    (rd p 8 1 = 0) :=
  ⟨2, (asked 2 0x090C ([1, 0] ++ le 2 800 ++ zeros 20) up), (askedCmd 2 0x090C), payload (asked 2 0x090C ([1, 0] ++ le 2 800 ++ zeros 20) up) 2, by decide, rfl, by decide, by decide, by decide⟩
theorem test_premises_bufMirrorHeader : ∃ (m : Nat) (s : State) (c : Cmd) (p : Bytes) (bs : Bytes), ready 0x090C bufMirrorSpec m s c = true ∧ p = payload s m ∧
    (bit (rd p 1 1) 1 = false) ∧
    (passes (mirrorChecks s p)) ∧
    (rd p 8 1 ≠ 0) ∧
    (bmeOf s 0 = true) :=
  ⟨2, (asked 2 0x090C ([1, 0] ++ le 2 0 ++ zeros 4 ++ [42] ++ zeros 15) ((up.modPorts fun t => t.put 0 {}).modHost fun h => { h with bme := [true, true] })), (askedCmd 2 0x090C), payload (asked 2 0x090C ([1, 0] ++ le 2 0 ++ zeros 4 ++ [42] ++ zeros 15) ((up.modPorts fun t => t.put 0 {}).modHost fun h => { h with bme := [true, true] })) 2, [], by decide, rfl, by decide, by decide, by decide, by decide⟩

theorem test_premises_ledgerConfig : ∃ (m : Nat) (s : State) (c : Cmd) (p : Bytes), ready 0x0A01 ledgerConfigSpec m s c = true ∧ p = payload s m ∧
    (1 ≤ rd p 4 1) ∧
    (rd p 5 1 ≤ 1) ∧
    (s.ledger.st = 0) ∧
    (rd p 0 4 = s.ledger.seed ∨ s.ledger.recs = []) :=
  ⟨2, (asked 2 0x0A01 (le 4 0 ++ [1, 0]) up), (askedCmd 2 0x0A01), payload (asked 2 0x0A01 (le 4 0 ++ [1, 0]) up) 2, by decide, rfl, by decide, by decide, by decide, Or.inr (by decide)⟩
theorem test_premises_ledgerPolicy : ∃ (m : Nat) (s : State) (c : Cmd) (p : Bytes), ready 0x0A02 ledgerPolicySpec m s c = true ∧ p = payload s m ∧
    (rd p 1 1 ≤ 2) ∧
    (rd p 2 1 ≤ 1) :=
  ⟨2, (asked 2 0x0A02 (zeros 3) up), (askedCmd 2 0x0A02), payload (asked 2 0x0A02 (zeros 3) up) 2, by decide, rfl, by decide, by decide⟩
theorem test_premises_ledgerRings : ∃ (m : Nat) (s : State) (c : Cmd) (p : Bytes), ready 0x0A03 ledgerRingsSpec m s c = true ∧ p = payload s m ∧
    (64 ≤ rd p 12 4) ∧
    (rd p 12 4 ≤ 1048576) ∧
    (s.ledger.st = 0) :=
  ⟨2, (asked 2 0x0A03 (zeros 12 ++ le 4 64) up), (askedCmd 2 0x0A03), payload (asked 2 0x0A03 (zeros 12 ++ le 4 64) up) 2, by decide, rfl, by decide, by decide, by decide⟩
theorem test_premises_ledgerKeyCreate : ∃ (m : Nat) (s : State) (c : Cmd) (p : Bytes), ready 0x0A04 ledgerKeyCreateSpec m s c = true ∧ p = payload s m ∧
    (s.ledger.st = 0) ∧
    (s.trust.lc = 1 ∨ s.trust.lc = 2) ∧
    (bmeOf s 0 = true) :=
  ⟨2, (asked 2 0x0A04 (zeros 8) ((up.modTrust fun t => { t with lc := 1 }).modHost fun h => { h with bme := [true, true] })), (askedCmd 2 0x0A04), payload (asked 2 0x0A04 (zeros 8) ((up.modTrust fun t => { t with lc := 1 }).modHost fun h => { h with bme := [true, true] })) 2, by decide, rfl, by decide, by decide, by decide⟩
theorem test_premises_ledgerStart : ∃ (m : Nat) (s : State) (c : Cmd) (p : Bytes), ready 0x0A05 ledgerStartSpec m s c = true ∧ p = payload s m ∧
    (s.ledger.st = 0) ∧
    (s.ledger.key ≠ []) ∧
    (s.ledger.ringsSet = true) ∧
    (ledgerFits s = true) ∧
    (anyUnitLost s = false) ∧
    (s.mem.layout.isSome = true) :=
  ⟨2, (asked 2 0x0A05 ([]) (((up.modLedger fun l => { l with key := [1], ringsSet := true, rings := [0, 0, 0] }).modMem fun m => { m with
      layout := some (false, [0], 2 ^ 40), regions := [(0, { kind := 1, base := 0, size := 2 ^ 40 })] }) |> modMemPort 0 fun m => { m with st := 6 })), (askedCmd 2 0x0A05), payload (asked 2 0x0A05 ([]) (((up.modLedger fun l => { l with key := [1], ringsSet := true, rings := [0, 0, 0] }).modMem fun m => { m with
      layout := some (false, [0], 2 ^ 40), regions := [(0, { kind := 1, base := 0, size := 2 ^ 40 })] }) |> modMemPort 0 fun m => { m with st := 6 })) 2, by decide, rfl, by decide, by decide, by decide, by decide, by decide, by decide⟩
theorem test_premises_ledgerStop : ∃ (m : Nat) (s : State) (c : Cmd) (p : Bytes), ready 0x0A06 ledgerStopSpec m s c = true ∧ p = payload s m ∧
    (s.ledger.st = 1) :=
  ⟨2, (asked 2 0x0A06 ([]) (up.modLedger fun l => { l with st := 1 })), (askedCmd 2 0x0A06), payload (asked 2 0x0A06 ([]) (up.modLedger fun l => { l with st := 1 })) 2, by decide, rfl, by decide⟩
theorem test_premises_ledgerStatus : ∃ (m : Nat) (s : State) (c : Cmd) (p : Bytes), ready 0x0A07 ledgerStatusSpec m s c = true ∧ p = payload s m :=
  ⟨2, (asked 2 0x0A07 ([]) up), (askedCmd 2 0x0A07), payload (asked 2 0x0A07 ([]) up) 2, by decide, rfl⟩
theorem test_premises_ledgerSealGet : ∃ (m : Nat) (s : State) (c : Cmd) (p : Bytes) (r : Bytes) (i : Nat) (t : State), ready 0x0A08 ledgerSealGetSpec m s c = true ∧ p = payload s m ∧
    (slotOf s (rd p 0 4) = some i) ∧
    (sealRead i (sealSources s) s = (some r, t)) ∧
    (bmeOf s 0 = true) :=
  ⟨2, (asked 2 0x0A08 (zeros 16) (((up.modLedger fun l => { l with slots := [(0, 0)] }) |> modMemPort 0 fun m => { m with st := 6, cap := 2 ^ 30 }).modHost fun h => { h with bme := [true, true] })), (askedCmd 2 0x0A08), payload (asked 2 0x0A08 (zeros 16) (((up.modLedger fun l => { l with slots := [(0, 0)] }) |> modMemPort 0 fun m => { m with st := 6, cap := 2 ^ 30 }).modHost fun h => { h with bme := [true, true] })) 2, ((sealRead 0 (sealSources (asked 2 0x0A08 (zeros 16) (((up.modLedger fun l => { l with slots := [(0, 0)] }) |> modMemPort 0 fun m => { m with st := 6, cap := 2 ^ 30 }).modHost fun h => { h with bme := [true, true] }))) (asked 2 0x0A08 (zeros 16) (((up.modLedger fun l => { l with slots := [(0, 0)] }) |> modMemPort 0 fun m => { m with st := 6, cap := 2 ^ 30 }).modHost fun h => { h with bme := [true, true] }))).1.getD []), 0, ((sealRead 0 (sealSources (asked 2 0x0A08 (zeros 16) (((up.modLedger fun l => { l with slots := [(0, 0)] }) |> modMemPort 0 fun m => { m with st := 6, cap := 2 ^ 30 }).modHost fun h => { h with bme := [true, true] }))) (asked 2 0x0A08 (zeros 16) (((up.modLedger fun l => { l with slots := [(0, 0)] }) |> modMemPort 0 fun m => { m with st := 6, cap := 2 ^ 30 }).modHost fun h => { h with bme := [true, true] }))).2), by decide, rfl, by decide, rfl, by decide⟩
theorem test_premises_ledgerSealGetPoisoned : ∃ (m : Nat) (s : State) (c : Cmd) (p : Bytes) (i : Nat) (t : State), ready 0x0A08 ledgerSealGetSpec m s c = true ∧ p = payload s m ∧
    (slotOf s (rd p 0 4) = some i) ∧
    (sealRead i (sealSources s) s = (none, t)) ∧
    (bmeOf s 0 = true) :=
  ⟨2, (asked 2 0x0A08 (zeros 16) ((up.modLedger fun l => { l with slots := [(0, 0)] }).modHost fun h => { h with bme := [true, true] })), (askedCmd 2 0x0A08), payload (asked 2 0x0A08 (zeros 16) ((up.modLedger fun l => { l with slots := [(0, 0)] }).modHost fun h => { h with bme := [true, true] })) 2, 0, (asked 2 0x0A08 (zeros 16) ((up.modLedger fun l => { l with slots := [(0, 0)] }).modHost fun h => { h with bme := [true, true] })), by decide, rfl, by decide, rfl, by decide⟩
theorem test_premises_ledgerTenantGet : ∃ (m : Nat) (s : State) (c : Cmd) (p : Bytes) (r : Bytes), ready 0x0A09 ledgerTenantGetSpec m s c = true ∧ p = payload s m ∧
    (rd p 4 3 < 1048576) ∧
    (tenantProof s (rd p 0 4) (rd p 4 3) = some r) ∧
    (bmeOf s 0 = true) :=
  ⟨2, (asked 2 0x0A09 (zeros 16) ((((up.modLedger fun l => { l with marks := [(0, 0, 0, 0)], written := [0, 0, 1], rings := [0, 0, 1] }).modMem fun m => { m with
      layout := some (false, [0], 2 ^ 40), regions := [(0, { kind := 1, base := 0, size := 2 ^ 40 })] }) |> modMemPort 0 fun m => { m with st := 6 }).modHost fun h => { h with bme := [true, true] })), (askedCmd 2 0x0A09), payload (asked 2 0x0A09 (zeros 16) ((((up.modLedger fun l => { l with marks := [(0, 0, 0, 0)], written := [0, 0, 1], rings := [0, 0, 1] }).modMem fun m => { m with
      layout := some (false, [0], 2 ^ 40), regions := [(0, { kind := 1, base := 0, size := 2 ^ 40 })] }) |> modMemPort 0 fun m => { m with st := 6 }).modHost fun h => { h with bme := [true, true] })) 2, (tenantProof (asked 2 0x0A09 (zeros 16) ((((up.modLedger fun l => { l with marks := [(0, 0, 0, 0)], written := [0, 0, 1], rings := [0, 0, 1] }).modMem fun m => { m with
      layout := some (false, [0], 2 ^ 40), regions := [(0, { kind := 1, base := 0, size := 2 ^ 40 })] }) |> modMemPort 0 fun m => { m with st := 6 }).modHost fun h => { h with bme := [true, true] })) 0 0).getD [], by decide, rfl, by decide, rfl, by decide⟩
set_option maxRecDepth 20000 in
theorem test_premises_ledgerFlowGet : ∃ (m : Nat) (s : State) (c : Cmd) (p : Bytes) (r : Bytes), ready 0x0A0A ledgerFlowGetSpec m s c = true ∧ p = payload s m ∧
    (rd p 0 3 < 1048576) ∧
    (flowStored s (rd p 0 3) (part p 4 40) = some r) :=
  ⟨2, (asked 2 0x0A0A (zeros 44) (((up.modLedger fun l => { l with recs := [(0, { tenant := 0, block := zeros 40 })] }).modMem fun m => { m with
      layout := some (false, [0], 2 ^ 40), regions := [(0, { kind := 1, base := 0, size := 2 ^ 40 })] }) |> modMemPort 0 fun m => { m with st := 6 })), (askedCmd 2 0x0A0A), payload (asked 2 0x0A0A (zeros 44) (((up.modLedger fun l => { l with recs := [(0, { tenant := 0, block := zeros 40 })] }).modMem fun m => { m with
      layout := some (false, [0], 2 ^ 40), regions := [(0, { kind := 1, base := 0, size := 2 ^ 40 })] }) |> modMemPort 0 fun m => { m with st := 6 })) 2, recordBytes { tenant := 0, block := zeros 40 }, by decide, rfl, by decide, by decide⟩
theorem test_premises_ledgerStats : ∃ (m : Nat) (s : State) (c : Cmd) (p : Bytes), ready 0x0A0B ledgerStatsSpec m s c = true ∧ p = payload s m :=
  ⟨2, (asked 2 0x0A0B ([0]) up), (askedCmd 2 0x0A0B), payload (asked 2 0x0A0B ([0]) up) 2, by decide, rfl⟩

theorem test_premises_memStatus : ∃ (m : Nat) (s : State) (c : Cmd) (p : Bytes), ready 0x0B01 memStatusSpec m s c = true ∧ p = payload s m ∧
    (rd p 0 1 < 4) :=
  ⟨2, (asked 2 0x0B01 ([0]) up), (askedCmd 2 0x0B01), payload (asked 2 0x0B01 ([0]) up) 2, by decide, rfl, by decide⟩
theorem test_premises_memLayout : ∃ (m : Nat) (s : State) (c : Cmd) (p : Bytes), ready 0x0B02 memLayoutSpec m s c = true ∧ p = payload s m ∧
    (rd p 0 1 ≤ 1) ∧
    (layoutOk (rd p 0 1 == 1) (rd p 1 1) = true) ∧
    (s.ledger.st = 0) ∧
    (s.mem.regions = []) ∧
    (((bitsOf (rd p 1 1) 4).all fun i => [3, 6].contains (s.memPort i).st) = true) :=
  ⟨2, (asked 2 0x0B02 ([0, 1]) (modMemPort 0 (fun m => { m with st := 3 }) up)), (askedCmd 2 0x0B02), payload (asked 2 0x0B02 ([0, 1]) (modMemPort 0 (fun m => { m with st := 3 }) up)) 2, by decide, rfl, by decide, by decide, by decide, by decide, by decide⟩
theorem test_premises_memRegion : ∃ (m : Nat) (s : State) (c : Cmd) (p : Bytes), ready 0x0B03 memRegionSpec m s c = true ∧ p = payload s m ∧
    (passes (regionChecks s p)) ∧
    (s.mem.layout.isSome = true) ∧
    (regionUsed s (rd p 0 1) = false) ∧
    (rd p 1 1 ≠ 1) :=
  ⟨2, (asked 2 0x0B03 (zeros 24) (up.modMem fun m => { m with layout := some (false, [0], 2 ^ 40) })), (askedCmd 2 0x0B03), payload (asked 2 0x0B03 (zeros 24) (up.modMem fun m => { m with layout := some (false, [0], 2 ^ 40) })) 2, by decide, rfl, by decide, by decide, by decide, by decide⟩
theorem test_premises_memRegionLedger : ∃ (m : Nat) (s : State) (c : Cmd) (p : Bytes), ready 0x0B03 memRegionSpec m s c = true ∧ p = payload s m ∧
    (passes (regionChecks s p)) ∧
    (s.mem.layout.isSome = true) ∧
    (regionUsed s (rd p 0 1) = false) ∧
    (rd p 1 1 = 1) :=
  ⟨2, (asked 2 0x0B03 ([0, 1] ++ zeros 14 ++ le 8 (2 ^ 20)) (up.modMem fun m => { m with layout := some (false, [0], 2 ^ 40) })), (askedCmd 2 0x0B03), payload (asked 2 0x0B03 ([0, 1] ++ zeros 14 ++ le 8 (2 ^ 20)) (up.modMem fun m => { m with layout := some (false, [0], 2 ^ 40) })) 2, by decide, rfl, by decide, by decide, by decide, by decide⟩
theorem test_premises_memOnlineStart : ∃ (m : Nat) (s : State) (c : Cmd) (p : Bytes), ready 0x0B04 memOnlineSpec m s c = true ∧ p = payload s m ∧
    (rd p 0 1 < 4) ∧
    ((s.memPort (rd p 0 1)).st = 7 ∨ (s.memPort (rd p 0 1)).st = 8 ∨ (s.memPort (rd p 0 1)).st = 9) :=
  ⟨2, (asked 2 0x0B04 ([0]) (modMemPort 0 (fun m => { m with st := 8 }) up)), (askedCmd 2 0x0B04), payload (asked 2 0x0B04 ([0]) (modMemPort 0 (fun m => { m with st := 8 }) up)) 2, by decide, rfl, by decide, by decide⟩
theorem test_premises_memOnlineResilver : ∃ (m : Nat) (s : State) (c : Cmd) (p : Bytes), ready 0x0B04 memOnlineSpec m s c = true ∧ p = payload s m ∧
    (rd p 0 1 < 4) ∧
    ((s.memPort (rd p 0 1)).st = 3) ∧
    (capMin s ≤ (s.memPort (rd p 0 1)).cap) ∧
    (2 ≤ memRole s (rd p 0 1)) ∧
    (memReads s (Nat.xor (rd p 0 1) 1) = true) :=
  ⟨2, (asked 2 0x0B04 ([0]) (modMemPort 1 (fun m => { m with st := 6 }) (modMemPort 0 (fun m => { m with st := 3, cap := 4 }) (up.modMem fun m => { m with layout := some (true, [0, 1], 4) })))), (askedCmd 2 0x0B04), payload (asked 2 0x0B04 ([0]) (modMemPort 1 (fun m => { m with st := 6 }) (modMemPort 0 (fun m => { m with st := 3, cap := 4 }) (up.modMem fun m => { m with layout := some (true, [0, 1], 4) })))) 2, by decide, rfl, by decide, by decide, by decide, by decide, by decide⟩
theorem test_premises_memOnlineZero : ∃ (m : Nat) (s : State) (c : Cmd) (p : Bytes), ready 0x0B04 memOnlineSpec m s c = true ∧ p = payload s m ∧
    (rd p 0 1 < 4) ∧
    ((s.memPort (rd p 0 1)).st = 3) ∧
    (capMin s ≤ (s.memPort (rd p 0 1)).cap) ∧
    (memRole s (rd p 0 1) = 1) :=
  ⟨2, (asked 2 0x0B04 ([0]) (modMemPort 0 (fun m => { m with st := 3, cap := 4 }) (up.modMem fun m => { m with layout := some (false, [0], 4) }))), (askedCmd 2 0x0B04), payload (asked 2 0x0B04 ([0]) (modMemPort 0 (fun m => { m with st := 3, cap := 4 }) (up.modMem fun m => { m with layout := some (false, [0], 4) }))) 2, by decide, rfl, by decide, by decide, by decide, by decide⟩
theorem test_premises_memOnlineZeroPair : ∃ (m : Nat) (s : State) (c : Cmd) (p : Bytes), ready 0x0B04 memOnlineSpec m s c = true ∧ p = payload s m ∧
    (rd p 0 1 < 4) ∧
    ((s.memPort (rd p 0 1)).st = 3) ∧
    (capMin s ≤ (s.memPort (rd p 0 1)).cap) ∧
    (2 ≤ memRole s (rd p 0 1)) ∧
    (memReads s (Nat.xor (rd p 0 1) 1) = false) :=
  ⟨2, (asked 2 0x0B04 ([0]) (modMemPort 0 (fun m => { m with st := 3, cap := 4 }) (up.modMem fun m => { m with layout := some (true, [0, 1], 4) }))), (askedCmd 2 0x0B04), payload (asked 2 0x0B04 ([0]) (modMemPort 0 (fun m => { m with st := 3, cap := 4 }) (up.modMem fun m => { m with layout := some (true, [0, 1], 4) }))) 2, by decide, rfl, by decide, by decide, by decide, by decide, by decide⟩
theorem test_premises_memOfflinePair : ∃ (m : Nat) (s : State) (c : Cmd) (p : Bytes), ready 0x0B05 memOfflineSpec m s c = true ∧ p = payload s m ∧
    (rd p 0 1 < 4) ∧
    ((s.memPort (rd p 0 1)).leaving = none) ∧
    ((s.memPort (rd p 0 1)).st = 6) ∧
    (2 ≤ memRole s (rd p 0 1)) ∧
    ((s.memPort (Nat.xor (rd p 0 1) 1)).st = 6) :=
  ⟨2, (asked 2 0x0B05 ([0]) (modMemPort 1 (fun m => { m with st := 6 }) (modMemPort 0 (fun m => { m with st := 6, cap := 4 }) (up.modMem fun m => { m with layout := some (true, [0, 1], 4) })))), (askedCmd 2 0x0B05), payload (asked 2 0x0B05 ([0]) (modMemPort 1 (fun m => { m with st := 6 }) (modMemPort 0 (fun m => { m with st := 6, cap := 4 }) (up.modMem fun m => { m with layout := some (true, [0, 1], 4) })))) 2, by decide, rfl, by decide, by decide, by decide, by decide, by decide⟩
theorem test_premises_memOfflineIdle : ∃ (m : Nat) (s : State) (c : Cmd) (p : Bytes), ready 0x0B05 memOfflineSpec m s c = true ∧ p = payload s m ∧
    (rd p 0 1 < 4) ∧
    ((s.memPort (rd p 0 1)).leaving = none) ∧
    ((s.memPort (rd p 0 1)).st = 6) ∧
    (memRole s (rd p 0 1) = 1) ∧
    (s.ledger.st = 0) ∧
    ((s.mem.regions.any fun r => regionUsed s r.1) = false) :=
  ⟨2, (asked 2 0x0B05 ([0]) (modMemPort 0 (fun m => { m with st := 6, cap := 4 }) (up.modMem fun m => { m with layout := some (false, [0], 4) }))), (askedCmd 2 0x0B05), payload (asked 2 0x0B05 ([0]) (modMemPort 0 (fun m => { m with st := 6, cap := 4 }) (up.modMem fun m => { m with layout := some (false, [0], 4) }))) 2, by decide, rfl, by decide, by decide, by decide, by decide, by decide, by decide⟩
theorem test_premises_memOfflineRebuilding : ∃ (m : Nat) (s : State) (c : Cmd) (p : Bytes), ready 0x0B05 memOfflineSpec m s c = true ∧ p = payload s m ∧
    (rd p 0 1 < 4) ∧
    ((s.memPort (rd p 0 1)).leaving = none) ∧
    ((s.memPort (rd p 0 1)).st = 4 ∨ (s.memPort (rd p 0 1)).st = 5) :=
  ⟨2, (asked 2 0x0B05 ([0]) (modMemPort 0 (fun m => { m with st := 5 }) up)), (askedCmd 2 0x0B05), payload (asked 2 0x0B05 ([0]) (modMemPort 0 (fun m => { m with st := 5 }) up)) 2, by decide, rfl, by decide, by decide, by decide⟩
theorem test_premises_memRebuildRate : ∃ (m : Nat) (s : State) (c : Cmd) (p : Bytes), ready 0x0B06 memRebuildRateSpec m s c = true ∧ p = payload s m ∧
    (1 ≤ rd p 0 1) ∧
    (rd p 0 1 ≤ 16) :=
  ⟨2, (asked 2 0x0B06 ([1]) up), (askedCmd 2 0x0B06), payload (asked 2 0x0B06 ([1]) up) 2, by decide, rfl, by decide, by decide⟩
theorem test_premises_memCaptureFree : ∃ (m : Nat) (s : State) (c : Cmd) (p : Bytes), ready 0x0B07 memCaptureSpec m s c = true ∧ p = payload s m ∧
    (rd p 1 1 = 255) ∧
    (1 ≤ rd p 0 1) :=
  ⟨2, (asked 2 0x0B07 ([1, 255, 0, 0, 0]) up), (askedCmd 2 0x0B07), payload (asked 2 0x0B07 ([1, 255, 0, 0, 0]) up) 2, by decide, rfl, by decide, by decide⟩
theorem test_premises_memCaptureBind : ∃ (m : Nat) (s : State) (c : Cmd) (p : Bytes), ready 0x0B07 memCaptureSpec m s c = true ∧ p = payload s m ∧
    (rd p 1 1 ≠ 255) ∧
    (passes (captureChecks s p)) :=
  ⟨2, (asked 2 0x0B07 ([1, 0] ++ le 2 64 ++ [0]) (up.modMem fun m => { m with regions := [(0, { kind := 2 })] })), (askedCmd 2 0x0B07), payload (asked 2 0x0B07 ([1, 0] ++ le 2 64 ++ [0]) (up.modMem fun m => { m with regions := [(0, { kind := 2 })] })) 2, by decide, rfl, by decide, by decide⟩
theorem test_premises_memCaptureAck : ∃ (m : Nat) (s : State) (c : Cmd) (p : Bytes) (k : Capture), ready 0x0B08 memCaptureAckSpec m s c = true ∧ p = payload s m ∧
    (s.mem.captures.find (rd p 0 1) = some k) ∧
    (k.rd ≤ rd p 8 8) ∧
    (rd p 8 8 ≤ k.wr) :=
  ⟨2, (asked 2 0x0B08 ([1] ++ zeros 15) (up.modMem fun m => { m with captures := [(1, { region := 0 })] })), (askedCmd 2 0x0B08), payload (asked 2 0x0B08 ([1] ++ zeros 15) (up.modMem fun m => { m with captures := [(1, { region := 0 })] })) 2, { region := 0 }, by decide, rfl, by decide, by decide, by decide⟩
theorem test_premises_memStatsAll : ∃ (m : Nat) (s : State) (c : Cmd) (p : Bytes), ready 0x0B09 memStatsSpec m s c = true ∧ p = payload s m ∧
    (rd p 0 1 = 255) :=
  ⟨2, (asked 2 0x0B09 ([255, 0]) up), (askedCmd 2 0x0B09), payload (asked 2 0x0B09 ([255, 0]) up) 2, by decide, rfl, by decide⟩
theorem test_premises_memStatsPort : ∃ (m : Nat) (s : State) (c : Cmd) (p : Bytes), ready 0x0B09 memStatsSpec m s c = true ∧ p = payload s m ∧
    (rd p 0 1 < 4) :=
  ⟨2, (asked 2 0x0B09 ([0, 0]) up), (askedCmd 2 0x0B09), payload (asked 2 0x0B09 ([0, 0]) up) 2, by decide, rfl, by decide⟩

theorem test_premises_lanternStream : ∃ (m : Nat) (s : State) (c : Cmd) (p : Bytes), ready 0x0C01 lanternStreamSpec m s c = true ∧ p = payload s m ∧
    (passes (streamChecks p)) ∧
    (rd p 1 1 ≠ 1 ∨ (s.mem.regions.get {} (rd p 3 1)).kind = 3) :=
  ⟨2, (asked 2 0x0C01 (zeros 16) up), (askedCmd 2 0x0C01), payload (asked 2 0x0C01 (zeros 16) up) 2, by decide, rfl, by decide, Or.inl (by decide)⟩
theorem test_premises_lanternPort : ∃ (m : Nat) (s : State) (c : Cmd) (p : Bytes), ready 0x0C02 lanternPortSpec m s c = true ∧ p = payload s m ∧
    (rd p 0 2 < 768) ∧
    (rd p 2 1 ≤ 24) :=
  ⟨2, (asked 2 0x0C02 (zeros 8) up), (askedCmd 2 0x0C02), payload (asked 2 0x0C02 (zeros 8) up) 2, by decide, rfl, by decide, by decide⟩
theorem test_premises_lanternTrigger : ∃ (m : Nat) (s : State) (c : Cmd) (p : Bytes), ready 0x0C03 lanternTriggerSpec m s c = true ∧ p = payload s m ∧
    (passes (triggerChecks p)) :=
  ⟨2, (asked 2 0x0C03 (zeros 17) up), (askedCmd 2 0x0C03), payload (asked 2 0x0C03 (zeros 17) up) 2, by decide, rfl, by decide⟩
theorem test_premises_lanternTenant : ∃ (m : Nat) (s : State) (c : Cmd) (p : Bytes), ready 0x0C04 lanternTenantSpec m s c = true ∧ p = payload s m ∧
    (rd p 0 3 < 1048576) ∧
    (1 ≤ rd p 4 4) ∧
    (rd p 0 3 + rd p 4 4 ≤ 1048576) ∧
    (rd p 8 1 ≤ 1) :=
  ⟨2, (asked 2 0x0C04 (zeros 4 ++ le 4 1 ++ [0]) up), (askedCmd 2 0x0C04), payload (asked 2 0x0C04 (zeros 4 ++ le 4 1 ++ [0]) up) 2, by decide, rfl, by decide, by decide, by decide, by decide⟩
theorem test_premises_lanternIpfix : ∃ (m : Nat) (s : State) (c : Cmd) (p : Bytes) (bs : Bytes), ready 0x0C05 lanternIpfixSpec m s c = true ∧ p = payload s m ∧
    (passes (ipfixChecks s p)) ∧
    (bmeOf s 0 = true) :=
  ⟨2, (asked 2 0x0C05 ([0, 1, 0, 42] ++ zeros 8 ++ le 2 0 ++ le 2 1 ++ le 2 1 ++ zeros 14) ((modStream 0 (fun x => { x with kind := 3 }) (up.modPorts fun t => t.put 0 {})).modHost fun h => { h with bme := [true, true] })), (askedCmd 2 0x0C05), payload (asked 2 0x0C05 ([0, 1, 0, 42] ++ zeros 8 ++ le 2 0 ++ le 2 1 ++ le 2 1 ++ zeros 14) ((modStream 0 (fun x => { x with kind := 3 }) (up.modPorts fun t => t.put 0 {})).modHost fun h => { h with bme := [true, true] })) 2, [], by decide, rfl, by decide, by decide⟩
theorem test_premises_lanternAck : ∃ (m : Nat) (s : State) (c : Cmd) (p : Bytes), ready 0x0C06 lanternAckSpec m s c = true ∧ p = payload s m ∧
    (rd p 0 1 < 16) ∧
    ((s.stream (rd p 0 1)).rd ≤ rd p 8 8) ∧
    (rd p 8 8 ≤ (s.stream (rd p 0 1)).wr) :=
  ⟨2, (asked 2 0x0C06 (zeros 16) up), (askedCmd 2 0x0C06), payload (asked 2 0x0C06 (zeros 16) up) 2, by decide, rfl, by decide, by decide, by decide⟩
theorem test_premises_lanternStats : ∃ (m : Nat) (s : State) (c : Cmd) (p : Bytes), ready 0x0C07 lanternStatsSpec m s c = true ∧ p = payload s m :=
  ⟨2, (asked 2 0x0C07 ([0]) up), (askedCmd 2 0x0C07), payload (asked 2 0x0C07 ([0]) up) 2, by decide, rfl⟩
theorem test_premises_lanternPmcDump : ∃ (m : Nat) (s : State) (c : Cmd) (p : Bytes), ready 0x0C08 lanternPmcDumpSpec m s c = true ∧ p = payload s m ∧
    (bmeOf s 0 = true) :=
  ⟨2, (asked 2 0x0C08 (zeros 9) (up.modHost fun h => { h with bme := [true, true] })), (askedCmd 2 0x0C08), payload (asked 2 0x0C08 (zeros 9) (up.modHost fun h => { h with bme := [true, true] })) 2, by decide, rfl, by decide⟩

theorem test_premises_timeStatus : ∃ (m : Nat) (s : State) (c : Cmd) (p : Bytes), ready 0x0D01 timeStatusSpec m s c = true ∧ p = payload s m :=
  ⟨2, (asked 2 0x0D01 ([]) up), (askedCmd 2 0x0D01), payload (asked 2 0x0D01 ([]) up) 2, by decide, rfl⟩
theorem test_premises_timeStep : ∃ (m : Nat) (s : State) (c : Cmd) (p : Bytes), ready 0x0D02 timeStepSpec m s c = true ∧ p = payload s m ∧
    (rd p 8 4 ≤ 999999999) ∧
    (stepFits s.time (toInt 48 (rd p 0 6)) (rd p 8 4) = true) :=
  ⟨2, (asked 2 0x0D02 (zeros 12) up), (askedCmd 2 0x0D02), payload (asked 2 0x0D02 (zeros 12) up) 2, by decide, rfl, by decide, by decide⟩
theorem test_premises_timeRate : ∃ (m : Nat) (s : State) (c : Cmd) (p : Bytes), ready 0x0D03 timeRateSpec m s c = true ∧ p = payload s m :=
  ⟨2, (asked 2 0x0D03 (zeros 6) up), (askedCmd 2 0x0D03), payload (asked 2 0x0D03 (zeros 6) up) 2, by decide, rfl⟩
theorem test_premises_timeState : ∃ (m : Nat) (s : State) (c : Cmd) (p : Bytes), ready 0x0D04 timeStateSpec m s c = true ∧ p = payload s m ∧
    (rd p 0 1 ≤ 1) :=
  ⟨2, (asked 2 0x0D04 ([1]) up), (askedCmd 2 0x0D04), payload (asked 2 0x0D04 ([1]) up) 2, by decide, rfl, by decide⟩
theorem test_premises_timePortDelay : ∃ (m : Nat) (s : State) (c : Cmd) (p : Bytes), ready 0x0D05 timePortDelaySpec m s c = true ∧ p = payload s m ∧
    (rd p 0 2 < 768) ∧
    (1 ≤ rd p 2 1) ∧
    (rd p 2 1 ≤ 5) ∧
    (psOk (rd p 4 4) = true) ∧
    (psOk (rd p 8 4) = true) :=
  ⟨2, (asked 2 0x0D05 ([0, 0, 1] ++ zeros 9) up), (askedCmd 2 0x0D05), payload (asked 2 0x0D05 ([0, 0, 1] ++ zeros 9) up) 2, by decide, rfl, by decide, by decide, by decide, by decide, by decide⟩
theorem test_premises_timePortPtp : ∃ (m : Nat) (s : State) (c : Cmd) (p : Bytes), ready 0x0D06 timePortPtpSpec m s c = true ∧ p = payload s m ∧
    (rd p 0 2 < 768) ∧
    (rd p 2 1 < 4) :=
  ⟨2, (asked 2 0x0D06 (zeros 3) up), (askedCmd 2 0x0D06), payload (asked 2 0x0D06 (zeros 3) up) 2, by decide, rfl, by decide, by decide⟩
theorem test_premises_timePps : ∃ (m : Nat) (s : State) (c : Cmd) (p : Bytes), ready 0x0D07 timePpsSpec m s c = true ∧ p = payload s m ∧
    (rd p 0 1 < 8) ∧
    (1 ≤ rd p 2 2) ∧
    (rd p 2 2 ≤ 500) ∧
    (-500000000 ≤ toInt 32 (rd p 4 4)) ∧
    (toInt 32 (rd p 4 4) ≤ 499999999) :=
  ⟨2, (asked 2 0x0D07 ([0, 0, 1] ++ zeros 5) up), (askedCmd 2 0x0D07), payload (asked 2 0x0D07 ([0, 0, 1] ++ zeros 5) up) 2, by decide, rfl, by decide, by decide, by decide, by decide, by decide⟩
theorem test_premises_timeSynce : ∃ (m : Nat) (s : State) (c : Cmd) (p : Bytes), ready 0x0D08 timeSynceSpec m s c = true ∧ p = payload s m ∧
    (rd p 0 1 ≤ 1) ∧
    (rd p 2 2 < 768) ∧
    (rd p 4 1 ≤ 1) :=
  ⟨2, (asked 2 0x0D08 (zeros 5) up), (askedCmd 2 0x0D08), payload (asked 2 0x0D08 (zeros 5) up) 2, by decide, rfl, by decide, by decide, by decide⟩
theorem test_premises_timeTxtsRead : ∃ (m : Nat) (s : State) (c : Cmd) (p : Bytes), ready 0x0D09 timeTxtsReadSpec m s c = true ∧ p = payload s m ∧
    (bmeOf s 0 = true) :=
  ⟨2, (asked 2 0x0D09 (zeros 8) (up.modHost fun h => { h with bme := [true, true] })), (askedCmd 2 0x0D09), payload (asked 2 0x0D09 (zeros 8) (up.modHost fun h => { h with bme := [true, true] })) 2, by decide, rfl, by decide⟩

theorem test_premises_faultStatus : ∃ (m : Nat) (s : State) (c : Cmd) (p : Bytes), ready 0x0E01 faultStatusSpec m s c = true ∧ p = payload s m ∧
    (rd p 0 2 < 448 ∨ rd p 0 2 = 65535) :=
  ⟨2, (asked 2 0x0E01 (le 2 0) up), (askedCmd 2 0x0E01), payload (asked 2 0x0E01 (le 2 0) up) 2, by decide, rfl, Or.inl (by decide)⟩
theorem test_premises_faultAck : ∃ (m : Nat) (s : State) (c : Cmd) (p : Bytes), ready 0x0E02 faultAckSpec m s c = true ∧ p = payload s m ∧
    (rd p 0 2 < 448) :=
  ⟨2, (asked 2 0x0E02 (zeros 3) up), (askedCmd 2 0x0E02), payload (asked 2 0x0E02 (zeros 3) up) 2, by decide, rfl, by decide⟩
theorem test_premises_faultClear : ∃ (m : Nat) (s : State) (c : Cmd) (p : Bytes), ready 0x0E03 faultClearSpec m s c = true ∧ p = payload s m ∧
    (rd p 0 2 < 448) :=
  ⟨2, (asked 2 0x0E03 (zeros 3) up), (askedCmd 2 0x0E03), payload (asked 2 0x0E03 (zeros 3) up) 2, by decide, rfl, by decide⟩
theorem test_premises_faultForce : ∃ (m : Nat) (s : State) (c : Cmd) (p : Bytes), ready 0x0E04 faultForceSpec m s c = true ∧ p = payload s m ∧
    (rd p 0 2 < 448) ∧
    (rd p 2 1 ≤ 1) ∧
    (rd p 3 1 ≤ 3) :=
  ⟨2, (asked 2 0x0E04 (zeros 8) up), (askedCmd 2 0x0E04), payload (asked 2 0x0E04 (zeros 8) up) 2, by decide, rfl, by decide, by decide, by decide⟩
theorem test_premises_faultLogOwn : ∃ (m : Nat) (s : State) (c : Cmd) (p : Bytes), ready 0x0E05 faultLogSpec m s c = true ∧ p = payload s m ∧
    (rd p 0 1 = 0) ∧
    (bit (rd p 1 1) 0 = false) ∧
    (bmeOf s 0 = true) :=
  ⟨2, (asked 2 0x0E05 (zeros 16) (up.modHost fun h => { h with bme := [true, true] })), (askedCmd 2 0x0E05), payload (asked 2 0x0E05 (zeros 16) (up.modHost fun h => { h with bme := [true, true] })) 2, by decide, rfl, by decide, by decide, by decide⟩
theorem test_premises_faultLogOwnClear : ∃ (m : Nat) (s : State) (c : Cmd) (p : Bytes), ready 0x0E05 faultLogSpec m s c = true ∧ p = payload s m ∧
    (rd p 0 1 = 0) ∧
    (bit (rd p 1 1) 0 = true) ∧
    (bmeOf s 0 = true) :=
  ⟨2, (asked 2 0x0E05 ([0, 1] ++ zeros 14) (up.modHost fun h => { h with bme := [true, true] })), (askedCmd 2 0x0E05), payload (asked 2 0x0E05 ([0, 1] ++ zeros 14) (up.modHost fun h => { h with bme := [true, true] })) 2, by decide, rfl, by decide, by decide, by decide⟩
theorem test_premises_faultLogPartner : ∃ (m : Nat) (s : State) (c : Cmd) (p : Bytes), ready 0x0E05 faultLogSpec m s c = true ∧ p = payload s m ∧
    (rd p 0 1 = 1) ∧
    (bit (rd p 1 1) 0 = false) ∧
    (bmeOf s 0 = true) :=
  ⟨2, (asked 2 0x0E05 ([1] ++ zeros 15) (up.modHost fun h => { h with bme := [true, true] })), (askedCmd 2 0x0E05), payload (asked 2 0x0E05 ([1] ++ zeros 15) (up.modHost fun h => { h with bme := [true, true] })) 2, by decide, rfl, by decide, by decide, by decide⟩
theorem test_premises_faultLogPartnerClear : ∃ (m : Nat) (s : State) (c : Cmd) (p : Bytes), ready 0x0E05 faultLogSpec m s c = true ∧ p = payload s m ∧
    (rd p 0 1 = 1) ∧
    (bit (rd p 1 1) 0 = true) ∧
    (bmeOf s 0 = true) :=
  ⟨2, (asked 2 0x0E05 ([1, 1] ++ zeros 14) (up.modHost fun h => { h with bme := [true, true] })), (askedCmd 2 0x0E05), payload (asked 2 0x0E05 ([1, 1] ++ zeros 14) (up.modHost fun h => { h with bme := [true, true] })) 2, by decide, rfl, by decide, by decide, by decide⟩
theorem test_premises_faultConfig : ∃ (m : Nat) (s : State) (c : Cmd) (p : Bytes), ready 0x0E06 faultConfigSpec m s c = true ∧ p = payload s m ∧
    (rd p 0 2 < 448 ∨ rd p 0 2 = 65535) :=
  ⟨2, (asked 2 0x0E06 (zeros 8) up), (askedCmd 2 0x0E06), payload (asked 2 0x0E06 (zeros 8) up) 2, by decide, rfl, Or.inl (by decide)⟩

theorem test_premises_powerStatus : ∃ (m : Nat) (s : State) (c : Cmd) (p : Bytes), ready 0x0F01 powerStatusSpec m s c = true ∧ p = payload s m :=
  ⟨2, (asked 2 0x0F01 ([]) up), (askedCmd 2 0x0F01), payload (asked 2 0x0F01 ([]) up) 2, by decide, rfl⟩
theorem test_premises_powerCap : ∃ (m : Nat) (s : State) (c : Cmd) (p : Bytes), ready 0x0F02 powerCapSpec m s c = true ∧ p = payload s m ∧
    (300 ≤ rd p 0 2) ∧
    (rd p 0 2 ≤ 1160) :=
  ⟨2, (asked 2 0x0F02 (le 2 300) up), (askedCmd 2 0x0F02), payload (asked 2 0x0F02 (le 2 300) up) 2, by decide, rfl, by decide, by decide⟩
theorem test_premises_powerConfigKnown : ∃ (m : Nat) (s : State) (c : Cmd) (p : Bytes), ready 0x0F03 powerConfigSpec m s c = true ∧ p = payload s m ∧
    (passes (powerChecks p)) ∧
    (((List.range 8).any (newAddress s p)) = false) :=
  ⟨2, (asked 2 0x0F03 ([85, 1, 1, 0] ++ le 2 250 ++ [0, 4] ++ le 4 1000 ++ zeros 12) up), (askedCmd 2 0x0F03), payload (asked 2 0x0F03 ([85, 1, 1, 0] ++ le 2 250 ++ [0, 4] ++ le 4 1000 ++ zeros 12) up) 2, by decide, rfl, by decide, by decide⟩
theorem test_premises_powerConfigNew : ∃ (m : Nat) (s : State) (c : Cmd) (p : Bytes) (bs : Bytes), ready 0x0F03 powerConfigSpec m s c = true ∧ p = payload s m ∧
    (passes (powerChecks p)) :=
  ⟨2, (asked 2 0x0F03 ([85, 1, 1, 0] ++ le 2 250 ++ [0, 4] ++ le 4 1000 ++ zeros 4 ++ [9] ++ zeros 7) up), (askedCmd 2 0x0F03), payload (asked 2 0x0F03 ([85, 1, 1, 0] ++ le 2 250 ++ [0, 4] ++ le 4 1000 ++ zeros 4 ++ [9] ++ zeros 7) up) 2, [], by decide, rfl, by decide⟩
theorem test_premises_powerReasons : ∃ (m : Nat) (s : State) (c : Cmd) (p : Bytes), ready 0x0F04 powerReasonsSpec m s c = true ∧ p = payload s m :=
  ⟨2, (asked 2 0x0F04 ([0]) up), (askedCmd 2 0x0F04), payload (asked 2 0x0F04 ([0]) up) 2, by decide, rfl⟩
theorem test_premises_powerSensors : ∃ (m : Nat) (s : State) (c : Cmd) (p : Bytes), ready 0x0F05 powerSensorsSpec m s c = true ∧ p = payload s m :=
  ⟨2, (asked 2 0x0F05 ([]) up), (askedCmd 2 0x0F05), payload (asked 2 0x0F05 ([]) up) 2, by decide, rfl⟩

theorem test_premises_diagEcho : ∃ (m : Nat) (s : State) (c : Cmd) (p : Bytes), ready 0x1101 diagEchoSpec m s c = true ∧ p = payload s m :=
  ⟨2, (asked 2 0x1101 ([1, 2, 3]) up), (askedCmd 2 0x1101), payload (asked 2 0x1101 ([1, 2, 3]) up) 2, by decide, rfl⟩
theorem test_premises_diagDelay : ∃ (m : Nat) (s : State) (c : Cmd) (p : Bytes), ready 0x1102 diagDelaySpec m s c = true ∧ p = payload s m ∧
    (1 ≤ rd p 0 4) ∧
    (rd p 0 4 ≤ 5000) :=
  ⟨2, (asked 2 0x1102 (le 4 5000) up), (askedCmd 2 0x1102), payload (asked 2 0x1102 (le 4 5000) up) 2, by decide, rfl, by decide, by decide⟩
theorem test_premises_diagProtoLogKeep : ∃ (m : Nat) (s : State) (c : Cmd) (p : Bytes), ready 0x1103 diagProtoLogSpec m s c = true ∧ p = payload s m ∧
    (bit (rd p 0 1) 0 = false) :=
  ⟨2, (asked 2 0x1103 ([0]) up), (askedCmd 2 0x1103), payload (asked 2 0x1103 ([0]) up) 2, by decide, rfl, by decide⟩
theorem test_premises_diagProtoLogClear : ∃ (m : Nat) (s : State) (c : Cmd) (p : Bytes), ready 0x1103 diagProtoLogSpec m s c = true ∧ p = payload s m ∧
    (bit (rd p 0 1) 0 = true) :=
  ⟨2, (asked 2 0x1103 ([1]) up), (askedCmd 2 0x1103), payload (asked 2 0x1103 ([1]) up) 2, by decide, rfl, by decide⟩

theorem test_premises_sliceStatus : ∃ (m : Nat) (s : State) (c : Cmd) (p : Bytes), ready 0x1001 sliceStatusSpec m s c = true ∧ p = payload s m :=
  ⟨2, (asked 2 0x1001 ([]) up), (askedCmd 2 0x1001), payload (asked 2 0x1001 ([]) up) 2, by decide, rfl⟩
theorem test_premises_sliceTakeover : ∃ (m : Nat) (s : State) (c : Cmd) (p : Bytes), ready 0x1002 sliceTakeoverSpec m s c = true ∧ p = payload s m ∧
    (rd p 0 1 < 32) ∧
    ((s.slice (rd p 0 1)).st = 0 ∨ (s.slice (rd p 0 1)).st = 3) ∧
    ((s.slice (rd p 0 1)).homeDue = false) ∧
    ((s.slice 32).st = 0) :=
  ⟨2, (asked 2 0x1002 ([4]) up), (askedCmd 2 0x1002), payload (asked 2 0x1002 ([4]) up) 2, by decide, rfl, by decide, by decide, by decide, by decide⟩
theorem test_premises_sliceReleaseSpare : ∃ (m : Nat) (s : State) (c : Cmd) (p : Bytes), ready 0x1003 sliceReleaseSpec m s c = true ∧ p = payload s m ∧
    (rd p 0 1 < 32) ∧
    ((s.slice (rd p 0 1)).st = 2) ∧
    ((s.slice (rd p 0 1)).homeDue = false) ∧
    (mayRelease s (rd p 0 1) = true) :=
  ⟨2, (asked 2 0x1003 ([4]) (modSlice 4 (fun x => { x with st := 2, passed := true }) up)), (askedCmd 2 0x1003), payload (asked 2 0x1003 ([4]) (modSlice 4 (fun x => { x with st := 2, passed := true }) up)) 2, by decide, rfl, by decide, by decide, by decide, by decide⟩
theorem test_premises_sliceReleaseDown : ∃ (m : Nat) (s : State) (c : Cmd) (p : Bytes), ready 0x1003 sliceReleaseSpec m s c = true ∧ p = payload s m ∧
    (rd p 0 1 < 32) ∧
    ((s.slice (rd p 0 1)).st = 3) ∧
    ((s.slice (rd p 0 1)).homeDue = false) ∧
    (mayRelease s (rd p 0 1) = true) :=
  ⟨2, (asked 2 0x1003 ([4]) (modSlice 4 (fun x => { x with st := 3, passed := true }) up)), (askedCmd 2 0x1003), payload (asked 2 0x1003 ([4]) (modSlice 4 (fun x => { x with st := 3, passed := true }) up)) 2, by decide, rfl, by decide, by decide, by decide, by decide⟩
theorem test_premises_sliceSelfCheck : ∃ (m : Nat) (s : State) (c : Cmd) (p : Bytes), ready 0x1004 sliceSelfCheckSpec m s c = true ∧ p = payload s m ∧
    (rd p 0 1 < 33) ∧
    ((s.slice (rd p 0 1)).st = 3 ∨ (rd p 0 1 = 32 ∧ (s.slice (rd p 0 1)).st = 0) ∨ (rd p 0 1 ≠ 32 ∧ (s.slice (rd p 0 1)).st = 2)) ∧
    ((s.slice (rd p 0 1)).homeDue = false) :=
  ⟨2, (asked 2 0x1004 ([32]) up), (askedCmd 2 0x1004), payload (asked 2 0x1004 ([32]) up) 2, by decide, rfl, by decide, Or.inr (Or.inl (by decide)), by decide⟩

theorem test_premises_laneEnergyDetectAn : ∃ (lane : Nat) (s : State), (lane < 768) ∧
    ((s.lane lane).state = 1) ∧
    ((s.lane lane).waiting = false) ∧
    (bit (s.lane lane).flags 0 = true) ∧
    (quietLane s lane = lane) :=
  ⟨0, (modLane 0 (fun x => { x with state := 1 }) up), by decide, by decide, by decide, by decide, by decide⟩
theorem test_premises_laneEnergyDetectFollow : ∃ (lane : Nat) (s : State), (lane < 768) ∧
    ((s.lane lane).state = 1) ∧
    ((s.lane lane).waiting = false) ∧
    (bit (s.lane lane).flags 0 = true) ∧
    (quietLane s lane ≠ lane) ∧
    ([3, 4, 5, 6].contains (s.lane (quietLane s lane)).state = true) :=
  ⟨1, ((modLane 1 (fun x => { x with state := 1 }) (modLane 0 (fun x => { x with state := 3 }) up)).modPorts fun t => t.put 0 { width := 2 }), by decide, by decide, by decide, by decide, by decide, by decide⟩
theorem test_premises_laneEnergyDetectNote : ∃ (lane : Nat) (s : State), (lane < 768) ∧
    ((s.lane lane).state = 1) ∧
    ((s.lane lane).waiting = false) ∧
    (bit (s.lane lane).flags 0 = true) ∧
    (quietLane s lane ≠ lane) ∧
    ([3, 4, 5, 6].contains (s.lane (quietLane s lane)).state = false) :=
  ⟨1, ((modLane 1 (fun x => { x with state := 1 }) (modLane 0 (fun x => { x with state := 2 }) up)).modPorts fun t => t.put 0 { width := 2 }), by decide, by decide, by decide, by decide, by decide, by decide⟩
theorem test_premises_laneEnergyDetectTrain : ∃ (lane : Nat) (s : State), (lane < 768) ∧
    ((s.lane lane).state = 1) ∧
    ((s.lane lane).waiting = false) ∧
    (bit (s.lane lane).flags 0 = false) :=
  ⟨0, (modLane 0 (fun x => { x with state := 1, flags := 0 }) up), by decide, by decide, by decide, by decide⟩
theorem test_premises_laneEnergyDetectLock : ∃ (lane : Nat) (s : State), (lane < 768) ∧
    ((s.lane lane).state = 7 ∨ (s.lane lane).state = 8) :=
  ⟨0, (modLane 0 (fun x => { x with state := 7 }) up), by decide, Or.inl (by decide)⟩
theorem test_premises_anResolvedCommon : ∃ (lane mode : Nat) (page : AnPage) (s : State), (lane < 768) ∧
    ((s.lane lane).state = 2) ∧
    (anMode (anAdvert s lane) page = some mode) :=
  ⟨0, 1, { tech := 1 }, (modLane 0 (fun x => { x with state := 2 }) up), by decide, by decide, by decide⟩
theorem test_premises_anResolvedNone : ∃ (lane : Nat) (page : AnPage) (s : State), (lane < 768) ∧
    ((s.lane lane).state = 2) ∧
    (anMode (anAdvert s lane) page = none) :=
  ⟨0, { tech := 0 }, (modLane 0 (fun x => { x with state := 2 }) up), by decide, by decide, by decide⟩
theorem test_premises_partnerTrainingRequestStep : ∃ (lane tap : Nat) (t : TrainSession) (s : State), (lane < 768) ∧
    ((s.lane lane).state = 3) ∧
    ((s.lane lane).session = some t) ∧
    (t.open_ = false) :=
  ⟨0, 3, { start := 0 }, (modLane 0 (fun x => { x with state := 3, session := some { start := 0 } }) up), by decide, by decide, by decide, by decide⟩
theorem test_premises_partnerTrainingRequestStepDown : ∃ (lane tap : Nat) (t : TrainSession) (s : State), (lane < 768) ∧
    ((s.lane lane).state = 3) ∧
    ((s.lane lane).session = some t) ∧
    (t.open_ = false) :=
  ⟨0, 3, { start := 0 }, (modLane 0 (fun x => { x with state := 3, session := some { start := 0 } }) up), by decide, by decide, by decide, by decide⟩
theorem test_premises_partnerTrainingRequestPreset : ∃ (lane : Nat) (taps : List Int) (t : TrainSession) (s : State), (lane < 768) ∧
    ((s.lane lane).state = 3) ∧
    ((s.lane lane).session = some t) ∧
    (t.open_ = false) :=
  ⟨0, [0, 0, 0, 128, 0], { start := 0 }, (modLane 0 (fun x => { x with state := 3, session := some { start := 0 } }) up), by decide, by decide, by decide, by decide⟩
theorem test_premises_partnerTrainingRequestUndefined : ∃ (lane : Nat) (t : TrainSession) (s : State), (lane < 768) ∧
    ((s.lane lane).state = 3) ∧
    ((s.lane lane).session = some t) ∧
    (t.open_ = false) :=
  ⟨0, { start := 0 }, (modLane 0 (fun x => { x with state := 3, session := some { start := 0 } }) up), by decide, by decide, by decide, by decide⟩
theorem test_premises_partnerTrainingRequestOverlap : ∃ (lane : Nat) (t : TrainSession) (s : State), (lane < 768) ∧
    ((s.lane lane).state = 3) ∧
    ((s.lane lane).session = some t) :=
  ⟨0, { start := 0 }, (modLane 0 (fun x => { x with state := 3, session := some { start := 0 } }) up), by decide, by decide, by decide⟩
theorem test_premises_partnerTrainingRequestHold : ∃ (lane : Nat) (t : TrainSession) (s : State), (lane < 768) ∧
    ((s.lane lane).state = 3) ∧
    ((s.lane lane).session = some t) :=
  ⟨0, { start := 0 }, (modLane 0 (fun x => { x with state := 3, session := some { start := 0 } }) up), by decide, by decide, by decide⟩
theorem test_premises_partnerTrainingRequestBad : ∃ (lane : Nat) (t : TrainSession) (s : State), (lane < 768) ∧
    ((s.lane lane).state = 3) ∧
    ((s.lane lane).session = some t) ∧
    (nth t.counts 5 < 1000) :=
  ⟨0, { start := 0 }, (modLane 0 (fun x => { x with state := 3, session := some { start := 0 } }) up), by decide, by decide, by decide, by decide⟩
theorem test_premises_partnerTrainingRequestAbort : ∃ (lane : Nat) (t : TrainSession) (s : State), (lane < 768) ∧
    ((s.lane lane).state = 3) ∧
    ((s.lane lane).session = some t) ∧
    (1000 ≤ nth t.counts 5) :=
  ⟨0, { start := 0, counts := [0, 0, 0, 0, 0, 1000] }, (modLane 0 (fun x => { x with state := 3, session := some { start := 0, counts := [0, 0, 0, 0, 0, 1000] } }) up), by decide, by decide, by decide, by decide⟩
theorem test_premises_trainReceiverReadyAll : ∃ (lane : Nat) (t : State) (s : State), (lane < 768) ∧
    ((s.lane lane).state = 3) ∧
    (adaptLane lane (modLane lane (fun x => { x with ready := true, blind := false }) s) = t) ∧
    (((groupOfLane t lane).all fun k =>
      ((t.lane k).state == 3 && (t.lane k).ready) || [4, 5, 6].contains (t.lane k).state) = true) :=
  ⟨0, adaptLane 0 (modLane 0 (fun x => { x with ready := true, blind := false }) (modLane 0 (fun x => { x with state := 3 }) up)), (modLane 0 (fun x => { x with state := 3 }) up), by decide, by decide, rfl, by decide⟩
theorem test_premises_trainReceiverReadySome : ∃ (lane : Nat) (t : State) (s : State), (lane < 768) ∧
    ((s.lane lane).state = 3) ∧
    (adaptLane lane (modLane lane (fun x => { x with ready := true, blind := false }) s) = t) ∧
    (((groupOfLane t lane).all fun k =>
      ((t.lane k).state == 3 && (t.lane k).ready) || [4, 5, 6].contains (t.lane k).state) = false) :=
  ⟨0, adaptLane 0 (modLane 0 (fun x => { x with ready := true, blind := false }) (modLane 1 (fun x => { x with state := 1 }) (((modLane 0 (fun x => { x with state := 3 }) up)).modPorts fun t => t.put 0 { width := 2 }))), (modLane 1 (fun x => { x with state := 1 }) (((modLane 0 (fun x => { x with state := 3 }) up)).modPorts fun t => t.put 0 { width := 2 })), by decide, by decide, rfl, by decide⟩
theorem test_premises_laneLockAchievedAll : ∃ (lane : Nat) (t : State) (s : State), (lane < 768) ∧
    ((s.lane lane).state = 4) ∧
    (modLane lane (fun x => { x with locked := true }) (if (s.lane lane).blind then adaptLane lane s else s) = t) ∧
    (((groupOfLane t lane).all fun k =>
      ((t.lane k).state == 4 && (t.lane k).locked) || (t.lane k).state == 5 || (t.lane k).state == 6) = true) :=
  ⟨0, modLane 0 (fun x => { x with locked := true }) (if ((modLane 0 (fun x => { x with state := 4 }) up).lane 0).blind then adaptLane 0 (modLane 0 (fun x => { x with state := 4 }) up) else (modLane 0 (fun x => { x with state := 4 }) up)), (modLane 0 (fun x => { x with state := 4 }) up), by decide, by decide, rfl, by decide⟩
theorem test_premises_laneLockAchievedSome : ∃ (lane : Nat) (t : State) (s : State), (lane < 768) ∧
    ((s.lane lane).state = 4) ∧
    (modLane lane (fun x => { x with locked := true }) (if (s.lane lane).blind then adaptLane lane s else s) = t) ∧
    (((groupOfLane t lane).all fun k =>
      ((t.lane k).state == 4 && (t.lane k).locked) || (t.lane k).state == 5 || (t.lane k).state == 6) = false) :=
  ⟨0, modLane 0 (fun x => { x with locked := true }) (if ((modLane 1 (fun x => { x with state := 3 }) (((modLane 0 (fun x => { x with state := 4 }) up)).modPorts fun t => t.put 0 { width := 2 })).lane 0).blind then adaptLane 0 (modLane 1 (fun x => { x with state := 3 }) (((modLane 0 (fun x => { x with state := 4 }) up)).modPorts fun t => t.put 0 { width := 2 })) else (modLane 1 (fun x => { x with state := 3 }) (((modLane 0 (fun x => { x with state := 4 }) up)).modPorts fun t => t.put 0 { width := 2 }))), (modLane 1 (fun x => { x with state := 3 }) (((modLane 0 (fun x => { x with state := 4 }) up)).modPorts fun t => t.put 0 { width := 2 })), by decide, by decide, rfl, by decide⟩
theorem test_premises_capexCompleteUp : ∃ (lane : Nat) (s : State), (lane < 768) ∧
    ((s.lane lane).state = 5) ∧
    (((groupOfLane s lane).all fun k => (s.lane k).state == 5 || (s.lane k).state == 6) = true) :=
  ⟨0, (modLane 0 (fun x => { x with state := 5 }) up), by decide, by decide, by decide⟩
theorem test_premises_capexCompleteWait : ∃ (lane : Nat) (s : State), (lane < 768) ∧
    ((s.lane lane).state = 5) ∧
    (((groupOfLane s lane).all fun k => (s.lane k).state == 5 || (s.lane k).state == 6) = false) :=
  ⟨0, (((modLane 0 (fun x => { x with state := 5 }) up)).modPorts fun t => t.put 0 { width := 2 }), by decide, by decide, by decide⟩
theorem test_premises_capexCompleteMode : ∃ (lane : Nat) (s : State), (lane < 768) ∧
    ((s.lane lane).state = 5) :=
  ⟨0, (modLane 0 (fun x => { x with state := 5 }) up), by decide, by decide⟩
theorem test_premises_capexCompleteDeskew : ∃ (lane : Nat) (s : State), (lane < 768) ∧
    ((s.lane lane).state = 5) :=
  ⟨0, (modLane 0 (fun x => { x with state := 5 }) up), by decide, by decide⟩
theorem test_premises_trainingLimitExpire : ∃ (lane : Nat) (s : State), (lane < 768) ∧
    ((s.lane lane).state = 3) ∧
    (timeCome s ((s.lane lane).stateBeat + 1000 * (s.lane lane).trainLimit) = true) :=
  ⟨0, ((modLane 0 (fun x => { x with state := 3 }) up).modGlb fun g => { g with beat := 20000000 }), by decide, by decide, by decide⟩
theorem test_premises_lockLimitExpireFail : ∃ (lane : Nat) (s : State), (lane < 768) ∧
    ((s.lane lane).state = 4) ∧
    (timeCome s ((s.lane lane).stateBeat + 50000) = true) ∧
    ((s.lane lane).method ≠ 1) :=
  ⟨0, ((modLane 0 (fun x => { x with state := 4 }) up).modGlb fun g => { g with beat := 50000 }), by decide, by decide, by decide, by decide⟩
theorem test_premises_lockLimitExpireBlind : ∃ (lane : Nat) (s : State), (lane < 768) ∧
    ((s.lane lane).state = 4) ∧
    (timeCome s ((s.lane lane).stateBeat + 50000) = true) ∧
    ((s.lane lane).method = 1) :=
  ⟨0, ((modLane 0 (fun x => { x with state := 4, method := 1 }) up).modGlb fun g => { g with beat := 50000 }), by decide, by decide, by decide, by decide⟩
theorem test_premises_capabilityLimitExpire : ∃ (lane : Nat) (deskew : Bool) (s : State), (lane < 768) ∧
    ((s.lane lane).state = 5) ∧
    (timeCome s ((s.lane lane).stateBeat + 10000) = true) :=
  ⟨0, true, ((modLane 0 (fun x => { x with state := 5 }) up).modGlb fun g => { g with beat := 10000 }), by decide, by decide, by decide⟩
theorem test_premises_blindLimitExpireAgain : ∃ (lane : Nat) (s : State), (lane < 768) ∧
    ((s.lane lane).state = 7) ∧
    (timeCome s ((s.lane lane).stateBeat + 1000 * (s.lane lane).blindLimit) = true) ∧
    ((s.lane lane).method = 1) :=
  ⟨0, ((modLane 0 (fun x => { x with state := 7, method := 1 }) up).modGlb fun g => { g with beat := 20000000 }), by decide, by decide, by decide, by decide⟩
theorem test_premises_blindLimitExpireDetect : ∃ (lane : Nat) (s : State), (lane < 768) ∧
    ((s.lane lane).state = 7) ∧
    (timeCome s ((s.lane lane).stateBeat + 1000 * (s.lane lane).blindLimit) = true) ∧
    ((s.lane lane).method ≠ 1) :=
  ⟨0, ((modLane 0 (fun x => { x with state := 7 }) up).modGlb fun g => { g with beat := 20000000 }), by decide, by decide, by decide, by decide⟩
theorem test_premises_relinkWindowExpire : ∃ (lane : Nat) (s : State), (lane < 768) ∧
    ((s.lane lane).state = 8) ∧
    (timeCome s ((s.lane lane).stateBeat + 1000 * (s.lane lane).relinkWindow) = true) :=
  ⟨0, ((modLane 0 (fun x => { x with state := 8 }) up).modGlb fun g => { g with beat := 20000000 }), by decide, by decide, by decide⟩
theorem test_premises_relinkLimitExpire : ∃ (lane : Nat) (s : State), (lane < 768) ∧
    ((s.lane lane).state = 4) ∧
    ((s.lane lane).relink = true) ∧
    (timeCome s ((s.lane lane).stateBeat + 20000) = true) :=
  ⟨0, ((modLane 0 (fun x => { x with state := 4, relink := true }) up).modGlb fun g => { g with beat := 20000 }), by decide, by decide, by decide, by decide⟩
theorem test_premises_retryBackoffExpire : ∃ (lane : Nat) (s : State), (lane < 768) ∧
    ((s.lane lane).state = 1) ∧
    ((s.lane lane).waiting = true) ∧
    (timeCome s ((s.lane lane).stateBeat + 1000 * (s.lane lane).backoff) = true) :=
  ⟨0, ((modLane 0 (fun x => { x with state := 1, waiting := true }) up).modGlb fun g => { g with beat := 2000000 }), by decide, by decide, by decide, by decide⟩

theorem test_premises_losDetectAn : ∃ (lane : Nat) (t : State) (s : State), (lane < 768) ∧
    (modLane lane (fun x => { x with energy := false }) s = t) ∧
    ((t.lane lane).state = 2) :=
  ⟨0, modLane 0 (fun x => { x with energy := false }) (modLane 0 (fun x => { x with state := 2 }) up), (modLane 0 (fun x => { x with state := 2 }) up), by decide, rfl, by decide⟩
theorem test_premises_losDetectRelink : ∃ (lane : Nat) (t : State) (s : State), (lane < 768) ∧
    (modLane lane (fun x => { x with energy := false }) s = t) ∧
    ((t.lane lane).state = 6) ∧
    (relinks ((laneCount lane 3 1 t).lane lane) 1 = true) :=
  ⟨0, modLane 0 (fun x => { x with energy := false }) (modLane 0 (fun x => { x with state := 6, known := some {} }) up), (modLane 0 (fun x => { x with state := 6, known := some {} }) up), by decide, rfl, by decide, by decide⟩
theorem test_premises_losDetectDetect : ∃ (lane : Nat) (t : State) (s : State), (lane < 768) ∧
    (modLane lane (fun x => { x with energy := false }) s = t) ∧
    ((t.lane lane).state = 6) ∧
    (relinks ((laneCount lane 3 1 t).lane lane) 1 = false) :=
  ⟨0, modLane 0 (fun x => { x with energy := false }) (modLane 0 (fun x => { x with state := 6 }) up), (modLane 0 (fun x => { x with state := 6 }) up), by decide, rfl, by decide, by decide⟩
theorem test_premises_cdrLockLossRelink : ∃ (lane : Nat) (s : State), (lane < 768) ∧
    ((s.lane lane).state = 6) ∧
    (relinks (s.lane lane) 2 = true) :=
  ⟨0, (modLane 0 (fun x => { x with state := 6, known := some {} }) up), by decide, by decide, by decide⟩
theorem test_premises_cdrLockLossDetect : ∃ (lane : Nat) (s : State), (lane < 768) ∧
    ((s.lane lane).state = 6) ∧
    (relinks (s.lane lane) 2 = false) :=
  ⟨0, (modLane 0 (fun x => { x with state := 6 }) up), by decide, by decide, by decide⟩
theorem test_premises_fecAlignLossRelink : ∃ (lane : Nat) (s : State), (lane < 768) ∧
    ((s.lane lane).state = 6) ∧
    (relinks (s.lane lane) 3 = true) :=
  ⟨0, (modLane 0 (fun x => { x with state := 6, known := some {} }) up), by decide, by decide, by decide⟩
theorem test_premises_fecAlignLossDetect : ∃ (lane : Nat) (s : State), (lane < 768) ∧
    ((s.lane lane).state = 6) ∧
    (relinks (s.lane lane) 3 = false) :=
  ⟨0, (modLane 0 (fun x => { x with state := 6 }) up), by decide, by decide, by decide⟩
theorem test_premises_hiSerOn : ∃ (lane : Nat) (s : State), (lane < 768) ∧
    ((s.lane lane).state = 6) ∧
    (bit (s.lane lane).flags 4 = true) :=
  ⟨0, (modLane 0 (fun x => { x with state := 6, flags := 16 }) up), by decide, by decide, by decide⟩
theorem test_premises_hiSerOff : ∃ (lane : Nat) (s : State), (lane < 768) ∧
    (bit (s.lane lane).flags 4 = false) :=
  ⟨0, (modLane 0 (fun x => { x with state := 6 }) up), by decide, by decide⟩
theorem test_premises_partnerTrainingSeenTrain : ∃ (lane : Nat) (s : State), (lane < 768) ∧
    ((s.lane lane).state = 7 ∨ (s.lane lane).state = 8) :=
  ⟨0, (modLane 0 (fun x => { x with state := 7 }) up), by decide, Or.inl (by decide)⟩
theorem test_premises_partnerTrainingSeenDown : ∃ (lane : Nat) (s : State), (lane < 768) ∧
    ((s.lane lane).state = 6) :=
  ⟨0, (modLane 0 (fun x => { x with state := 6 }) up), by decide, by decide⟩
theorem test_premises_rsFaultReceive : ∃ (port : Nat) (lf rf : Bool) (s : State), (port < 768) :=
  ⟨0, true, false, up, by decide⟩
theorem test_premises_knownGoodStore : ∃ (lane : Nat) (dsp : Bytes) (s : State), (lane < 768) ∧
    ((s.lane lane).state = 6) ∧
    ((s.lane lane).goodBeat + 1000000 ≤ s.beat) :=
  ⟨0, [], (modLane 0 (fun x => { x with state := 6 }) (up.modGlb fun g => { g with beat := 1000000 })), by decide, by decide, by decide⟩
theorem test_premises_quietIdleThreshold : ∃ (port : Nat) (s : State), (port < 768) :=
  ⟨0, up, by decide⟩
theorem test_premises_quietIdleThresholdP10 : ∃ (port : Nat) (s : State), (quietMayEnter s port = true) :=
  ⟨0, (((up.modPower fun p => { p with quietAlways := true }).modPorts fun t => t.put 0 {}) |> modLane 0 fun x => { x with state := 6, mode := 3, quiet := { x.quiet with agreed := true, permit := true, tx := 0, idle := 0, peer := zeros 7 ++ [6] ++ zeros 4 } }), by decide⟩
theorem test_premises_quietWake : ∃ (port : Nat) (s : State), (port < 768) ∧
    ((s.lane port).quiet.tx = 1) ∧
    (portQueued s port = true) ∧
    ((s.lane port).quiet.asleep + 2 ≤ s.beat) :=
  ⟨0, (((modLane 0 (fun x => { x with quiet := { x.quiet with tx := 1 } }) (up.modTm fun t => { t with ports := t.ports.put 0 { queues := [(0, [1])] } })).modGlb fun g => { g with beat := 2 })), by decide, by decide, by decide, by decide⟩
theorem test_premises_quietWakeComplete : ∃ (port : Nat) (s : State), (port < 768) ∧
    ((s.lane port).quiet.tx = 2) ∧
    ((s.lane port).quiet.txBeat + wakeTime (s.lane port).quiet ≤ s.beat) :=
  ⟨0, ((modLane 0 (fun x => { x with quiet := { x.quiet with tx := 2 } }) (up.modPorts fun t => t.put 0 {})).modGlb fun g => { g with beat := 100 }), by decide, by decide, by decide⟩
theorem test_premises_quietRefresh : ∃ (port : Nat) (s : State), (port < 768) ∧
    ((s.lane port).quiet.tx = 1) ∧
    ((s.lane port).quiet.txBeat + 50 ≤ s.beat) :=
  ⟨0, ((modLane 0 (fun x => { x with quiet := { x.quiet with tx := 1 } }) (up.modPorts fun t => t.put 0 {})).modGlb fun g => { g with beat := 50 }), by decide, by decide, by decide⟩
theorem test_premises_partnerQuietSignalSleep : ∃ (port : Nat) (s : State), (port < 768) ∧
    (rxFollows s port = true) :=
  ⟨0, (modLane 0 (fun x => { x with quiet := { x.quiet with agreed := true } }) (up.modPorts fun t => t.put 0 {})), by decide, by decide⟩
theorem test_premises_partnerQuietSignalRefresh : ∃ (port : Nat) (s : State), (port < 768) ∧
    ((s.lane port).quiet.rx = true) :=
  ⟨0, (modLane 0 (fun x => { x with quiet := { x.quiet with rx := true } }) (up.modPorts fun t => t.put 0 {})), by decide, by decide⟩
theorem test_premises_partnerQuietSignalWake : ∃ (port : Nat) (s : State), (port < 768) :=
  ⟨0, up, by decide⟩
theorem test_premises_quietRefreshMiss : ∃ (port : Nat) (s : State), (port < 768) ∧
    ((s.lane port).quiet.rx = true) ∧
    ((s.lane port).quiet.rxBeat + 150 ≤ s.beat) :=
  ⟨0, ((modLane 0 (fun x => { x with quiet := { x.quiet with rx := true } }) (up.modPorts fun t => t.put 0 {})).modGlb fun g => { g with beat := 150 }), by decide, by decide, by decide⟩
theorem test_premises_eeeLpiReceive : ∃ (port : Nat) (lpi : Lpi) (s : State), (port < 768) ∧
    (eeeReady s port = true) :=
  ⟨0, .off, (modLane 0 (fun x => { x with quiet := { x.quiet with tx := 0, eee := true } , state := 6, mode := 2 }) (up.modPorts fun t => t.put 0 {})), by decide, by decide⟩
theorem test_premises_eeeLpiTransmit : ∃ (port : Nat) (lpi : Lpi) (s : State), (port < 768) ∧
    (eeeReady s port = true) ∧
    (expressPort s port = false) :=
  ⟨0, .off, (modLane 0 (fun x => { x with quiet := { x.quiet with tx := 0, eee := true } , state := 6, mode := 2 }) (up.modPorts fun t => t.put 0 {})), by decide, by decide, by decide⟩

theorem test_premises_hckLock : ∃ (value : Nat) (s : State), (hostUp s = true) ∧
    (bit (Nat.lor value 2) 0 = false) ∧
    (bit (Nat.lor value 2) 2 = false) ∧
    (bit (Nat.lor value 2) 1 = true) :=
  ⟨0, up, by decide, by decide, by decide, by decide⟩
theorem test_premises_hckRelease : ∃ (value : Nat) (s : State), (hostUp s = true) ∧
    (bit (Nat.lor value 4) 0 = false) ∧
    (bit (Nat.lor value 4) 2 = true) ∧
    (bit (Nat.lor value 4) 1 = false) :=
  ⟨0, up, by decide, by decide, by decide, by decide⟩
theorem test_premises_hckStepPosted : ∃ (value : Nat) (s : State), (hostUp s = true) ∧
    (bit (Nat.lor value 1) 0 = true) ∧
    (bit (Nat.lor value 1) 2 = false) ∧
    (bit (Nat.lor value 1) 1 = false) ∧
    (s.time.stepNs ≤ 999999999) :=
  ⟨0, up, by decide, by decide, by decide, by decide, by decide⟩
theorem test_premises_hckStepRefused : ∃ (value : Nat) (s : State), (hostUp s = true) ∧
    (bit (Nat.lor value 1) 0 = true) ∧
    (bit (Nat.lor value 1) 2 = false) ∧
    (bit (Nat.lor value 1) 1 = false) ∧
    (999999999 < s.time.stepNs) :=
  ⟨0, (up.modTime fun t => { t with stepNs := 1000000000 }), by decide, by decide, by decide, by decide, by decide⟩
theorem test_premises_hckRateWrite : ∃ (value : Nat) (s : State), (hostUp s = true) :=
  ⟨5, up, by decide⟩
theorem test_premises_hckRateHiWrite : ∃ (value : Nat) (s : State), (hostUp s = true) :=
  ⟨5, up, by decide⟩
theorem test_premises_hckNsRead : ∃ (s : State), (hostUp s = true) :=
  ⟨up, by decide⟩
theorem test_premises_hckTxtsInfoReadHeld : ∃ (e : Txts) (l : List Txts) (s : State), (hostUp s = true) ∧
    (s.time.txts = e :: l) :=
  ⟨{}, [], (up.modTime fun t => { t with txts := [{}] }), by decide, by decide⟩
theorem test_premises_hckTxtsInfoReadNone : ∃ (s : State), (hostUp s = true) ∧
    (s.time.txts = []) :=
  ⟨up, by decide, by decide⟩
theorem test_premises_hckTxtsPop : ∃ (s : State), (hostUp s = true) :=
  ⟨up, by decide⟩
theorem test_premises_hckTxtsOvfCntRead : ∃ (s : State), (hostUp s = true) :=
  ⟨up, by decide⟩
theorem test_premises_ppsInEdge : ∃ (falling : Bool) (ns : Nat) (s : State), (ns < 1000) ∧
    (s.boot.pwrgood = true) ∧
    (s.time.ppsIn = true) ∧
    (s.time.ppsFall = falling) ∧
    (s.time.inBase = 0 ∨ s.time.inBase - 1 + 10 ^ 6 * nsUnit ≤ baseAt s ns) :=
  ⟨false, 0, (up.modTime fun t => { t with ppsIn := true }), by decide, by decide, by decide, by decide, Or.inl (by decide)⟩
theorem test_premises_ppsOutSecond : ∃ (s : State), (s.boot.pwrgood = true) ∧
    (s.time.ppsOut = true) ∧
    (s.time.pulse = false) ∧
    (deviceSafe s = false) ∧
    (ppsDue s = true) :=
  ⟨(up.modTime fun t => { t with ppsOut := true }), by decide, by decide, by decide, by decide, by decide⟩
theorem test_premises_ppsOutWidthEnd : ∃ (s : State), (s.time.pulse = true) ∧
    (s.time.roseAt - 1 + s.time.width * 10 ^ 6 ≤ baseAt s 1000 / nsUnit) :=
  ⟨(up.modTime fun t => { t with pulse := true, width := 0 }), by decide, by decide⟩

theorem test_premises_hpVersion : ∃ (s : State), (healthUp s = true) :=
  ⟨up, by decide⟩
theorem test_premises_hpVersionEarly : ∃ (s : State), (healthUp s = false) :=
  ⟨State.reset, by decide⟩
theorem test_premises_hpSummary : ∃ (s : State), (healthUp s = true) :=
  ⟨up, by decide⟩
theorem test_premises_hpTmax : ∃ (s : State), (healthUp s = true) :=
  ⟨up, by decide⟩
theorem test_premises_hpTmaxSensorSome : ∃ (i : Nat) (v : Int) (s : State), (s.power.snap.tmax = some (i, v)) ∧
    (healthUp s = true) :=
  ⟨3, 16, (up.modPower fun p => { p with snap := { tmax := some (3, 16) } }), by decide, by decide⟩
theorem test_premises_hpTmaxSensorNone : ∃ (s : State), (s.power.snap.tmax = none) ∧
    (healthUp s = true) :=
  ⟨up, by decide, by decide⟩
theorem test_premises_hpPower : ∃ (s : State), (healthUp s = true) :=
  ⟨up, by decide⟩
theorem test_premises_hpMeas : ∃ (s : State), (healthUp s = true) :=
  ⟨up, by decide⟩
theorem test_premises_hpEst : ∃ (s : State), (healthUp s = true) :=
  ⟨up, by decide⟩
theorem test_premises_hpFlow : ∃ (s : State), (healthUp s = true) :=
  ⟨up, by decide⟩
theorem test_premises_hpFaults : ∃ (s : State), (healthUp s = true) :=
  ⟨up, by decide⟩
theorem test_premises_hpSensor : ∃ (sensor : Nat) (s : State), (sensor < 64) ∧
    (healthUp s = true) :=
  ⟨5, up, by decide, by decide⟩
theorem test_premises_hpExtLevelRead : ∃ (s : State), (healthUp s = true) :=
  ⟨up, by decide⟩
theorem test_premises_hpExtLevelWriteSet : ∃ (level : Nat) (s : State), (healthUp s = true) ∧
    (level < 5) :=
  ⟨4, up, by decide, by decide⟩
theorem test_premises_hpExtLevelWriteIgnored : ∃ (level : Nat) (s : State), (5 ≤ level) :=
  ⟨5, up, by decide⟩

theorem test_premises_pmbusTransactionRead : ∃ (reg value : Nat) (cmd : PmbusCmd) (t : State) (s : State), (reg < 8) ∧
    (pollTurn s reg cmd = true) ∧
    (takeTurn cmd s = t) ∧
    ((regOf t reg).addr ≠ 0) ∧
    (3 ≤ t.boot.stage) :=
  ⟨0, 0, .readPout, takeTurn .readPout (up.modPower fun p => { p with regs := [{ addr := 9 }] }), (up.modPower fun p => { p with regs := [{ addr := 9 }] }), by decide, by decide, rfl, by decide, by decide⟩
theorem test_premises_pmbusTransactionThird : ∃ (reg value : Nat) (cmd : PmbusCmd) (t : State) (s : State), (reg < 8) ∧
    (pollTurn s reg cmd = true) ∧
    (takeTurn cmd s = t) ∧
    ((regOf t reg).addr ≠ 0) ∧
    (3 ≤ t.boot.stage) ∧
    ((regOf (modReg reg (fun r => { r with fails := min 3 (r.fails + 1), responding := false }) t) reg).fails = 3) :=
  ⟨0, 0, .readPout, takeTurn .readPout (up.modPower fun p => { p with regs := [{ addr := 9, fails := 2 }] }), (up.modPower fun p => { p with regs := [{ addr := 9, fails := 2 }] }), by decide, by decide, rfl, by decide, by decide, by decide⟩
theorem test_premises_pmbusTransactionFailed : ∃ (reg value : Nat) (cmd : PmbusCmd) (t : State) (s : State), (reg < 8) ∧
    (pollTurn s reg cmd = true) ∧
    (takeTurn cmd s = t) ∧
    ((regOf t reg).addr ≠ 0) ∧
    (3 ≤ t.boot.stage) ∧
    ((regOf (modReg reg (fun r => { r with fails := min 3 (r.fails + 1), responding := false }) t) reg).fails ≠ 3) :=
  ⟨0, 0, .readPout, takeTurn .readPout (up.modPower fun p => { p with regs := [{ addr := 9 }] }), (up.modPower fun p => { p with regs := [{ addr := 9 }] }), by decide, by decide, rfl, by decide, by decide, by decide⟩
theorem test_premises_pmbusTransactionTurn : ∃ (reg value : Nat) (cmd : PmbusCmd) (ok : Bool) (s : State), (reg < 8) ∧
    (pollTurn s reg cmd = false) :=
  ⟨0, 0, .readVout, true, (up.modPower fun p => { p with regs := [{ addr := 9 }] }), by decide, by decide⟩
theorem test_premises_pmbAlert : ∃ (reg status : Nat) (s : State), (reg < 8) ∧
    ((regOf s reg).addr ≠ 0) :=
  ⟨0, 32768, (up.modPower fun p => { p with regs := [{ addr := 9 }] }), by decide, by decide⟩
theorem test_premises_pmbAlertNone : ∃ (reg status : Nat) (s : State), (reg < 8) ∧
    ((regOf s reg).addr = 0) :=
  ⟨0, 32768, up, by decide, by decide⟩
theorem test_premises_pmbAlertServed : ∃ (reg status : Nat) (rest : List (Nat × Nat × Nat)) (s : State), (s.power.alerts = (1, reg, status) :: rest) :=
  ⟨0, 32768, [], (up.modPower fun p => { p with alerts := [(1, 0, 32768)] }), by decide⟩
theorem test_premises_mismatchSteerBegin : ∃ (s : State), (s.power.exceeds.isSome = true) ∧
    (100000 ≤ overBeats s) ∧
    (s.power.mismatch = false) :=
  ⟨((up.modPower fun p => { p with exceeds := some 0 }).modGlb fun g => { g with beat := 100000 }), by decide, by decide, by decide⟩
theorem test_premises_mismatchContained : ∃ (s : State), (s.power.mismatch = true) ∧
    (s.power.contained = false) ∧
    (10000000 < overBeats s) :=
  ⟨((up.modPower fun p => { p with exceeds := some 0, mismatch := true }).modGlb fun g => { g with beat := 10000001 }), by decide, by decide, by decide⟩
theorem test_premises_pollCycleEnd : ∃ (s : State), (beatRuns s = true) :=
  ⟨State.reset.modBoot fun b => { b with pwrgood := true }, by decide⟩
theorem test_premises_pollCycleEndStopped : ∃ (s : State), (s.boot.pwrgood = true) ∧
    (beatRuns s = false) :=
  ⟨(State.reset.modBoot fun b => { b with pwrgood := true, ethLost := true }), by decide, by decide⟩
theorem test_premises_pollCycleEndP10 : ∃ (s : State), (250 ≤ nth s.power.eBeats 0) :=
  ⟨(up.modPower fun p => { p with eBeats := [250, 0, 0] }), by decide⟩
theorem test_premises_pollCycleEndEnds : ∃ (m e : Nat) (s : State), ((s.power.regs.map fun r => if r.addr = 0 then 0 else r.pout).foldl (· + ·) 0 = m) ∧
    (meanEstimate s = e) :=
  ⟨0, 0, up, by decide, by decide⟩
theorem test_premises_sensorConversionTrip : ∃ (sensor : Nat) (reading : Int) (s : State), (sensor < 64) ∧
    (s.boot.pwrgood = true) ∧
    (2160 ≤ reading) ∧
    (reading ≤ 2720) :=
  ⟨1, 2160, up, by decide, by decide, by decide, by decide⟩
theorem test_premises_sensorConversionPlain : ∃ (sensor : Nat) (reading : Int) (s : State), (sensor < 64) ∧
    (s.boot.pwrgood = true) ∧
    (-1120 ≤ reading) ∧
    (reading < 2160) :=
  ⟨1, 400, up, by decide, by decide, by decide, by decide⟩
theorem test_premises_sensorConversionCold : ∃ (sensor : Nat) (reading : Int) (s : State), (sensor < 64) ∧
    (s.boot.pwrgood = true) ∧
    (reading < -1120) :=
  ⟨1, -1121, up, by decide, by decide, by decide⟩
theorem test_premises_sensorStale : ∃ (sensor : Nat) (s : State), (sensor < 64) ∧
    ((sensorOf s sensor).out = false) ∧
    ((sensorOf s sensor).beat + 1000 ≤ s.beat) :=
  ⟨0, (up.modGlb fun g => { g with beat := 1000 }), by decide, by decide, by decide⟩
theorem test_premises_droopEpisode : ∃ (cycles ns : Nat) (s : State), (cycles ≤ 9) ∧
    (ns < 1000) ∧
    (beatRuns s = true) ∧
    (droopMay s ns = true) :=
  ⟨9, 0, (up.modBoot fun b => { b with dpReady := true }), by decide, by decide, by decide, by decide⟩
theorem test_premises_droopEpisodeClose : ∃ (cycles ns : Nat) (s : State), (cycles ≤ 9) ∧
    (ns < 1000) ∧
    (droopMay s ns = false) :=
  ⟨9, 0, (up.modGlb fun g => { g with droopAt := some 1 }), by decide, by decide, by decide⟩
theorem test_premises_coolantLow : ∃ (s : State), (10000 ≤ s.power.low) ∧
    (causeAny s 439 = false) :=
  ⟨(up.modPower fun p => { p with low := 10000 }), by decide, by decide⟩
theorem test_premises_coolantStop : ∃ (s : State), (500000 ≤ s.power.low) ∧
    (causeAny s 438 = false) :=
  ⟨(up.modPower fun p => { p with low := 500000 }), by decide, by decide⟩
theorem test_premises_coolantRestore : ∃ (s : State), (100000 ≤ s.power.high) ∧
    (causeAny s 439 = true) :=
  ⟨((up.modPower fun p => { p with high := 100000 }).modFault fun f => { f with srcs := f.srcs.put 439 { causes := [0] } }), by decide, by decide⟩
theorem test_premises_idleUnitGate : ∃ (unit : Nat) (s : State), (unit ∈ gateUnits) ∧
    (gatingOn s = true) ∧
    (unitIdle s unit = true) ∧
    (s.power.idle.get 0 unit = 100) ∧
    (unit ∉ s.power.gated) :=
  ⟨0, (up.modPower fun p => { p with gateAlways := true, idle := [(0, 100)] }), by decide, by decide, by decide, by decide, by decide⟩
theorem test_premises_unitUngate : ∃ (unit : Nat) (s : State), ((gatingOn s && unitIdle s unit) = false) :=
  ⟨0, (up.modPower fun p => { p with gateAlways := false, level := 0 }), by decide⟩
theorem test_premises_unitUngateIdle : ∃ (unit : Nat) (s : State), ((gatingOn s && unitIdle s unit) = true) :=
  ⟨0, (up.modPower fun p => { p with gateAlways := true }), by decide⟩
theorem test_premises_pwrReasonBeatsLoRead : ∃ (s : State), (hostUp s = true) :=
  ⟨up, by decide⟩
theorem test_premises_pwrDroopCntRead : ∃ (s : State), (hostUp s = true) :=
  ⟨up, by decide⟩

theorem test_premises_faultDetectRaised : ∃ (src inst cls : Nat) (detail : Bytes) (t : State) (s : State), (src < 448) ∧
    (cls ≤ 3) ∧
    (s.boot.pwrgood = true) ∧
    (faultEffect src (inst % 2 ^ 32) detail s = (true, t)) :=
  ⟨0, 0, 3, [], up, up, by decide, by decide, by decide, rfl⟩
theorem test_premises_faultDetectOwn : ∃ (src inst cls : Nat) (detail : Bytes) (t : State) (s : State), (src < 448) ∧
    (cls ≤ 3) ∧
    (s.boot.pwrgood = true) ∧
    (faultEffect src (inst % 2 ^ 32) detail s = (false, t)) :=
  ⟨443, 0, 0, [], pllUnlock 0 up, up, by decide, by decide, by decide, rfl⟩
theorem test_premises_faultCauseEndPlain : ∃ (src inst : Nat) (s : State), (src < 448) ∧
    (src ≠ 443) ∧
    (src ≠ 444) :=
  ⟨439, 0, up, by decide, by decide, by decide⟩
theorem test_premises_pllUnlock : ∃ (pll : Nat) (s : State), (s.boot.pwrgood = true) :=
  ⟨0, up, by decide⟩
theorem test_premises_refclkLossEth : ∃ (s : State), (s.boot.pwrgood = true) :=
  ⟨up, by decide⟩
theorem test_premises_refclkLossPcie : ∃ (s : State), (s.boot.pwrgood = true) ∧
    (hostUp s = true) :=
  ⟨up, by decide, by decide⟩
theorem test_premises_graceTimerExpire : ∃ (src : Nat) (s : State), (src < 448) :=
  ⟨0, up, by decide⟩
theorem test_premises_wickToggleRuns : ∃ (s : State), (wickStopped s = false) ∧
    (s.wick.armed = true) ∧
    ((s.beat + 1) % 500 = 0) ∧
    (s.wick.last ≠ s.beat + 1) ∧
    (s.wick.running = true) :=
  ⟨((up.modWick fun w => { w with armed := true, running := true }).modGlb fun g => { g with beat := 499 }), by decide, by decide, by decide, by decide, by decide⟩
theorem test_premises_wickToggleStops : ∃ (s : State), (wickStopped s = true) ∧
    (s.wick.running = true) :=
  ⟨(up.modWick fun w => { w with running := true, expired := true }), by decide, by decide⟩
theorem test_premises_ittasWdogExpire : ∃ (s : State), (s.wick.armed = true) ∧
    (s.wick.expired = false) ∧
    (s.fw.hand = false) ∧
    (s.wick.kicked + s.wick.limit ≤ s.beat) :=
  ⟨(up.modWick fun w => { w with armed := true, limit := 0 }), by decide, by decide, by decide, by decide⟩
theorem test_premises_ittasWdogRestart : ∃ (s : State), (s.wick.armed = true) ∧
    (s.wick.expired = false) ∧
    (s.boot.ittasRun = true) ∧
    (s.boot.halted = false) :=
  ⟨(up.modWick fun w => { w with armed := true }), by decide, by decide, by decide, by decide⟩
theorem test_premises_fltAckWrite : ∃ (value : Nat) (s : State), (hostUp s = true) :=
  ⟨0, up, by decide⟩
theorem test_premises_fltClearWrite : ∃ (value : Nat) (s : State), (hostUp s = true) :=
  ⟨0, up, by decide⟩
theorem test_premises_fltForceWrite : ∃ (n value : Nat) (s : State), (n < 14) ∧
    (hostUp s = true) :=
  ⟨13, 1, up, by decide, by decide⟩
theorem test_premises_fltLogLostRead : ∃ (s : State), (hostUp s = true) :=
  ⟨up, by decide⟩
theorem test_premises_fltPartnerCntRead : ∃ (s : State), (hostUp s = true) :=
  ⟨up, by decide⟩
theorem test_premises_wickStopsRead : ∃ (s : State), (hostUp s = true) :=
  ⟨up, by decide⟩

theorem test_premises_fwFlashWriteDoneGood : ∃ (offset : Nat) (s : State), (s.fw.st = 3) :=
  ⟨0, (up.modFw fun f => { f with st := 3 }), by decide⟩
theorem test_premises_fwFlashWriteDoneBad : ∃ (offset : Nat) (s : State), (s.fw.st = 3) :=
  ⟨0, (up.modFw fun f => { f with st := 3 }), by decide⟩
theorem test_premises_handoverStepDoneNext : ∃ (us : Nat) (s : State), (s.fw.hand = true) ∧
    (s.fw.us + us ≤ 180000) ∧
    (s.fw.step < 5) :=
  ⟨1, (up.modFw fun f => { f with hand := true, step := 2 }), by decide, by decide, by decide⟩
theorem test_premises_handoverStepDoneLast : ∃ (us : Nat) (s : State), (s.fw.hand = true) ∧
    (s.fw.us + us ≤ 180000) ∧
    (5 ≤ s.fw.step) :=
  ⟨1, (up.modFw fun f => { f with hand := true, step := 5 }), by decide, by decide, by decide⟩
theorem test_premises_handoverStepDoneFailed : ∃ (us : Nat) (s : State), (s.fw.hand = true) ∧
    (s.fw.us + us ≤ 180000) :=
  ⟨1, (up.modFw fun f => { f with hand := true, step := 3 }), by decide, by decide⟩
theorem test_premises_handoverTimerExpire : ∃ (s : State), (s.fw.hand = true) ∧
    (timeCome s (s.fw.begun + 180000) = true) :=
  ⟨((up.modFw fun f => { f with hand := true }).modGlb fun g => { g with beat := 180000 }), by decide, by decide⟩
theorem test_premises_otherSlotCheck : ∃ (s : State), (s.fw.checkDue = true) ∧
    (s.fw.st = 0) ∧
    (s.boot.ittasRun = true) :=
  ⟨(up.modFw fun f => { f with checkDue := true }), by decide, by decide, by decide⟩
theorem test_premises_identityCertWrite : ∃ (s : State), (s.trust.certDue = true) :=
  ⟨(up.modTrust fun t => { t with certDue := true }), by decide⟩
theorem test_premises_returnPendingExpireLapsed : ∃ (d : Bytes) (b : Nat) (s : State), (s.trust.ret = some (d, b)) ∧
    (b + returnBeats ≤ s.beat) :=
  ⟨[], 0, ((up.modTrust fun t => { t with ret := some ([], 0) }).modGlb fun g => { g with beat := 60000000 }), by decide, by decide⟩
theorem test_premises_returnPendingExpireKept : ∃ (d : Bytes) (b : Nat) (s : State), (s.trust.ret = some (d, b)) ∧
    (s.beat < b + returnBeats) :=
  ⟨[], 0, (up.modTrust fun t => { t with ret := some ([], 0) }), by decide, by decide⟩
theorem test_premises_deepDebugOpen : ∃ (kind : Nat) (s : State), (kind = 1 ∨ kind = 2) ∧
    (s.boot.pwrgood = true) ∧
    (debugAllowed s kind = true) :=
  ⟨2, up, Or.inr rfl, by decide, by decide⟩
theorem test_premises_debugTokenShiftAny : ∃ (token : Bytes) (s : State), (s.boot.pwrgood = true) ∧
    (s.trust.lc = 1) :=
  ⟨[], (up.modTrust fun t => { t with lc := 1 }), by decide, by decide⟩

theorem test_premises_pwrgoodFall : ∃ (s : State), (s.boot.pwrgood = true) :=
  ⟨up, by decide⟩
theorem test_premises_pwrgoodRise : ∃ (straps : Nat) (s : State), (s.boot.pwrgood = false) :=
  ⟨5, State.reset, by decide⟩
theorem test_premises_coreResetStart : ∃ (s : State), (s.boot.coreDue = true) ∧
    (timeCome s s.boot.dueAt = true) ∧
    ((s.mbx.cmds.any fun c => c.reply.isSome && (c.op == 0x0112 || c.op == 0x0204)) = false) :=
  ⟨(up.modBoot fun b => { b with coreDue := true }), by decide, by decide, by decide⟩
theorem test_premises_perstNAssertHost : ∃ (s : State), (s.boot.perstHigh = true) ∧
    (s.boot.pwrgood = true) ∧
    (bit s.boot.straps 1 = false) :=
  ⟨up, by decide, by decide, by decide⟩
theorem test_premises_perstNAssertCore : ∃ (s : State), (s.boot.perstHigh = true) ∧
    (s.boot.pwrgood = true) ∧
    (bit s.boot.straps 1 = true) ∧
    (s.boot.stopped = false) ∧
    (s.boot.stage ≠ 1) :=
  ⟨(up.modBoot fun b => { b with straps := 2 }), by decide, by decide, by decide, by decide, by decide⟩
theorem test_premises_bootStageCompleteRom : ∃ (ms : Nat) (s : State), (s.boot.pwrgood = true) ∧
    (s.boot.stage = 1) :=
  ⟨7, (up.modBoot fun b => { b with stage := 1 }), by decide, by decide⟩
theorem test_premises_bootStageCompleteRecovery : ∃ (ms : Nat) (s : State), (s.boot.pwrgood = true) ∧
    (s.boot.stage = 2) ∧
    (bit s.boot.straps 0 = true) :=
  ⟨7, (up.modBoot fun b => { b with stage := 2, straps := 1 }), by decide, by decide, by decide⟩
theorem test_premises_bootStageCompleteFlash : ∃ (ms : Nat) (s : State), (s.boot.pwrgood = true) ∧
    (s.boot.stage = 2) ∧
    (bit s.boot.straps 0 = false) :=
  ⟨7, (up.modBoot fun b => { b with stage := 2 }), by decide, by decide, by decide⟩
theorem test_premises_bootStageCompleteIttas : ∃ (ms : Nat) (s : State), (s.boot.pwrgood = true) ∧
    (s.boot.stage = 3) :=
  ⟨7, (up.modBoot fun b => { b with stage := 3 }), by decide, by decide⟩
theorem test_premises_bootStageCompleteInit : ∃ (ms : Nat) (s : State), (s.boot.pwrgood = true) ∧
    (s.boot.stage = 4) :=
  ⟨7, (up.modBoot fun b => { b with stage := 4 }), by decide, by decide⟩
theorem test_premises_bootStageCompleteReady : ∃ (ms : Nat) (s : State), (s.boot.pwrgood = true) ∧
    (s.boot.stage = 5) ∧
    (bit s.boot.straps 2 = false) :=
  ⟨7, up, by decide, by decide, by decide⟩
theorem test_premises_ittasRestartStartAuto : ∃ (s : State), (s.boot.ittasDue = true) ∧
    (timeCome s s.boot.dueAt = true) ∧
    (s.boot.pwrgood = true) ∧
    (s.boot.auto = true) ∧
    ((recentRestarts s).length < 3) :=
  ⟨(up.modBoot fun b => { b with ittasDue := true, auto := true }), by decide, by decide, by decide, by decide, by decide⟩
theorem test_premises_ittasRestartStartTold : ∃ (s : State), (s.boot.ittasDue = true) ∧
    (timeCome s s.boot.dueAt = true) ∧
    (s.boot.pwrgood = true) ∧
    (s.boot.auto = false) ∧
    ((s.mbx.cmds.any fun c => c.reply.isSome && c.op == 0x0112) = false) :=
  ⟨(up.modBoot fun b => { b with ittasDue := true }), by decide, by decide, by decide, by decide, by decide⟩
theorem test_premises_ittasRestartStartOther : ∃ (s : State), (s.boot.ittasDue = true) ∧
    (timeCome s s.boot.dueAt = true) ∧
    (s.boot.pwrgood = true) ∧
    (s.boot.auto = true) ∧
    ((recentRestarts s).length < 3) ∧
    (s.fw.st = 4) ∧
    (s.trust.floor ≤ rd s.fw.other 6 1) :=
  ⟨((up.modBoot fun b => { b with ittasDue := true, auto := true }).modFw fun f => { f with st := 4 }), by decide, by decide, by decide, by decide, by decide, by decide, by decide⟩
theorem test_premises_ittasRestartStartReset : ∃ (s : State), (s.boot.ittasDue = true) ∧
    (timeCome s s.boot.dueAt = true) ∧
    (s.boot.pwrgood = true) ∧
    (s.boot.auto = true) ∧
    ((recentRestarts s).length < 3) ∧
    (s.fw.st ≠ 4 ∨ rd s.fw.other 6 1 < s.trust.floor) :=
  ⟨(up.modBoot fun b => { b with ittasDue := true, auto := true }), by decide, by decide, by decide, by decide, by decide, Or.inl (by decide)⟩
theorem test_premises_ittasRestartStartFourth : ∃ (measured : Bool) (s : State), (s.boot.ittasDue = true) ∧
    (timeCome s s.boot.dueAt = true) ∧
    (s.boot.pwrgood = true) ∧
    (s.boot.auto = true) ∧
    (3 ≤ (recentRestarts s).length) :=
  ⟨true, (up.modBoot fun b => { b with ittasDue := true, auto := true, autoBeats := [0, 0, 0] }), by decide, by decide, by decide, by decide, by decide⟩
theorem test_premises_ittasRestartDone : ∃ (imported : Bool) (s : State), (s.boot.restarting = true) :=
  ⟨true, (up.modBoot fun b => { b with restarting := true }), by decide⟩

theorem test_premises_emberConfigLoaded : ∃ (s : State), ((s.slice 32).st = 1) :=
  ⟨(modSlice 32 (fun x => { x with st := 1, peer := 4 }) up), by decide⟩
theorem test_premises_emberSwitchTake : ∃ (s : State), ((s.slice 32).st = 1) ∧
    ((s.slice 32).peer < 32) ∧
    ((s.slice (s.slice 32).peer).loaded = true) ∧
    ((s.slice (s.slice 32).peer).releasing = false) :=
  ⟨(modSlice 4 (fun x => { x with st := 1, loaded := true }) (modSlice 32 (fun x => { x with st := 1, peer := 4 }) up)), by decide, by decide, by decide, by decide⟩
theorem test_premises_emberSwitchHome : ∃ (s : State), ((s.slice 32).st = 1) ∧
    ((s.slice 32).peer < 32) ∧
    ((s.slice (s.slice 32).peer).loaded = true) ∧
    ((s.slice (s.slice 32).peer).releasing = true) :=
  ⟨(modSlice 4 (fun x => { x with st := 1, loaded := true, releasing := true }) (modSlice 32 (fun x => { x with st := 1, peer := 4 }) up)), by decide, by decide, by decide, by decide⟩
theorem test_premises_selfCheckDoneGood : ∃ (slice : Nat) (s : State), (slice < 32) ∧
    ((s.slice slice).st = 4) :=
  ⟨4, (modSlice 4 (fun x => { x with st := 4, prev := 2 }) up), by decide, by decide⟩
theorem test_premises_selfCheckDoneBad : ∃ (slice code : Nat) (s : State), (slice < 32) ∧
    ((s.slice slice).st = 4) ∧
    (code ≠ 0) :=
  ⟨4, 7, (modSlice 4 (fun x => { x with st := 4, prev := 2 }) up), by decide, by decide, by decide⟩
theorem test_premises_ruleDrainCompleteP5 : ∃ (s : State), ((s.bank (otherBank s)).st = 4) ∧
    (s.rules.sw = 0) ∧
    (s.rules.drainStart < s.beat) ∧
    (inflightOf s (otherBank s) = 0) :=
  ⟨(modBank 1 (fun b => { b with st := 4, pst := 4 }) (up.modGlb fun g => { g with beat := 1 })), by decide, by decide, by decide, by decide⟩
theorem test_premises_ruleDrainStuckP5 : ∃ (s : State), ((s.bank (otherBank s)).st = 4) ∧
    (s.rules.sw = 0) ∧
    (inflightOf s (otherBank s) ≠ 0) ∧
    (s.rules.drainStart + s.rules.drainSmax + 16 ≤ s.beat) :=
  ⟨((modBank 1 (fun b => { b with st := 4, pst := 4 }) (up.modGlb fun g => { g with beat := 1000 })).modFlight fun f => { f with c1 := 3 }), by decide, by decide, by decide, by decide⟩

theorem test_premises_mbxDoorbellTaken : ∃ (m value : Nat) (s : State), (m < 16) ∧
    (hostUp s = true) ∧
    (bit value 0 = true) ∧
    ((s.box m).st ≠ 1) ∧
    (s.fw.hand = false) :=
  ⟨0, 1, up, by decide, by decide, by decide, by decide, by decide⟩
theorem test_premises_mbxDoorbellBusy : ∃ (m value : Nat) (s : State), (m < 16) ∧
    (hostUp s = true) ∧
    (bit value 0 = true) ∧
    ((s.box m).st = 1) :=
  ⟨0, 1, (modBox 0 (fun x => { x with st := 1 }) up), by decide, by decide, by decide, by decide⟩
theorem test_premises_mailboxAreaWriteLands : ∃ (offset : Nat) (bytes : Bytes) (s : State), (offset + bytes.length ≤ 0x20000) ∧
    (hostUp s = true) ∧
    (bytes ≠ []) ∧
    ((offset / 0x1000) % 2 = 0) ∧
    ((offset + bytes.length - 1) / 0x1000 = offset / 0x1000) ∧
    ((s.box (offset / 0x2000)).st ≠ 1) :=
  ⟨0x2010, [1, 2], up, by decide, by decide, by decide, by decide, by decide, by decide⟩
theorem test_premises_mailboxAreaWriteOutside : ∃ (offset : Nat) (bytes : Bytes) (s : State), (offset + bytes.length ≤ 0x20000) ∧
    (hostUp s = true) ∧
    (bytes ≠ []) ∧
    ((offset / 0x1000) % 2 = 1 ∨ (offset + bytes.length - 1) / 0x1000 ≠ offset / 0x1000) :=
  ⟨0x0FFF, [1, 2], up, by decide, by decide, by decide, by decide⟩
theorem test_premises_mailboxAreaWriteBusy : ∃ (offset : Nat) (bytes : Bytes) (s : State), (offset + bytes.length ≤ 0x20000) ∧
    (hostUp s = true) ∧
    (bytes ≠ []) ∧
    ((offset / 0x1000) % 2 = 0) ∧
    ((offset + bytes.length - 1) / 0x1000 = offset / 0x1000) ∧
    ((s.box (offset / 0x2000)).st = 1) :=
  ⟨0x0FFE, [1, 2], (modBox 0 (fun x => { x with st := 1 }) up), by decide, by decide, by decide, by decide, by decide, by decide⟩
theorem test_premises_eventRingWritePart : ∃ (e : Event) (l : List Event) (s : State), (ringReady s = true) ∧
    (s.evt.held = e :: l) ∧
    (s.evt.lostSince = 0) ∧
    (s.evt.part + 1 < eventEntries e) :=
  ⟨{ code := 0x0104, params := zeros 50 }, [], ((up.modHost fun h => { h with bme := [true, true] }).modEvt fun v => { v with size := 64, held := [{ code := 0x0104, params := zeros 50 }] }), by decide, by decide, by decide, by decide⟩
theorem test_premises_eventRingWriteLast : ∃ (e : Event) (l : List Event) (s : State), (ringReady s = true) ∧
    (s.evt.held = e :: l) ∧
    (s.evt.lostSince = 0) ∧
    (eventEntries e ≤ s.evt.part + 1) :=
  ⟨{ code := 0x0104, params := [] }, [], ((up.modHost fun h => { h with bme := [true, true] }).modEvt fun v => { v with size := 64, held := [{ code := 0x0104, params := [] }] }), by decide, by decide, by decide, by decide⟩
theorem test_premises_eventRingWriteLost : ∃ (e : Event) (l : List Event) (s : State), (ringReady s = true) ∧
    (s.evt.held = e :: l) ∧
    (s.evt.lostSince ≠ 0) ∧
    (s.evt.part = 0) :=
  ⟨{ code := 0x0104, params := [] }, [], ((up.modHost fun h => { h with bme := [true, true] }).modEvt fun v => { v with size := 64, lostSince := 2, held := [{ code := 0x0104, params := [] }] }), by decide, by decide, by decide, by decide⟩
theorem test_premises_responsePostPosted : ∃ (m status detail : Nat) (payload : Bytes) (c : Cmd) (s : State), (m < 16) ∧
    (readyReply s m = some c) ∧
    (c.reply = some (status, detail, payload)) ∧
    (serving s = true) ∧
    (c.late = false) :=
  ⟨0, 0, 0, [7], { order := 0, m := 0, op := 0x0111, tag := 3, flags := 2, door := 0, reply := some (0, 0, [7]) }, (up.modMbx fun b => { b with cmds := [{ order := 0, m := 0, op := 0x0111, tag := 3, flags := 2, door := 0, reply := some (0, 0, [7]) }] }), by decide, by decide, by decide, by decide, by decide⟩
theorem test_premises_responsePostLate : ∃ (m status detail : Nat) (payload : Bytes) (c : Cmd) (s : State), (m < 16) ∧
    (readyReply s m = some c) ∧
    (c.reply = some (status, detail, payload)) ∧
    (serving s = true) ∧
    (c.late = true) :=
  ⟨0, 0, 0, [7], { order := 0, m := 0, op := 0x0111, tag := 3, flags := 2, door := 0, reply := some (0, 0, [7]), late := true }, (up.modMbx fun b => { b with cmds := [{ order := 0, m := 0, op := 0x0111, tag := 3, flags := 2, door := 0, reply := some (0, 0, [7]), late := true }] }), by decide, by decide, by decide, by decide, by decide⟩
theorem test_premises_mbxGuardExpire : ∃ (m : Nat) (c : Cmd) (s : State), (m < 16) ∧
    (running s m = some c) ∧
    ((s.box m).st = 1) ∧
    (timeCome s (guardEnd (s.box m) c) = true) :=
  ⟨0, { order := 0, m := 0, op := 0x0111, tag := 3, flags := 2, door := 0 }, ((modBox 0 (fun x => { x with st := 1, guard := 1 }) (up.modGlb fun g => { g with beat := 1000 })).modMbx fun b => { b with cmds := [{ order := 0, m := 0, op := 0x0111, tag := 3, flags := 2, door := 0 }] }), by decide, by decide, by decide, by decide⟩
theorem test_premises_mbxRespValidClear : ∃ (m value : Nat) (s : State), (m < 16) ∧
    (hostUp s = true) ∧
    ((s.box m).valid = true) ∧
    ((s.box m).st = 2) ∧
    (clearsBit s (statusReg m) value 3 = true) :=
  ⟨0, 8, (modBox 0 (fun x => { x with st := 2, valid := true }) up), by decide, by decide, by decide, by decide, by decide⟩
theorem test_premises_mbxEvtTailWriteMoves : ∃ (value : Nat) (s : State), (hostUp s = true) ∧
    ((value % 2 ^ 32 + 2 ^ 32 - s.evt.tail) % 2 ^ 32 ≤ (s.evt.head + 2 ^ 32 - s.evt.tail) % 2 ^ 32) :=
  ⟨1, (up.modEvt fun e => { e with head := 1 }), by decide, by decide⟩
theorem test_premises_mbxEvtTailWriteIgnored : ∃ (value : Nat) (s : State), (hostUp s = true) ∧
    ((s.evt.head + 2 ^ 32 - s.evt.tail) % 2 ^ 32 < (value % 2 ^ 32 + 2 ^ 32 - s.evt.tail) % 2 ^ 32) :=
  ⟨2, (up.modEvt fun e => { e with head := 1 }), by decide, by decide⟩
theorem test_premises_mbxOverrunCntRead : ∃ (m : Nat) (s : State), (m < 16) ∧
    (hostUp s = true) :=
  ⟨15, up, by decide, by decide⟩
theorem test_premises_mbxLateCntRead : ∃ (m : Nat) (s : State), (m < 16) ∧
    (hostUp s = true) :=
  ⟨15, up, by decide, by decide⟩
theorem test_premises_mbxEvtLostRead : ∃ (s : State), (hostUp s = true) :=
  ⟨up, by decide⟩

theorem test_premises_pmcSnap : ∃ (value : Nat) (s : State), (hostUp s = true) :=
  ⟨0, up, by decide⟩
theorem test_premises_pmcClear : ∃ (value : Nat) (s : State), (hostUp s = true) :=
  ⟨0, up, by decide⟩
theorem test_premises_pmcRun : ∃ (value : Nat) (s : State), (hostUp s = true) :=
  ⟨1, up, by decide⟩
theorem test_premises_pmcCounterWriteCnt : ∃ (n value : Nat) (s : State), (hostUp s = true) ∧
    (n < 8) ∧
    (s.pmc.run = false) ∧
    (s.pmc.running = false) ∧
    (s.pmc.runDue = false) ∧
    (s.pmc.view = false) ∧
    (s.pmc.sel < 40) :=
  ⟨7, 5, up, by decide, by decide, by decide, by decide, by decide, by decide, by decide⟩
theorem test_premises_pmcCounterWriteEvt : ∃ (n value : Nat) (s : State), (hostUp s = true) ∧
    (n < 8) ∧
    (s.pmc.run = false) ∧
    (s.pmc.running = false) ∧
    (s.pmc.runDue = false) ∧
    (s.pmc.sel < 40) :=
  ⟨7, 5, up, by decide, by decide, by decide, by decide, by decide, by decide⟩
theorem test_premises_pmcCounterWriteIgnored : ∃ (n value : Nat) (s : State), (hostUp s = true) ∧
    (n < 16) ∧
    (s.pmc.running = true) :=
  ⟨15, 5, (up.modPmc fun p => { p with running := true }), by decide, by decide, by decide⟩
theorem test_premises_pmcCounterWrapAlone : ∃ (u n : Nat) (s : State), (u < 40) ∧
    (n < 8) ∧
    (s.pmc.running = true) ∧
    (nth (s.punit u).cnt n = 2 ^ 32 - 1) ∧
    (chained (s.punit u) (n + 1) = false) :=
  ⟨0, 7, (modUnit 0 (fun x => { x with cnt := [0, 0, 0, 0, 0, 0, 0, 4294967295] }) (up.modPmc fun p => { p with running := true })), by decide, by decide, by decide, by decide, by decide⟩
theorem test_premises_pmcCounterWrapChained : ∃ (u n : Nat) (s : State), (u < 40) ∧
    (n < 7) ∧
    (s.pmc.running = true) ∧
    (nth (s.punit u).cnt n = 2 ^ 32 - 1) ∧
    (chained (s.punit u) (n + 1) = true) ∧
    ((s.punit u).cnt.length = 8) ∧
    (nth (s.punit u).cnt (n + 1) < 2 ^ 32 - 1) :=
  ⟨0, 0, (modUnit 0 (fun x => { x with cnt := [4294967295, 5, 0, 0, 0, 0, 0, 0], evt := [0, 2147483648, 0, 0, 0, 0, 0, 0] }) (up.modPmc fun p => { p with running := true })), by decide, by decide, by decide, by decide, by decide, by decide, by decide⟩
theorem test_premises_pmcCycLoRead : ∃ (s : State), (hostUp s = true) :=
  ⟨up, by decide⟩
theorem test_premises_pmcSnapBeatLoRead : ∃ (s : State), (hostUp s = true) :=
  ⟨up, by decide⟩

theorem test_premises_bufAuditCompleteAgrees : ∃ (s : State), (s.buf.audits ≠ []) ∧
    (total (s.buf.pools.map (·.o)) = s.buf.held.length) :=
  ⟨(up.modBuf fun b => { b with audits := [(4, 0)] }), by decide, by decide⟩
theorem test_premises_bufAuditCompleteLeak : ∃ (s : State), (s.buf.audits ≠ []) ∧
    (total (s.buf.pools.map (·.o)) ≠ s.buf.held.length) :=
  ⟨(up.modBuf fun b => { b with audits := [(4, 0)], held := [0] }), by decide, by decide⟩
theorem test_premises_crossingCellCrcFailReplayed : ∃ (plane q pkt cell : Nat) (u : State) (s : State), (plane < 4) ∧
    (q < 4) ∧
    (modPkt pkt (fun k => { k with failed := k.failed.upd 0 (512 * plane + cell) (· + 1) }) s = u) ∧
    ((u.pkt pkt).failed.get 0 (512 * plane + cell) ≤ 16) :=
  ⟨3, 3, 0, 1, (modPkt 0 (fun k => { k with failed := k.failed.upd 0 1537 (· + 1) }) (up.modBuf fun b => { b with pkts := [(0, { bytes := zeros 64, arrived := 64, md := { len := 64 } })], copies := [(0, { pkt := 0, port := 24, stage := .crossing })], nextPkt := 1, nextCopy := 1 })), (up.modBuf fun b => { b with pkts := [(0, { bytes := zeros 64, arrived := 64, md := { len := 64 } })], copies := [(0, { pkt := 0, port := 24, stage := .crossing })], nextPkt := 1, nextCopy := 1 }), by decide, by decide, rfl, by decide⟩
theorem test_premises_crossingCellCrcFailFails : ∃ (plane q pkt cell : Nat) (u : State) (s : State), (plane < 4) ∧
    (q < 4) ∧
    (modPkt pkt (fun k => { k with failed := k.failed.upd 0 (512 * plane + cell) (· + 1) }) s = u) ∧
    (16 < (u.pkt pkt).failed.get 0 (512 * plane + cell)) :=
  ⟨3, 3, 0, 1, (modPkt 0 (fun k => { k with failed := k.failed.upd 0 1537 (· + 1) }) (up.modBuf fun b => { b with pkts := [(0, { bytes := zeros 64, arrived := 64, md := { len := 64 }, failed := [(1537, 16)] })], copies := [(0, { pkt := 0, port := 24, stage := .crossing })], nextPkt := 1, nextCopy := 1 })), (up.modBuf fun b => { b with pkts := [(0, { bytes := zeros 64, arrived := 64, md := { len := 64 }, failed := [(1537, 16)] })], copies := [(0, { pkt := 0, port := 24, stage := .crossing })], nextPkt := 1, nextCopy := 1 }), by decide, by decide, rfl, by decide⟩
theorem test_premises_xbarPlaneFail : ∃ (plane q : Nat) (late : List LateCell) (s : State), (plane < 4) ∧
    (q < 4) ∧
    ((s.buf.planes.getD plane {}).st ≠ 1) :=
  ⟨3, 3, [{ copy := 0, start := 0, count := 1 }], up, by decide, by decide, by decide⟩
theorem test_premises_xbarPlaneFailResent : ∃ (plane q : Nat) (u : State) (s : State), ((s.buf.planes.getD plane {}).st ≠ 1) ∧
    (planeEvent plane (detect (377 + plane) q 0 [] (modPlane plane (fun p => { p with st := 1, trained := false }) s)) = u) :=
  ⟨3, 3, planeEvent 3 (detect 380 3 0 [] (modPlane 3 (fun p => { p with st := 1, trained := false }) up)), up, by decide, rfl⟩
theorem test_premises_xbarPlaneRetrained : ∃ (plane : Nat) (s : State), (plane < 4) :=
  ⟨3, up, by decide⟩
theorem test_premises_cellArriveResequencerExpress : ∃ (pkt slice ns ci : Nat) (l : List Nat) (u : State) (s : State), (slice < 32) ∧
    (((unreleased s pkt slice).filter fun ci => (s.copy ci).stage = .crossing) = ci :: l) ∧
    (sliceServed s slice = true) ∧
    (u = modPkt pkt (fun k => { k with queued := k.queued.del (quadOfSlice slice), failed := [] })
      (eachDo (ci :: l) (fun ci => modCopy ci fun c => { c with arrive := (s.beat, ns), stages := [clockNanos s ns] }) s)) ∧
    ((u.copy ci).express = true) :=
  ⟨0, 1, 5, 0, [], (modPkt 0 (fun k => { k with queued := k.queued.del (quadOfSlice 1), failed := [] }) (modCopy 0 (fun c => { c with arrive := ((up.modBuf fun b => { b with pkts := [(0, { bytes := zeros 64, arrived := 64, md := { len := 64 } })], copies := [(0, { pkt := 0, port := 24, stage := .crossing, express := true })], nextPkt := 1, nextCopy := 1 }).beat, 5), stages := [clockNanos (up.modBuf fun b => { b with pkts := [(0, { bytes := zeros 64, arrived := 64, md := { len := 64 } })], copies := [(0, { pkt := 0, port := 24, stage := .crossing, express := true })], nextPkt := 1, nextCopy := 1 }) 5] }) (up.modBuf fun b => { b with pkts := [(0, { bytes := zeros 64, arrived := 64, md := { len := 64 } })], copies := [(0, { pkt := 0, port := 24, stage := .crossing, express := true })], nextPkt := 1, nextCopy := 1 }))), (up.modBuf fun b => { b with pkts := [(0, { bytes := zeros 64, arrived := 64, md := { len := 64 } })], copies := [(0, { pkt := 0, port := 24, stage := .crossing, express := true })], nextPkt := 1, nextCopy := 1 }), by decide, by decide, by decide, rfl, by decide⟩
theorem test_premises_cellArriveResequencerOldEpoch : ∃ (pkt slice ns ci : Nat) (l : List Nat) (u : State) (s : State), (slice < 32) ∧
    (((unreleased s pkt slice).filter fun ci => (s.copy ci).stage = .crossing) = ci :: l) ∧
    (sliceServed s slice = true) ∧
    (u = modPkt pkt (fun k => { k with queued := k.queued.del (quadOfSlice slice), failed := [] })
      (eachDo (ci :: l) (fun ci => modCopy ci fun c => { c with arrive := (s.beat, ns), stages := [clockNanos s ns] }) s)) ∧
    ((u.copy ci).express = false) ∧
    ((u.copy ci).epoch ≠ (u.strm (copyStream u (u.copy ci))).epoch) :=
  ⟨0, 1, 5, 0, [], (modPkt 0 (fun k => { k with queued := k.queued.del (quadOfSlice 1), failed := [] }) (modCopy 0 (fun c => { c with arrive := ((up.modBuf fun b => { b with pkts := [(0, { bytes := zeros 64, arrived := 64, md := { len := 64 } })], copies := [(0, { pkt := 0, port := 24, stage := .crossing, epoch := true })], nextPkt := 1, nextCopy := 1 }).beat, 5), stages := [clockNanos (up.modBuf fun b => { b with pkts := [(0, { bytes := zeros 64, arrived := 64, md := { len := 64 } })], copies := [(0, { pkt := 0, port := 24, stage := .crossing, epoch := true })], nextPkt := 1, nextCopy := 1 }) 5] }) (up.modBuf fun b => { b with pkts := [(0, { bytes := zeros 64, arrived := 64, md := { len := 64 } })], copies := [(0, { pkt := 0, port := 24, stage := .crossing, epoch := true })], nextPkt := 1, nextCopy := 1 }))), (up.modBuf fun b => { b with pkts := [(0, { bytes := zeros 64, arrived := 64, md := { len := 64 } })], copies := [(0, { pkt := 0, port := 24, stage := .crossing, epoch := true })], nextPkt := 1, nextCopy := 1 }), by decide, by decide, by decide, rfl, by decide, by decide⟩
theorem test_premises_cellArriveResequencerNext : ∃ (pkt slice ns ci : Nat) (l : List Nat) (u : State) (s : State), (slice < 32) ∧
    (((unreleased s pkt slice).filter fun ci => (s.copy ci).stage = .crossing) = ci :: l) ∧
    (sliceServed s slice = true) ∧
    (u = modPkt pkt (fun k => { k with queued := k.queued.del (quadOfSlice slice), failed := [] })
      (eachDo (ci :: l) (fun ci => modCopy ci fun c => { c with arrive := (s.beat, ns), stages := [clockNanos s ns] }) s)) ∧
    ((u.copy ci).express = false) ∧
    ((u.copy ci).epoch = (u.strm (copyStream u (u.copy ci))).epoch) ∧
    (seqAhead (u.strm (copyStream u (u.copy ci))).expected (u.copy ci).seq = 0) :=
  ⟨0, 1, 5, 0, [], (modPkt 0 (fun k => { k with queued := k.queued.del (quadOfSlice 1), failed := [] }) (modCopy 0 (fun c => { c with arrive := ((up.modBuf fun b => { b with pkts := [(0, { bytes := zeros 64, arrived := 64, md := { len := 64 } })], copies := [(0, { pkt := 0, port := 24, stage := .crossing })], nextPkt := 1, nextCopy := 1 }).beat, 5), stages := [clockNanos (up.modBuf fun b => { b with pkts := [(0, { bytes := zeros 64, arrived := 64, md := { len := 64 } })], copies := [(0, { pkt := 0, port := 24, stage := .crossing })], nextPkt := 1, nextCopy := 1 }) 5] }) (up.modBuf fun b => { b with pkts := [(0, { bytes := zeros 64, arrived := 64, md := { len := 64 } })], copies := [(0, { pkt := 0, port := 24, stage := .crossing })], nextPkt := 1, nextCopy := 1 }))), (up.modBuf fun b => { b with pkts := [(0, { bytes := zeros 64, arrived := 64, md := { len := 64 } })], copies := [(0, { pkt := 0, port := 24, stage := .crossing })], nextPkt := 1, nextCopy := 1 }), by decide, by decide, by decide, rfl, by decide, by decide, by decide⟩
theorem test_premises_cellArriveResequencerAhead : ∃ (pkt slice ns ci : Nat) (l : List Nat) (u : State) (s : State), (slice < 32) ∧
    (((unreleased s pkt slice).filter fun ci => (s.copy ci).stage = .crossing) = ci :: l) ∧
    (sliceServed s slice = true) ∧
    (u = modPkt pkt (fun k => { k with queued := k.queued.del (quadOfSlice slice), failed := [] })
      (eachDo (ci :: l) (fun ci => modCopy ci fun c => { c with arrive := (s.beat, ns), stages := [clockNanos s ns] }) s)) ∧
    ((u.copy ci).express = false) ∧
    ((u.copy ci).epoch = (u.strm (copyStream u (u.copy ci))).epoch) ∧
    (0 < seqAhead (u.strm (copyStream u (u.copy ci))).expected (u.copy ci).seq) ∧
    ((waitingFrames u slice).length < 8192) :=
  ⟨0, 1, 5, 0, [], (modPkt 0 (fun k => { k with queued := k.queued.del (quadOfSlice 1), failed := [] }) (modCopy 0 (fun c => { c with arrive := ((up.modBuf fun b => { b with pkts := [(0, { bytes := zeros 64, arrived := 64, md := { len := 64 } })], copies := [(0, { pkt := 0, port := 24, stage := .crossing, seq := 3 })], nextPkt := 1, nextCopy := 1 }).beat, 5), stages := [clockNanos (up.modBuf fun b => { b with pkts := [(0, { bytes := zeros 64, arrived := 64, md := { len := 64 } })], copies := [(0, { pkt := 0, port := 24, stage := .crossing, seq := 3 })], nextPkt := 1, nextCopy := 1 }) 5] }) (up.modBuf fun b => { b with pkts := [(0, { bytes := zeros 64, arrived := 64, md := { len := 64 } })], copies := [(0, { pkt := 0, port := 24, stage := .crossing, seq := 3 })], nextPkt := 1, nextCopy := 1 }))), (up.modBuf fun b => { b with pkts := [(0, { bytes := zeros 64, arrived := 64, md := { len := 64 } })], copies := [(0, { pkt := 0, port := 24, stage := .crossing, seq := 3 })], nextPkt := 1, nextCopy := 1 }), by decide, by decide, by decide, rfl, by decide, by decide, by decide, by decide⟩
theorem test_premises_cellArriveResequencerLate : ∃ (pkt slice ns ci : Nat) (l : List Nat) (u : State) (s : State), (slice < 32) ∧
    (((unreleased s pkt slice).filter fun ci => (s.copy ci).stage = .crossing) = ci :: l) ∧
    (sliceServed s slice = true) ∧
    (u = modPkt pkt (fun k => { k with queued := k.queued.del (quadOfSlice slice), failed := [] })
      (eachDo (ci :: l) (fun ci => modCopy ci fun c => { c with arrive := (s.beat, ns), stages := [clockNanos s ns] }) s)) ∧
    ((u.copy ci).express = false) ∧
    ((u.copy ci).epoch = (u.strm (copyStream u (u.copy ci))).epoch) ∧
    (seqAhead (u.strm (copyStream u (u.copy ci))).expected (u.copy ci).seq < 0) :=
  ⟨0, 1, 5, 0, [], (modPkt 0 (fun k => { k with queued := k.queued.del (quadOfSlice 1), failed := [] }) (modCopy 0 (fun c => { c with arrive := ((up.modBuf fun b => { b with pkts := [(0, { bytes := zeros 64, arrived := 64, md := { len := 64 } })], copies := [(0, { pkt := 0, port := 24, stage := .crossing, seq := 65535 })], nextPkt := 1, nextCopy := 1 }).beat, 5), stages := [clockNanos (up.modBuf fun b => { b with pkts := [(0, { bytes := zeros 64, arrived := 64, md := { len := 64 } })], copies := [(0, { pkt := 0, port := 24, stage := .crossing, seq := 65535 })], nextPkt := 1, nextCopy := 1 }) 5] }) (up.modBuf fun b => { b with pkts := [(0, { bytes := zeros 64, arrived := 64, md := { len := 64 } })], copies := [(0, { pkt := 0, port := 24, stage := .crossing, seq := 65535 })], nextPkt := 1, nextCopy := 1 }))), (up.modBuf fun b => { b with pkts := [(0, { bytes := zeros 64, arrived := 64, md := { len := 64 } })], copies := [(0, { pkt := 0, port := 24, stage := .crossing, seq := 65535 })], nextPkt := 1, nextCopy := 1 }), by decide, by decide, by decide, rfl, by decide, by decide, by decide⟩
theorem test_premises_reseqSkipTimeout : ∃ (slice stream : Nat) (s : State), (slice < 32) ∧
    (stream < 256) :=
  ⟨1, 0, up, by decide, by decide⟩
theorem test_premises_reseqSkipTimeoutBoundary : ∃ (slice key : Nat) (e : Nat × Copy) (l : List (Nat × Copy)) (s : State), (((waitingFrames s slice).filter fun e => copyStream s e.2 == key) = e :: l) ∧
    (e.2.arrive.1 + 32 ≤ s.beat) :=
  ⟨1, 256, (0, { pkt := 0, port := 24, stage := .waiting, seq := 3 }), [], ((up.modGlb fun g => { g with beat := 32 }).modBuf fun b => { b with pkts := [(0, { bytes := zeros 64, arrived := 64, md := { len := 64 } })], copies := [(0, { pkt := 0, port := 24, stage := .waiting, seq := 3 })], nextPkt := 1, nextCopy := 1 }), by decide, by decide⟩
theorem test_premises_egressCutThroughStart : ∃ (c ns : Nat) (s : State), ((s.copy c).stage = .queued) ∧
    ((s.copy c).cut = true) ∧
    (cutMayStart s (s.copy c) ns = true) :=
  ⟨0, 0, (up.modBuf fun b => { b with pkts := [(0, { bytes := zeros 64, arrived := 64, md := { len := 64 } })], copies := [(0, { pkt := 0, port := 24, stage := .queued, cut := true, ready := false })], nextPkt := 1, nextCopy := 1 }), by decide, by decide, by decide⟩

theorem test_premises_schedulerDecisionStarts : ∃ (p ns q ci : Nat) (tags : List (Nat × Nat × Nat)) (l : List Nat) (u : State) (s : State), (p < 802) ∧
    (portSends s p = true) ∧
    (u = latchHeld p ns (refreshReady p ns (eachDo (portQueues p) (purgeQueue p ns) s))) ∧
    ((u.tmPort p).sending = none) ∧
    ((u.port p).remainder = none) ∧
    (chooseQueue u p ns = some (q, tags)) ∧
    (macRoom u p q = true) ∧
    (egressRoom u p = true) ∧
    (queueOf u p q = ci :: l) :=
  ⟨801, 0, 0, 0, [(8, 21504, 8)], [], (latchHeld 801 0 (refreshReady 801 0 (eachDo (portQueues 801) (purgeQueue 801 0) ((up.modBuf fun b => { b with pkts := [(0, { bytes := zeros 64, arrived := 64, md := { len := 64 } })], copies := [(0, { pkt := 0, port := 801, stage := .queued })], nextPkt := 1, nextCopy := 1 }).modTm fun t => { t with ports := [(801, { queues := [(0, [0])] })] })))), ((up.modBuf fun b => { b with pkts := [(0, { bytes := zeros 64, arrived := 64, md := { len := 64 } })], copies := [(0, { pkt := 0, port := 801, stage := .queued })], nextPkt := 1, nextCopy := 1 }).modTm fun t => { t with ports := [(801, { queues := [(0, [0])] })] }), by decide, by decide, rfl, by decide, by decide, by decide, by decide, by decide, by decide⟩
set_option maxRecDepth 4000 in
theorem test_premises_schedulerDecisionPreempts : ∃ (p ns ci n : Nat) (u : State) (s : State), (p < 802) ∧
    (portSends s p = true) ∧
    (u = latchHeld p ns (refreshReady p ns (eachDo (portQueues p) (purgeQueue p ns) s))) ∧
    ((u.tmPort p).sending = some ci) ∧
    (expressWaits u p ns = true) ∧
    (preemptable u p (classOf p (u.copy ci).queue) = true) ∧
    (u.ports.has p = true) ∧
    ((u.port p).remainder = none) ∧
    (cutPoint u p ci ns = some n) ∧
    (expressWaits (preemptCopy p ci n u) p ns = true) :=
  ⟨3, 0, 0, 64, (latchHeld 3 0 (refreshReady 3 0 (eachDo (portQueues 3) (purgeQueue 3 0) ((((up.modGlb fun g => { g with beat := 5 }).modPorts fun _ => [(3, { up := true, mmFlags := 3, mmMask := 1 })]).modBuf fun b => { b with
    pkts := [(0, { bytes := zeros 64, arrived := 64, md := { len := 1000 } })], copies := [(0, { pkt := 0, port := 3, stage := .sending, start := 5000, out := zeros 150 }), (1, { pkt := 0, port := 3, queue := 56, stage := .queued })], nextPkt := 1, nextCopy := 2 }).modTm fun t => { t with ports := [(3, { queues := [(56, [1])], sending := some 0 })] })))), ((((up.modGlb fun g => { g with beat := 5 }).modPorts fun _ => [(3, { up := true, mmFlags := 3, mmMask := 1 })]).modBuf fun b => { b with
    pkts := [(0, { bytes := zeros 64, arrived := 64, md := { len := 1000 } })], copies := [(0, { pkt := 0, port := 3, stage := .sending, start := 5000, out := zeros 150 }), (1, { pkt := 0, port := 3, queue := 56, stage := .queued })], nextPkt := 1, nextCopy := 2 }).modTm fun t => { t with ports := [(3, { queues := [(56, [1])], sending := some 0 })] }), by decide, by decide, rfl, by decide, by decide, by decide, by decide, by decide, by decide, by decide⟩
theorem test_premises_schedulerDecisionGoesOn : ∃ (p ns ci : Nat) (u : State) (s : State), (p < 802) ∧
    (portSends s p = true) ∧
    (u = latchHeld p ns (refreshReady p ns (eachDo (portQueues p) (purgeQueue p ns) s))) ∧
    ((u.tmPort p).sending = some ci) ∧
    (expressWaits u p ns = false) :=
  ⟨801, 0, 0, (latchHeld 801 0 (refreshReady 801 0 (eachDo (portQueues 801) (purgeQueue 801 0) ((up.modBuf fun b => { b with pkts := [(0, { bytes := zeros 64, arrived := 64, md := { len := 64 } })], copies := [(0, { pkt := 0, port := 801, stage := .sending, out := zeros 64 })], nextPkt := 1, nextCopy := 1 }).modTm fun t => { t with ports := [(801, { sending := some 0 })] })))), ((up.modBuf fun b => { b with pkts := [(0, { bytes := zeros 64, arrived := 64, md := { len := 64 } })], copies := [(0, { pkt := 0, port := 801, stage := .sending, out := zeros 64 })], nextPkt := 1, nextCopy := 1 }).modTm fun t => { t with ports := [(801, { sending := some 0 })] }), by decide, by decide, rfl, by decide, by decide⟩
set_option maxRecDepth 4000 in
theorem test_premises_schedulerDecisionResumes : ∃ (p ns ci : Nat) (u : State) (s : State), (p < 802) ∧
    (portSends s p = true) ∧
    (u = latchHeld p ns (refreshReady p ns (eachDo (portQueues p) (purgeQueue p ns) s))) ∧
    ((u.tmPort p).sending = none) ∧
    ((u.port p).remainder = some ci) ∧
    (expressWaits u p ns = false) ∧
    (remainderReady u p ci ns = true) ∧
    (timeToClose (u.tmPort p).gates (classOf p (u.copy ci).queue) (clockNs u ns) = none) :=
  ⟨3, 0, 0, (latchHeld 3 0 (refreshReady 3 0 (eachDo (portQueues 3) (purgeQueue 3 0) ((((up.modGlb fun g => { g with beat := 5 }).modPorts fun _ => [(3, { up := true, mmFlags := 3, mmMask := 1, remainder := some 0 })]).modBuf fun b => { b with
    pkts := [(0, { bytes := zeros 64, arrived := 64, md := { len := 1000 } })], copies := [(0, { pkt := 0, port := 3, stage := .remainder, sent := 64, out := zeros 150 })], nextPkt := 1, nextCopy := 2 }).modTm fun t => { t with ports := [(3, {})] })))), ((((up.modGlb fun g => { g with beat := 5 }).modPorts fun _ => [(3, { up := true, mmFlags := 3, mmMask := 1, remainder := some 0 })]).modBuf fun b => { b with
    pkts := [(0, { bytes := zeros 64, arrived := 64, md := { len := 1000 } })], copies := [(0, { pkt := 0, port := 3, stage := .remainder, sent := 64, out := zeros 150 })], nextPkt := 1, nextCopy := 2 }).modTm fun t => { t with ports := [(3, {})] }), by decide, by decide, rfl, by decide, by decide, by decide, by decide, by decide⟩
set_option maxRecDepth 4000 in
theorem test_premises_schedulerDecisionResumesGated : ∃ (p ns ci left : Nat) (u : State) (s : State), (p < 802) ∧
    (portSends s p = true) ∧
    (u = latchHeld p ns (refreshReady p ns (eachDo (portQueues p) (purgeQueue p ns) s))) ∧
    ((u.tmPort p).sending = none) ∧
    ((u.port p).remainder = some ci) ∧
    (expressWaits u p ns = false) ∧
    (remainderReady u p ci ns = true) ∧
    (timeToClose (u.tmPort p).gates (classOf p (u.copy ci).queue) (clockNs u ns) = some left) :=
  ⟨3, 0, 0, 500, (latchHeld 3 0 (refreshReady 3 0 (eachDo (portQueues 3) (purgeQueue 3 0) (modLane 3 (fun x => { x with mode := 5 }) ((((up.modGlb fun g => { g with beat := 5 }).modPorts fun _ => [(3, { up := true, mmFlags := 3, mmMask := 1, remainder := some 0 })]).modBuf fun b => { b with
    pkts := [(0, { bytes := zeros 64, arrived := 64, md := { len := 1000 } })], copies := [(0, { pkt := 0, port := 3, stage := .remainder, sent := 64, out := zeros 150 })], nextPkt := 1, nextCopy := 2 }).modTm fun t => { t with ports := [(3, { gates := { oper := some { base := 0, cycle := 1000, ext := 0, entries := [(500, 1, 0), (500, 2, 0)] } } })] }))))), (modLane 3 (fun x => { x with mode := 5 }) ((((up.modGlb fun g => { g with beat := 5 }).modPorts fun _ => [(3, { up := true, mmFlags := 3, mmMask := 1, remainder := some 0 })]).modBuf fun b => { b with
    pkts := [(0, { bytes := zeros 64, arrived := 64, md := { len := 1000 } })], copies := [(0, { pkt := 0, port := 3, stage := .remainder, sent := 64, out := zeros 150 })], nextPkt := 1, nextCopy := 2 }).modTm fun t => { t with ports := [(3, { gates := { oper := some { base := 0, cycle := 1000, ext := 0, entries := [(500, 1, 0), (500, 2, 0)] } } })] })), by decide, by decide, rfl, by decide, by decide, by decide, by decide, by decide⟩
theorem test_premises_transmitCompleteStomped : ∃ (p ns ci : Nat) (s : State), (p < 802) ∧
    ((s.tmPort p).sending = some ci) ∧
    (((s.copy ci).stomp || ((s.pkt (s.copy ci).pkt).bad && (s.copy ci).cut)) = true) ∧
    ((s.copy ci).cut = false ∨ (s.copy ci).out.length ≤ assumedLength s (s.pkt (s.copy ci).pkt) (s.copy ci) + growthOf s (s.pkt (s.copy ci).pkt) (s.copy ci)) :=
  ⟨3, 0, 0, ((up.modBuf fun b => { b with pkts := [(0, { bytes := zeros 64, arrived := 64, md := { len := 64 } })], copies := [(0, { pkt := 0, port := 3, stage := .sending, out := zeros 64, stomp := true, stompReason := 51 })], nextPkt := 1, nextCopy := 1 }).modTm fun t => { t with ports := [(3, { sending := some 0 })] }), by decide, by decide, by decide, by decide⟩
theorem test_premises_transmitCompleteSent : ∃ (p ns ci : Nat) (s : State), (p < 802) ∧
    ((s.tmPort p).sending = some ci) ∧
    (((s.copy ci).stomp || ((s.pkt (s.copy ci).pkt).bad && (s.copy ci).cut)) = false) ∧
    (¬ ((s.copy ci).cut = true ∧ assumedLength s (s.pkt (s.copy ci).pkt) (s.copy ci) + growthOf s (s.pkt (s.copy ci).pkt) (s.copy ci) < (s.copy ci).out.length)) ∧
    (p < 768 ∨ p = 801) :=
  ⟨801, 0, 0, ((up.modBuf fun b => { b with pkts := [(0, { bytes := zeros 64, arrived := 64, md := { len := 64 } })], copies := [(0, { pkt := 0, port := 801, stage := .sending, out := zeros 64 })], nextPkt := 1, nextCopy := 1 }).modTm fun t => { t with ports := [(801, { sending := some 0 })] }), by decide, by decide, by decide, by decide, by decide⟩
theorem test_premises_transmitCompleteOverrun : ∃ (p ns ci : Nat) (s : State), (p < 802) ∧
    ((s.tmPort p).sending = some ci) ∧
    (((s.copy ci).stomp || ((s.pkt (s.copy ci).pkt).bad && (s.copy ci).cut)) = false) ∧
    ((s.copy ci).cut = true) ∧
    (assumedLength s (s.pkt (s.copy ci).pkt) (s.copy ci) + growthOf s (s.pkt (s.copy ci).pkt) (s.copy ci) < (s.copy ci).out.length) ∧
    (p < 768) :=
  ⟨3, 0, 0, ((up.modBuf fun b => { b with pkts := [(0, { bytes := zeros 64, arrived := 64, md := { len := 64 }, l3End := 10 })], copies := [(0, { pkt := 0, port := 3, stage := .sending, out := zeros 64, cut := true })], nextPkt := 1, nextCopy := 1 }).modTm fun t => { t with ports := [(3, { sending := some 0 })] }), by decide, by decide, by decide, by decide, by decide, by decide⟩
theorem test_premises_transmitCompleteRecirculates : ∃ (p ns ci : Nat) (s : State), (p < 802) ∧
    ((s.tmPort p).sending = some ci) ∧
    (((s.copy ci).stomp || ((s.pkt (s.copy ci).pkt).bad && (s.copy ci).cut)) = false) ∧
    (¬ ((s.copy ci).cut = true ∧ assumedLength s (s.pkt (s.copy ci).pkt) (s.copy ci) + growthOf s (s.pkt (s.copy ci).pkt) (s.copy ci) < (s.copy ci).out.length)) ∧
    (768 ≤ p) ∧
    (p < 800) :=
  ⟨768, 0, 0, ((up.modBuf fun b => { b with pkts := [(0, { bytes := zeros 64, arrived := 64, md := { len := 64 } })], copies := [(0, { pkt := 0, port := 768, stage := .sending, out := zeros 64 })], nextPkt := 1, nextCopy := 1 }).modTm fun t => { t with ports := [(768, { sending := some 0 })] }), by decide, by decide, by decide, by decide, by decide, by decide⟩
theorem test_premises_transmitCompleteToMac : ∃ (ns ci : Nat) (s : State), ((s.tmPort 800).sending = some ci) ∧
    (((s.copy ci).stomp || ((s.pkt (s.copy ci).pkt).bad && (s.copy ci).cut)) = false) ∧
    (¬ ((s.copy ci).cut = true ∧ assumedLength s (s.pkt (s.copy ci).pkt) (s.copy ci) + growthOf s (s.pkt (s.copy ci).pkt) (s.copy ci) < (s.copy ci).out.length)) :=
  ⟨0, 0, ((up.modBuf fun b => { b with pkts := [(0, { bytes := zeros 64, arrived := 64, md := { len := 64 } })], copies := [(0, { pkt := 0, port := 800, stage := .sending, out := zeros 64 })], nextPkt := 1, nextCopy := 1 }).modTm fun t => { t with ports := [(800, { sending := some 0 })] }), by decide, by decide, by decide⟩
theorem test_premises_gateEventOp0 : ∃ (p ns i states : Nat) (l : GateList) (s : State), (p < 768) ∧
    (ns < 1000) ∧
    ((s.tmPort p).gates.oper = some l) ∧
    (entryAt l (cycleOffset l (s.tmPort p).gates.start (clockNs s ns) (changeAt (s.tmPort p).gates)) = some (i, states, 0)) :=
  ⟨3, 100, 0, 1, { base := 0, cycle := 1000, ext := 0, entries := [(500, 1, 0), (500, 2, 0)] }, (up.modTm fun t => { t with ports := [(3, { gates := { oper := some { base := 0, cycle := 1000, ext := 0, entries := [(500, 1, 0), (500, 2, 0)] } } })] }), by decide, by decide, by decide, by decide⟩
theorem test_premises_gateEventOp1 : ∃ (p ns i states : Nat) (l : GateList) (s : State), (p < 768) ∧
    (ns < 1000) ∧
    ((s.tmPort p).gates.oper = some l) ∧
    (entryAt l (cycleOffset l (s.tmPort p).gates.start (clockNs s ns) (changeAt (s.tmPort p).gates)) = some (i, states, 1)) :=
  ⟨3, 100, 0, 1, { base := 0, cycle := 1000, ext := 0, entries := [(500, 1, 1), (500, 2, 0)] }, (up.modTm fun t => { t with ports := [(3, { gates := { oper := some { base := 0, cycle := 1000, ext := 0, entries := [(500, 1, 1), (500, 2, 0)] } } })] }), by decide, by decide, by decide, by decide⟩
theorem test_premises_gateEventOp2 : ∃ (p ns i states : Nat) (l : GateList) (s : State), (p < 768) ∧
    (ns < 1000) ∧
    ((s.tmPort p).gates.oper = some l) ∧
    (entryAt l (cycleOffset l (s.tmPort p).gates.start (clockNs s ns) (changeAt (s.tmPort p).gates)) = some (i, states, 2)) :=
  ⟨3, 100, 0, 1, { base := 0, cycle := 1000, ext := 0, entries := [(500, 1, 2), (500, 2, 0)] }, (up.modTm fun t => { t with ports := [(3, { gates := { oper := some { base := 0, cycle := 1000, ext := 0, entries := [(500, 1, 2), (500, 2, 0)] } } })] }), by decide, by decide, by decide, by decide⟩
theorem test_premises_gateConfigChange : ∃ (p ns t : Nat) (l : GateList) (s : State), (p < 768) ∧
    (ns < 1000) ∧
    ((s.tmPort p).gates.pend = some (l, t)) ∧
    (t ≤ clockNs s ns) :=
  ⟨3, 100, 50, { base := 0, cycle := 1000, ext := 0, entries := [(500, 1, 0), (500, 2, 0)] }, (up.modTm fun t => { t with ports := [(3, { gates := { pend := some ({ base := 0, cycle := 1000, ext := 0, entries := [(500, 1, 0), (500, 2, 0)] }, 50) } })] }), by decide, by decide, by decide, by decide⟩
theorem test_premises_sojournDiscardP7 : ∃ (ci : Nat) (s : State), (overdueCopies s (fun c => !heldCopy s c) = [ci]) ∧
    (heldCopy s (s.copy ci) = false) :=
  ⟨0, ((up.modGlb fun g => { g with beat := 10000 }).modBuf fun b => { b with pkts := [(0, { bytes := zeros 64, arrived := 64, md := { len := 64 } })], copies := [(0, { pkt := 0, port := 801, stage := .queued })], nextPkt := 1, nextCopy := 1 }), by decide, by decide⟩
theorem test_premises_holdSojournDrop : ∃ (p : Nat) (s : State), (p < 768) :=
  ⟨3, up, by decide⟩
theorem test_premises_holdSojournDropP7 : ∃ (p ci : Nat) (s : State), (overdueCopies s (fun c => heldCopy s c && c.port == p) = [ci]) ∧
    (heldCopy s (s.copy ci) = true) ∧
    ((s.copy ci).port = p) :=
  ⟨3, 0, (modPort 3 (fun q => { q with holdStart := some 0, holdMask := some 255 }) (((up.modGlb fun g => { g with beat := 10000 }).modBuf fun b => { b with pkts := [(0, { bytes := zeros 64, arrived := 64, md := { len := 64 } })], copies := [(0, { pkt := 0, port := 3, stage := .queued })], nextPkt := 1, nextCopy := 1 }).modPorts fun _ => [(3, {})])), by decide, by decide, by decide⟩

theorem test_premises_ageingVisit : ∃ (q : Nat) (s : State), (q < 4) :=
  ⟨3, up, by decide⟩
theorem test_premises_ageingVisitAges : ∃ (q : Nat) (s : State), (visiting s.tab s.beat = true) ∧
    ((s.quad q).lastVisit ≠ s.beat + 1) ∧
    (262144 ≤ (s.quad q).sweep ∨ bucketLocked s q (s.quad q).sweep = false) :=
  ⟨3, ((up.modGlb fun g => { g with beat := 10 }).modTab fun t => { t with ageStep := 10 }), by decide, by decide, by decide⟩
theorem test_premises_ageingVisitDeferred : ∃ (q : Nat) (s : State), (visiting s.tab s.beat = true) ∧
    ((s.quad q).lastVisit ≠ s.beat + 1) ∧
    ((s.quad q).sweep < 262144) ∧
    (bucketLocked s q (s.quad q).sweep = true) :=
  ⟨3, (modTdcOf 0 (fun x => { x with locked := true, lockMask := 15, span := (0, 4) }) ((up.modGlb fun g => { g with beat := 10 }).modTab fun t => { t with ageStep := 10 })), by decide, by decide, by decide, by decide⟩
theorem test_premises_flapRelease : ∃ (q key : Nat) (s : State), (q < 4) :=
  ⟨0, 5, up, by decide⟩
set_option maxRecDepth 20000 in
theorem test_premises_flapReleaseTold : ∃ (q key a pos : Nat) (e : EmtEntry) (s : State), ((s.quad q).frozen.find key = some a) ∧
    (a + s.tab.dampHold ≤ s.beat) ∧
    (emtFind s.tab ((modQuad q (fun x => { x with frozen := x.frozen.del key }) s).quad q) 1 key = some (pos, e)) :=
  ⟨0, 5, 0, (candidates up.tab 1 5).1 * 4, { typ := 1, key := 5, frozen := true }, (modQuad 0 (fun x => { x with frozen := [(5, 0)], emt := [((candidates up.tab 1 5).1 * 4, { typ := 1, key := 5, frozen := true })] }) ((up.modGlb fun g => { g with beat := 10 }).modTab fun t => { t with dampHold := 10 })), by decide, by decide, by decide⟩
set_option maxRecDepth 20000 in
theorem test_premises_flapReleaseGone : ∃ (q key a : Nat) (s : State), ((s.quad q).frozen.find key = some a) ∧
    (a + s.tab.dampHold ≤ s.beat) ∧
    (emtFind s.tab ((modQuad q (fun x => { x with frozen := x.frozen.del key }) s).quad q) 1 key = none) :=
  ⟨0, 5, 0, (modQuad 0 (fun x => { x with frozen := [(5, 0)] }) ((up.modGlb fun g => { g with beat := 10 }).modTab fun t => { t with dampHold := 10 })), by decide, by decide, by decide⟩
theorem test_premises_flapWindowEnd : ∃ (q key : Nat) (s : State), (q < 4) :=
  ⟨0, 5, up, by decide⟩
theorem test_premises_deferredLearnRelease : ∃ (q : Nat) (s : State), (q < 4) :=
  ⟨0, up, by decide⟩
theorem test_premises_deferredLearnReleaseP2 : ∃ (q room : Nat) (d : Deferral) (s : State), ((s.quad q).queue = [d]) ∧
    (stillLocked s q d = false) ∧
    (0 < room) :=
  ⟨0, 2048, .visit 3, (modQuad 0 (fun x => { x with queue := [.visit 3] }) up), by decide, by decide, by decide⟩
theorem test_premises_nhQuarantineEnd : ∃ (i : Nat) (s : State), (i < 131072) :=
  ⟨131071, up, by decide⟩
theorem test_premises_nhQuarantineEndEnds : ∃ (i d m : Nat) (s : State), ((s.tab.nh.get {} i).quarantine = some (d, m)) ∧
    (d + max m s.tm.s + 16 ≤ s.beat) :=
  ⟨131071, 0, 0, ((up.modGlb fun g => { g with beat := 20000 }).modTab fun t => { t with nh := [(131071, { quarantine := some (0, 0) })] }), by decide, by decide⟩
theorem test_premises_nhQuarantineEndStays : ∃ (i d m : Nat) (s : State), ((s.tab.nh.get {} i).quarantine = some (d, m)) ∧
    (s.beat < d + max m s.tm.s + 16) :=
  ⟨131071, 0, 0, (up.modTab fun t => { t with nh := [(131071, { quarantine := some (0, 0) })] }), by decide, by decide⟩
theorem test_premises_ternBlockMoveDone : ∃ (q : Nat) (s : State), (q < 4) :=
  ⟨0, up, by decide⟩
theorem test_premises_ternBlockMoveDoneP3 : ∃ (q : Nat) (m : BlockMove) (u : State) (s : State), ((s.quad q).move = some m) ∧
    (m.count ≤ m.done + 64) ∧
    (eachDo (List.range (m.count - m.done)) (fun i v =>
        ternCopy q (if m.down then m.start + m.done + i - 1 else m.start + m.count - 1 - m.done - i + 1)
          ((v.quad q).tern.find (if m.down then m.start + m.done + i else m.start + m.count - 1 - m.done - i))
          ((v.quad q).shadow.find (if m.down then m.start + m.done + i else m.start + m.count - 1 - m.done - i)) v) s = u) :=
  ⟨0, { down := false, start := 8, count := 3, done := 0, hole := none }, (eachDo (List.range 3) (fun i v => ternCopy 0 (8 + 3 - 1 - 0 - i + 1) ((v.quad 0).tern.find (8 + 3 - 1 - 0 - i)) ((v.quad 0).shadow.find (8 + 3 - 1 - 0 - i)) v) (modQuad 0 (fun x => { x with move := some { down := false, start := 8, count := 3, done := 0, hole := none } }) up)), (modQuad 0 (fun x => { x with move := some { down := false, start := 8, count := 3, done := 0, hole := none } }) up), by decide, by decide, rfl⟩

theorem test_premises_tdcGoRefused : ∃ (c value v : Nat) (u : State) (h : HostAnswer) (s : State), (c < 4) ∧
    (hostUp s = true) ∧
    ((s.tdcOf c).go = false) ∧
    (v = Nat.lor value (2 ^ 31)) ∧
    (u = modTdcOf c (fun x => { x with code := 0, moved := 0, staged := 0, fail := 0, abort := false }) (modTdcOf c (fun y => if bit v 0 then { y with ctrl := Nat.land v 0x00FF0F1F } else { y with ctrl := Nat.land v 0x00FF0F1F, locked := false, lockDue := false }) s)) ∧
    (tdcRefusal (u.tdcOf c) ≠ 0) :=
  ⟨0, 0, (Nat.lor 0 (2 ^ 31)), (modTdcOf 0 (fun x => { x with code := 0, moved := 0, staged := 0, fail := 0, abort := false }) (modTdcOf 0 (fun y => if bit (Nat.lor 0 (2 ^ 31)) 0 then { y with ctrl := Nat.land (Nat.lor 0 (2 ^ 31)) 0x00FF0F1F } else { y with ctrl := Nat.land (Nat.lor 0 (2 ^ 31)) 0x00FF0F1F, locked := false, lockDue := false }) (modTdcOf 0 (fun x => { x with count := 4, addr := 64 }) (up.modHost fun h => { h with bme := [true, true] })))), .urca, (modTdcOf 0 (fun x => { x with count := 4, addr := 64 }) (up.modHost fun h => { h with bme := [true, true] })), by decide, by decide, by decide, rfl, rfl, by decide⟩
theorem test_premises_tdcGoNoBme : ∃ (c value v : Nat) (u : State) (h : HostAnswer) (s : State), (c < 4) ∧
    (hostUp s = true) ∧
    ((s.tdcOf c).go = false) ∧
    (v = Nat.lor value (2 ^ 31)) ∧
    (u = modTdcOf c (fun x => { x with code := 0, moved := 0, staged := 0, fail := 0, abort := false }) (modTdcOf c (fun y => if bit v 0 then { y with ctrl := Nat.land v 0x00FF0F1F } else { y with ctrl := Nat.land v 0x00FF0F1F, locked := false, lockDue := false }) s)) ∧
    (tdcRefusal (u.tdcOf c) = 0) ∧
    (bmeOf s 0 = false) :=
  ⟨0, 0x100000, (Nat.lor 0x100000 (2 ^ 31)), (modTdcOf 0 (fun x => { x with code := 0, moved := 0, staged := 0, fail := 0, abort := false }) (modTdcOf 0 (fun y => if bit (Nat.lor 0x100000 (2 ^ 31)) 0 then { y with ctrl := Nat.land (Nat.lor 0x100000 (2 ^ 31)) 0x00FF0F1F } else { y with ctrl := Nat.land (Nat.lor 0x100000 (2 ^ 31)) 0x00FF0F1F, locked := false, lockDue := false }) (modTdcOf 0 (fun x => { x with count := 4, addr := 64 }) up))), .urca, (modTdcOf 0 (fun x => { x with count := 4, addr := 64 }) up), by decide, by decide, by decide, rfl, rfl, by decide, by decide⟩
theorem test_premises_tdcGoRuns : ∃ (c value v : Nat) (u : State) (h : HostAnswer) (s : State), (c < 4) ∧
    (hostUp s = true) ∧
    ((s.tdcOf c).go = false) ∧
    (v = Nat.lor value (2 ^ 31)) ∧
    (u = modTdcOf c (fun x => { x with code := 0, moved := 0, staged := 0, fail := 0, abort := false }) (modTdcOf c (fun y => if bit v 0 then { y with ctrl := Nat.land v 0x00FF0F1F } else { y with ctrl := Nat.land v 0x00FF0F1F, locked := false, lockDue := false }) s)) ∧
    (tdcRefusal (u.tdcOf c) = 0) ∧
    (bmeOf s 0 = true) ∧
    ((u.tdcOf c).op = 0 ∨ (u.tdcOf c).op = 4) :=
  ⟨0, 0x100000, (Nat.lor 0x100000 (2 ^ 31)), (modTdcOf 0 (fun x => { x with code := 0, moved := 0, staged := 0, fail := 0, abort := false }) (modTdcOf 0 (fun y => if bit (Nat.lor 0x100000 (2 ^ 31)) 0 then { y with ctrl := Nat.land (Nat.lor 0x100000 (2 ^ 31)) 0x00FF0F1F } else { y with ctrl := Nat.land (Nat.lor 0x100000 (2 ^ 31)) 0x00FF0F1F, locked := false, lockDue := false }) (modTdcOf 0 (fun x => { x with count := 4, addr := 64 }) (up.modHost fun h => { h with bme := [true, true] })))), .urca, (modTdcOf 0 (fun x => { x with count := 4, addr := 64 }) (up.modHost fun h => { h with bme := [true, true] })), by decide, by decide, by decide, rfl, rfl, by decide, by decide, by decide⟩
theorem test_premises_tdcGoTakes : ∃ (c value v : Nat) (u : State) (bytes : Bytes) (s : State), (c < 4) ∧
    (hostUp s = true) ∧
    ((s.tdcOf c).go = false) ∧
    (v = Nat.lor value (2 ^ 31)) ∧
    (u = modTdcOf c (fun x => { x with code := 0, moved := 0, staged := 0, fail := 0, abort := false }) (modTdcOf c (fun y => if bit v 0 then { y with ctrl := Nat.land v 0x00FF0F1F } else { y with ctrl := Nat.land v 0x00FF0F1F, locked := false, lockDue := false }) s)) ∧
    (tdcRefusal (u.tdcOf c) = 0) ∧
    (bmeOf s 0 = true) ∧
    ((u.tdcOf c).op ≠ 0) ∧
    ((u.tdcOf c).op ≠ 4) :=
  ⟨0, 0xF00200, (Nat.lor 0xF00200 (2 ^ 31)), (modTdcOf 0 (fun x => { x with code := 0, moved := 0, staged := 0, fail := 0, abort := false }) (modTdcOf 0 (fun y => if bit (Nat.lor 0xF00200 (2 ^ 31)) 0 then { y with ctrl := Nat.land (Nat.lor 0xF00200 (2 ^ 31)) 0x00FF0F1F } else { y with ctrl := Nat.land (Nat.lor 0xF00200 (2 ^ 31)) 0x00FF0F1F, locked := false, lockDue := false }) (modTdcOf 0 (fun x => { x with count := 4, addr := 64 }) (up.modHost fun h => { h with bme := [true, true] })))), zeros 128, (modTdcOf 0 (fun x => { x with count := 4, addr := 64 }) (up.modHost fun h => { h with bme := [true, true] })), by decide, by decide, by decide, rfl, rfl, by decide, by decide, by decide, by decide⟩
theorem test_premises_tdcGoFails : ∃ (c value v : Nat) (u : State) (h : HostAnswer) (s : State), (c < 4) ∧
    (hostUp s = true) ∧
    ((s.tdcOf c).go = false) ∧
    (v = Nat.lor value (2 ^ 31)) ∧
    (u = modTdcOf c (fun x => { x with code := 0, moved := 0, staged := 0, fail := 0, abort := false }) (modTdcOf c (fun y => if bit v 0 then { y with ctrl := Nat.land v 0x00FF0F1F } else { y with ctrl := Nat.land v 0x00FF0F1F, locked := false, lockDue := false }) s)) ∧
    (tdcRefusal (u.tdcOf c) = 0) ∧
    (bmeOf s 0 = true) ∧
    ((u.tdcOf c).op ≠ 0) ∧
    ((u.tdcOf c).op ≠ 4) ∧
    (h = .urca ∨ h = .timeout) :=
  ⟨0, 0xF00200, (Nat.lor 0xF00200 (2 ^ 31)), (modTdcOf 0 (fun x => { x with code := 0, moved := 0, staged := 0, fail := 0, abort := false }) (modTdcOf 0 (fun y => if bit (Nat.lor 0xF00200 (2 ^ 31)) 0 then { y with ctrl := Nat.land (Nat.lor 0xF00200 (2 ^ 31)) 0x00FF0F1F } else { y with ctrl := Nat.land (Nat.lor 0xF00200 (2 ^ 31)) 0x00FF0F1F, locked := false, lockDue := false }) (modTdcOf 0 (fun x => { x with count := 4, addr := 64 }) (up.modHost fun h => { h with bme := [true, true] })))), .timeout, (modTdcOf 0 (fun x => { x with count := 4, addr := 64 }) (up.modHost fun h => { h with bme := [true, true] })), by decide, by decide, by decide, rfl, rfl, by decide, by decide, by decide, by decide, by decide⟩
theorem test_premises_tdcAbort : ∃ (c : Nat) (s : State), (c < 4) ∧
    (hostUp s = true) ∧
    ((s.tdcOf c).go = true) :=
  ⟨0, (modTdcOf 0 (fun x => { x with go := true }) up), by decide, by decide, by decide⟩
theorem test_premises_tdcLockClear : ∃ (c : Nat) (s : State), (c < 4) ∧
    (hostUp s = true) :=
  ⟨3, up, by decide, by decide⟩
theorem test_premises_tdcHostError : ∃ (c : Nat) (s : State), (c < 4) ∧
    ((s.tdcOf c).go = true) :=
  ⟨0, (modTdcOf 0 (fun x => { x with go := true }) up), by decide, by decide⟩
theorem test_premises_tdcDone : ∃ (c : Nat) (s : State), (c < 4) :=
  ⟨0, up, by decide⟩
theorem test_premises_tdcDoneP3 : ∃ (c : Nat) (pre : Tables) (u : State) (s : State), ((s.tdcOf c).go = true) ∧
    ((s.tdcOf c).op = 0) ∧
    ((s.tdcOf c).lockDue = false) ∧
    ((s.tdcOf c).locked = false ∨ (s.tdcOf c).lockAt ≠ s.beat) ∧
    ((s.tdcOf c).moved ≤ (s.tdcOf c).count) ∧
    ((s.tdcOf c).count ≤ (s.tdcOf c).moved + 256) ∧
    (eachDo (List.range ((s.tdcOf c).count - (s.tdcOf c).moved)) (fun i =>
      hostWrite 0 ((s.tdcOf c).addr + 32 * ((s.tdcOf c).moved + i)) (recordAt pre (s.tdcOf c).table ((quadsOf (s.tdcOf c).mask).headD 0) ((s.tdcOf c).start + (s.tdcOf c).moved + i))) s = u) :=
  ⟨0, up.tab, (eachDo (List.range 4) (fun i => hostWrite 0 (0 + 32 * (0 + i)) (recordAt up.tab 0 0 (0 + 0 + i))) (modTdcOf 0 (fun x => { x with go := true, count := 4, ctrl := 0x100000 }) up)), (modTdcOf 0 (fun x => { x with go := true, count := 4, ctrl := 0x100000 }) up), by decide, by decide, by decide, Or.inl (by decide), by decide, by decide, rfl⟩
theorem test_premises_tdcLockTimeout : ∃ (c : Nat) (s : State), (c < 4) :=
  ⟨0, up, by decide⟩
theorem test_premises_tdcLockTimeoutP3 : ∃ (c : Nat) (s : State), ((s.tdcOf c).locked = true) ∧
    ((s.tdcOf c).lockAt + (s.tdcOf c).lockBeats ≤ s.beat) :=
  ⟨0, (modTdcOf 0 (fun x => { x with locked := true, lockBeats := 10 }) (up.modGlb fun g => { g with beat := 10 })), by decide, by decide⟩

theorem test_premises_minuteEndWaits : ∃ (s : State), (s.ledger.st = 1 ∨ (s.ledger.st = 2 ∧ openMinute s s.time.sec ≤ s.ledger.stopMin)) ∧
    (s.time.sec ≤ (clockAt s 1000).sec) ∧
    (openMinute s s.time.sec < minuteIndex (clockAt s 1000).sec) ∧
    (endSeen s (openMinute s s.time.sec) = false) ∧
    (s.ledger.roll.step = 0) :=
  ⟨((up.modTime fun t => { t with sec := 59, ns := 999999999, frac := 0 }).modLedger fun l => { l with st := 1 }), .inl (by decide), by decide +kernel, by decide +kernel, by decide, by decide⟩
theorem test_premises_minuteEndKept : ∃ (s : State), (s.ledger.st = 1 ∨ (s.ledger.st = 2 ∧ openMinute s s.time.sec ≤ s.ledger.stopMin)) ∧
    (s.time.sec ≤ (clockAt s 1000).sec) ∧
    (openMinute s s.time.sec < minuteIndex (clockAt s 1000).sec) ∧
    (endSeen s (openMinute s s.time.sec) = false) ∧
    (s.ledger.roll.step ≠ 0) :=
  ⟨((up.modTime fun t => { t with sec := 59, ns := 999999999, frac := 0 }).modLedger fun l => { l with st := 1, roll := { l.roll with step := 3, minute := 7 } }), .inl (by decide), by decide +kernel, by decide +kernel, by decide, by decide⟩
theorem test_premises_rollStartBoundary : ∃ (s : State), (s.ledger.roll.step = 1) ∧
    (s.ledger.roll.e + s.ledger.roll.smax + 16 ≤ s.beat) :=
  ⟨((up.modGlb fun g => { g with beat := 100 }).modLedger fun l => { l with roll := { l.roll with step := 1 } }), by decide, by decide⟩
theorem test_premises_rollFlushDone : ∃ (s : State), (s.ledger.roll.step = 2) ∧
    ((s.ledger.quads.any fun e => setsLeft s.ledger.roll.minute e.2 || e.2.queue.any fun r => r.minute == s.ledger.roll.minute) = false) :=
  ⟨(up.modLedger fun l => { l with roll := { l.roll with step := 2 } }), by decide, by decide⟩
theorem test_premises_rollScanDone : ∃ (s : State), (s.ledger.roll.step = 3) :=
  ⟨(up.modLedger fun l => { l with roll := { l.roll with step := 3 } }), by decide⟩
theorem test_premises_rollTenantDone : ∃ (u v : State) (s : State), (s.ledger.roll.step = 4) ∧
    (u = eachDo (minuteRows s s.ledger.roll.minute) (poisonRow s.ledger.roll.minute) s) ∧
    (v = eachDo (rollTenants u s.ledger.roll.minute) (tenantRecord s.ledger.roll.minute) u) :=
  ⟨(eachDo (minuteRows (up.modLedger fun l => { l with roll := { l.roll with step := 4, minute := 3 } }) 3) (poisonRow 3) (up.modLedger fun l => { l with roll := { l.roll with step := 4, minute := 3 } })), (eachDo (rollTenants (eachDo (minuteRows (up.modLedger fun l => { l with roll := { l.roll with step := 4, minute := 3 } }) 3) (poisonRow 3) (up.modLedger fun l => { l with roll := { l.roll with step := 4, minute := 3 } })) 3) (tenantRecord 3) (eachDo (minuteRows (up.modLedger fun l => { l with roll := { l.roll with step := 4, minute := 3 } }) 3) (poisonRow 3) (up.modLedger fun l => { l with roll := { l.roll with step := 4, minute := 3 } }))), (up.modLedger fun l => { l with roll := { l.roll with step := 4, minute := 3 } }), by decide, rfl, rfl⟩
set_option maxRecDepth 4000 in
theorem test_premises_rollSignDone : ∃ (s : State), (s.ledger.roll.step = 5) ∧
    (s.fw.hand = false) ∧
    (s.boot.ittasRun = true) ∧
    (s.boot.halted = false) ∧
    (s.ledger.endBeat = none) ∧
    (s.ledger.roll.waiting = []) :=
  ⟨(up.modLedger fun l => { l with roll := { l.roll with step := 5 } }), by decide, by decide, by decide, by decide, by decide, by decide⟩
theorem test_premises_flushRequestApply : ∃ (q : Nat) (r : FlushReq) (l : List FlushReq) (s : State), (q < 4) ∧
    ((s.lquad q).queue = r :: l) ∧
    (r.released = true) ∧
    (moverTurn s q (waitingPorts s q) = true) :=
  ⟨0, { released := true }, [], (modLquad 0 (fun x => { x with queue := [{ released := true }] }) up), by decide, by decide, by decide, by decide⟩

theorem test_premises_memPresenceStableTrains : ∃ (p : Nat) (s : State), (p < 4) ∧
    ((s.memPort p).st = 0 ∨ ((s.memPort p).st = 8 ∧ (s.memPort p).present = false)) :=
  ⟨3, up, by decide, .inl (by decide)⟩
theorem test_premises_memPerstRelease : ∃ (p : Nat) (s : State), (p < 4) ∧
    ((s.memPort p).st = 1) ∧
    ((s.memPort p).perst = false) ∧
    (timeCome s ((s.memPort p).since + 100000) = true) :=
  ⟨0, (modMemPort 0 (fun m => { m with st := 1 }) (up.modGlb fun g => { g with beat := 100000 })), by decide, by decide, by decide, by decide⟩
theorem test_premises_memLinkL0Cxl : ∃ (p rate width : Nat) (s : State), (p < 4) ∧
    ((s.memPort p).st = 1) ∧
    ((s.memPort p).perst = true) ∧
    (rate = 32 ∨ rate = 16) ∧
    (width = 8 ∨ width = 4) :=
  ⟨0, 32, 4, (modMemPort 0 (fun m => { m with st := 1, perst := true }) up), by decide, by decide, by decide, .inl rfl, .inr rfl⟩
theorem test_premises_memLinkL0Other : ∃ (p rate width : Nat) (cxl : Bool) (s : State), (p < 4) ∧
    ((s.memPort p).st = 1) ∧
    ((s.memPort p).perst = true) ∧
    ((cxl && (rate == 32 || rate == 16) && (width == 8 || width == 4)) = false) :=
  ⟨0, 8, 4, true, (modMemPort 0 (fun m => { m with st := 1, perst := true }) up), by decide, by decide, by decide, by decide⟩
theorem test_premises_memTrainingTimeout : ∃ (p : Nat) (s : State), (p < 4) ∧
    ((s.memPort p).st = 1) ∧
    ((s.memPort p).perst = true) ∧
    (timeCome s ((s.memPort p).since + 200000) = true) :=
  ⟨0, (modMemPort 0 (fun m => { m with st := 1, perst := true }) (up.modGlb fun g => { g with beat := 200000 })), by decide, by decide, by decide, by decide⟩
theorem test_premises_memEnumerationDoneReady : ∃ (p : Nat) (i : MemIdent) (s : State), (p < 4) ∧
    ((s.memPort p).st = 2) ∧
    (identFault i = 0) :=
  ⟨0, { answered := true, type3 := true, mld := false, capacity := 274877906944, mediaReady := true }, (modMemPort 0 (fun m => { m with st := 2 }) up), by decide, by decide, by decide⟩
theorem test_premises_memEnumerationDoneFailed : ∃ (p : Nat) (i : MemIdent) (s : State), (p < 4) ∧
    ((s.memPort p).st = 2) ∧
    (identFault i ≠ 0) :=
  ⟨0, { answered := true, type3 := true, mld := false, capacity := 274877906944, mediaReady := false }, (modMemPort 0 (fun m => { m with st := 2 }) up), by decide, by decide, by decide⟩
theorem test_premises_memLinkDown : ∃ (p : Nat) (s : State), (p < 4) ∧
    ([2, 3, 4, 5, 6].contains (s.memPort p).st = true) ∧
    ((s.memPort p).losing = none) :=
  ⟨0, (modMemPort 0 (fun m => { m with st := 6 }) up), by decide, by decide, by decide⟩
theorem test_premises_memPresenceLostInService : ∃ (p : Nat) (s : State), (p < 4) ∧
    ([2, 3, 4, 5, 6].contains (s.memPort p).st = true) ∧
    ((s.memPort p).losing = none) :=
  ⟨0, (modMemPort 0 (fun m => { m with st := 6 }) up), by decide, by decide, by decide⟩
theorem test_premises_memPresenceLostGone : ∃ (p : Nat) (s : State), (p < 4) ∧
    ((s.memPort p).st = 7 ∨ (s.memPort p).st = 9) :=
  ⟨0, (modMemPort 0 (fun m => { m with st := 7 }) up), by decide, .inl (by decide)⟩
theorem test_premises_memRequestTimeout : ∃ (p : Nat) (s : State), (p < 4) :=
  ⟨0, up, by decide⟩
theorem test_premises_memBadCompletion : ∃ (p code : Nat) (s : State), (p < 4) :=
  ⟨0, 2, up, by decide⟩
theorem test_premises_memViralIndication : ∃ (p : Nat) (s : State), (p < 4) :=
  ⟨0, up, by decide⟩
theorem test_premises_memHealthRecord : ∃ (p : Nat) (record : Bytes) (s : State), (p < 4) :=
  ⟨0, [1], up, by decide⟩
theorem test_premises_memPoisonReadRepaired : ∃ (p q a : Nat) (reader : PoisonReader) (s : State), (p < 4) ∧
    ((∀ k, reader = .ledger k → k < 4)) ∧
    ((∀ c, reader = .mover c → c < 8)) ∧
    (memReads s p = true) ∧
    (((unitPorts s ((memUnits s).findIdx fun l => l.contains p)).filter (· != p)).find? (fun q => memReads s q && !(s.memPort q).viral) = some q) :=
  ⟨0, 1, 0, .ledger 3, (((modMemPort 1 (fun m => { m with st := 6 }) (modMemPort 0 (fun m => { m with st := 6 }) up))).modMem fun m => { m with layout := some (true, [0, 1], 0) }), by decide, (by intro q h; cases h; decide), (by intro q h; cases h), by decide, by decide⟩
theorem test_premises_memPoisonReadMover : ∃ (p a ch : Nat) (s : State), (p < 4) ∧
    (ch < 8) ∧
    (memReads s p = true) ∧
    (((unitPorts s ((memUnits s).findIdx fun l => l.contains p)).filter (· != p)).find? (fun q => memReads s q && !(s.memPort q).viral) = none) :=
  ⟨0, 0, 6, (((modMemPort 1 (fun m => { m with st := 6 }) (modMemPort 0 (fun m => { m with st := 6 }) up))).modMem fun m => { m with layout := some (false, [0], 0) }), by decide, by decide, by decide, by decide⟩
theorem test_premises_memPoisonReadLedger : ∃ (p a q : Nat) (s : State), (p < 4) ∧
    (q < 4) ∧
    (memReads s p = true) ∧
    (((unitPorts s ((memUnits s).findIdx fun l => l.contains p)).filter (· != p)).find? (fun k => memReads s k && !(s.memPort k).viral) = none) :=
  ⟨0, 0, 3, (((modMemPort 1 (fun m => { m with st := 6 }) (modMemPort 0 (fun m => { m with st := 6 }) up))).modMem fun m => { m with layout := some (false, [0], 0) }), by decide, by decide, by decide, by decide⟩
theorem test_premises_memPoisonReadSeal : ∃ (p a : Nat) (s : State), (p < 4) ∧
    (memReads s p = true) ∧
    (((unitPorts s ((memUnits s).findIdx fun l => l.contains p)).filter (· != p)).find? (fun q => memReads s q && !(s.memPort q).viral) = none) :=
  ⟨0, 0, (((modMemPort 1 (fun m => { m with st := 6 }) (modMemPort 0 (fun m => { m with st := 6 }) up))).modMem fun m => { m with layout := some (false, [0], 0) }), by decide, by decide, by decide⟩
theorem test_premises_resilverComplete : ∃ (p : Nat) (s : State), (p < 4) ∧
    ((s.memPort p).st = 4) ∧
    ((s.memPort p).leaving = none) :=
  ⟨0, (modMemPort 0 (fun m => { m with st := 4 }) up), by decide, by decide, by decide⟩
theorem test_premises_zeroingCompleteSeals : ∃ (p q : Nat) (s : State), (p < 4) ∧
    ((s.memPort p).st = 5) ∧
    ((s.memPort p).leaving = none) ∧
    (lowestOnline s = some q) :=
  ⟨0, 1, (modMemPort 1 (fun m => { m with st := 6 }) (modMemPort 0 (fun m => { m with st := 5 }) up)), by decide, by decide, by decide, by decide⟩
theorem test_premises_zeroingCompleteAlone : ∃ (p : Nat) (s : State), (p < 4) ∧
    ((s.memPort p).st = 5) ∧
    ((s.memPort p).leaving = none) ∧
    (lowestOnline s = none) :=
  ⟨0, (modMemPort 0 (fun m => { m with st := 5 }) up), by decide, by decide, by decide, by decide⟩
theorem test_premises_memOfflineReached : ∃ (p : Nat) (s : State), (p < 4) :=
  ⟨0, up, by decide⟩
theorem test_premises_memOfflineReachedBoundary : ∃ (p o : Nat) (s : State), ((s.memPort p).leaving = some o) ∧
    ((s.memPort p).stopped = true) :=
  ⟨0, 4, (modMemPort 0 (fun m => { m with leaving := some 4, stopped := true }) up), by decide, by decide⟩
theorem test_premises_captureRecordWrite : ∃ (q : Nat) (s : State), (q < 4) ∧
    (moverTurn s 4 (waitingPorts s 4) = true) :=
  ⟨0, up, by decide, by decide⟩
set_option maxRecDepth 4000 in
theorem test_premises_captureRecordWriteBoundary : ∃ (q id : Nat) (header frame : Bytes) (l : List (Nat × Bytes × Bytes)) (c : Capture) (s : State), (s.mem.capq.get [] q = (id, header, frame) :: l) ∧
    (s.mem.captures.find id = some c) ∧
    (rangeLost s ((s.mem.regions.get {} c.region).base + c.wr % max 1 (s.mem.regions.get {} c.region).size) (64 + c.snap) = false) ∧
    (c.stop = false) :=
  ⟨0, 2, zeros 64, zeros 64, [], { snap := 64 }, (up.modMem fun m => { m with capq := [(0, [(2, zeros 64, zeros 64)])], captures := [(2, { snap := 64 })], layout := some (false, [0], 0), ports := [(0, { st := 6 })] }), by decide, by decide, by decide, by decide⟩

theorem test_premises_xdcGoRuns : ∃ (c value : Nat) (u : State) (s : State), (c < 8) ∧
    (hostUp s = true) ∧
    (bit (Nat.lor value (2 ^ 31)) 30 = false) ∧
    (6 ≤ c) ∧
    ((s.xdcOf c).go = false) ∧
    ((s.xdcOf c).halted = false) ∧
    (u = modXdcOf c (fun x => { x with irq := bit (Nat.lor value (2 ^ 31)) 0 }) s) ∧
    (bmeOf s 0 = true) ∧
    ((s.xdcOf c).desc % 64 = 0) :=
  ⟨6, 0, (modXdcOf 6 (fun x => { x with irq := bit (Nat.lor 0 (2 ^ 31)) 0 }) (up.modHost fun h => { h with bme := [true, true] })), (up.modHost fun h => { h with bme := [true, true] }), by decide, by decide, by decide, by decide, by decide, by decide, rfl, by decide, by decide⟩
theorem test_premises_xdcGoNoBme : ∃ (c value : Nat) (u : State) (s : State), (c < 8) ∧
    (hostUp s = true) ∧
    (bit (Nat.lor value (2 ^ 31)) 30 = false) ∧
    (6 ≤ c) ∧
    ((s.xdcOf c).go = false) ∧
    ((s.xdcOf c).halted = false) ∧
    (u = modXdcOf c (fun x => { x with irq := bit (Nat.lor value (2 ^ 31)) 0 }) s) ∧
    (bmeOf s 0 = false) :=
  ⟨6, 0, (modXdcOf 6 (fun x => { x with irq := bit (Nat.lor 0 (2 ^ 31)) 0 }) up), up, by decide, by decide, by decide, by decide, by decide, by decide, rfl, by decide⟩
theorem test_premises_xdcGoUnaligned : ∃ (c value : Nat) (u : State) (s : State), (c < 8) ∧
    (hostUp s = true) ∧
    (bit (Nat.lor value (2 ^ 31)) 30 = false) ∧
    (6 ≤ c) ∧
    ((s.xdcOf c).go = false) ∧
    ((s.xdcOf c).halted = false) ∧
    (u = modXdcOf c (fun x => { x with irq := bit (Nat.lor value (2 ^ 31)) 0 }) s) ∧
    (bmeOf s 0 = true) ∧
    ((s.xdcOf c).desc % 64 ≠ 0) :=
  ⟨6, 0, (modXdcOf 6 (fun x => { x with irq := bit (Nat.lor 0 (2 ^ 31)) 0 }) (modXdcOf 6 (fun x => { x with desc := 32 }) (up.modHost fun h => { h with bme := [true, true] }))), (modXdcOf 6 (fun x => { x with desc := 32 }) (up.modHost fun h => { h with bme := [true, true] })), by decide, by decide, by decide, by decide, by decide, by decide, rfl, by decide, by decide⟩
theorem test_premises_xdcAbort : ∃ (c : Nat) (s : State), (c < 8) ∧
    (hostUp s = true) ∧
    ((s.xdcOf c).go = true) ∧
    (6 ≤ c) :=
  ⟨6, (modXdcOf 6 (fun x => { x with go := true }) up), by decide, by decide, by decide, by decide⟩
theorem test_premises_xdcErrorClear : ∃ (c : Nat) (s : State), (c < 8) ∧
    (hostUp s = true) ∧
    ((s.xdcOf c).err = true) ∧
    (clearsBit s (xdcStatusReg c) 2 1 = true) :=
  ⟨6, (modXdcOf 6 (fun x => { x with err := true, halted := true }) up), by decide, by decide, by decide, by decide⟩
theorem test_premises_moverChainDone : ∃ (c : Nat) (s : State), (c < 8) ∧
    ((s.xdcOf c).go = true) ∧
    ((s.xdcOf c).next = 0) ∧
    (0 < (s.xdcOf c).fetched) :=
  ⟨6, (modXdcOf 6 (fun x => { x with go := true, fetched := 1 }) up), by decide, by decide, by decide, by decide⟩
theorem test_premises_moverChannelStopHost : ∃ (c addr : Nat) (s : State), (c < 8) ∧
    ((s.xdcOf c).go = true) :=
  ⟨6, 0, (modXdcOf 6 (fun x => { x with go := true }) up), by decide, by decide⟩
theorem test_premises_moverChannelStopNoAnswer : ∃ (c addr : Nat) (s : State), (c < 8) ∧
    ((s.xdcOf c).go = true) :=
  ⟨6, 0, (modXdcOf 6 (fun x => { x with go := true }) up), by decide, by decide⟩
theorem test_premises_moverChannelStopPoison : ∃ (c addr : Nat) (s : State), (c < 8) ∧
    ((s.xdcOf c).go = true) :=
  ⟨6, 0, (modXdcOf 6 (fun x => { x with go := true }) up), by decide, by decide⟩
theorem test_premises_moverDescriptorTooMany : ∃ (c : Nat) (desc table data : HostAnswer) (s : State), (c < 8) ∧
    ((s.xdcOf c).go = true) ∧
    ((s.xdcOf c).next ≠ 0 ∨ (s.xdcOf c).fetched = 0) ∧
    (64 ≤ (s.xdcOf c).fetched) :=
  ⟨6, .urca, .urca, .urca, (modXdcOf 6 (fun x => { x with go := true, next := 64, fetched := 64 }) up), by decide, by decide, .inl (by decide), by decide⟩
theorem test_premises_moverDescriptorNoDesc : ∃ (c : Nat) (desc table data : HostAnswer) (s : State), (c < 8) ∧
    ((s.xdcOf c).go = true) ∧
    ((s.xdcOf c).next ≠ 0 ∨ (s.xdcOf c).fetched = 0) ∧
    ((s.xdcOf c).fetched < 64) ∧
    (desc = .urca ∨ desc = .timeout) :=
  ⟨6, .urca, .urca, .urca, (modXdcOf 6 (fun x => { x with go := true }) up), by decide, by decide, .inr (by decide), by decide, .inl rfl⟩
theorem test_premises_moverDescriptorServed : ∃ (c : Nat) (d : Bytes) (table data : HostAnswer) (s : State), (c < 8) ∧
    ((s.xdcOf c).go = true) ∧
    ((s.xdcOf c).next ≠ 0 ∨ (s.xdcOf c).fetched = 0) ∧
    ((s.xdcOf c).fetched < 64) ∧
    (moverTurn s c (descriptorPorts s d) = true) :=
  ⟨6, zeros 64, .urca, .urca, (modXdcOf 6 (fun x => { x with go := true }) up), by decide, by decide, .inr (by decide), by decide, by decide⟩
theorem test_premises_moverDescriptorDone : ∃ (c n : Nat) (d : Bytes) (u : State), (bit (rd d 1 1) 3 = false) :=
  ⟨6, 0, zeros 64, (modXdcOf 6 (fun x => { x with go := true }) up), by decide⟩
theorem test_premises_moverDescriptorNop : ∃ (d : Bytes) (table data : HostAnswer) (s : State), (rd d 24 8 % 64 = 0) ∧
    (rd d 0 1 = 3) :=
  ⟨[3] ++ zeros 63, .urca, .urca, up, by decide, by decide⟩

theorem test_premises_hrqTailWriteMoves : ∃ (r value : Nat) (s : State), (r < 32) ∧
    (hostUp s = true) ∧
    (postedOf ((modRing r (fun x => { x with tail := value % 65536 }) s).ring r) ≤ 2 ^ (s.ring r).size) :=
  ⟨0, 1, (modRing 0 (fun x => { x with size := 6 }) up), by decide, by decide, by decide⟩
theorem test_premises_hrqTailWriteStops : ∃ (r value : Nat) (s : State), (r < 32) ∧
    (hostUp s = true) ∧
    (2 ^ (s.ring r).size < postedOf ((modRing r (fun x => { x with tail := value % 65536 }) s).ring r)) :=
  ⟨0, 65, (modRing 0 (fun x => { x with size := 6 }) up), by decide, by decide, by decide⟩
theorem test_premises_hrqReset : ∃ (r : Nat) (s : State), (r < 32) ∧
    (hostUp s = true) :=
  ⟨31, up, by decide, by decide⟩
theorem test_premises_hrqEnableGood : ∃ (r value v : Nat) (s : State), (r < 32) ∧
    (hostUp s = true) ∧
    (v = Nat.lor value (2 ^ 31)) ∧
    (bit v 30 = false) ∧
    ((s.ring r).on = false) ∧
    ((s.ring r).irq = true ∨ ((s.ring r).half = false ∧ (s.ring r).stopped = false ∧ (s.ring r).frozen = false)) ∧
    (ringSettingsOk r ((modRing r (fun x => { x with vec := some (fld v 29 24), irq := bit v 23, size := fld v 19 16, buf := fld v 14 8 }) s).ring r) = true) :=
  ⟨0, 0x60100, (Nat.lor 0x60100 (2 ^ 31)), up, by decide, by decide, rfl, by decide, by decide, .inr (by decide), by decide⟩
theorem test_premises_hrqEnableBad : ∃ (r value v : Nat) (s : State), (r < 32) ∧
    (hostUp s = true) ∧
    (v = Nat.lor value (2 ^ 31)) ∧
    (bit v 30 = false) ∧
    ((s.ring r).on = false) ∧
    ((s.ring r).irq = true ∨ ((s.ring r).half = false ∧ (s.ring r).stopped = false ∧ (s.ring r).frozen = false)) ∧
    (ringSettingsOk r ((modRing r (fun x => { x with vec := some (fld v 29 24), irq := bit v 23, size := fld v 19 16, buf := fld v 14 8 }) s).ring r) = false) :=
  ⟨0, 0x10100, (Nat.lor 0x10100 (2 ^ 31)), up, by decide, by decide, rfl, by decide, by decide, .inr (by decide), by decide⟩
set_option maxRecDepth 4000 in
theorem test_premises_hrqEnableReset : ∃ (r value : Nat) (s : State), (r < 32) ∧
    (hostUp s = true) ∧
    (bit (Nat.lor value (2 ^ 31)) 30 = true) :=
  ⟨0, 0x40000000, up, by decide, by decide, by decide⟩
theorem test_premises_hrqEnableAgain : ∃ (r value v : Nat) (s : State), (r < 32) ∧
    (hostUp s = true) ∧
    (v = Nat.lor value (2 ^ 31)) ∧
    (bit v 30 = false) ∧
    ((s.ring r).on = true) ∧
    ((s.ring r).irq = true ∨ ((s.ring r).half = false ∧ (s.ring r).stopped = false ∧ (s.ring r).frozen = false)) :=
  ⟨0, 0x10100, (Nat.lor 0x10100 (2 ^ 31)), (modRing 0 (fun x => { x with on := true }) up), by decide, by decide, rfl, by decide, by decide, .inr (by decide)⟩
theorem test_premises_hrqEnableTells : ∃ (r value v : Nat) (s : State), (r < 32) ∧
    (hostUp s = true) ∧
    (v = Nat.lor value (2 ^ 31)) ∧
    (bit v 30 = false) ∧
    ((s.ring r).on = false) ∧
    ((s.ring r).irq = false) ∧
    ((s.ring r).half = true ∨ (s.ring r).stopped = true ∨ (s.ring r).frozen = true) ∧
    (ringSettingsOk r ((modRing r (fun x => { x with vec := some (fld v 29 24), irq := bit v 23, size := fld v 19 16, buf := fld v 14 8 }) s).ring r) = true) :=
  ⟨0, 0x860100, (Nat.lor 0x860100 (2 ^ 31)), (modRing 0 (fun x => { x with half := true }) up), by decide, by decide, rfl, by decide, by decide, by decide, .inl (by decide), by decide⟩
theorem test_premises_hrqInterruptInterval : ∃ (r : Nat) (s : State), (r < 32) ∧
    (completeDue s (s.ring r) = true) ∧
    ((s.ring r).irq = true) :=
  ⟨0, (modRing 0 (fun x => { x with since := 1, irq := true }) up), by decide, by decide, by decide⟩
set_option maxRecDepth 20000 in
theorem test_premises_rxFrameDeliverDrops : ∃ (ns ci i : Nat) (descs : HostAnswer) (l : List Nat) (s : State), (s.host.mac = ci :: l) ∧
    (patternOf s ((s.copy ci).out.take ((s.copy ci).out.length - 4)) = some i) ∧
    (bit (rd (s.host.pattern.get [] i) 130 1) 0 = true) :=
  ⟨0, 0, 0, .urca, [], (((up.modBuf fun b => { b with pkts := [(0, { bytes := zeros 64, arrived := 64, md := { len := 64 } })], copies := [(0, { pkt := 0, port := 800, stage := .sending, out := zeros 64 })], nextPkt := 1, nextCopy := 1 })).modHost fun h => { h with mac := [0], macFill := 64, pattern := [(0, [1] ++ zeros 127 ++ le 2 (crc16 [0]) ++ [129] ++ zeros 125)] }), by decide, by decide, by decide⟩
set_option maxRecDepth 20000 in
theorem test_premises_rxFrameDeliverDelivers : ∃ (ns ci : Nat) (bs : Bytes) (l : List Nat) (s : State), (s.host.mac = ci :: l) ∧
    (patternOf s ((s.copy ci).out.take ((s.copy ci).out.length - 4)) = none) ∧
    (steerOf s (s.pkt (s.copy ci).pkt) = none) ∧
    (ringLive (s.ring 0) = true) ∧
    ((s.ring 0).buf ≠ 0) ∧
    (ceilDiv ((s.copy ci).out.take ((s.copy ci).out.length - 4)).length (256 * (s.ring 0).buf) ≤ postedOf (s.ring 0)) :=
  ⟨0, 0, zeros 32, [], (modRing 0 (fun x => { x with on := true, size := 6, buf := 1, tail := 4 }) (((up.modBuf fun b => { b with pkts := [(0, { bytes := zeros 64, arrived := 64, md := { len := 64 } })], copies := [(0, { pkt := 0, port := 800, stage := .sending, out := zeros 64 })], nextPkt := 1, nextCopy := 1 })).modHost fun h => { h with mac := [0], macFill := 64 })), by decide, by decide, by decide, by decide, by decide, by decide⟩
set_option maxRecDepth 20000 in
theorem test_premises_rxFrameDeliverNoRing : ∃ (ns ci : Nat) (descs : HostAnswer) (l : List Nat) (s : State), (s.host.mac = ci :: l) ∧
    (patternOf s ((s.copy ci).out.take ((s.copy ci).out.length - 4)) = none) ∧
    (steerOf s (s.pkt (s.copy ci).pkt) = none) ∧
    (ringLive (s.ring 0) = false) :=
  ⟨0, 0, .urca, [], (((up.modBuf fun b => { b with pkts := [(0, { bytes := zeros 64, arrived := 64, md := { len := 64 } })], copies := [(0, { pkt := 0, port := 800, stage := .sending, out := zeros 64 })], nextPkt := 1, nextCopy := 1 })).modHost fun h => { h with mac := [0], macFill := 64 }), by decide, by decide, by decide, by decide⟩
set_option maxRecDepth 20000 in
theorem test_premises_rxFrameDeliverByPattern : ∃ (ns ci i : Nat) (descs : HostAnswer) (l : List Nat) (s : State), (s.host.mac = ci :: l) ∧
    (patternOf s ((s.copy ci).out.take ((s.copy ci).out.length - 4)) = some i) ∧
    (bit (rd (s.host.pattern.get [] i) 130 1) 0 = false) :=
  ⟨0, 0, 0, .urca, [], (((up.modBuf fun b => { b with pkts := [(0, { bytes := zeros 64, arrived := 64, md := { len := 64 } })], copies := [(0, { pkt := 0, port := 800, stage := .sending, out := zeros 64 })], nextPkt := 1, nextCopy := 1 })).modHost fun h => { h with mac := [0], macFill := 64, pattern := [(0, [1] ++ zeros 127 ++ le 2 (crc16 [0]) ++ [128] ++ zeros 125)] }), by decide, by decide, by decide⟩
set_option maxRecDepth 20000 in
theorem test_premises_rxFrameDeliverBySteer : ∃ (ns ci i : Nat) (descs : HostAnswer) (l : List Nat) (s : State), (s.host.mac = ci :: l) ∧
    (patternOf s ((s.copy ci).out.take ((s.copy ci).out.length - 4)) = none) ∧
    (steerOf s (s.pkt (s.copy ci).pkt) = some i) :=
  ⟨0, 0, 3, .urca, [], (((up.modBuf fun b => { b with pkts := [(0, { bytes := zeros 64, arrived := 64, md := { len := 64 } })], copies := [(0, { pkt := 0, port := 800, stage := .sending, out := zeros 64 })], nextPkt := 1, nextCopy := 1 })).modHost fun h => { h with mac := [0], macFill := 64, steer := [(3, [0, 0, 0, 0, 0, 128, 9, 0])] }), by decide, by decide, by decide⟩
set_option maxRecDepth 20000 in
theorem test_premises_rxFrameDeliverWritten : ∃ (r i ci ns : Nat) (byPattern : Bool) (bs : Bytes) (s : State), (ringLive (s.ring r) = true) ∧
    ((s.ring r).buf ≠ 0) ∧
    (ceilDiv ((s.copy ci).out.take ((s.copy ci).out.length - 4)).length (256 * (s.ring r).buf) ≤ postedOf (s.ring r)) :=
  ⟨0, 0, 0, 0, true, [], (modRing 0 (fun x => { x with on := true, size := 6, buf := 1, tail := 4 }) (((up.modBuf fun b => { b with pkts := [(0, { bytes := zeros 64, arrived := 64, md := { len := 64 } })], copies := [(0, { pkt := 0, port := 800, stage := .sending, out := zeros 64 })], nextPkt := 1, nextCopy := 1 })).modHost fun h => { h with mac := [0], macFill := 64 })), by decide, by decide, by decide⟩
set_option maxRecDepth 20000 in
theorem test_premises_rxFrameDeliverFull : ∃ (r i ci ns : Nat) (byPattern : Bool) (bs : Bytes) (s : State), (ringLive (s.ring r) = true) ∧
    ((s.ring r).buf ≠ 0) ∧
    (postedOf (s.ring r) < ceilDiv ((s.copy ci).out.take ((s.copy ci).out.length - 4)).length (256 * (s.ring r).buf)) :=
  ⟨0, 0, 0, 0, true, [], (modRing 0 (fun x => { x with on := true, size := 6, buf := 1 }) (((up.modBuf fun b => { b with pkts := [(0, { bytes := zeros 64, arrived := 64, md := { len := 64 } })], copies := [(0, { pkt := 0, port := 800, stage := .sending, out := zeros 64 })], nextPkt := 1, nextCopy := 1 })).modHost fun h => { h with mac := [0], macFill := 64 })), by decide, by decide, by decide⟩
theorem test_premises_rxFrameDeliverOff : ∃ (r i ci ns : Nat) (byPattern : Bool) (descs : HostAnswer) (s : State), (ringLive (s.ring r) = false ∨ (s.ring r).buf = 0) :=
  ⟨0, 0, 0, 0, true, .urca, up, .inl (by decide)⟩
set_option maxRecDepth 20000 in
theorem test_premises_txFrameFetchHands : ∃ (r n len : Nat) (ds bs : Bytes) (descs : List HostAnswer) (l : List Nat) (s : State), (dataUp s = true) ∧
    (macHeld s = false) ∧
    (txReady s = r :: l) ∧
    (txSeen (s.ring r) ds = .frame n len) :=
  ⟨16, 1, 60, (zeros 8 ++ [60, 0, 3, 0] ++ zeros 20), zeros 60, [], [], (modRing 16 (fun x => { x with on := true, size := 6, tail := 1 }) up), by decide, by decide, by decide, by decide⟩
set_option maxRecDepth 20000 in
theorem test_premises_txFrameFetchStops : ∃ (r code i : Nat) (ds : Bytes) (data : HostAnswer) (descs : List HostAnswer) (l : List Nat) (s : State), (dataUp s = true) ∧
    (macHeld s = false) ∧
    (txReady s = r :: l) ∧
    (txSeen (s.ring r) ds = .stop code i) :=
  ⟨16, 1, 0, zeros 32, .urca, [], [], (modRing 16 (fun x => { x with on := true, size := 6, tail := 1 }) up), by decide, by decide, by decide, by decide⟩
set_option maxRecDepth 20000 in
theorem test_premises_txFrameFetchFails : ∃ (r : Nat) (d data : HostAnswer) (descs : List HostAnswer) (l : List Nat) (s : State), (dataUp s = true) ∧
    (macHeld s = false) ∧
    (txReady s = r :: l) ∧
    (d = .urca ∨ d = .timeout) :=
  ⟨16, .urca, .urca, [], [], (modRing 16 (fun x => { x with on := true, size := 6, tail := 1 }) up), by decide, by decide, by decide, .inl rfl⟩
theorem test_premises_hostReadFailRx : ∃ (r : Nat) (timeout : Bool) (s : State), (r < 32) ∧
    (ringLive (s.ring r) = true) ∧
    (r < 16) :=
  ⟨0, true, (modRing 0 (fun x => { x with on := true }) up), by decide, by decide, by decide⟩
theorem test_premises_hostReadFailTx : ∃ (r : Nat) (timeout : Bool) (s : State), (r < 32) ∧
    (ringLive (s.ring r) = true) ∧
    (16 ≤ r) :=
  ⟨16, false, (modRing 16 (fun x => { x with on := true }) up), by decide, by decide, by decide⟩
theorem test_premises_filterCommitWriteSteer : ∃ (i value : Nat) (s : State), (hostUp s = true) ∧
    (i < 64) ∧
    (s.host.commits.contains i = false) :=
  ⟨63, 5, up, by decide, by decide, by decide⟩
theorem test_premises_filterCommitWritePattern : ∃ (i value : Nat) (s : State), (hostUp s = true) ∧
    (i < 32) ∧
    (s.host.commits.contains (64 + i) = false) :=
  ⟨31, 5, up, by decide, by decide, by decide⟩
theorem test_premises_filterCommitWriteSteerBoundary : ∃ (i : Nat) (s : State), (i < 64) ∧
    (s.host.commits = [i]) :=
  ⟨5, (up.modHost fun h => { h with commits := [5], steerHeld := [(5, zeros 8)] }), by decide, by decide⟩
theorem test_premises_filterCommitWritePatternBoundary : ∃ (i : Nat) (s : State), (s.host.commits = [64 + i]) :=
  ⟨5, (up.modHost fun h => { h with commits := [69], patternHeld := [(5, zeros 8)] }), by decide⟩
theorem test_premises_queueStatFoldWrite : ∃ (r n : Nat) (s : State), (r < 32) ∧
    (n < 5) ∧
    (hostUp s = true) ∧
    (clearsBit s (0x20400 + 0x20 * r + 4 * n) (2 ^ 31) 31 = true) :=
  ⟨31, 4, up, by decide, by decide, by decide, by decide⟩

theorem test_premises_msixMessagePf0 : ∃ (v : Nat) (s : State), (v < 64) ∧
    (bit s.host.pba0 v = true) ∧
    (vectorAsked s 0 v = true) ∧
    (bmeOf s 0 = true) ∧
    (s.host.msix.getD 0 false = true) ∧
    (s.host.unmasked.contains v = true) ∧
    (mayTell (s.host.sent.get 0 v) (moderation s 0 v) s.beat = true) :=
  ⟨0, (up.modHost fun h => { h with bme := [true, true], msix := [true, true], pba0 := 1, status := 1, enable := 1, unmasked := [0] }), by decide, by decide, by decide, by decide, by decide, by decide, by decide⟩
theorem test_premises_msixMessagePf1 : ∃ (v : Nat) (s : State), (v < 64) ∧
    (bit s.host.pba1 v = true) ∧
    (vectorAsked s 1 v = true) ∧
    (bmeOf s 1 = true) ∧
    (s.host.msix.getD 1 false = true) ∧
    (s.host.unmasked.contains (64 + v) = true) ∧
    (mayTell (s.host.sent.get 0 (64 + v)) (moderation s 1 v) s.beat = true) :=
  ⟨0, (modRing 0 (fun x => { x with irq := true, complete := true }) (up.modHost fun h => { h with bme := [true, true], msix := [true, true], pba1 := 1, unmasked := [64] })), by decide, by decide, by decide, by decide, by decide, by decide, by decide⟩
theorem test_premises_irqTestWrite : ∃ (hi b : Nat) (s : State), (hostUp s = true) ∧
    (b < 32) ∧
    (32 * (hi % 2) + b < 34) :=
  ⟨0, 31, up, by decide, by decide, by decide⟩
theorem test_premises_bmeClearPf1On : ∃ (s : State), (bmeOf s 1 = true) :=
  ⟨(up.modHost fun h => { h with bme := [true, true], msix := [true, true] }), by decide⟩
theorem test_premises_bmeClearPf0On : ∃ (s : State), (bmeOf s 0 = true) :=
  ⟨(up.modHost fun h => { h with bme := [true, true], msix := [true, true] }), by decide⟩
theorem test_premises_bmeSet : ∃ (pf : Nat) (msix : Bool) (s : State), (pf < 2) ∧
    (hostUp s = true) :=
  ⟨1, true, up, by decide, by decide⟩
theorem test_premises_pcieLinkTrained : ∃ (rate width : Nat) (s : State), (hostUp s = true) ∧
    (1 ≤ rate) ∧
    (rate ≤ 5) ∧
    ([1, 2, 4, 8].contains width = true) :=
  ⟨5, 8, up, by decide, by decide, by decide, by decide⟩
theorem test_premises_pciePartnerViolation : ∃ (pf code : Nat) (s : State), (pf < 2) ∧
    (hostUp s = true) :=
  ⟨1, 2, up, by decide, by decide⟩
theorem test_premises_glbBeatLoRead : ∃ (s : State), (hostUp s = true) :=
  ⟨up, by decide⟩
theorem test_premises_registerWriteScratch : ∃ (value : Nat) (host : HostAnswer) (s : State), (hostUp s = true) :=
  ⟨7, .urca, up, by decide⟩
theorem test_premises_registerWriteBadSize : ∃ (pf offset size value : Nat) (host : HostAnswer) (s : State), (pf < 2) ∧
    (offset < (if pf = 0 then 65536 else 16384)) ∧
    (hostUp s = true) ∧
    (¬ (size = 4 ∧ offset % 4 = 0)) ∧
    (¬ (size = 8 ∧ offset % 8 = 0)) :=
  ⟨0, 2, 4, 1, .urca, up, by decide, by decide, by decide, by decide, by decide⟩

theorem test_premises_pfcFrameReceive : ∃ (port vec ns : Nat) (times : List Nat) (q : Port) (u : State) (s : State), (port < 768) ∧
    (u = controlOctets port (nowNs s ns) s) ∧
    (u.ports.find port = some q) ∧
    (q.up = true) :=
  ⟨0, 8, 5, [0, 0, 0, 9], ((controlOctets 0 (nowNs (up.modPorts fun t => t.put 0 { up := true, pfcMask := 8 }) 5) (up.modPorts fun t => t.put 0 { up := true, pfcMask := 8 })).port 0), (controlOctets 0 (nowNs (up.modPorts fun t => t.put 0 { up := true, pfcMask := 8 }) 5) (up.modPorts fun t => t.put 0 { up := true, pfcMask := 8 })), (up.modPorts fun t => t.put 0 { up := true, pfcMask := 8 }), by decide, rfl, by decide +kernel, by decide +kernel⟩
theorem test_premises_pfcFrameReceiveDown : ∃ (port vec ns : Nat) (times : List Nat) (s : State), (port < 768) ∧
    ((s.port port).up = false) :=
  ⟨0, 8, 5, [9], up, by decide, by decide⟩
theorem test_premises_pauseFrameReceiveHonoured : ∃ (port time ns : Nat) (q : Port) (u : State) (s : State), (port < 768) ∧
    (u = controlOctets port (nowNs s ns) s) ∧
    (u.ports.find port = some q) ∧
    (q.up = true) ∧
    (bit q.flags 1 = true) :=
  ⟨0, 7, 5, ((controlOctets 0 (nowNs (up.modPorts fun t => t.put 0 { up := true, flags := 2 }) 5) (up.modPorts fun t => t.put 0 { up := true, flags := 2 })).port 0), (controlOctets 0 (nowNs (up.modPorts fun t => t.put 0 { up := true, flags := 2 }) 5) (up.modPorts fun t => t.put 0 { up := true, flags := 2 })), (up.modPorts fun t => t.put 0 { up := true, flags := 2 }), by decide, rfl, by decide +kernel, by decide +kernel, by decide +kernel⟩
theorem test_premises_pauseFrameReceiveIgnored : ∃ (port time ns : Nat) (q : Port) (u : State) (s : State), (port < 768) ∧
    (u = controlOctets port (nowNs s ns) s) ∧
    (u.ports.find port = some q) ∧
    (q.up = true) ∧
    (bit q.flags 1 = false) :=
  ⟨0, 7, 5, ((controlOctets 0 (nowNs (up.modPorts fun t => t.put 0 { up := true }) 5) (up.modPorts fun t => t.put 0 { up := true })).port 0), (controlOctets 0 (nowNs (up.modPorts fun t => t.put 0 { up := true }) 5) (up.modPorts fun t => t.put 0 { up := true })), (up.modPorts fun t => t.put 0 { up := true }), by decide, rfl, by decide +kernel, by decide +kernel, by decide +kernel⟩
theorem test_premises_pauseFrameReceiveDown : ∃ (port time ns : Nat) (s : State), (port < 768) ∧
    ((s.port port).up = false) :=
  ⟨0, 8, 5, up, by decide, by decide⟩
theorem test_premises_pauseFrameReceiveLoads : ∃ (e a p time : Nat) (q : Port), (bit (pauseMask q) p = true) ∧
    (p ≠ e) ∧
    (bit q.wdTrip p = false) ∧
    (time ≠ 0) :=
  ⟨9, 7, 3, 5, { up := true, pfcMask := 8 }, by decide, by decide, by decide, by decide⟩
theorem test_premises_pauseFrameReceiveNotHonoured : ∃ (e a p time : Nat) (q : Port), (bit (pauseMask q) p = false ∨ p = e) :=
  ⟨9, 7, 9, 5, { up := true, pfcMask := 8 }, .inr rfl⟩
theorem test_premises_pauseTimerExpire : ∃ (port prio ns : Nat) (s : State), (port < 768) ∧
    (prio < 8) ∧
    (nth (s.port port).pause prio ≠ 0) ∧
    (nth (s.port port).pause prio * 512000 ≤ (nowNs s ns - nth (s.port port).pauseAt prio) * portRate s port) :=
  ⟨0, 1, 0, ((modLane 0 (fun l => { l with mode := 1 }) (up.modGlb fun g => { g with beat := 90 })).modPorts fun t => t.put 0 { up := true, pause := [0, 1, 0, 0, 0, 0, 0, 0] }), by decide, by decide, by decide, by decide⟩
theorem test_premises_pfcFrameSend : ∃ (port : Nat) (f : FlowFrame) (s : State), (port < 768) ∧
    (s.ports.has port = true) ∧
    ((s.port port).up = true) ∧
    ((s.tmPort port).sending = none) ∧
    ((s.port port).pfcDue = true) ∧
    (f = flowFrame (s.port port)) :=
  ⟨0, { pause := false, vec := 3, times := [0xFFFF, 0xFFFF, 0, 0, 0, 0, 0, 0] }, (up.modPorts fun t => t.put 0 { up := true, pfcDue := true, xoffSet := 3 }), by decide, by decide, by decide, by decide, by decide, by decide⟩
theorem test_premises_pfcResend : ∃ (port : Nat) (f : FlowFrame) (s : State), (port < 768) ∧
    (s.ports.has port = true) ∧
    ((s.port port).up = true) ∧
    ((s.tmPort port).sending = none) ∧
    ((s.port port).xoffSet ≠ 0 ∨ (s.port port).pauseOn = true) ∧
    ((s.port port).pfcBeat + 8 ≤ s.beat) ∧
    (f = flowFrame (s.port port)) :=
  ⟨0, { pause := false, vec := 3, times := [0xFFFF, 0xFFFF, 0, 0, 0, 0, 0, 0] }, ((up.modGlb fun g => { g with beat := 8 }).modPorts fun t => t.put 0 { up := true, xoffSet := 3 }), by decide, by decide, by decide, by decide, .inl (by decide), by decide, by decide⟩
theorem test_premises_pfcWatchdogTrip : ∃ (port prio : Nat) (s : State), (port < 768) ∧
    (prio < 8) :=
  ⟨0, 1, up, by decide, by decide⟩
theorem test_premises_pfcWatchdogTripBoundary : ∃ (port prio : Nat) (s : State), (s.ports.has port = true) ∧
    ((s.port port).wd ≠ 0) ∧
    (bit (s.port port).pfcMask prio = true) ∧
    (bit (s.port port).wdTrip prio = false) ∧
    (nth (s.port port).pause prio ≠ 0) ∧
    (nth (s.port port).pauseFrom prio + (s.port port).wd ≤ s.beat) :=
  ⟨0, 1, ((up.modGlb fun g => { g with beat := 5 }).modPorts fun t => t.put 0 { up := true, wd := 5, pfcMask := 2, pause := [0, 1, 0, 0, 0, 0, 0, 0] }), by decide, by decide, by decide, by decide, by decide, by decide⟩
theorem test_premises_pfcWatchdogRestore : ∃ (port prio : Nat) (s : State), (port < 768) ∧
    (prio < 8) :=
  ⟨0, 1, up, by decide, by decide⟩
theorem test_premises_pfcWatchdogRestoreBoundary : ∃ (port prio : Nat) (s : State), (bit (s.port port).wdTrip prio = true) ∧
    (nth (s.port port).pauseLast prio + (s.port port).restore ≤ s.beat) :=
  ⟨0, 1, ((up.modGlb fun g => { g with beat := 5 }).modPorts fun t => t.put 0 { up := true, wdTrip := 2, restore := 5 }), by decide, by decide⟩
theorem test_premises_mmVerifyResponse : ∃ (port : Nat) (s : State), (port < 768) ∧
    ((s.port port).mmStatus = 1) :=
  ⟨0, (up.modPorts fun t => t.put 0 { up := true, mmStatus := 1 }), by decide, by decide⟩
theorem test_premises_mmVerifyTimeout : ∃ (port : Nat) (s : State), (port < 768) ∧
    ((s.port port).mmStatus = 1) ∧
    ((s.port port).mmBeat + 1000 * (s.port port).verifyMs ≤ s.beat) :=
  ⟨0, (up.modPorts fun t => t.put 0 { up := true, mmStatus := 1, verifyMs := 0 }), by decide, by decide, by decide⟩
theorem test_premises_holdWindowExpire : ∃ (port : Nat) (s : State), (port < 768) :=
  ⟨0, up, by decide⟩
theorem test_premises_holdWindowExpireBoundary : ∃ (port d : Nat) (s : State), ((s.port port).holdStart = some d) ∧
    ((s.port port).up = false) ∧
    (d + (s.port port).hold ≤ s.beat) :=
  ⟨0, 2, ((up.modGlb fun g => { g with beat := 5 }).modPorts fun t => t.put 0 { holdStart := some 2, hold := 3 }), by decide, by decide, by decide⟩
theorem test_premises_halfRangeFold : ∃ (port counter : Nat) (s : State), (port < 768) ∧
    (counter < 64) ∧
    (bit ((s.port port).counts.get 0 counter) 47 = true) :=
  ⟨0, 63, (up.modPorts fun t => t.put 0 { up := true, counts := [(63, 2 ^ 47)] }), by decide, by decide, by decide⟩
theorem test_premises_frameReceivePreempt : ∃ (port : Nat) (q : Port) (frame : Bytes) (arrived ns : Nat) (codeErr : Bool) (s : State), (port < 768) ∧
    (ns < 1000) ∧
    (s.ports.find port = some q) ∧
    (q.up = true) ∧
    (dataUp s = true) :=
  ⟨0, { up := true }, [], 64, 5, false, (up.modPorts fun t => t.put 0 { up := true }), by decide, by decide, by decide, by decide, by decide⟩
theorem test_premises_frameReceiveVerify : ∃ (port : Nat) (q : Port) (frame : Bytes) (arrived ns : Nat) (codeErr : Bool) (s : State), (port < 768) ∧
    (ns < 1000) ∧
    (s.ports.find port = some q) ∧
    (q.up = true) ∧
    (dataUp s = true) :=
  ⟨0, { up := true }, [], 64, 5, false, (up.modPorts fun t => t.put 0 { up := true }), by decide, by decide, by decide, by decide, by decide⟩
theorem test_premises_frameReceiveShort : ∃ (port : Nat) (q : Port) (frame : Bytes) (arrived ns : Nat) (codeErr : Bool) (u : State) (s : State), (port < 768) ∧
    (ns < 1000) ∧
    (s.ports.find port = some q) ∧
    (q.up = true) ∧
    (dataUp s = true) ∧
    (u = (if codeErr then countAt port (arrivalEnd s port frame.length arrived ns) s.buf.nextPkt [(20, 1)] (codeword port s) else s)) ∧
    (frame.length < 64) :=
  ⟨0, { up := true }, [], 64, 5, false, (up.modPorts fun t => t.put 0 { up := true }), (up.modPorts fun t => t.put 0 { up := true }), by decide, by decide, by decide, by decide, by decide, rfl, by decide⟩
theorem test_premises_frameReceiveControl : ∃ (port : Nat) (q : Port) (frame : Bytes) (arrived ns : Nat) (codeErr : Bool) (u : State) (s : State), (port < 768) ∧
    (ns < 1000) ∧
    (s.ports.find port = some q) ∧
    (q.up = true) ∧
    (dataUp s = true) ∧
    (u = (if codeErr then countAt port (arrivalEnd s port frame.length arrived ns) s.buf.nextPkt [(20, 1)] (codeword port s) else s)) ∧
    (64 ≤ frame.length) ∧
    (rdBe frame 12 2 = 0x8808) ∧
    (fcsOk frame = true) ∧
    (codeErr = false) ∧
    (frame.length ≤ q.max) :=
  ⟨0, { up := true }, withFcs (zeros 12 ++ [0x88, 8] ++ zeros 46), 64, 5, false, (up.modPorts fun t => t.put 0 { up := true }), (up.modPorts fun t => t.put 0 { up := true }), by decide, by decide, by decide, by decide, by decide, rfl, by decide +kernel, by decide +kernel, by decide +kernel, by decide +kernel, by decide +kernel⟩
theorem test_premises_frameReceiveData : ∃ (port : Nat) (q : Port) (frame : Bytes) (arrived ns : Nat) (codeErr : Bool) (u : State) (s : State), (port < 768) ∧
    (ns < 1000) ∧
    (s.ports.find port = some q) ∧
    (q.up = true) ∧
    (dataUp s = true) ∧
    (u = (if codeErr then countAt port (arrivalEnd s port frame.length arrived ns) s.buf.nextPkt [(20, 1)] (codeword port s) else s)) ∧
    (64 ≤ frame.length) ∧
    (¬ (rdBe frame 12 2 = 0x8808 ∧ fcsOk frame = true ∧ codeErr = false ∧ frame.length ≤ q.max)) ∧
    (¬ (fcsOk frame = false ∧ frame.length < 128 ∧ frame.length ≤ q.max)) :=
  ⟨0, { up := true }, withFcs (zeros 60), 64, 5, false, (up.modPorts fun t => t.put 0 { up := true }), (up.modPorts fun t => t.put 0 { up := true }), by decide, by decide, by decide, by decide, by decide, rfl, by decide +kernel, by decide +kernel, by decide +kernel⟩
theorem test_premises_frameReceiveRunt : ∃ (port : Nat) (q : Port) (frame : Bytes) (arrived ns : Nat) (codeErr : Bool) (u : State) (s : State), (port < 768) ∧
    (ns < 1000) ∧
    (s.ports.find port = some q) ∧
    (q.up = true) ∧
    (dataUp s = true) ∧
    (u = (if codeErr then countAt port (arrivalEnd s port frame.length arrived ns) s.buf.nextPkt [(20, 1)] (codeword port s) else s)) ∧
    (64 ≤ frame.length) ∧
    (fcsOk frame = false) ∧
    (frame.length < 128) ∧
    (frame.length ≤ q.max) :=
  ⟨0, { up := true }, zeros 64, 64, 5, false, (up.modPorts fun t => t.put 0 { up := true }), (up.modPorts fun t => t.put 0 { up := true }), by decide, by decide, by decide, by decide, by decide, rfl, by decide +kernel, by decide +kernel, by decide +kernel, by decide +kernel⟩
theorem test_premises_frameReceiveDown : ∃ (port : Nat) (frame : Bytes) (arrived ns : Nat) (codeErr : Bool) (mm : MmKind) (s : State), (port < 768) ∧
    (ns < 1000) ∧
    ((s.port port).up = false ∨ dataUp s = false) :=
  ⟨0, [], 64, 5, false, .whole, (up.modPorts fun t => t.put 0 { }), by decide, by decide, .inl (by decide)⟩
theorem test_premises_frameReceiveNoRoom : ∃ (port max arrived ns : Nat) (frame : Bytes) (ok : Bool) (u : State) (s : State), (u = arriveUpTo (nowNs s ns) (port / 8) s) ∧
    (65536 < fifoTaken u (port / 8) + (frame.take max).length) :=
  ⟨0, 64, 64, 5, zeros 64, true, (arriveUpTo (nowNs (up.modBuf fun b => { b with fifo := [(0, List.replicate 65 0)], pkts := [(0, { bytes := zeros 1024 })] }) 5) 0 (up.modBuf fun b => { b with fifo := [(0, List.replicate 65 0)], pkts := [(0, { bytes := zeros 1024 })] })), (up.modBuf fun b => { b with fifo := [(0, List.replicate 65 0)], pkts := [(0, { bytes := zeros 1024 })] }), rfl, by decide +kernel⟩

theorem test_premises_ingressSlotOctet : ∃ (slice ns o i : Nat) (l : List Nat) (v w : State) (s : State), (slice < 32) ∧
    (sliceServed s slice = true) ∧
    (w = admitWaiting slice ns (s.arb slice).waiting.length s) ∧
    ((w.arb slice).waiting = []) ∧
    (v = eachDo [3 * slice, 3 * slice + 1, 3 * slice + 2] (arriveUpTo (nowNs w ns)) w) ∧
    ((v.arb slice).used < slotsPerBeat v) ∧
    (nextOctet v slice = some o) ∧
    (¬ ((v.arb slice).used % 512 = 511 ∧ (nextOther v slice).isSome = true)) ∧
    (v.buf.fifo.get [] (3 * slice + o) = i :: l) :=
  ⟨0, 5, 0, 0, [], (eachDo [0, 1, 2] (arriveUpTo (nowNs (up.modBuf fun b => { b with pkts := [(0, { bytes := zeros 64, arrived := 64, md := { len := 64 } })], copies := [(0, { pkt := 0, port := 0 })], nextPkt := 1, nextCopy := 1, fifo := [(0, [0])] }) 5)) (up.modBuf fun b => { b with pkts := [(0, { bytes := zeros 64, arrived := 64, md := { len := 64 } })], copies := [(0, { pkt := 0, port := 0 })], nextPkt := 1, nextCopy := 1, fifo := [(0, [0])] })), (up.modBuf fun b => { b with pkts := [(0, { bytes := zeros 64, arrived := 64, md := { len := 64 } })], copies := [(0, { pkt := 0, port := 0 })], nextPkt := 1, nextCopy := 1, fifo := [(0, [0])] }), (up.modBuf fun b => { b with pkts := [(0, { bytes := zeros 64, arrived := 64, md := { len := 64 } })], copies := [(0, { pkt := 0, port := 0 })], nextPkt := 1, nextCopy := 1, fifo := [(0, [0])] }), by decide, by decide, rfl, by decide, rfl, by decide +kernel, by decide +kernel, by decide +kernel, by decide +kernel⟩
theorem test_premises_ingressSlotOther : ∃ (slice ns o i : Nat) (l : List Nat) (v w : State) (s : State), (slice < 32) ∧
    (sliceServed s slice = true) ∧
    (w = admitWaiting slice ns (s.arb slice).waiting.length s) ∧
    ((w.arb slice).waiting = []) ∧
    (v = eachDo [3 * slice, 3 * slice + 1, 3 * slice + 2] (arriveUpTo (nowNs w ns)) w) ∧
    ((v.arb slice).used < slotsPerBeat v) ∧
    (nextOctet v slice = none ∨ (v.arb slice).used % 512 = 511) ∧
    (nextOther v slice = some o) ∧
    (v.buf.inj.get [] (5 * slice + o) = i :: l) :=
  ⟨0, 5, 1, 0, [], (eachDo [0, 1, 2] (arriveUpTo (nowNs (up.modBuf fun b => { b with pkts := [(0, { bytes := zeros 64, arrived := 64, md := { len := 64 } })], copies := [(0, { pkt := 0, port := 0 })], nextPkt := 1, nextCopy := 1, inj := [(1, [0])] }) 5)) (up.modBuf fun b => { b with pkts := [(0, { bytes := zeros 64, arrived := 64, md := { len := 64 } })], copies := [(0, { pkt := 0, port := 0 })], nextPkt := 1, nextCopy := 1, inj := [(1, [0])] })), (up.modBuf fun b => { b with pkts := [(0, { bytes := zeros 64, arrived := 64, md := { len := 64 } })], copies := [(0, { pkt := 0, port := 0 })], nextPkt := 1, nextCopy := 1, inj := [(1, [0])] }), (up.modBuf fun b => { b with pkts := [(0, { bytes := zeros 64, arrived := 64, md := { len := 64 } })], copies := [(0, { pkt := 0, port := 0 })], nextPkt := 1, nextCopy := 1, inj := [(1, [0])] }), by decide, by decide, rfl, by decide, rfl, by decide +kernel, .inl (by decide +kernel), by decide +kernel, by decide +kernel⟩
theorem test_premises_ingressSlotIdle : ∃ (slice ns : Nat) (v w : State) (s : State), (slice < 32) ∧
    (sliceServed s slice = true) ∧
    (w = admitWaiting slice ns (s.arb slice).waiting.length s) ∧
    ((w.arb slice).waiting = []) ∧
    (v = eachDo [3 * slice, 3 * slice + 1, 3 * slice + 2] (arriveUpTo (nowNs w ns)) w) ∧
    (slotsPerBeat v ≤ (v.arb slice).used ∨ (nextOctet v slice = none ∧ nextOther v slice = none)) :=
  ⟨0, 5, (eachDo [0, 1, 2] (arriveUpTo (nowNs up 5)) up), up, up, by decide, by decide, rfl, by decide, rfl, .inr (by decide +kernel)⟩
def heldItem : Waiting := { pkt := 0, mc := false, lost := 0, ports := [192] }
/-- Slice 0 holds a frame whose one crossing queue, on the one plane in service, is full. -/
def heldState : State := modArb 0 (fun a => { a with waiting := [heldItem] }) (up.modBuf fun b => { b with
  planes := [{}, { st := 1 }, { st := 1 }, { st := 1 }], pkts := [(0, { queued := [(1, [Config.crossingCells])] })] })
theorem heldState_held : admissible heldState heldItem = false := by
  have f : crossingFull heldState 0 1 = true := by
    have q : crossingQueue heldState 0 1 = [0 + Config.crossingCells, 0, 0, 0] := rfl
    have p : planesUp heldState = [0] := by decide
    unfold crossingFull; rw [q, p]; simp [nth]
  have e : isExpress heldState (heldState.pkt heldItem.pkt) = false := by decide
  have c : crossesTo 0 192 = true := by decide
  have d : quadOfSlice (egressSlice 192) = 1 := by decide
  unfold admissible
  show (isExpress heldState (heldState.pkt heldItem.pkt) || !([192].any fun p => crossesTo 0 p && crossingFull heldState 0 (quadOfSlice (egressSlice p)))) = false
  rw [e]; simp [c, d, f]
theorem test_premises_ingressSlotHeld : ∃ (slice ns : Nat) (w : State) (s : State), (slice < 32) ∧
    (sliceServed s slice = true) ∧
    (w = admitWaiting slice ns (s.arb slice).waiting.length s) ∧
    ((w.arb slice).waiting.isEmpty = false) :=
  ⟨0, 5, heldState, heldState, by decide, by decide,
    (show admitWaiting 0 5 1 heldState = heldState from if_neg (by rw [heldState_held]; decide)).symm, by decide⟩
theorem test_premises_ingressSlotOff : ∃ (slice ns : Nat) (s : State), (slice < 32) ∧
    (sliceServed s slice = false) :=
  ⟨0, 5, State.reset, by decide, by decide⟩
theorem test_premises_parseResumeWaits : ∃ (pkt arrived ns n : Nat) (s : State), (s.buf.parsing.find pkt = some n) ∧
    (((modPkt pkt (fun k => { k with arrived := max k.arrived (min arrived k.bytes.length) }) s).pkt pkt).arrived < n) :=
  ⟨0, 20, 5, 40, (up.modBuf fun b => { b with pkts := [(0, { bytes := zeros 64, arrived := 16 })], parsing := [(0, 40)] }), by decide, by decide⟩
theorem test_premises_parseResumeRuns : ∃ (pkt arrived ns n : Nat) (s : State), (s.buf.parsing.find pkt = some n) ∧
    (n ≤ ((modPkt pkt (fun k => { k with arrived := max k.arrived (min arrived k.bytes.length) }) s).pkt pkt).arrived) :=
  ⟨0, 64, 5, 40, (up.modBuf fun b => { b with pkts := [(0, { bytes := zeros 64, arrived := 16 })], parsing := [(0, 40)] }), by decide, by decide⟩
theorem test_premises_ipfixFlushTimeout : ∃ (stream slice : Nat) (s : State), (stream < 16) ∧
    (slice < 32) ∧
    ((s.stream stream).kind = 3) ∧
    ((s.builder stream slice).recs ≠ []) ∧
    ((s.builder stream slice).since + (s.stream stream).flush ≤ s.beat) :=
  ⟨2, 0, ((up.modGlb fun g => { g with beat := 1 }).modLantern fun l => { l with streams := [(2, { kind := 3, flush := 1 })], builders := [(64, { recs := [zeros 64] })] }), by decide, by decide, by decide, by decide, by decide⟩
theorem test_premises_ipfixTemplateRefresh : ∃ (stream slice : Nat) (s : State), (stream < 16) ∧
    (slice < 32) ∧
    ((s.stream stream).kind = 3) ∧
    ((s.builder stream slice).tmpl ≠ 0) ∧
    ((s.builder stream slice).tmpl - 1 + (s.stream stream).refresh ≤ s.time.sec) :=
  ⟨2, 0, ((up.modTime fun t => { t with sec := 9 }).modLantern fun l => { l with streams := [(2, { kind := 3, refresh := 1 })], builders := [(64, { tmpl := 1 })] }), by decide, by decide, by decide, by decide, by decide⟩
theorem test_premises_lanternRingWriteServed : ∃ (s : State), (moverTurn s 5 (waitingPorts s 5) = true) :=
  ⟨up, by decide⟩
theorem test_premises_lanternRingWriteHost : ∃ (i : Nat) (bs : Bytes) (l : List (Nat × Bytes)) (s : State), (s.lantern.queue = (i, bs) :: l) ∧
    (((s.modLantern fun q => { q with queue := l }).stream i).kind = 2) ∧
    (((s.modLantern fun q => { q with queue := l }).stream i).dead = false) ∧
    (bmeOf s 0 = true) ∧
    (streamFull ((s.modLantern fun q => { q with queue := l }).stream i) (2 ^ ((s.modLantern fun q => { q with queue := l }).stream i).k) = false) :=
  ⟨2, ([1] ++ zeros 63), [], ((up.modHost fun h => { h with bme := [true, true] }).modLantern fun l => { l with streams := [(2, { kind := 2, k := 12 })], queue := [(2, [1] ++ zeros 63)] }), by decide, by decide, by decide, by decide, by decide⟩
theorem test_premises_lanternRingWriteHostFull : ∃ (i : Nat) (bs : Bytes) (l : List (Nat × Bytes)) (s : State), (s.lantern.queue = (i, bs) :: l) ∧
    (((s.modLantern fun q => { q with queue := l }).stream i).kind = 2) ∧
    (((s.modLantern fun q => { q with queue := l }).stream i).dead = false) ∧
    (bmeOf s 0 = true) ∧
    (streamFull ((s.modLantern fun q => { q with queue := l }).stream i) (2 ^ ((s.modLantern fun q => { q with queue := l }).stream i).k) = true) :=
  ⟨2, ([1] ++ zeros 63), [], ((up.modHost fun h => { h with bme := [true, true] }).modLantern fun l => { l with streams := [(2, { kind := 2, k := 12, stop := true, wr := 4096 })], queue := [(2, [1] ++ zeros 63)] }), by decide, by decide, by decide, by decide, by decide⟩
theorem test_premises_lanternRingWriteDead : ∃ (i : Nat) (bs : Bytes) (l : List (Nat × Bytes)) (s : State), (s.lantern.queue = (i, bs) :: l) ∧
    (((s.modLantern fun q => { q with queue := l }).stream i).kind = 2) ∧
    (((s.modLantern fun q => { q with queue := l }).stream i).dead = true ∨ bmeOf s 0 = false) :=
  ⟨2, ([1] ++ zeros 63), [], (up.modLantern fun l => { l with streams := [(2, { kind := 2, k := 12 })], queue := [(2, [1] ++ zeros 63)] }), by decide, by decide, .inr (by decide)⟩
theorem test_premises_lanternRingWriteGone : ∃ (i : Nat) (bs : Bytes) (l : List (Nat × Bytes)) (s : State), (s.lantern.queue = (i, bs) :: l) ∧
    (((s.modLantern fun q => { q with queue := l }).stream i).kind = 1) ∧
    (rangeLost (s.modLantern fun q => { q with queue := l }) (((s.modLantern fun q => { q with queue := l }).mem.regions.get {} ((s.modLantern fun q => { q with queue := l }).stream i).region).base + ((s.modLantern fun q => { q with queue := l }).stream i).wr % max 1 ((s.modLantern fun q => { q with queue := l }).mem.regions.get {} ((s.modLantern fun q => { q with queue := l }).stream i).region).size) 64 = true) :=
  ⟨2, ([1] ++ zeros 63), [], (up.modLantern fun l => { l with streams := [(2, { kind := 1 })], queue := [(2, [1] ++ zeros 63)] }), by decide, by decide, by decide⟩
theorem test_premises_lanternRingWriteLasFull : ∃ (i : Nat) (bs : Bytes) (l : List (Nat × Bytes)) (s : State), (s.lantern.queue = (i, bs) :: l) ∧
    (((s.modLantern fun q => { q with queue := l }).stream i).kind = 1) ∧
    (rangeLost (s.modLantern fun q => { q with queue := l }) (((s.modLantern fun q => { q with queue := l }).mem.regions.get {} ((s.modLantern fun q => { q with queue := l }).stream i).region).base + ((s.modLantern fun q => { q with queue := l }).stream i).wr % max 1 ((s.modLantern fun q => { q with queue := l }).mem.regions.get {} ((s.modLantern fun q => { q with queue := l }).stream i).region).size) 64 = false) ∧
    (streamFull ((s.modLantern fun q => { q with queue := l }).stream i) ((s.modLantern fun q => { q with queue := l }).mem.regions.get {} ((s.modLantern fun q => { q with queue := l }).stream i).region).size = true) :=
  ⟨2, ([1] ++ zeros 63), [], ((up.modMem fun m => { m with layout := some (false, [0], 0), ports := [(0, { st := 6 })] }).modLantern fun l => { l with streams := [(2, { kind := 1, stop := true })], queue := [(2, [1] ++ zeros 63)] }), by decide, by decide, by decide, by decide⟩
theorem test_premises_lanternRingWriteLas : ∃ (i : Nat) (bs : Bytes) (l : List (Nat × Bytes)) (s : State), (s.lantern.queue = (i, bs) :: l) ∧
    (((s.modLantern fun q => { q with queue := l }).stream i).kind = 1) ∧
    (rangeLost (s.modLantern fun q => { q with queue := l }) (((s.modLantern fun q => { q with queue := l }).mem.regions.get {} ((s.modLantern fun q => { q with queue := l }).stream i).region).base + ((s.modLantern fun q => { q with queue := l }).stream i).wr % max 1 ((s.modLantern fun q => { q with queue := l }).mem.regions.get {} ((s.modLantern fun q => { q with queue := l }).stream i).region).size) 64 = false) ∧
    (streamFull ((s.modLantern fun q => { q with queue := l }).stream i) ((s.modLantern fun q => { q with queue := l }).mem.regions.get {} ((s.modLantern fun q => { q with queue := l }).stream i).region).size = false) :=
  ⟨2, ([1] ++ zeros 63), [], ((up.modMem fun m => { m with layout := some (false, [0], 0), ports := [(0, { st := 6 })] }).modLantern fun l => { l with streams := [(2, { kind := 1 })], queue := [(2, [1] ++ zeros 63)] }), by decide, by decide, by decide, by decide⟩
theorem test_premises_collectorRunStoppedBeat : ∃ (flowOk : Bool) (s : State), (s.boot.pwrgood = true) ∧
    (beatRuns s = false) :=
  ⟨true, (up.modBoot fun b => { b with ethLost := true }), by decide, by decide⟩

theorem test_premises_settings : ∀ k ∈ [0x0403, 0x0404, 0x0407, 0x0408, 0x0706, 0x0801, 0x0803, 0x0808, 0x0903, 0x0A02, 0x0C02, 0x0C03, 0x0D03, 0x0D05, 0x0D06, 0x0F02], ∃ w : Pend, w.kind = k :=
  fun k _ => ⟨{ kind := k }, rfl⟩

theorem test_premises_ternMatch : Nat.land ({ value := 5, mask := 7 } : TernEntry).value ({ value := 5, mask := 7 } : TernEntry).mask = 5 := rfl
theorem test_premises_ternWinner : [(3, ({ prio := 1 } : TernEntry)), (9, { prio := 2 })].Pairwise (fun a b => a.1 < b.1) := by decide
theorem test_premises_ternLookup : ∃ (t : Tables) (l : C4Lookup) (g : TernGroup), t.groups.find l.group = some g :=
  ⟨{ up.tab with groups := [(0, {})] }, { group := 0 }, {}, by decide⟩
theorem test_premises_ternSame : ∃ d e : TernEntry, d.value = e.value ∧ d.mask = e.mask ∧ d.prio = e.prio ∧ d.action = e.action ∧ d.banks = e.banks :=
  ⟨{}, {}, rfl, rfl, rfl, rfl, rfl⟩

theorem test_premises_las : ∃ s : State, 0 < (memUnits s).length ∧ (1024 % 512 = 0 ∧ 511 < 512) :=
  ⟨up.modMem fun m => { m with layout := some (false, [0, 1, 2], 2 ^ 40) }, by decide, by decide⟩

theorem test_premises_lcAdvanceTaken : ∃ s : State, ready 0x0305 trustLcAdvanceSpec 2 s (askedCmd 2 0x0305) = true ∧ s.trust.lc = 1 ∧
    rd (payload s 2) 0 1 = 2 := ⟨asked 2 0x0305 (le 8 2 ++ zeros 8) (up.modTrust fun t => { t with lc := 1 }), by decide, by decide, by decide⟩
theorem test_premises_lcAdvanceOther : ∃ s : State, ready 0x0305 trustLcAdvanceSpec 2 s (askedCmd 2 0x0305) = true ∧
    ¬ (s.trust.lc = 1 ∧ rd (payload s 2) 0 1 = 2) := ⟨asked 2 0x0305 (le 8 2 ++ zeros 8) up, by decide, by decide⟩
theorem test_premises_lcAdvanceKey : ∃ (k : Bytes) (s : State), k = deviceKeyId s ∧ part k 0 0 = [] := ⟨_, up, rfl, rfl⟩

theorem test_premises_maskSet : ready 0x0102 sysEventMaskSpec 2 (asked 2 0x0102 (le 4 16) up) (askedCmd 2 0x0102) = true := by decide
theorem test_premises_masked : ∃ s : State, bit s.evt.mask (0x0401 / 256) = true ∧ 0x0401 / 256 ≠ 1 :=
  ⟨up.modEvt fun v => { v with mask := 16 }, by decide, by decide⟩
theorem test_premises_lostReport : ∃ (s : State) (e : Event) (l : List Event), ringReady s = true ∧ s.evt.held = e :: l ∧ s.evt.lostSince ≠ 0 ∧ s.evt.part = 0 ∧ s.evt.mask = 0xFFFFFFFF :=
  ⟨(up.modHost fun h => { h with bme := [true, true] }).modEvt fun v => { v with size := 64, held := [{}], lostSince := 3, mask := 0xFFFFFFFF }, {}, [], by decide, rfl, by decide, rfl, rfl⟩
theorem test_premises_unmasked : ∃ s : State, bit s.evt.mask (0x0401 / 256) = false ∨ 0x0401 / 256 = 1 := ⟨up, by decide⟩

theorem test_premises_merkleSplit : 2 ^ 1 < [zeros 64, zeros 64, zeros 64].length ∧ [zeros 64, zeros 64, zeros 64].length ≤ 2 ^ 2 := by decide
theorem test_premises_merklePlace : 1 < [zeros 64, zeros 64, zeros 64].length := by decide

theorem test_premises_areaWrite : 15 < 16 ∧ ([7] : Bytes) ≠ [] ∧ 0xFFF + ([7] : Bytes).length ≤ 0x1000 ∧ hostUp up = true ∧ (up.box 15).st ≠ 1 := by decide
theorem test_premises_hostWriteOn : bmeOf (up.modHost fun h => { h with bme := [true, true] }) 1 = true := by decide
theorem test_premises_hostWriteOff : bmeOf up 1 = false := by decide

end Sys2Proof.Machine
end

/-! What a command answers once its operands name things of the device and its guard is decided. -/

namespace Sys2Proof.Machine

/-- A command whose operands name things of the device answers what its meaning answers. -/
theorem need_of {b : Bool} (h : b = true) (what : String) (r : Outc) : need b what r = r := if_pos h

/-- A guarded meaning whose guard holds, where the answer is known. -/
theorem next_whenDo {b : Bool} {f : State → State} {s t : State} (hb : b = true) (h : f s = t) :
    (.next (whenDo b f s) : Outc) = .next t := congrArg _ ((if_pos hb).trans h)

theorem next_of_pos {c : Prop} [Decidable c] (h : c) (s t : State) : (.next (if c then s else t) : Outc) = .next s :=
  congrArg _ (if_pos h)

theorem next_of_neg {c : Prop} [Decidable c] (h : ¬ c) (s t : State) : (.next (if c then s else t) : Outc) = .next t :=
  congrArg _ (if_neg h)

theorem need_next_of_pos {b : Bool} {what : String} {c : Prop} [Decidable c] (hb : b = true) (h : c) (s t : State) :
    need b what (.next (if c then s else t)) = .next s := (need_of hb ..).trans (next_of_pos h ..)

theorem need_next_of_neg {b : Bool} {what : String} {c : Prop} [Decidable c] (hb : b = true) (h : ¬ c) (s t : State) :
    need b what (.next (if c then s else t)) = .next t := (need_of hb ..).trans (next_of_neg h ..)

end Sys2Proof.Machine

/-! What a command answers: a next state, or the one stop that its operands decide (R5, R147, R174, R314,
R382, R399, R498). -/

namespace Sys2Proof.Machine

/-- The outcome is a next state where `ok` holds, and in any case a next state or the stop `noSuchItem`. -/
def DecidedBy (ok : Bool) (o : Outc) : Prop :=
  (ok = true → ∃ t, o = .next t) ∧ ((∃ t, o = .next t) ∨ ∃ what, o = .fault (.noSuchItem what))

theorem decidedBy_next (ok : Bool) (t : State) : DecidedBy ok (.next t) := ⟨fun _ => ⟨t, rfl⟩, .inl ⟨t, rfl⟩⟩

/-- `need` stops on nothing but its own condition. -/
theorem decidedBy_need {ok b : Bool} (what : String) (t : State) (h : ok = true → b = true) :
    DecidedBy ok (need b what (.next t)) := by
  cases b with
  | true => exact decidedBy_next ok t
  | false => exact ⟨fun k => absurd (h k) (by decide), .inr ⟨what, rfl⟩⟩

/-- The units whose numbers a well-formed IDLE_UNIT_GATE may carry are those that may be gated (R478). -/
theorem mem_gateUnits {unit : Nat} :
    unit ∈ gateUnits ↔ unit < 32 ∨ (64 ≤ unit ∧ unit < 68) ∨ unit = 86 ∨ unit = 87 ∨ (96 ≤ unit ∧ unit < 128) := by
  simp only [gateUnits, List.mem_append, List.mem_range, List.mem_cons, List.mem_map, List.not_mem_nil, or_false]
  constructor
  · rintro ((h | h) | ⟨a, h, rfl⟩) <;> omega
  · rintro (h | h | h | h | h)
    · exact .inl (.inl h)
    iterate 3 exact .inl (.inr (by omega))
    · exact .inr ⟨unit - 96, by omega, by omega⟩

/-- The commands of the first group check no operand, and never stop. Those of the second ask for part of
what `WellFormed` asks, or for the same in other words; every other command asks for just that. -/
theorem exec_decidedBy_wellFormed (i : Instr) (s : State) : DecidedBy (WellFormed i) (exec i s) := by
  cases i with
  | beatBoundary | parseResume | egressCutThroughStart | sojournDiscard | ruleDrainComplete | ruleDrainStuck
    | bufAuditComplete | minuteEnd | rollStart | rollFlushDone | rollScanDone | rollTenantDone | rollSignDone
    | lanternRingWrite | ppsOutSecond | ppsOutWidthEnd | pllUnlock | collectorRunStoppedBeat | ittasWdogExpire
    | ittasWdogRestart | wickToggle | pollCycleEnd | mismatchSteerBegin | mismatchContained | coolantLow | coolantStop
    | coolantRestore | unitUngate | hpVersion | hpSummary | hpTmax | hpTmaxSensor | hpPower | hpMeas | hpEst | hpFlow
    | hpFaults | hpExtLevelRead | hpExtLevelWrite | pwrgoodRise | pwrgoodFall | perstNAssert | perstNDeassert
    | bootStageComplete | otherSlotCheck | fwFlashWriteDone | identityCertWrite | handoverStepDone
    | handoverTimerExpire | ittasRestartStart | ittasRestartDone | coreResetStart | emberConfigLoaded | emberSwitch
    | returnPendingExpire | debugTokenShift | eventRingWrite | mbxEvtTailWrite | irqTestWrite | rxFrameDeliver
    | txFrameFetch | filterCommitWrite | flrPf0 | flrPf1 | bmeClearPf0 | bmeClearPf1 | pcieHotReset | glbBeatLoRead
    | hckNsRead | hckTxtsInfoRead | hckTxtsPop | hckStep | hckLock | hckRelease | hckRateWrite | hckRateHiWrite
    | hckTxtsOvfCntRead | pmcSnap | pmcClear | pmcRun | pmcCounterWrite | pmcCycLoRead | pmcSnapBeatLoRead
    | pwrReasonBeatsLoRead | pwrDroopCntRead | mbxEvtLostRead | fltAckWrite | fltClearWrite | fltLogLostRead
    | fltPartnerCntRead | wickStopsRead | pcieLinkTrained => exact decidedBy_next ..
  | pfcFrameReceive | pauseFrameReceive | pauseTimerExpire | ingressSlot | cellArriveResequencer | schedulerDecision
    | transmitComplete | mbxDoorbell | deepDebugOpen =>
    exact decidedBy_need _ _ (by simp +contextual [WellFormed])
  | memPoisonRead _ _ reader => cases reader <;> exact decidedBy_need _ _ (by simp [WellFormed])
  | registerWrite =>
    refine decidedBy_need _ _ ?_
    simp only [WellFormed, Bool.and_eq_true, decide_eq_true_eq]
    exact fun ⟨function, offset⟩ => ⟨by omega, offset⟩
  | droopEpisode => exact decidedBy_need _ _ (by simp +contextual [WellFormed, Nat.lt_succ_iff])
  | idleUnitGate => exact decidedBy_need _ _ (by simp [WellFormed, mem_gateUnits])
  | _ => exact decidedBy_need _ _ id

/-- Settles O2: the only check on operands is `need`, and no command asks more of its operands than `WellFormed`. -/
theorem operandsDecideStops : Obligations.OperandsDecideStops := exec_decidedBy_wellFormed

end Sys2Proof.Machine

/-! Bytes written to a mailbox's request area and by the device to host memory: what reads back, and what else stays
(R13, R399, R400, R416). -/

namespace Sys2Proof.Machine

/-- `m'` is `m` with the bytes written from the address on: they read back, every other byte is as before, and the canonical
form is kept. -/
def WrittenAt (m : Memory) (a : Nat) (bytes : Bytes) (m' : Memory) : Prop :=
  (∀ i < bytes.length, m'.read (a + i) = bytes.getD i 0) ∧
    (∀ c, c < a ∨ a + bytes.length ≤ c → m'.read c = m.read c) ∧ (m.wf = true → m'.wf = true)

theorem writtenAt_writeN (m : Memory) (a : Nat) (bytes : Bytes) : WrittenAt m a bytes (m.writeN a bytes) :=
  ⟨fun i h => by rw [Memory.read_writeN_in m a bytes h, List.getD_eq_getElem?_getD, List.getElem?_eq_getElem h, Option.getD_some],
    fun _ h => Memory.read_writeN_out m a bytes h, Memory.wf_writeN a bytes⟩

theorem onlyChanges_modMbx (f : Mbxs → Mbxs) (s : State) : onlyChanges [.mbx] s (s.modMbx f) := fun p hp => by
  cases p
  case mbx => exact absurd (List.mem_singleton_self _) hp
  all_goals rfl

theorem onlyChanges_modHost (f : HostIf → HostIf) (s : State) : onlyChanges [.host] s (s.modHost f) := fun p hp => by
  cases p
  case host => exact absurd (List.mem_singleton_self _) hp
  all_goals rfl

/-- Bytes that lie in the request area of a mailbox that is not BUSY land there: the offset names that mailbox, and neither
the first nor the last byte is in a response area (R400, R413). -/
theorem areaWrite_request {m o : Nat} {bytes : Bytes} {s : State} (hb : bytes ≠ []) (ho : o + bytes.length ≤ 0x1000)
    (hu : hostUp s = true) (hs : (s.box m).st ≠ 1) :
    areaWrite (0x2000 * m + o) bytes s = s.modMbx fun b => { b with area := b.area.writeN (0x2000 * m + o) bytes } := by
  have hl : 0 < bytes.length := List.length_pos_iff.2 hb
  have box : (0x2000 * m + o) / 0x2000 = m := by omega
  have first : (0x2000 * m + o) / 0x1000 = 2 * m := by omega
  have last : (0x2000 * m + o + bytes.length - 1) / 0x1000 = 2 * m := by omega
  simp [areaWrite, box, first, last, hu, hb, hs]

/-- The bytes of a request-area write lie in the 128 KiB of BAR2. -/
theorem exec_mailboxAreaWrite {m o : Nat} {bytes : Bytes} (hm : m < 16) (ho : o + bytes.length ≤ 0x1000) (s : State) :
    exec (.mailboxAreaWrite (0x2000 * m + o) bytes) s = .next (areaWrite (0x2000 * m + o) bytes s) :=
  if_pos (decide_eq_true (by omega))

theorem hostWrite_on {pf : Nat} {s : State} (h : bmeOf s pf = true) (a : Nat) (bytes : Bytes) :
    hostWrite pf a bytes s = s.modHost fun x => { x with mem := x.mem.writeN a bytes } := if_pos h

theorem hostWrite_off {pf : Nat} {s : State} (h : bmeOf s pf = false) (a : Nat) (bytes : Bytes) :
    hostWrite pf a bytes s = s := if_neg (by simp [h])

/-- Settles O60: both writes are `Memory.writeN` on one part of the state. -/
theorem storedBytesReadBack : Obligations.StoredBytesReadBack := by
  refine ⟨fun m o bytes s hm hb ho hu hs => ?_, fun pf a bytes s h => ?_, fun pf a bytes s h => hostWrite_off h a bytes⟩
  · refine ⟨_, exec_mailboxAreaWrite hm ho s, ?_⟩
    rw [areaWrite_request hb ho hu hs]
    obtain ⟨inside, outside, wf⟩ := writtenAt_writeN s.mbx.area (0x2000 * m + o) bytes
    exact ⟨inside, outside, wf, onlyChanges_modMbx _ s⟩
  · rw [hostWrite_on h]
    obtain ⟨inside, outside, wf⟩ := writtenAt_writeN s.host.mem a bytes
    exact ⟨inside, outside, wf, onlyChanges_modHost _ s⟩

end Sys2Proof.Machine

/-! What each event does of the hardware clock (R352 to R365). -/

namespace Sys2Proof.Machine

theorem modTime_congr {f g : Time → Time} {s : State} (h : f s.time = g s.time) : s.modTime f = s.modTime g :=
  congrArg (fun x => { s with time := x }) h

section
variable {v : Nat} {s : State}

theorem hckCtrlWrite_lock (hs : bit v 0 = false) (hr : bit v 2 = false) (hl : bit v 1 = true) :
    hckCtrlWrite v s = post 0 0x13C00 [1] [] (s.modTime fun t => { t with
      ppsOut := bit v 8, ppsIn := bit v 9, ppsFall := bit v 10, pulse := t.pulse && bit v 8 }) := by
  simp [hckCtrlWrite, whenDo, hs, hr, hl]

theorem hckCtrlWrite_release (hs : bit v 0 = false) (hr : bit v 2 = true) (hl : bit v 1 = false) :
    hckCtrlWrite v s = post 0 0x13C00 [2] [] (s.modTime fun t => { t with
      ppsOut := bit v 8, ppsIn := bit v 9, ppsFall := bit v 10, pulse := t.pulse && bit v 8 }) := by
  simp [hckCtrlWrite, whenDo, hs, hr, hl]

theorem hckCtrlWrite_step (hs : bit v 0 = true) (hr : bit v 2 = false) (hl : bit v 1 = false)
    (hn : s.time.stepNs ≤ 999999999) :
    hckCtrlWrite v s = post 0 0x13C00 ([0] ++ le 6 s.time.stepSec ++ le 4 s.time.stepNs) [] (s.modTime fun t => { t with
      ppsOut := bit v 8, ppsIn := bit v 9, ppsFall := bit v 10, pulse := t.pulse && bit v 8, stepDue := t.stepDue + 1 }) := by
  simp only [hckCtrlWrite, whenDo, hs, hr, hl, Bool.not_true, Bool.false_eq_true, if_false]
  exact if_neg (Nat.not_lt.2 hn)

/-- A step of 10^9 ns or more is refused at once (R353). -/
theorem hckCtrlWrite_stepRefused (hs : bit v 0 = true) (hr : bit v 2 = false) (hl : bit v 1 = false)
    (hn : 999999999 < s.time.stepNs) :
    hckCtrlWrite v s = refuseStep (s.modTime fun t => { t with
      ppsOut := bit v 8, ppsIn := bit v 9, ppsFall := bit v 10, pulse := t.pulse && bit v 8 }) := by
  simp [hckCtrlWrite, whenDo, hs, hr, hl, hn]

end

theorem txtsInfo_cons {e : Txts} {l : List Txts} {s : State} (h : s.time.txts = e :: l) :
    txtsInfo s = 2 ^ 31 + (e.port % 1024) * 65536 + e.id % 65536 := by simp only [txtsInfo, h]

theorem txtsInfo_nil {s : State} (h : s.time.txts = []) : txtsInfo s = 0 := by simp only [txtsInfo, h]

/-- Settles O32: with the guard of its meaning met, each event does what that meaning says. -/
theorem hardwareClockEvents : Obligations.HardwareClockEvents := by
  refine ⟨?lock, ?release, ?step, ?stepRefused, ?rate, ?rateHi, ?ns, ?txtsHead, ?txtsNone, ?pop, ?ovf, ?ppsIn, ?rise, ?fall⟩
  case lock => exact fun _ _ hu hs hr hl => next_whenDo hu (hckCtrlWrite_lock hs hr hl)
  case release => exact fun _ _ hu hs hr hl => next_whenDo hu (hckCtrlWrite_release hs hr hl)
  case step => exact fun _ _ hu hs hr hl hn => next_whenDo hu (hckCtrlWrite_step hs hr hl hn)
  case stepRefused => exact fun _ _ hu hs hr hl hn => next_whenDo hu (hckCtrlWrite_stepRefused hs hr hl hn)
  case rate => exact fun _ _ hu => next_whenDo hu rfl
  case rateHi => exact fun _ _ hu => next_whenDo hu rfl
  case ns => exact fun _ hu => next_whenDo hu rfl
  case txtsHead =>
    intro e l s hu h
    refine next_whenDo hu ?_
    rw [txtsInfo_cons h]
    exact modTime_congr (by simp [readOut, h])
  case txtsNone =>
    intro s hu h
    refine next_whenDo hu ?_
    rw [txtsInfo_nil h]
    exact modTime_congr (g := id) (by simp [readOut, h])
  case pop => exact fun _ hu => next_whenDo hu rfl
  case ovf => exact fun _ hu => next_whenDo hu rfl
  case ppsIn =>
    intro falling ns s hn hg hi hf hb
    exact need_next_of_pos (decide_eq_true hn) (by simpa [hg, hi, hf] using hb) ..
  case rise => exact fun _ hg ho hp hs hd => next_of_pos (by simp [hg, ho, hp, hs, hd]) ..
  case fall => exact fun _ hp hw => next_of_pos (by simpa [hp] using hw) ..

end Sys2Proof.Machine

/-! What each event does of faults, grace timers, WICK and the watchdog (R450 to R467, R514). -/

namespace Sys2Proof.Machine

/-- A detection of a fault leaves the boot component. -/
@[simp] theorem detect_boot (src inst cls : Nat) (detail : Bytes) (s : State) :
    (detect src inst cls detail s).boot = s.boot := by
  unfold detect
  dsimp only
  repeat' split
  all_goals rfl

/-- With power good the owning rule's effect comes first, and tells whether the event is still raised (R450, R451). -/
theorem exec_faultDetect {src inst cls : Nat} {detail : Bytes} {raise : Bool} {s t : State} (hs : src < 448) (hc : cls ≤ 3)
    (hg : s.boot.pwrgood = true) (he : faultEffect src (inst % 2 ^ 32) detail s = (raise, t)) :
    exec (.faultDetect src inst cls detail) s =
      .next (if raise then detect src (inst % 2 ^ 32) (if cls < sourceClass src then 0 else cls) detail t else t) := by
  refine (need_of (by simp [hs, hc]) ..).trans (congrArg _ ?_)
  simp only [hg, he, Bool.not_true, Bool.false_eq_true, if_false]

theorem exec_faultCauseEnd {src : Nat} (hs : src < 448) (inst : Nat) (s : State) :
    exec (.faultCauseEnd src inst) s = .next (faultCauseEnd src (inst % 2 ^ 32) s) := need_of (decide_eq_true hs) ..

/-- Only the ends of PLL_UNLOCK and of a loss of a reference clock do more than end the condition (R514, R522). -/
theorem faultCauseEnd_other {src : Nat} (h : src ≠ 443) (h' : src ≠ 444) (inst : Nat) (s : State) :
    faultCauseEnd src inst s = causeEnd src inst s := by simp [faultCauseEnd, h, h']

/-- Without REFCLK_PCIE a host link that was up goes down, and so does every module's link (R514). -/
theorem refclkLoss_pcie {s : State} (hu : hostUp s = true) :
    refclkLoss 1 s = eachDo (List.range 4) (fun p => memLosing p 16)
      (hotReset (detect 444 1 0 [] (s.modBoot fun b => { b with pcieLost := true }))) := by
  have up : hostUp (detect 444 1 0 [] (s.modBoot fun b => { b with pcieLost := true })) = true := by simpa [hostUp] using hu
  simp only [refclkLoss, Nat.one_ne_zero, beq_iff_eq, if_false, up, if_true]

theorem exec_refclkLoss {inst : Nat} {s : State} (hi : inst < 2) (hg : s.boot.pwrgood = true) :
    exec (.refclkLoss inst) s = .next (refclkLoss inst s) := need_next_of_pos (decide_eq_true hi) hg ..

theorem modWick_congr {f g : Wick → Wick} {s : State} (h : f s.wick = g s.wick) : s.modWick f = s.modWick g :=
  congrArg (fun x => { s with wick := x }) h

/-- While nothing stops it, an armed and running WICK toggles once at a boundary whose number plus one is a multiple of 500
(R465). -/
theorem wickBoundary_toggles {s : State} (hs : wickStopped s = false) (ha : s.wick.armed = true)
    (hb : (s.beat + 1) % 500 = 0) (hl : s.wick.last ≠ s.beat + 1) (hr : s.wick.running = true) :
    wickBoundary s = s.modWick fun w => { w with level := !w.level, running := true, ran := true, last := s.beat + 1 } := by
  have stays : wickStop s = s := by simp [wickStop, hs]
  rw [wickBoundary, stays, wickToggle, if_neg (by simp [hb, hl, ha, hs])]
  exact (if_neg (by simp [hr])).trans (modWick_congr (by simp only [hr, if_true]))

/-- A stopping condition drives a running WICK low, and it is told and counted (R465). -/
theorem wickStop_running {s : State} (hs : wickStopped s = true) (hr : s.wick.running = true) :
    wickStop s = raiseEvent 0x0E05 (le 1 1 ++ le 1 (b2n (fatalStops s) + 2 * b2n s.wick.expired)) (s.modWick fun w => { w with
      level := false, running := false, stops := satAdd 32 w.stops 1, stopBeat := s.beat }) := by
  simp [wickStop, hs, hr]

/-- Settles O35: with its operand and guard met, each event is its meaning; the phases at a boundary by their equations. -/
theorem faultEventsAndWick : Obligations.FaultEventsAndWick := by
  refine ⟨?raised, ?effectOnly, ?causeEnd, ?pllBack, ?ethBack, ?pcieBack, ?pll, ?ethLost, ?pcieLost, ?grace, ?timers,
    ?wickPosted, ?toggles, ?stops, ?wdogExpires, ?wdogRestarts, ?ack, ?clear, ?force, ?logLost, ?partnerCnt, ?wickStops⟩
  case raised => exact fun _ _ _ _ _ _ hs hc hg he => exec_faultDetect hs hc hg he
  case effectOnly => exact fun _ _ _ _ _ _ hs hc hg he => exec_faultDetect hs hc hg he
  case causeEnd => exact fun _ _ _ hs h h' => (exec_faultCauseEnd hs ..).trans (congrArg _ (faultCauseEnd_other h h' ..))
  case pllBack => exact fun s => exec_faultCauseEnd (by decide) 0 s
  case ethBack => exact fun s => exec_faultCauseEnd (by decide) 0 s
  case pcieBack => exact fun s => exec_faultCauseEnd (by decide) 1 s
  case pll => exact fun _ _ hg => next_of_pos hg ..
  case ethLost => exact fun _ hg => exec_refclkLoss (by decide) hg
  case pcieLost => exact fun _ hg hu => (exec_refclkLoss (by decide) hg).trans (congrArg _ (refclkLoss_pcie hu))
  case grace => exact fun _ _ hs => need_of (decide_eq_true hs) ..
  case timers => exact fun _ => rfl
  case wickPosted => exact fun _ => rfl
  case toggles => exact fun _ hs ha hb hl hr => wickBoundary_toggles hs ha hb hl hr
  case stops => exact fun _ hs hr => congrArg wickToggle (wickStop_running hs hr)
  case wdogExpires => exact fun _ ha he hf hk => next_of_pos (by simp [ha, he, hf, hk]) ..
  case wdogRestarts => exact fun _ ha he hi hh => next_of_pos (by simp [ha, he, hi, hh]) ..
  case ack => exact fun _ _ hu => next_of_pos hu ..
  case clear => exact fun _ _ hu => next_of_pos hu ..
  case force => exact fun _ _ _ hn hu => need_next_of_pos (decide_eq_true hn) hu ..
  case logLost => exact fun _ hu => next_of_pos hu ..
  case partnerCnt => exact fun _ hu => next_of_pos hu ..
  case wickStops => exact fun _ hu => next_of_pos hu ..

end Sys2Proof.Machine

/-! What each event does of the regulators, sensors, droop, coolant and gating (R34, R470 to R482, R485). -/

namespace Sys2Proof.Machine

theorem exec_pmbusTransaction_turn {reg : Nat} {cmd : PmbusCmd} {s : State} (hr : reg < 8) (ht : pollTurn s reg cmd = true)
    (ok : Bool) (value : Nat) :
    exec (.pmbusTransaction reg cmd ok value) s = .next (pmbusDone reg cmd ok value (takeTurn cmd s)) :=
  need_next_of_pos (decide_eq_true hr) ht ..

section
variable {reg : Nat} {s : State}

/-- A regulator with an address is spoken to from boot stage 3 on. -/
theorem pmbusDone_guard (ha : (regOf s reg).addr ≠ 0) (hs : 3 ≤ s.boot.stage) :
    ((regOf s reg).addr == 0 || decide (s.boot.stage < 3)) ≠ true := by simp [ha, Nat.not_lt.2 hs]

theorem pmbusDone_ok (ha : (regOf s reg).addr ≠ 0) (hs : 3 ≤ s.boot.stage) (cmd : PmbusCmd) (value : Nat) :
    pmbusDone reg cmd true value s = tellRegulator reg (causeFor s 442 reg, causeFor s 441 reg) (regRead reg cmd value
      (causeEnd 442 reg (modReg reg (fun r => { r with fails := 0, responding := true }) s))) :=
  if_neg (pmbusDone_guard ha hs)

/-- A transaction that fails counts, and the third in a row is detected (R472). -/
theorem pmbusDone_failed (ha : (regOf s reg).addr ≠ 0) (hs : 3 ≤ s.boot.stage) (cmd : PmbusCmd) (value : Nat) :
    pmbusDone reg cmd false value s =
      let t := modReg reg (fun r => { r with fails := min 3 (r.fails + 1), responding := false }) s
      tellRegulator reg (causeFor s 442 reg, causeFor s 441 reg)
        (if (regOf t reg).fails = 3 then detect 442 reg 0 [] t else t) :=
  if_neg (pmbusDone_guard ha hs)

end

/-- The second slot-3 turn of an alert reads STATUS_WORD (R471; log entry 175). -/
theorem slotThreeEnd_second {s : State} {reg status : Nat} {rest : List (Nat × Nat × Nat)}
    (h : s.power.alerts = (1, reg, status) :: rest) :
    slotThreeEnd s = pmbusDone reg .statusWord true status (s.modPower fun p => { p with polled := 0, alerts := rest }) := by
  simp [slotThreeEnd, h]

section
variable {sensor : Nat} {reading : Int} {s : State}

theorem exec_sensorConversion (hi : sensor < 64) (hg : s.boot.pwrgood = true) :
    exec (.sensorConversion sensor reading) s = .next (sensorConverts sensor reading s) :=
  need_next_of_pos (decide_eq_true hi) hg ..

/-- At or above the trip and within the range. -/
theorem sensorConverts_trip (hl : 2160 ≤ reading) (hh : reading ≤ 2720) :
    sensorConverts sensor reading s = thermalCross (excludeSensor sensor false
      (detect 437 sensor 0 [] (modSensor sensor (fun x => { x with val := some reading, beat := s.beat }) s))) := by
  simp [sensorConverts, hl, show ¬ reading < -1120 by omega, Int.not_lt.2 hh]

/-- Below the trip and within the range. -/
theorem sensorConverts_normal (hl : -1120 ≤ reading) (hh : reading < 2160) :
    sensorConverts sensor reading s = thermalCross (excludeSensor sensor false
      (causeEnd 437 sensor (modSensor sensor (fun x => { x with val := some reading, beat := s.beat }) s))) := by
  simp [sensorConverts, Int.not_le.2 hh, Int.not_lt.2 hl, show ¬ 2720 < reading by omega]

/-- Below the range. -/
theorem sensorConverts_low (hl : reading < -1120) :
    sensorConverts sensor reading s = thermalCross (excludeSensor sensor true
      (causeEnd 437 sensor (modSensor sensor (fun x => { x with val := some reading, beat := s.beat }) s))) := by
  simp [sensorConverts, hl, show ¬ 2160 ≤ reading by omega]

end

/-- Settles O34: with its operand and guard met, each event is its meaning; the poll cycle by its equations. -/
theorem dimmerEvents : Obligations.DimmerEvents := by
  refine ⟨?read, ?thirdFailure, ?failure, ?outOfTurn, ?alert, ?alertUnnamed, ?alertRead, ?steer, ?contained, ?pollPosted,
    ?pollStopped, ?pollBoundary, ?pollEnd, ?trip, ?normal, ?low, ?stale, ?droop, ?droopEarly, ?coolantLow, ?coolantStop,
    ?coolantRestore, ?gate, ?ungate, ?stayGated, ?reasonBeats, ?droopCnt⟩
  case read =>
    rintro reg value cmd _ s hr ht rfl ha hs
    exact (exec_pmbusTransaction_turn hr ht ..).trans (congrArg _ (pmbusDone_ok ha hs ..))
  case thirdFailure =>
    rintro reg value cmd _ s hr ht rfl ha hs hf
    refine (exec_pmbusTransaction_turn hr ht ..).trans (congrArg _ ((pmbusDone_failed ha hs ..).trans ?_))
    exact congrArg (tellRegulator _ _) (if_pos hf)
  case failure =>
    rintro reg value cmd _ s hr ht rfl ha hs hf
    refine (exec_pmbusTransaction_turn hr ht ..).trans (congrArg _ ((pmbusDone_failed ha hs ..).trans ?_))
    exact congrArg (tellRegulator _ _) (if_neg hf)
  case outOfTurn =>
    exact fun _ _ _ _ _ hr ht => need_next_of_neg (decide_eq_true hr) (by simp [ht]) ..
  case alert => exact fun _ _ _ hr ha => need_next_of_pos (decide_eq_true hr) (by simp [ha]) ..
  case alertUnnamed => exact fun _ _ _ hr ha => need_next_of_neg (decide_eq_true hr) (by simp [ha]) ..
  case alertRead => exact fun _ _ _ _ h => slotThreeEnd_second h
  case steer => exact fun _ he ho hm => next_of_pos (by simp [he, ho, hm]) ..
  case contained => exact fun _ hm hc ho => next_of_pos (by simp [hm, hc, ho]) ..
  case pollPosted => exact fun _ hb => next_of_neg (by simp [hb]) ..
  case pollStopped => exact fun _ hg hb => next_of_pos (by simp [hg, hb]) ..
  case pollBoundary => exact fun _ h => if_pos h
  case pollEnd =>
    rintro _ _ s rfl rfl
    rfl
  case trip => exact fun _ _ _ hi hg hl hh => (exec_sensorConversion hi hg).trans (congrArg _ (sensorConverts_trip hl hh))
  case normal => exact fun _ _ _ hi hg hl hh => (exec_sensorConversion hi hg).trans (congrArg _ (sensorConverts_normal hl hh))
  case low => exact fun _ _ _ hi hg hl => (exec_sensorConversion hi hg).trans (congrArg _ (sensorConverts_low hl))
  case stale => exact fun _ _ hi ho hb => need_next_of_pos (decide_eq_true hi) (by simp [ho, hb]) ..
  case droop => exact fun _ _ _ hc hn hb hd => need_next_of_pos (by simp [hc, hn]) (by simp [hb, hd]) ..
  case droopEarly => exact fun _ _ _ hc hn hd => need_next_of_neg (by simp [hc, hn]) (by simp [hd]) ..
  case coolantLow => exact fun _ hl hc => next_of_pos (by simp [hl, hc]) ..
  case coolantStop => exact fun _ hl hc => next_of_pos (by simp [hl, hc]) ..
  case coolantRestore => exact fun _ hh hc => next_of_pos (by simp [hh, hc]) ..
  case gate =>
    exact fun _ _ hu ho hi hb hg => need_next_of_pos (List.contains_iff_mem.2 hu) (by simp [ho, hi, hb, hg]) ..
  case ungate => exact fun _ _ h => next_of_neg (by simp [h]) ..
  case stayGated => exact fun _ _ h => next_of_pos h ..
  case reasonBeats => exact fun _ hu => next_of_pos hu ..
  case droopCnt => exact fun _ hu => next_of_pos hu ..

end Sys2Proof.Machine

/-! What one command does to the beat counter and to the Dimmer: a boundary counts and moves the Dimmer by a step, a reset
sets them to 0, and every other command changes the state mildly (R35, R36, R475, R477). -/

namespace Sys2Proof.Machine

/-- A command of the opcode index changes the state mildly. -/
theorem omild_indexed {op : Nat} {sp : CmdSpec} (k : specOf op = some sp) (m : Nat) (h : HostAnswer) (s : State) :
    OMild s (acceptAs op sp m h s) := omild_acceptAs op sp m h s (specOf_mild op sp k)

/-- Every command but the boundary and the resets changes the state mildly: the mailbox commands by the opcode index, each
other command by its own law. -/
theorem exec_mild (i : Instr) (s : State) (hb : ∀ inp, i ≠ .beatBoundary inp) (hr : ¬ mayReset i) : OMild s (exec i s) := by
  cases i with
  | beatBoundary inp => exact absurd rfl (hb inp)
  | pwrgoodFall => exact absurd (.inl rfl) hr
  | coreResetStart => exact absurd (.inr (.inl rfl)) hr
  | perstNAssert => exact absurd (.inr (.inr (.inl rfl))) hr
  | ittasRestartStart measured => exact absurd (.inr (.inr (.inr ⟨measured, rfl⟩))) hr
  | sysEventRing | sysEventMask | sysInfo | sysStatus | sysReset | sysBootLog | fwStatus | fwStage | fwVerify |
    fwActivate | fwAbort | trustIdentity | trustProvision | trustAttest | trustLcStatus | trustLcAdvance | trustReturn
    | trustConsent | portCreate | portDelete | portAdmin | portConfig | portStatus | portStats | portPfcConfig |
    portPreemptConfig | portFlush | laneConfig | laneEnable | laneDisable | laneStatus | laneGetCoeff | laneSetCoeff |
    laneRetrain | laneLoopback | lanePrbs | laneEye | laneCounters | laneTrainLog | laneQuietTlv | laneQuietPeer |
    laneQuietConfig | ruleOpen | ruleLoad | ruleCommit | ruleAbort | ruleRevert | ruleStatus | ruleHashProbe |
    ruleParseStats | tableConfig | tableInsert | tableDelete | tableRead | tableFlush | tableLearnConfig |
    tableLearnStatus | tableNotifyRing | tableStats | tableNhStatus | tableTernGroup | tableTernWrite | tableTernMove
    | tableTernBlockMove | tableTernRead | tableTernStatus | tableTernStats | tableAutoLoad | tableAutoStatus |
    tableAutoStats | tableAutoRepair | tmConfig | tmSched | tmShaper | tmPolicerWrite | tmPolicerRead | tmGateList |
    tmGateStatus | tmMaxSdu | tmQueueStats | tmSampleRing | bufPoolConfig | bufPoolMap | bufHeadroom | bufStatus |
    bufStats | bufMcWrite | bufMcRead | bufFabricStatus | bufPlaneAdmin | bufReseqStats | bufAudit | bufMirror |
    ledgerConfig | ledgerPolicy | ledgerRings | ledgerKeyCreate | ledgerStart | ledgerStop | ledgerStatus |
    ledgerSealGet | ledgerTenantGet | ledgerFlowGet | ledgerStats | memStatus | memLayout | memRegion | memOnline |
    memOffline | memRebuildRate | memCapture | memCaptureAck | memStats | lanternStream | lanternPort | lanternTrigger
    | lanternTenant | lanternIpfix | lanternAck | lanternStats | lanternPmcDump | timeStatus | timeStep | timeRate |
    timeState | timePortDelay | timePortPtp | timePps | timeSynce | timeTxtsRead | faultStatus | faultAck | faultClear
    | faultForce | faultLog | faultConfig | powerStatus | powerCap | powerConfig | powerReasons | powerSensors |
    sliceStatus | sliceTakeover | sliceRelease | sliceSelfCheck | diagEcho | diagDelay | diagProtoLog =>
    exact omild_indexed rfl ..
  | frameReceive => exact omild_execFrameReceive ..
  | pfcFrameReceive => exact omild_execPfcFrameReceive ..
  | pauseFrameReceive => exact omild_execPauseFrameReceive ..
  | pauseTimerExpire => exact omild_execPauseTimerExpire ..
  | pfcFrameSend => exact omild_execPfcFrameSend ..
  | pfcResend => exact omild_execPfcResend ..
  | pfcWatchdogTrip => exact omild_execPfcWatchdogTrip ..
  | pfcWatchdogRestore => exact omild_execPfcWatchdogRestore ..
  | mmVerifyResponse => exact omild_execMmVerifyResponse ..
  | mmVerifyTimeout => exact omild_execMmVerifyTimeout ..
  | ingressSlot => exact omild_execIngressSlot ..
  | parseResume => exact omild_execParseResume ..
  | cellArriveResequencer => exact omild_execCellArriveResequencer ..
  | reseqSkipTimeout => exact omild_execReseqSkipTimeout ..
  | crossingCellCrcFail => exact omild_execCrossingCellCrcFail ..
  | xbarPlaneFail => exact omild_execXbarPlaneFail ..
  | egressCutThroughStart => exact omild_execEgressCutThroughStart ..
  | schedulerDecision => exact omild_execSchedulerDecision ..
  | transmitComplete => exact omild_execTransmitComplete ..
  | sojournDiscard => exact omild_execSojournDiscard ..
  | holdSojournDrop => exact omild_execHoldSojournDrop ..
  | holdWindowExpire => exact omild_execHoldWindowExpire ..
  | gateEvent => exact omild_execGateEvent ..
  | gateConfigChange => exact omild_execGateConfigChange ..
  | laneEnergyDetect => exact omild_execLaneEnergyDetect ..
  | anResolved => exact omild_execAnResolved ..
  | partnerTrainingRequest => exact omild_execPartnerTrainingRequest ..
  | trainReceiverReady => exact omild_execTrainReceiverReady ..
  | laneLockAchieved => exact omild_execLaneLockAchieved ..
  | capexComplete => exact omild_execCapexComplete ..
  | trainingLimitExpire => exact omild_execTrainingLimitExpire ..
  | lockLimitExpire => exact omild_execLockLimitExpire ..
  | capabilityLimitExpire => exact omild_execCapabilityLimitExpire ..
  | blindLimitExpire => exact omild_execBlindLimitExpire ..
  | relinkWindowExpire => exact omild_execRelinkWindowExpire ..
  | relinkLimitExpire => exact omild_execRelinkLimitExpire ..
  | retryBackoffExpire => exact omild_execRetryBackoffExpire ..
  | losDetect => exact omild_execLosDetect ..
  | cdrLockLoss => exact omild_execCdrLockLoss ..
  | fecAlignLoss => exact omild_execFecAlignLoss ..
  | hiSer => exact omild_execHiSer ..
  | rsFaultReceive => exact omild_execRsFaultReceive ..
  | partnerTrainingSeen => exact omild_execPartnerTrainingSeen ..
  | knownGoodStore => exact omild_execKnownGoodStore ..
  | quietIdleThreshold => exact omild_execQuietIdleThreshold ..
  | quietWake => exact omild_execQuietWake ..
  | quietWakeComplete => exact omild_execQuietWakeComplete ..
  | quietRefresh => exact omild_execQuietRefresh ..
  | partnerQuietSignal => exact omild_execPartnerQuietSignal ..
  | quietRefreshMiss => exact omild_execQuietRefreshMiss ..
  | eeeLpiReceive => exact omild_execEeeLpiReceive ..
  | ageingVisit => exact omild_execAgeingVisit ..
  | flapRelease => exact omild_execFlapRelease ..
  | flapWindowEnd => exact omild_execFlapWindowEnd ..
  | nhQuarantineEnd => exact omild_execNhQuarantineEnd ..
  | tdcLockTimeout => exact omild_execTdcLockTimeout ..
  | tdcDone => exact omild_execTdcDone ..
  | tdcHostError => exact omild_execTdcHostError ..
  | deferredLearnRelease => exact omild_execDeferredLearnRelease ..
  | ternBlockMoveDone => exact omild_execTernBlockMoveDone ..
  | ruleDrainComplete => exact omild_execRuleDrainComplete ..
  | ruleDrainStuck => exact omild_execRuleDrainStuck ..
  | bufAuditComplete => exact omild_execBufAuditComplete ..
  | minuteEnd => exact omild_execMinuteEnd ..
  | rollStart => exact omild_execRollStart ..
  | rollFlushDone => exact omild_execRollFlushDone ..
  | rollScanDone => exact omild_execRollScanDone ..
  | rollTenantDone => exact omild_execRollTenantDone ..
  | rollSignDone => exact omild_execRollSignDone ..
  | flushRequestApply => exact omild_execFlushRequestApply ..
  | memPresenceStable => exact omild_execMemPresenceStable ..
  | memPerstRelease => exact omild_execMemPerstRelease ..
  | memLinkL0 => exact omild_execMemLinkL0 ..
  | memTrainingTimeout => exact omild_execMemTrainingTimeout ..
  | memEnumerationDone => exact omild_execMemEnumerationDone ..
  | memLinkDown => exact omild_execMemLinkDown ..
  | memPresenceLost => exact omild_execMemPresenceLost ..
  | memRequestTimeout => exact omild_execMemRequestTimeout ..
  | memPoisonRead => exact omild_execMemPoisonRead ..
  | memBadCompletion => exact omild_execMemBadCompletion ..
  | memHealthRecord => exact omild_execMemHealthRecord ..
  | memOfflineReached => exact omild_execMemOfflineReached ..
  | resilverComplete => exact omild_execResilverComplete ..
  | zeroingComplete => exact omild_execZeroingComplete ..
  | moverChainDone => exact omild_execMoverChainDone ..
  | moverDescriptor => exact omild_execMoverDescriptor ..
  | moverChannelStop => exact omild_execMoverChannelStop ..
  | captureRecordWrite => exact omild_execCaptureRecordWrite ..
  | lanternRingWrite => exact omild_execLanternRingWrite ..
  | ipfixFlushTimeout => exact omild_execIpfixFlushTimeout ..
  | ipfixTemplateRefresh => exact omild_execIpfixTemplateRefresh ..
  | ppsInEdge => exact omild_execPpsInEdge ..
  | ppsOutSecond => exact omild_execPpsOutSecond ..
  | ppsOutWidthEnd => exact omild_execPpsOutWidthEnd ..
  | refclkLoss => exact omild_execRefclkLoss ..
  | pllUnlock => exact omild_execPllUnlock ..
  | collectorRunStoppedBeat => exact omild_execCollectorRunStoppedBeat ..
  | faultDetect => exact omild_execFaultDetect ..
  | faultCauseEnd => exact omild_execFaultCauseEnd ..
  | graceTimerExpire => exact omild_execGraceTimerExpire ..
  | ittasWdogExpire => exact omild_execIttasWdogExpire ..
  | ittasWdogRestart => exact omild_execIttasWdogRestart ..
  | wickToggle => exact omild_execWickToggle ..
  | pollCycleEnd => exact omild_execPollCycleEnd ..
  | pmbusTransaction => exact omild_execPmbusTransaction ..
  | pmbAlert => exact omild_execPmbAlert ..
  | mismatchSteerBegin => exact omild_execMismatchSteerBegin ..
  | mismatchContained => exact omild_execMismatchContained ..
  | sensorConversion => exact omild_execSensorConversion ..
  | sensorStale => exact omild_execSensorStale ..
  | droopEpisode => exact omild_execDroopEpisode ..
  | coolantLow => exact omild_execCoolantLow ..
  | coolantStop => exact omild_execCoolantStop ..
  | coolantRestore => exact omild_execCoolantRestore ..
  | idleUnitGate => exact omild_execIdleUnitGate ..
  | unitUngate => exact omild_execUnitUngate ..
  | hpVersion => exact omild_execHpVersion ..
  | hpSummary => exact omild_execHpSummary ..
  | hpTmax => exact omild_execHpTmax ..
  | hpTmaxSensor => exact omild_execHpTmaxSensor ..
  | hpPower => exact omild_execHpPower ..
  | hpMeas => exact omild_execHpMeas ..
  | hpEst => exact omild_execHpEst ..
  | hpFlow => exact omild_execHpFlow ..
  | hpFaults => exact omild_execHpFaults ..
  | hpSensor => exact omild_execHpSensor ..
  | hpExtLevelRead => exact omild_execHpExtLevelRead ..
  | hpExtLevelWrite => exact omild_execHpExtLevelWrite ..
  | pwrgoodRise => exact omild_execPwrgoodRise ..
  | perstNDeassert => exact omild_execPerstNDeassert ..
  | bootStageComplete => exact omild_execBootStageComplete ..
  | otherSlotCheck => exact omild_execOtherSlotCheck ..
  | fwFlashWriteDone => exact omild_execFwFlashWriteDone ..
  | identityCertWrite => exact omild_execIdentityCertWrite ..
  | handoverStepDone => exact omild_execHandoverStepDone ..
  | handoverTimerExpire => exact omild_execHandoverTimerExpire ..
  | ittasRestartDone => exact omild_execIttasRestartDone ..
  | emberConfigLoaded => exact omild_execEmberConfigLoaded ..
  | emberSwitch => exact omild_execEmberSwitch ..
  | selfCheckDone => exact omild_execSelfCheckDone ..
  | returnPendingExpire => exact omild_execReturnPendingExpire ..
  | debugTokenShift => exact omild_execDebugTokenShift ..
  | registerWrite => exact omild_execRegisterWrite ..
  | mailboxAreaWrite => exact omild_execMailboxAreaWrite ..
  | mbxDoorbell => exact omild_execMbxDoorbell ..
  | commandAccept => exact omild_execCommandAccept ..
  | responsePost => exact omild_execResponsePost ..
  | mbxGuardExpire => exact omild_execMbxGuardExpire ..
  | eventRingWrite => exact omild_execEventRingWrite ..
  | mbxEvtTailWrite => exact omild_execMbxEvtTailWrite ..
  | msixMessage => exact omild_execMsixMessage ..
  | irqTestWrite => exact omild_execIrqTestWrite ..
  | hrqTailWrite => exact omild_execHrqTailWrite ..
  | hrqReset => exact omild_execHrqReset ..
  | hrqEnable => exact omild_execHrqEnable ..
  | rxFrameDeliver => exact omild_execRxFrameDeliver ..
  | txFrameFetch => exact omild_execTxFrameFetch ..
  | hrqInterruptInterval => exact omild_execHrqInterruptInterval ..
  | hostReadFail => exact omild_execHostReadFail ..
  | filterCommitWrite => exact omild_execFilterCommitWrite ..
  | queueStatFoldWrite => exact omild_execQueueStatFoldWrite ..
  | flrPf0 => exact omild_execFlrPf0 ..
  | flrPf1 => exact omild_execFlrPf1 ..
  | bmeClearPf0 => exact omild_execBmeClearPf0 ..
  | bmeClearPf1 => exact omild_execBmeClearPf1 ..
  | bmeSet => exact omild_execBmeSet ..
  | pcieHotReset => exact omild_execPcieHotReset ..
  | glbBeatLoRead => exact omild_execGlbBeatLoRead ..
  | hckNsRead => exact omild_execHckNsRead ..
  | hckTxtsInfoRead => exact omild_execHckTxtsInfoRead ..
  | hckTxtsPop => exact omild_execHckTxtsPop ..
  | hckStep => exact omild_execHckStep ..
  | hckLock => exact omild_execHckLock ..
  | hckRelease => exact omild_execHckRelease ..
  | hckRateWrite => exact omild_execHckRateWrite ..
  | hckRateHiWrite => exact omild_execHckRateHiWrite ..
  | hckTxtsOvfCntRead => exact omild_execHckTxtsOvfCntRead ..
  | pmcSnap => exact omild_execPmcSnap ..
  | pmcClear => exact omild_execPmcClear ..
  | pmcRun => exact omild_execPmcRun ..
  | pmcCounterWrite => exact omild_execPmcCounterWrite ..
  | pmcCycLoRead => exact omild_execPmcCycLoRead ..
  | pmcSnapBeatLoRead => exact omild_execPmcSnapBeatLoRead ..
  | pmcCounterWrap => exact omild_execPmcCounterWrap ..
  | pwrReasonBeatsLoRead => exact omild_execPwrReasonBeatsLoRead ..
  | pwrDroopCntRead => exact omild_execPwrDroopCntRead ..
  | tdcGo => exact omild_execTdcGo ..
  | tdcAbort => exact omild_execTdcAbort ..
  | tdcLockClear => exact omild_execTdcLockClear ..
  | xdcGo => exact omild_execXdcGo ..
  | xdcAbort => exact omild_execXdcAbort ..
  | mbxOverrunCntRead => exact omild_execMbxOverrunCntRead ..
  | mbxLateCntRead => exact omild_execMbxLateCntRead ..
  | mbxEvtLostRead => exact omild_execMbxEvtLostRead ..
  | fltAckWrite => exact omild_execFltAckWrite ..
  | fltClearWrite => exact omild_execFltClearWrite ..
  | fltForceWrite => exact omild_execFltForceWrite ..
  | fltLogLostRead => exact omild_execFltLogLostRead ..
  | fltPartnerCntRead => exact omild_execFltPartnerCntRead ..
  | wickStopsRead => exact omild_execWickStopsRead ..
  | deepDebugOpen => exact omild_execDeepDebugOpen ..
  | memViralIndication => exact omild_execMemViralIndication ..
  | pciePartnerViolation => exact omild_execPciePartnerViolation ..
  | xbarPlaneRetrained => exact omild_execXbarPlaneRetrained ..
  | pcieLinkTrained => exact omild_execPcieLinkTrained ..
  | mbxRespValidClear => exact omild_execMbxRespValidClear ..
  | xdcErrorClear => exact omild_execXdcErrorClear ..
  | halfRangeFold => exact omild_execHalfRangeFold ..
  | eeeLpiTransmit => exact omild_execEeeLpiTransmit ..

/-- A reset changes the state mildly, where it does not come about, or wipes it. -/
theorem exec_reset {i : Instr} (hr : mayReset i) {s t : State} (h : exec i s = .next t) : MildOrWiped s t := by
  rcases hr with rfl | rfl | rfl | ⟨measured, rfl⟩ <;> cases h
  · split
    · exact .inr (wiped_pwrgoodFall s)
    · exact .inl (Mild.refl s)
  · split
    · exact .inr (wiped_coreReset _ s)
    · exact .inl (Mild.refl s)
  · exact mow_perstAssert s
  · exact mow_ittasRestart measured s

/-- What every command but the boundary can do: a mild change, or, where it is a reset, a wipe. -/
theorem exec_mild_or_wiped {i : Instr} (hb : ∀ inp, i ≠ .beatBoundary inp) {s t : State} (h : exec i s = .next t) :
    Mild s t ∨ (Wiped s t ∧ mayReset i) := by
  by_cases hr : mayReset i
  · exact (exec_reset hr h).imp_right fun w => ⟨w, hr⟩
  · exact .inl (omild_next (exec_mild i s hb hr) h)

theorem exec_beatBoundary_runs (inp : BeatInput) {s : State} (h : beatRuns s = true) :
    exec (.beatBoundary inp) s = .next (beatBoundary inp s) := next_of_pos h ..

/-- While the beat is stopped, at most the reference passes (log entry 163). -/
theorem exec_beatBoundary_stopped (inp : BeatInput) {s : State} (h : beatRuns s = false) :
    ∃ t, exec (.beatBoundary inp) s = .next t ∧ Mild s t := by
  refine ⟨_, next_of_neg (by simp [h]) .., ?_⟩
  split
  · exact mild_of_kept (keep_microsecond s)
  · exact Mild.refl s

/-- Settles O7: the boundary's last phase counts, and nothing else but a reset moves the counter. -/
theorem beatCounterCountsBoundaries : Obligations.BeatCounterCountsBoundaries := by
  refine ⟨fun inp s h => ?runs, fun inp s h => ?stopped, fun s hd ht hp => ?reset, fun i s t hb h => ?other⟩
  case runs => exact ⟨_, exec_beatBoundary_runs inp h, (beatBoundary_step inp s).1⟩
  case stopped =>
    obtain ⟨t, e, m⟩ := exec_beatBoundary_stopped inp h
    exact ⟨t, e, m.beat⟩
  case reset => exact ⟨_, next_of_pos (by simp only [hd, ht, hp]; decide) .., (wiped_coreReset _ s).beat, rfl⟩
  case other => exact (exec_mild_or_wiped hb h).imp Mild.beat fun ⟨w, hr⟩ => ⟨w.beat, hr⟩

/-- Settles O9: P10 of the boundary moves the Dimmer by one step at most, and nothing else but a reset moves it. -/
theorem dimmerMovesByOneStep : Obligations.DimmerMovesByOneStep := by
  refine ⟨fun inp s h => ?boundary, fun i s t hb h => ?other⟩
  case boundary =>
    obtain ⟨_, _, _, step, _⟩ := beatBoundary_step inp s
    exact ⟨_, exec_beatBoundary_runs inp h, step.up, step.down, step.clkUp, step.clkDown⟩
  case other =>
    refine (exec_mild_or_wiped hb h).imp (fun m => ⟨m.level, m.clk⟩) fun ⟨w, hr⟩ => ?_
    rw [w.power]
    exact ⟨rfl, rfl, hr⟩

end Sys2Proof.Machine

/-! What a mailbox command that passes its checks does: the shapes that checks take (R406, R410), and the PORT, RULE and TABLE
services. -/

namespace Sys2Proof.Machine

/-- A ready command whose checks pass is accepted with its effect; its payload stands under its own name. -/
theorem acceptAs_run {op : Nat} {sp : CmdSpec} {m : Nat} {s t : State} {c : Cmd} {p : Bytes} {a : HostAnswer}
    {reply : Option (Nat × Bytes)} (h : ready op sp m s c = true) (e : p = payload s m)
    (k : sp.run c p a s = .accept t reply) : acceptAs op sp m a s = .next (afterAccept c t reply) :=
  acceptAs_ready h (e ▸ k)

/-- A condition that must not hold, and does not, goes on. -/
theorem require_not {b : Bool} {n : Nat} {v : Verdict} (h : b = false) : require (!b) n v = v := require_ok (by rw [h]; rfl)

/-- A request that names at least one quadrant goes on (R147). -/
theorem manyQuads_ok {p : Bytes} {v : Verdict} (h0 : rd p 0 1 ≠ 0) (h : rd p 0 1 < 16) : manyQuads p v = v :=
  checks_ok (by simp [h0, h])

/-- A request that names one quadrant goes on with it (R147). -/
theorem oneQuad_ok {p : Bytes} {f : Nat → Verdict} {q : Nat} (hq : quadsOf (rd p 0 1) = [q]) (h : rd p 0 1 < 16) :
    oneQuad p f = f q := by simp only [oneQuad, hq, h, if_true]

theorem portCheck_ok {s : State} {p : Bytes} (hp : portArg p < 768) (ht : portThere s (portArg p) = true) :
    (portCheck s p).1 = true := by simp [portCheck, hp, ht]

/-- Settles O15: the fields' ranges are the checks of each request table, and what is accepted waits for the boundary. -/
theorem portCommands : Obligations.PortCommands := by
  refine ⟨?create, ?delete, ?admin, ?config, ?status, ?stats, ?pfcConfig, ?preemptConfig, ?flush⟩
  case create =>
    exact fun _ _ _ _ _ hr e hp hw ha hm hf hk hl =>
      acceptAs_run hr e ((checks_ok (by simp [createChecks, hp, ha, hm, hf, hk, hw])).trans (require_not hl))
  case delete =>
    exact fun _ _ _ _ _ hr e hp ht hd =>
      acceptAs_run hr e ((checks_ok (by simp [portCheck_ok hp ht])).trans (require_not hd))
  case admin => exact fun _ _ _ _ _ hr e hp ht ha => acceptAs_run hr e (checks_ok (by simp [portCheck_ok hp ht, ha]))
  case config =>
    exact fun _ _ _ _ _ hr e hp ht hf hl hu hw =>
      acceptAs_run hr e (checks_ok (by simp [portCheck_ok hp ht, hf, hl, hu, hw]))
  case status => exact fun _ _ _ _ _ hr e hp ht => acceptAs_run hr e (checks_ok (by simp [portCheck_ok hp ht]))
  case stats => exact fun _ _ _ _ _ hr e hp ht => acceptAs_run hr e (checks_ok (by simp [portCheck_ok hp ht]))
  case pfcConfig =>
    exact fun _ _ _ _ _ hr e hp ht he hx hw hl hu =>
      acceptAs_run hr e (checks_ok (by simp [portCheck_ok hp ht, he, hx, hw, hl, hu]))
  case preemptConfig =>
    exact fun _ _ _ _ _ hr e hp ht hf he ha hl hu =>
      acceptAs_run hr e (checks_ok (by simp [portCheck_ok hp ht, hf, he, ha, hl, hu]))
  case flush =>
    exact fun _ _ _ _ _ hr e hp ht hu =>
      acceptAs_run hr e ((checks_ok (by simp [portCheck_ok hp ht])).trans (require_not hu))

section
variable {s : State} {c : Cmd} {p bs : Bytes}

/-- RULE.LOAD takes the next chunk while the bank loads (R126). -/
theorem ruleLoad_run (hs : s.rules.sw = 0) (hb : bankNow s = 1) (hp : s.rules.placing = none) (ho : rd p 0 4 = s.rules.loadOff)
    (hl : 1 ≤ rd p 4 4) (hu : rd p 4 4 ≤ 4194304) (he : bmeOf s 0 = true) :
    ruleLoadSpec.run c p (.data bs) s =
      let t := s.modRules fun r => { r with loaded := r.loaded ++ part bs 0 (rd p 4 4), loadOff := r.loadOff + rd p 4 4 }
      if bit (rd p 16 1) 0 then postCmd c p [] (t.modRules fun r => { r with placing := some c.order, placeBeat := t.beat })
      else replyNow t [] :=
  (require_ok (by simp [hs, hb, hp])).trans ((checks_ok (by simp [ho, hl, hu])).trans (withHost_ok he))

end

/-- Settles O17: no switch is posted, and the bank that is not ACTIVE is in a state that the command asks for. -/
theorem ruleCommands : Obligations.RuleCommands := by
  refine ⟨?opens, ?load, ?loadLast, ?commit, ?aborts, ?revert, ?status, ?hashProbe, ?parseStats⟩
  case opens =>
    intro m h s c p hr e hs hb hv
    have draining : (bankNow s != 4) = true := by rcases hb with hb | hb <;> simp [hb]
    exact acceptAs_run hr e ((require_ok (by simp [hs])).trans ((require_ok draining).trans
      ((require_ok (by simp [hb])).trans (require_ok (by simp [hv])))))
  case load =>
    exact fun _ _ _ _ _ hr e hs hb hp ho hl hu hk he =>
      acceptAs_run hr e ((ruleLoad_run hs hb hp ho hl hu he).trans (if_neg (by simp [hk])))
  case loadLast =>
    exact fun _ _ _ _ _ hr e hs hb hp ho hl hu hk he =>
      acceptAs_run hr e ((ruleLoad_run hs hb hp ho hl hu he).trans (if_pos hk))
  case commit =>
    exact fun _ _ _ _ _ hr e hs hb =>
      acceptAs_run hr e ((require_ok (by simp [hs])).trans ((require_ok (by simp [hb])).trans (require_ok (by simp [hb]))))
  case aborts => exact fun _ _ _ _ _ hr e hs hb => acceptAs_run hr e (require_ok (by simp [hs, hb]))
  case revert => exact fun _ _ _ _ _ hr e hs hb => acceptAs_run hr e (require_ok (by simp [hs, hb]))
  case status => exact fun _ _ _ _ _ hr e => acceptAs_run hr e rfl
  case hashProbe => exact fun _ _ _ _ _ hr e hi hl hu => acceptAs_run hr e (checks_ok (by simpa [hl, hu] using hi))
  case parseStats => exact fun _ _ _ _ _ hr e hp => acceptAs_run hr e (checks_ok (by simp [hp]))

/-- Settles O18: the fields pass the checks of the request table, which the statement names where they are many. -/
theorem tableCommands : Obligations.TableCommands := by
  refine ⟨?config, ?insert, ?delete, ?read, ?flush, ?learnConfig, ?learnStatus, ?notifyRing, ?stats, ?nhStatus⟩
  case config => exact fun _ _ _ _ _ hr e hl hu ha hf => acceptAs_run hr e (checks_ok (by simp [hl, hu, ha, hf]))
  case insert => exact fun _ _ _ _ _ hr e hk => acceptAs_run hr e (checks_ok hk)
  case delete => exact fun _ _ _ _ _ hr e hk => acceptAs_run hr e (checks_ok hk)
  case read =>
    intro m h s c p r hr e hk hf
    refine acceptAs_run hr e ((checks_ok hk).trans ?_)
    rw [hf]
    rfl
  case flush =>
    intro m h s c p hr e h0 hq hf hd
    have dest : (!bit (rd p 1 1) 1 || destOk 0 (rd p 4 3)) = true := by
      cases e : bit (rd p 1 1) 1 with
      | false => rfl
      | true => exact hd e
    exact acceptAs_run hr e ((manyQuads_ok h0 hq).trans (checks_ok (by simp only [List.forall_mem_cons, dest]; simp [hf])))
  case learnConfig => exact fun _ _ _ _ _ hr e hk hl hu => acceptAs_run hr e (checks_ok (by simp [hk, hl, hu]))
  case learnStatus => exact fun _ _ _ _ _ hr e hk => acceptAs_run hr e (checks_ok (by simp [hk]))
  case notifyRing => exact fun _ _ _ _ _ hr e hs hm => acceptAs_run hr e (checks_ok (by simp [hs, hm]))
  case stats => exact fun _ _ _ _ _ hr e hq => acceptAs_run hr e (checks_ok (by simp [hq]))
  case nhStatus => exact fun _ _ _ _ _ hr e hi => acceptAs_run hr e (checks_ok (by simp [hi]))

/-- Settles O19: the quadrants are named as the command asks, and no position named is locked. -/
theorem ternaryCommands : Obligations.TernaryCommands := by
  refine ⟨?group, ?write, ?move, ?blockMove, ?read, ?status, ?stats, ?autoLoad, ?autoStatus, ?autoStats, ?autoStatsClear,
    ?autoRepair⟩
  case group =>
    exact fun _ _ _ _ _ hr e hk hh hn => acceptAs_run hr e ((checks_ok hk).trans (require_ok (by simp [hh, hn])))
  case write =>
    exact fun _ _ _ _ _ hr e h0 hq hl hu he hk hf =>
      acceptAs_run hr e ((manyQuads_ok h0 hq).trans ((checks_ok (by simp [hl, hu])).trans ((withHost_ok he).trans
        ((checks_ok (List.forall_mem_singleton.2 hk)).trans (require_not hf)))))
  case move =>
    exact fun _ _ _ _ _ _ hr e hq hm hl hu he hk hf =>
      acceptAs_run hr e ((oneQuad_ok hq hm).trans ((checks_ok (by simp [hl, hu])).trans ((withHost_ok he).trans
        ((checks_ok (List.forall_mem_singleton.2 hk)).trans (require_not hf)))))
  case blockMove =>
    exact fun _ _ _ _ _ _ hr e hq hm hk hf =>
      acceptAs_run hr e ((oneQuad_ok hq hm).trans ((checks_ok hk).trans (require_ok (by simp [hf]))))
  case read =>
    exact fun _ _ _ _ _ _ hr e hq hm hl hu he =>
      acceptAs_run hr e ((oneQuad_ok hq hm).trans ((checks_ok (by simp [hl, hu])).trans (hostReady_ok he)))
  case status => exact fun _ _ _ _ _ _ hr e hq hm => acceptAs_run hr e (oneQuad_ok hq hm)
  case stats => exact fun _ _ _ _ _ _ hr e hq hm => acceptAs_run hr e (oneQuad_ok hq hm)
  case autoLoad =>
    exact fun _ _ _ _ _ hr e h0 hq hs _ hf he =>
      acceptAs_run hr e ((manyQuads_ok h0 hq).trans ((checks_ok (by simp [hs])).trans
        ((require_not hf).trans (withHost_ok he))))
  case autoStatus => exact fun _ _ _ _ _ _ hr e hq hm => acceptAs_run hr e (oneQuad_ok hq hm)
  case autoStats =>
    intro m h s c p q hr e hq hm hb he
    refine acceptAs_run hr e ((oneQuad_ok hq hm).trans ((hostReady_ok he).trans ?_))
    rw [hb]
    rfl
  case autoStatsClear =>
    intro m h s c p q hr e hq hm hb he
    refine acceptAs_run hr e ((oneQuad_ok hq hm).trans ((hostReady_ok he).trans ?_))
    rw [hb]
    rfl
  case autoRepair =>
    exact fun _ _ _ _ _ hr e h0 hq hs _ he =>
      acceptAs_run hr e ((manyQuads_ok h0 hq).trans ((checks_ok (by simp [hs])).trans (withHost_ok he)))

end Sys2Proof.Machine

/-! What a mailbox command that passes its checks does: the TM, BUF and LEDGER services. -/

namespace Sys2Proof.Machine

/-- Settles O20: the checks are those of each request table; a gate list waits in its port's configuration. -/
theorem tmCommands : Obligations.TmCommands := by
  refine ⟨?config, ?sched, ?shaper, ?policerWrite, ?policerRead, ?gatesOff, ?gateList, ?gateStatus, ?maxSdu, ?queueStats,
    ?sampleRing⟩
  case config => exact fun _ _ _ _ _ hr e hk => acceptAs_run hr e (checks_ok hk)
  case sched => exact fun _ _ _ _ _ hr e hk => acceptAs_run hr e (checks_ok hk)
  case shaper => exact fun _ _ _ _ _ hr e hk => acceptAs_run hr e (checks_ok hk)
  case policerWrite => exact fun _ _ _ _ _ hr e hk => acceptAs_run hr e (checks_ok hk)
  case policerRead => exact fun _ _ _ _ _ _ hr e hq hm => acceptAs_run hr e (oneQuad_ok hq hm)
  case gatesOff =>
    exact fun _ _ _ _ _ hr e hb hp =>
      acceptAs_run hr e ((if_pos (by simp [hb])).trans (checks_ok (List.forall_mem_singleton.2 hp)))
  case gateList =>
    exact fun _ _ _ _ _ hr e hb hk he hg =>
      acceptAs_run hr e ((if_neg (by simp [hb])).trans ((checks_ok hk).trans ((withHost_ok he).trans (if_neg (by simp [hg])))))
  case gateStatus => exact fun _ _ _ _ _ hr e hp => acceptAs_run hr e (checks_ok (List.forall_mem_singleton.2 hp))
  case maxSdu => exact fun _ _ _ _ _ hr e hk => acceptAs_run hr e (checks_ok hk)
  case queueStats =>
    exact fun _ _ _ _ _ hr e hp hq => acceptAs_run hr e (checks_ok (by simp [hp, hq]))
  case sampleRing => exact fun _ _ _ _ _ hr e hk => acceptAs_run hr e (checks_ok hk)

/-- Settles O21: what is accepted waits for the boundary with its payload and the bytes that it read. -/
theorem bufferCommands : Obligations.BufferCommands := by
  refine ⟨?poolConfig, ?poolMap, ?headroom, ?status, ?stats, ?mcEmpty, ?mcWrite, ?mcRead, ?fabricStatus, ?planeDown, ?planeUp,
    ?reseqStats, ?audit, ?mirrorOff, ?mirror, ?mirrorHeader⟩
  case poolConfig => exact fun _ _ _ _ _ hr e hk => acceptAs_run hr e (checks_ok hk)
  case poolMap => exact fun _ _ _ _ _ hr e hk => acceptAs_run hr e (checks_ok hk)
  case headroom => exact fun _ _ _ _ _ hr e hp hn => acceptAs_run hr e (checks_ok (by simp [hp, hn]))
  case status => exact fun _ _ _ _ _ hr e => acceptAs_run hr e rfl
  case stats => exact fun _ _ _ _ _ hr e => acceptAs_run hr e rfl
  case mcEmpty =>
    intro m h s c p hr e hn hk hroom he
    refine acceptAs_run hr e ((checks_ok (by simp [hn])).trans ?_)
    simp only [hn, if_true, Nat.add_zero]
    exact (withHost_ok he).trans ((checks_ok (List.forall_mem_singleton.2 hk)).trans (require_ok (decide_eq_true hroom)))
  case mcWrite =>
    intro m bs s c p hr e hl hu he hk hroom
    refine acceptAs_run hr e ((checks_ok (by simp [hu])).trans ?_)
    simp only [show rd p 4 2 ≠ 0 by omega, if_false]
    exact (withHost_ok he).trans ((checks_ok (List.forall_mem_singleton.2 hk)).trans (require_ok (decide_eq_true hroom)))
  case mcRead => exact fun _ _ _ _ _ hr e he => acceptAs_run hr e (hostReady_ok he)
  case fabricStatus => exact fun _ _ _ _ _ hr e => acceptAs_run hr e rfl
  case planeDown =>
    exact fun _ _ _ _ _ hr e hi hd hn => acceptAs_run hr e ((checks_ok (by simp [hi, hd])).trans (require_ok (by simp [hn])))
  case planeUp =>
    exact fun _ _ _ _ _ hr e hi hu ht =>
      acceptAs_run hr e ((checks_ok (by simp [hi, hu, ht, -List.getD_eq_getElem?_getD])).trans (require_ok (by simp [hu])))
  case reseqStats => exact fun _ _ _ _ _ hr e hi => acceptAs_run hr e (checks_ok (by simp [hi]))
  case audit => exact fun _ _ _ _ _ hr e => acceptAs_run hr e rfl
  case mirrorOff =>
    exact fun _ _ _ _ _ hr e hl hu hb => acceptAs_run hr e ((if_pos hb).trans (checks_ok (by simp [hl, hu])))
  case mirror =>
    exact fun _ _ _ _ _ hr e hb hk hn =>
      acceptAs_run hr e ((if_neg (by simp [hb])).trans ((checks_ok hk).trans (if_pos hn)))
  case mirrorHeader =>
    exact fun _ _ _ _ _ hr e hb hk hn he =>
      acceptAs_run hr e ((if_neg (by simp [hb])).trans ((checks_ok hk).trans ((if_neg hn).trans (withHost_ok he))))

/-- Settles O22: the ledger is in the state that the command asks for, and holds what the command reads. -/
theorem ledgerCommands : Obligations.LedgerCommands := by
  refine ⟨?config, ?policy, ?rings, ?keyCreate, ?start, ?stop, ?status, ?sealFound, ?sealPoisoned, ?tenantGet, ?flowGet, ?stats⟩
  case config =>
    exact fun _ _ _ _ _ hr e hl hu hs hd =>
      acceptAs_run hr e ((checks_ok (by simpa [hu] using hl)).trans (require_ok (by simp [hs, hd])))
  case policy => exact fun _ _ _ _ _ hr e ha hb => acceptAs_run hr e (checks_ok (by simp [ha, hb]))
  case rings =>
    exact fun _ _ _ _ _ hr e hl hu hs => acceptAs_run hr e ((checks_ok (by simp [hl, hu])).trans (require_ok (by simp [hs])))
  case keyCreate =>
    exact fun _ _ _ _ _ hr e hs hl he => acceptAs_run hr e ((require_ok (by simp [hs, hl])).trans (hostReady_ok he))
  case start =>
    exact fun _ _ _ _ _ hr e hs hk ht hf hu hl => acceptAs_run hr e (require_ok (by simp [hs, hk, ht, hf, hu, hl]))
  case stop => exact fun _ _ _ _ _ hr e hs => acceptAs_run hr e (require_ok (by simp [hs]))
  case status => exact fun _ _ _ _ _ hr e => acceptAs_run hr e rfl
  case sealFound =>
    intro m h s c p r i t hr e hi hs he
    refine acceptAs_run hr e ?_
    simp only [ledgerSealGetSpec, hi, hs, hostReady_ok he]
    rfl
  case sealPoisoned =>
    intro m h s c p i t hr e hi hs he
    refine acceptAs_run hr e ?_
    simp only [ledgerSealGetSpec, hi, hs, hostReady_ok he]
  case tenantGet =>
    intro m h s c p r hr e ht hf he
    refine acceptAs_run hr e ((checks_ok (by simp [ht])).trans ?_)
    rw [hf]
    exact hostReady_ok he
  case flowGet =>
    intro m h s c p r hr e ht hf
    refine acceptAs_run hr e ((checks_ok (by simp [ht])).trans ?_)
    rw [hf]
    rfl
  case stats => exact fun _ _ _ _ _ hr e => acceptAs_run hr e rfl

end Sys2Proof.Machine

/-! What a mailbox command that passes its checks does: the LANTERN, TIME, FAULT, POWER and SLICE services. -/

namespace Sys2Proof.Machine

/-- Settles O24: the checks are those of each request table; an acknowledgement lies between the ring's counters. -/
theorem lanternCommands : Obligations.LanternCommands := by
  refine ⟨?stream, ?port, ?trigger, ?tenant, ?ipfix, ?ack, ?stats, ?pmcDump⟩
  case stream => exact fun _ _ _ _ _ hr e hk hg => acceptAs_run hr e ((checks_ok hk).trans (require_ok (by simpa using hg)))
  case port => exact fun _ _ _ _ _ hr e hp hm => acceptAs_run hr e (checks_ok (by simp [hp, hm]))
  case trigger => exact fun _ _ _ _ _ hr e hk => acceptAs_run hr e (checks_ok hk)
  case tenant => exact fun _ _ _ _ _ hr e ht hl hu hf => acceptAs_run hr e (checks_ok (by simp [ht, hl, hu, hf]))
  case ipfix => exact fun _ _ _ _ _ hr e hk he => acceptAs_run hr e ((checks_ok hk).trans (withHost_ok he))
  case ack => exact fun _ _ _ _ _ hr e hi hl hu => acceptAs_run hr e (checks_ok (by simp [hi, hl, hu]))
  case stats => exact fun _ _ _ _ _ hr e => acceptAs_run hr e rfl
  case pmcDump => exact fun _ _ _ _ _ hr e he => acceptAs_run hr e (hostReady_ok he)

/-- Settles O25: the fields are in their ranges; RATE checks none, and posts what the register would (log entry 67). -/
theorem timeCommands : Obligations.TimeCommands := by
  refine ⟨?status, ?step, ?rate, ?state, ?portDelay, ?portPtp, ?pps, ?synce, ?txtsRead⟩
  case status => exact fun _ _ _ _ _ hr e => acceptAs_run hr e rfl
  case step => exact fun _ _ _ _ _ hr e hn hf => acceptAs_run hr e (checks_ok (by simp [hn, hf]))
  case rate => exact fun _ _ _ _ _ hr e => acceptAs_run hr e rfl
  case state => exact fun _ _ _ _ _ hr e hs => acceptAs_run hr e (checks_ok (by simp [hs]))
  case portDelay =>
    exact fun _ _ _ _ _ hr e hp hl hu ha hb => acceptAs_run hr e (checks_ok (by simp [hp, hl, hu, ha, hb]))
  case portPtp => exact fun _ _ _ _ _ hr e hp hf => acceptAs_run hr e (checks_ok (by simp [hp, hf]))
  case pps => exact fun _ _ _ _ _ hr e hf hl hu ha hb => acceptAs_run hr e (checks_ok (by simp [hf, hl, hu, ha, hb]))
  case synce => exact fun _ _ _ _ _ hr e ho hp hs => acceptAs_run hr e (checks_ok (by simp [ho, hp, hs]))
  case txtsRead => exact fun _ _ _ _ _ hr e he => acceptAs_run hr e (hostReady_ok he)

section
variable {s : State} {c : Cmd} {p : Bytes} {h : HostAnswer}

/-- FAULT.LOG of the fault log; clearing empties it and its head, not the count of lost entries (R463, R467; log entry
169). -/
theorem faultLog_run (hl : rd p 0 1 = 0) (he : bmeOf s 0 = true) :
    faultLogSpec.run c p h s = replyNow
      (if bit (rd p 1 1) 0 then (hostWrite 0 (rd p 8 8) s.fault.log.flatten s).modFault fun f => { f with log := [], logHead := 0 }
        else hostWrite 0 (rd p 8 8) s.fault.log.flatten s)
      (le 4 s.fault.log.length ++ le 4 s.fault.logLost) := by
  refine (checks_ok (by simp [hl])).trans ((hostReady_ok he).trans ?_)
  cases bit (rd p 1 1) 0 <;> simp only [hl, if_true] <;> rfl

/-- FAULT.LOG of the partner log (R464). -/
theorem faultLog_run_partner (hl : rd p 0 1 = 1) (he : bmeOf s 0 = true) :
    faultLogSpec.run c p h s = replyNow
      (if bit (rd p 1 1) 0 then
        (hostWrite 0 (rd p 8 8) s.fault.partner.flatten s).modFault fun f => { f with partner := [], partnerLost := 0 }
        else hostWrite 0 (rd p 8 8) s.fault.partner.flatten s)
      (le 4 s.fault.partner.length ++ le 4 s.fault.partnerLost) := by
  refine (checks_ok (by simp [hl])).trans ((hostReady_ok he).trans ?_)
  cases bit (rd p 1 1) 0 <;> simp only [hl, Nat.one_ne_zero, if_false] <;> rfl

end

/-- Settles O26: the source is one of the 448, or all where the command allows it. -/
theorem faultCommands : Obligations.FaultCommands := by
  refine ⟨?status, ?ack, ?clear, ?force, ?log, ?logClear, ?partner, ?partnerClear, ?config⟩
  case status => exact fun _ _ _ _ _ hr e hs => acceptAs_run hr e (checks_ok (by simpa [srcArg] using hs))
  case ack => exact fun _ _ _ _ _ hr e hs => acceptAs_run hr e (checks_ok (by simp [srcArg, hs]))
  case clear => exact fun _ _ _ _ _ hr e hs => acceptAs_run hr e (checks_ok (by simp [srcArg, hs]))
  case force => exact fun _ _ _ _ _ hr e hs hf hc => acceptAs_run hr e (checks_ok (by simp [srcArg, hs, hf, hc]))
  case log => exact fun _ _ _ _ _ hr e hl hb he => acceptAs_run hr e ((faultLog_run hl he).trans (by rw [hb]; rfl))
  case logClear => exact fun _ _ _ _ _ hr e hl hb he => acceptAs_run hr e ((faultLog_run hl he).trans (by rw [hb]; rfl))
  case partner =>
    exact fun _ _ _ _ _ hr e hl hb he => acceptAs_run hr e ((faultLog_run_partner hl he).trans (by rw [hb]; rfl))
  case partnerClear =>
    exact fun _ _ _ _ _ hr e hl hb he => acceptAs_run hr e ((faultLog_run_partner hl he).trans (by rw [hb]; rfl))
  case config => exact fun _ _ _ _ _ hr e hs => acceptAs_run hr e (checks_ok (by simpa [srcArg] using hs))

/-- Settles O27: CONFIG asks the regulators only where it gives one a new address (log entry 172). -/
theorem powerCommands : Obligations.PowerCommands := by
  refine ⟨?status, ?cap, ?config, ?configAcked, ?reasons, ?sensors⟩
  case status => exact fun _ _ _ _ _ hr e => acceptAs_run hr e rfl
  case cap => exact fun _ _ _ _ _ hr e hl hu => acceptAs_run hr e (checks_ok (by simp [hl, hu]))
  case config =>
    exact fun _ _ _ _ _ hr e hk hn => acceptAs_run hr e ((checks_ok hk).trans (require_ok (by rw [hn]; exact Bool.or_true _)))
  case configAcked => exact fun _ _ _ _ _ hr e hk => acceptAs_run hr e ((checks_ok hk).trans (require_ok (Bool.true_or _)))
  case reasons => exact fun _ _ _ _ _ hr e => acceptAs_run hr e rfl
  case sensors => exact fun _ _ _ _ _ hr e => acceptAs_run hr e rfl

/-- Settles O29: the slice is in a state that the command asks for, and is not about to return home. -/
theorem sliceCommands : Obligations.SliceCommands := by
  refine ⟨?status, ?takeover, ?release, ?releaseDown, ?selfCheck⟩
  case status => exact fun _ _ _ _ _ hr e => acceptAs_run hr e rfl
  case takeover =>
    exact fun _ _ _ _ _ hr e ht hs hd hf => acceptAs_run hr e ((checks_ok (by simp [sliceCheck, ht])).trans
      ((require_ok (by simp [hs, hd])).trans (require_ok (by simp [hf]))))
  case release =>
    exact fun _ _ _ _ _ hr e ht hs hd hm => acceptAs_run hr e ((checks_ok (by simp [sliceCheck, ht])).trans
      ((require_ok (by simp [hs, hd])).trans ((require_ok hm).trans (if_neg (by simp [hs])))))
  case releaseDown =>
    exact fun _ _ _ _ _ hr e ht hs hd hm => acceptAs_run hr e ((checks_ok (by simp [sliceCheck, ht])).trans
      ((require_ok (by simp [hs, hd])).trans ((require_ok hm).trans (if_pos (by simp [hs])))))
  case selfCheck =>
    intro m h s c p hr e ht hs hd
    have may : ((s.slice (rd p 0 1)).st == 3 ||
        (if rd p 0 1 == 32 then (s.slice (rd p 0 1)).st == 0 else (s.slice (rd p 0 1)).st == 2)) = true := by
      rcases hs with hs | ⟨hi, hs⟩ | ⟨hi, hs⟩
      · simp [hs]
      · rw [hs, hi]; rfl
      · simp [hs, hi]
    exact acceptAs_run hr e ((checks_ok (by simp [sliceCheck, ht])).trans (require_ok (by simp only [may, hd]; rfl)))

end Sys2Proof.Machine

/-! What posted settings do at P3 of their boundary (R40, R41): a setting is found by its kind, and one that leaves the count
of clock steps does no more than its own effect. -/

namespace Sys2Proof.Machine

@[simp] theorem answer_time (order status detail : Nat) (payload : Bytes) (s : State) :
    (answer order status detail payload s).time = s.time := by
  unfold answer; split <;> rfl

@[simp] theorem answerOk_time (order : Nat) (payload : Bytes) (s : State) : (answerOk order payload s).time = s.time :=
  answer_time ..

@[simp] theorem answerBeat_time (order : Nat) (s : State) : (answerBeat order s).time = s.time := answer_time ..

@[simp] theorem modPort_time (p : Nat) (f : Port → Port) (s : State) : (modPort p f s).time = s.time := by
  unfold modPort; split <;> rfl

@[simp] theorem modTmPort_time (p : Nat) (f : TmPort → TmPort) (s : State) : (modTmPort p f s).time = s.time := rfl

@[simp] theorem raiseEvent_time (code : Nat) (params : Bytes) (s : State) : (raiseEvent code params s).time = s.time := by
  unfold raiseEvent reachEngine
  dsimp only
  repeat' split
  all_goals rfl

theorem eachDo_time {α : Type} {f : α → State → State} (h : ∀ a s, (f a s).time = s.time) (l : List α) (s : State) :
    (eachDo l f s).time = s.time := by
  unfold eachDo
  induction l generalizing s with
  | nil => rfl
  | cons a l ih => exact (ih (f a s)).trans (h a s)

@[simp] theorem xoffPort_time (p : Nat) (s : State) : (xoffPort p s).time = s.time := by
  unfold xoffPort
  split
  · rfl
  · exact modPort_time ..

@[simp] theorem unTrip_time (port p : Nat) (s : State) : (unTrip port p s).time = s.time := by
  simp [unTrip, tellWatchdog]

@[simp] theorem settleFlow_time (p : Nat) (s : State) : (settleFlow p s).time = s.time := by
  simp [settleFlow, eachDo_time (unTrip_time p)]

@[simp] theorem expressAwake_time (p : Nat) (s : State) : (expressAwake p s).time = s.time := by
  unfold expressAwake; split <;> rfl

section
variable {w : Pend} {k : Nat} {f : Pend → State → State} {pre : Tables} {s : State}

/-- A setting that is found by its kind and leaves the count of clock steps has its own effect. -/
theorem applySetting_found (hk : w.kind = k) (hf : (settings pre).find? (fun e => e.1 == k) = some (k, f))
    (ht : (f w s).time.steps = s.time.steps) : applySetting pre w s = f w s := by
  subst hk
  unfold applySetting
  rw [hf]
  exact if_pos ht

end

/-- Settles O52: each of the sixteen settings leaves the clock's count of steps. -/
theorem postedSettingsTakeEffect : Obligations.PostedSettingsTakeEffect := by
  refine ⟨?admin, ?config, ?pfcConfig, ?preemptConfig, ?learnConfig, ?tmConfig, ?shaper, ?maxSdu, ?headroom, ?policy,
    ?lanternPort, ?trigger, ?rate, ?portDelay, ?portPtp, ?powerCap⟩
  case admin => exact fun _ _ _ hk => applySetting_found hk rfl (by simp [applyPortAdmin])
  case config => exact fun _ _ _ hk => applySetting_found hk rfl (by simp [applyPortConfig])
  case pfcConfig => exact fun _ _ _ hk => applySetting_found hk rfl (by simp [applyPortPfcConfig])
  case preemptConfig => exact fun _ _ _ hk => applySetting_found hk rfl (by simp [applyPortPreemptConfig])
  case learnConfig => exact fun _ _ _ hk => applySetting_found hk rfl (by simp [applyLearnConfig])
  case tmConfig => exact fun _ _ _ hk => applySetting_found hk rfl (by simp [applyTmConfig, eachDo_time expressAwake_time])
  case shaper => exact fun _ _ _ hk => applySetting_found hk rfl (by simp [applyTmShaper])
  case maxSdu => exact fun _ _ _ hk => applySetting_found hk rfl (by simp [applyMaxSdu])
  case headroom => exact fun _ _ _ hk => applySetting_found hk rfl (by simp [applyHeadroom])
  case policy => exact fun _ _ _ hk => applySetting_found hk rfl (by simp [applyLedgerPolicy])
  case lanternPort => exact fun _ _ _ hk => applySetting_found hk rfl (by simp [applyLanternPort])
  case trigger => exact fun _ _ _ hk => applySetting_found hk rfl (by simp [applyLanternTrigger])
  case rate => exact fun _ _ _ hk => applySetting_found hk rfl (by simp [applyRate])
  case portDelay => exact fun _ _ _ hk => applySetting_found hk rfl (by simp [applyPortDelay])
  case portPtp => exact fun _ _ _ hk => applySetting_found hk rfl (by simp [applyPortPtp])
  case powerCap => exact fun _ _ _ hk => applySetting_found hk rfl (by simp [applyPowerCap])

end Sys2Proof.Machine

/-! The registers after reset: each group's Reset column, evaluated on the one state after reset (R37, R145, R322, R347, R365,
R372, R375, R383, R403, R467, R485). -/

namespace Sys2Proof.Machine

/-- Settles O58: closed facts about the state after reset, group by group. -/
theorem registersAfterReset : Obligations.RegistersAfterReset := by
  refine ⟨?glb, ?glbClock, ?mailboxes, ?eventRing, ?tableDma, ?movers, ?irq, ?irqVectors, ?irqIntervals, ?faults, ?grace,
    ?watchdogLimit, ?faultBits, ?clock, ?clockStatus, ?ppsWidth, ?power, ?powerCtrl, ?cap, ?throttle, ?escalate, ?release,
    ?tmax, ?sensor, ?droopLimit, ?counters, ?rings⟩
  all_goals decide

end Sys2Proof.Machine

/-! PCIe, interrupts and the host interface: messages, Bus Master Enable, function resets and register writes (R37, R371 to
R376, R394 to R397, R464). -/

namespace Sys2Proof.Machine

/-- A pending vector that is still asked for and may be sent: its message is written, its interval starts and it stops being
pending (R376, R392). -/
theorem msixMessage_sends {pf v : Nat} {s : State} (hp : bit (pbaOf s pf) v = true) (ha : vectorAsked s pf v = true)
    (hb : bmeOf s pf = true) (hx : s.host.msix.getD pf false = true) (hu : s.host.unmasked.contains (64 * pf + v) = true)
    (ht : mayTell (s.host.sent.get 0 (64 * pf + v)) (moderation s pf v) s.beat = true) :
    msixMessage pf v s = clearPending pf v
      ((hostWrite pf (leOf ((if pf = 0 then s.host.table0 else s.host.table1).readN (16 * v) 8))
          ((if pf = 0 then s.host.table0 else s.host.table1).readN (16 * v + 8) 4) s).modHost fun h => { h with
        sent := h.sent.put (64 * pf + v) (s.beat + 1)
        rings := if pf = 0 then h.rings else h.rings.mapAll fun r x =>
          if x.vec.getD r = v then { x with since := 0, firstBeat := none } else x }) := by
  rw [hostWrite_on hb]
  simp only [msixMessage, hp, ha, hb, hx, hu, ht, Bool.not_true, Bool.false_eq_true, Bool.and_self, if_false, hostWrite_on hb]
  rfl

theorem exec_msixMessage {pf v : Nat} (hp : pf < 2) (hv : v < 64) (s : State) :
    exec (.msixMessage pf v) s = .next (msixMessage pf v s) := need_of (by simp [hp, hv]) ..

theorem bitsOf_two_pow : ∀ b < 32, bitsOf (2 ^ b) 32 = [b] := by decide

/-- One bit written to IRQ_TEST, of a cause that exists, sets that cause (R374, R375). -/
theorem irqTestWrite_one {hi b : Nat} {s : State} (hu : hostUp s = true) (hb : b < 32) (hc : 32 * (hi % 2) + b < 34) :
    irqTestWrite hi (2 ^ b) s = irqCause (32 * (hi % 2) + b) s := by
  simp [irqTestWrite, hu, bitsOf_two_pow b hb, hc, eachDo]

theorem getD_set_false (l : List Bool) (i : Nat) : (l.set i false).getD i false = false := by
  rw [List.getD_eq_getElem?_getD, List.getElem?_set_self']
  cases l[i]? <;> rfl

theorem getD_set_ne {l : List Bool} {i j : Nat} (h : j ≠ i) (b : Bool) : (l.set j b).getD i false = l.getD i false := by
  simp only [List.getD_eq_getElem?_getD, List.getElem?_set_ne h]

theorem onlyChanges_modFreshSet (f) (s : State) : onlyChanges [.freshSet] s (s.modFreshSet f) := fun p hp => by
  cases p
  case freshSet => exact absurd (List.mem_singleton_self _) hp
  all_goals rfl

theorem onlyChanges_functionOff (pf : Nat) (s : State) : onlyChanges [.host] s (functionOff pf s) :=
  onlyChanges_trans (onlyChanges_modHost _ s) (onlyChanges_modHost _ _)

/-- FLR of PF1 changes the host interface, the marks of its registers and GLB_HOST_ERR (R396). -/
theorem onlyChanges_flr1 (s : State) : onlyChanges [.host, .freshSet, .glb] s (flr1 s) := by
  refine onlyChanges_trans ?_ (onlyChanges_mono (onlyChanges_hostErrBit 1 _) (by decide))
  refine onlyChanges_trans ?_ (onlyChanges_mono (onlyChanges_modFreshSet _ _) (by decide))
  exact onlyChanges_mono (onlyChanges_trans (onlyChanges_functionOff 1 s) (onlyChanges_modHost _ _)) (by decide)

theorem flr1_bme (s : State) : (flr1 s).host.bme = s.host.bme.set 1 false := rfl

theorem flrRegisters_bme (s : State) : (flrRegisters s).host.bme = s.host.bme.set 0 false := rfl

theorem flr0_bme (s : State) : (flr0 s).host.bme.getD 0 false = false := by
  rw [flr0, flrRegisters_bme]
  exact getD_set_false ..

theorem flr0_beat (s : State) : (flr0 s).glb.beat = s.glb.beat := (omild_next (t := flr0 s) (omild_execFlrPf0 s) rfl).beat

theorem flrRegisters_xdc (s : State) : (flrRegisters s).xdc = s.xdc := rfl

/-- FLR of PF0 returns the host's mover channels to reset (R395). -/
theorem flr0_xdcOf (s : State) : (flr0 s).xdcOf 6 = {} ∧ (flr0 s).xdcOf 7 = {} := by
  simp only [flr0, State.xdcOf, flrRegisters_xdc, flrEngines, modXdc_xdc, Tab.get, Tab.find_del_self, Option.getD_none, and_true,
    Tab.find_del_ne _ (show 6 ≠ 7 by decide)]

theorem registerWrite_four {pf o v : Nat} {h : HostAnswer} {s : State} (hu : hostUp s = true) (ho : o % 4 = 0) :
    registerWrite pf o 4 v h s = write4 pf o v h s := by simp [registerWrite, hu, ho]

/-- A write of any other size is discarded whole, with BAD_SIZE (R371). -/
theorem registerWrite_badSize {pf o size v : Nat} {h : HostAnswer} {s : State} (hu : hostUp s = true)
    (h4 : ¬ (size = 4 ∧ o % 4 = 0)) (h8 : ¬ (size = 8 ∧ o % 8 = 0)) : registerWrite pf o size v h s = hostErrBit 0 s := by
  simp only [registerWrite, hu, Bool.and_eq_true, decide_eq_true_eq, h4, h8, Bool.not_true, Bool.false_eq_true, if_false]

theorem exec_registerWrite {pf o : Nat} (hp : pf < 2) (ho : o < (if pf = 0 then 65536 else 16384)) (size v : Nat)
    (h : HostAnswer) (s : State) : exec (.registerWrite pf o size v h) s = .next (registerWrite pf o size v h s) :=
  need_of (by simp only [hp, ho, decide_true, Bool.and_self]) ..

/-- Settles O49: with its guard met each event is its meaning; what a function reset leaves is read off its last writes. -/
theorem pcieEvents : Obligations.PcieEvents := by
  refine ⟨?message0, ?message1, ?irqTest, ?bmeClear1, ?bmeClear0, ?bmeSet, ?flr1, ?flr0, ?hotReset, ?trained, ?violation,
    ?beatLo, ?scratch, ?badSize⟩
  case message0 =>
    intro v s hv hp ha hb hx hu ht
    have sends := msixMessage_sends (pf := 0) (v := v) hp ha hb hx (by simpa using hu) (by simpa using ht)
    simp only [Nat.mul_zero, Nat.zero_add, if_true] at sends
    exact (exec_msixMessage (by decide) hv s).trans (congrArg _ sends)
  case message1 =>
    exact fun v s hv hp ha hb hx hu ht => (exec_msixMessage (by decide) hv s).trans (congrArg _
      (msixMessage_sends (pf := 1) hp ha hb hx hu ht))
  case irqTest => exact fun _ _ _ hu hb hc => congrArg _ (irqTestWrite_one hu hb hc)
  case bmeClear1 => exact fun _ hb => next_of_pos hb ..
  case bmeClear0 => exact fun _ hb => next_of_pos hb ..
  case bmeSet => exact fun _ _ _ hp hu => need_next_of_pos (decide_eq_true hp) hu ..
  case flr1 =>
    exact fun s => ⟨flr1 s, rfl, rfl, rfl, rfl, rfl, rfl, getD_set_false .., rfl, rfl, onlyChanges_flr1 s⟩
  case flr0 =>
    exact fun s => ⟨flr0 s, rfl, rfl, rfl, rfl, rfl, rfl, rfl, rfl, flr0_bme s, flr0_xdcOf s, flr0_beat s⟩
  case hotReset =>
    refine fun s => ⟨hotReset s, rfl, rfl, rfl, rfl, rfl, ?_, ?_, rfl⟩ <;> rw [hotReset, modGlb_host, flr1_bme]
    · exact getD_set_false ..
    · exact (getD_set_ne (by decide) _).trans (flr0_bme s)
  case trained => exact fun _ _ _ hu hl hr hw => next_of_pos (by simp only [hu, hl, hr, hw]; decide) ..
  case violation => exact fun _ _ _ hp hu => need_next_of_pos (decide_eq_true hp) hu ..
  case beatLo => exact fun _ hu => next_of_pos hu ..
  case scratch =>
    intro value host s hu
    refine (exec_registerWrite (by decide) (by decide) ..).trans (congrArg _ ((registerWrite_four hu (by decide)).trans ?_))
    show s.modGlb (fun g => { g with scratch := value % 2 ^ 32 % 2 ^ 32 }) = _
    rw [Nat.mod_mod]
  case badSize => exact fun _ _ _ _ _ _ hp ho hu h4 h8 =>
    (exec_registerWrite hp ho ..).trans (congrArg _ (registerWrite_badSize hu h4 h8))

end Sys2Proof.Machine

/-! What each event does of the traffic manager: the decision, the end of a transmission, gates, and frames that stay too long
(R242 to R259, R268, R377). -/

namespace Sys2Proof.Machine

section
variable {p ns : Nat} {s u : State}

/-- What a decision leaves before it looks at the port: frames of closed classes are purged, ready frames are marked and held
heads are latched (R242, R248, R255). -/
def readied (p ns : Nat) (s : State) : State :=
  latchHeld p ns (refreshReady p ns (eachDo (portQueues p) (purgeQueue p ns) s))

theorem schedulerDecision_chooses (hs : portSends s p = true) (hu : u = readied p ns s) (hb : (u.tmPort p).sending = none)
    (hr : (u.port p).remainder = none) : schedulerDecision p ns s = chooseAndStart p ns u := by
  subst hu
  unfold readied at *
  simp only [schedulerDecision, hs, hb, hr, Bool.not_true, Bool.false_eq_true, Option.isSome_none, Bool.false_and, if_false]

theorem schedulerDecision_resumes {ci : Nat} (hs : portSends s p = true) (hu : u = readied p ns s)
    (hb : (u.tmPort p).sending = none) (hr : (u.port p).remainder = some ci) (he : expressWaits u p ns = false)
    (hd : remainderReady u p ci ns = true) : schedulerDecision p ns s = resume p ci ns u := by
  subst hu
  unfold readied at *
  simp only [schedulerDecision, hs, hb, hr, he, hd, Bool.not_true, Bool.not_false, Bool.false_eq_true, Option.isSome_none,
    Bool.and_self, if_false, if_true]

theorem schedulerDecision_waits {ci : Nat} (hs : portSends s p = true) (hu : u = readied p ns s)
    (hb : (u.tmPort p).sending = some ci) (he : expressWaits u p ns = false) : schedulerDecision p ns s = u := by
  subst hu
  unfold readied at *
  simp only [schedulerDecision, hs, hb, he, Bool.not_true, Bool.false_eq_true, Option.isSome_some, Bool.and_false, if_false,
    if_true]

/-- A waiting express frame goes ahead of a frame that it preempts (R258). -/
theorem schedulerDecision_preempts {ci : Nat} {v : State} (hs : portSends s p = true) (hu : u = readied p ns s)
    (hb : (u.tmPort p).sending = some ci) (he : expressWaits u p ns = true) (hv : preemptNow p ns u = v)
    (hi : (v.tmPort p).sending = none) (hr : (v.port p).remainder = some ci) (hw : expressWaits v p ns = true) :
    schedulerDecision p ns s = chooseAndStart p ns v := by
  subst hu
  unfold readied at *
  simp only [schedulerDecision, hs, hb, he, hv, hi, hr, hw, Bool.not_true, Bool.false_eq_true, Option.isSome_some,
    Option.isSome_none, Bool.and_self, Bool.false_and, if_false, if_true]

theorem chooseAndStart_starts {q ci : Nat} {tags : List (Nat × Nat × Nat)} {l : List Nat} (hc : chooseQueue s p ns = some (q, tags))
    (hm : macRoom s p q = true) (he : egressRoom s p = true) (hq : queueOf s p q = ci :: l) :
    chooseAndStart p ns s = startFrame p q ci ns (chargeShapers p q (headLen s p q) (recordTags p tags s)) := by
  simp only [chooseAndStart, hc, hm, he, hq, Bool.not_true, Bool.or_self, Bool.false_eq_true, if_false]

theorem preemptNow_cuts {ci n : Nat} (hb : (s.tmPort p).sending = some ci)
    (hp : preemptable s p (classOf p (s.copy ci).queue) = true) (hr : (s.port p).remainder = none)
    (hc : cutPoint s p ci ns = some n) : preemptNow p ns s = preemptCopy p ci n s := by
  simp only [preemptNow, preemptAt, hb, hp, hr, hc, Option.isNone_none, Bool.and_self, if_true]

/-- A remainder goes on whole where no closing of its gate is to come, or the rest of it fits (R258). -/
theorem resume_open {ci : Nat} (ht : timeToClose (s.tmPort p).gates (classOf p (s.copy ci).queue) (clockNs s ns) = none) :
    resume p ci ns s = modTmPort p (fun t => { t with sending := some ci }) (modPort p (fun q => mmContinue { q with remainder := none })
      (modCopy ci (fun c => { c with stage := .sending, start := nowNs s ns, last := true }) s)) := by
  simp only [resume, ht]

theorem resume_closing {ci left : Nat}
    (ht : timeToClose (s.tmPort p).gates (classOf p (s.copy ci).queue) (clockNs s ns) = some left) :
    resume p ci ns s = modTmPort p (fun t => { t with sending := some ci }) (modPort p (fun q => mmContinue { q with remainder := none })
      (modCopy ci (fun c => { c with stage := .sending, start := nowNs s ns
                                     last := fitsIn ((s.copy ci).out.length - (s.copy ci).sent + 20) (txRate s p) left }) s)) := by
  simp only [resume, ht]

@[simp] theorem modPort_tmPort (f : Port → Port) (s : State) (q : Nat) : (modPort p f s).tmPort q = s.tmPort q := by
  unfold modPort; split <;> rfl

@[simp] theorem modCopy_ports (i : Nat) (f : Copy → Copy) (s : State) : (modCopy i f s).ports = s.ports := by
  unfold modCopy; split <;> rfl

theorem has_modPort_self (f : Port → Port) (h : s.ports.has p = true) : (modPort p f s).ports.has p = true := by
  unfold modPort
  rw [if_pos h]
  simp [Tab.has, Tab.upd, Tab.find_put_self]

/-- A preempted port sends nothing, and its remainder waits (R258). -/
theorem preemptCopy_sending (ci n : Nat) (s : State) : ((preemptCopy p ci n s).tmPort p).sending = none := by
  simp [preemptCopy, portCount]

theorem preemptCopy_remainder (ci n : Nat) (h : s.ports.has p = true) :
    ((preemptCopy p ci n s).port p).remainder = some ci := by
  have there : (modTmPort p (fun t => { t with sending := none })
      (modCopy ci (fun c => { c with stage := .remainder, sent := c.sent + n, last := false }) s)).ports.has p = true := by
    simpa [modTmPort] using h
  unfold preemptCopy portCount
  rw [port_modPort_self _ _ (has_modPort_self _ there), port_modPort_self _ _ there]

theorem exec_schedulerDecision (hp : p < 802) (s : State) :
    exec (.schedulerDecision p ns) s = .next (schedulerDecision p ns s) := need_of (decide_eq_true hp) ..

theorem exec_transmitComplete (hp : p < 802) (s : State) :
    exec (.transmitComplete p ns) s = .next (transmitComplete p ns s) := need_of (decide_eq_true hp) ..

theorem exec_gateEvent (hp : p < 768) (hn : ns < 1000) (s : State) :
    exec (.gateEvent p ns) s = .next (gateTo p (clockNs s ns) ns s) := need_of (by simp [hp, hn]) ..

/-- A stomped frame that overran nothing is dropped with its reason and counted as stomped (R248). -/
theorem transmitComplete_stomped {ci : Nat} (hb : (s.tmPort p).sending = some ci)
    (hs : ((s.copy ci).stomp || ((s.pkt (s.copy ci).pkt).bad && (s.copy ci).cut)) = true)
    (hl : (s.copy ci).cut = false ∨ (s.copy ci).out.length ≤
      assumedLength s (s.pkt (s.copy ci).pkt) (s.copy ci) + growthOf s (s.pkt (s.copy ci).pkt) (s.copy ci)) :
    transmitComplete p ns s = dropCopyEnd ci (if (s.copy ci).stomp then (s.copy ci).stompReason else 51) ns
      (countStomped p (s.copy ci).out.length s) := by
  have fits : ((s.copy ci).cut && decide (assumedLength s (s.pkt (s.copy ci).pkt) (s.copy ci) +
      growthOf s (s.pkt (s.copy ci).pkt) (s.copy ci) < (s.copy ci).out.length)) = false := by
    rcases hl with h | h
    · rw [h]; rfl
    · rw [decide_eq_false (Nat.not_lt.2 h)]; exact Bool.and_false _
  simp only [transmitComplete, hb, hs, fits, if_true, Bool.false_eq_true, if_false]

/-- A frame that is not stomped counts as sent, and goes where its port leads: out, round again, or to the CPU-port MAC (R268,
R377). -/
theorem transmitComplete_sent {ci : Nat} (hb : (s.tmPort p).sending = some ci)
    (hs : ((s.copy ci).stomp || ((s.pkt (s.copy ci).pkt).bad && (s.copy ci).cut)) = false)
    (hu : u = countSent p (s.copy ci).queue (s.copy ci).out (if (s.copy ci).cut = true ∧
        assumedLength s (s.pkt (s.copy ci).pkt) (s.copy ci) + growthOf s (s.pkt (s.copy ci).pkt) (s.copy ci) <
          (s.copy ci).out.length then
      modTmPort p (fun x => { x with overrun := addAt x.overrun (classOf p (s.copy ci).queue) 1 }) s else s)) :
    transmitComplete p ns s =
      if p < 768 then sentCopyEnd ci (s.copy ci).out.length ns u
      else if p < 800 then recirculate ci ns u
      else if p = 801 then sentCopyEnd ci (s.copy ci).out.length ns u
      else (modTmPort p (fun x => { x with sending := none }) u).modHost fun h => { h with
        mac := h.mac ++ [ci], macFill := h.macFill + (s.copy ci).out.length } := by
  subst hu
  simp only [transmitComplete, hb, hs, Bool.false_eq_true, if_false, Bool.and_eq_true, decide_eq_true_eq]

section
variable {i states now : Nat} {l : GateList}

/-- The gates of a port at an entry of their schedule (R255). -/
def entryTaken (p now i states : Nat) (s : State) : State :=
  modTmPort p (fun t => { t with gates := { t.gates with
    entry := i, states := states, done := now, latched := keepLatched t.gates states p } }) s

theorem gateTo_set (ho : (s.tmPort p).gates.oper = some l)
    (he : entryAt l (cycleOffset l (s.tmPort p).gates.start now (changeAt (s.tmPort p).gates)) = some (i, states, 0)) :
    gateTo p now ns s = cutAtClose p ns (entryTaken p now i states s) := by
  simp only [gateTo, entryTaken, ho, he]

theorem gateTo_hold (ho : (s.tmPort p).gates.oper = some l)
    (he : entryAt l (cycleOffset l (s.tmPort p).gates.start now (changeAt (s.tmPort p).gates)) = some (i, states, 1)) :
    gateTo p now ns s = modPort p (fun q => { q with mmHeld := true }) (preemptNow p ns (cutAtClose p ns
      (entryTaken p now i states s))) := by
  simp only [gateTo, entryTaken, ho, he]

theorem gateTo_release (ho : (s.tmPort p).gates.oper = some l)
    (he : entryAt l (cycleOffset l (s.tmPort p).gates.start now (changeAt (s.tmPort p).gates)) = some (i, states, 2)) :
    gateTo p now ns s = modPort p (fun q => { q with mmHeld := false }) (cutAtClose p ns
      (entryTaken p now i states s)) := by
  simp only [gateTo, entryTaken, ho, he]

/-- A pending list whose time has come becomes operational, and is told (R256). -/
theorem gateChange_due {t : Nat} (hp : (s.tmPort p).gates.pend = some (l, t)) (ht : t ≤ now) :
    gateChange p now s = raiseEvent 0x0801 (le 2 p ++ zeros 6 ++ le 6 (t / 10 ^ 9) ++ le 4 (t % 10 ^ 9))
      (modTmPort p (fun x => { x with gates := { x.gates with oper := some l, start := t, pend := none, changeTime := t } }) s) := by
  simp only [gateChange, hp, Nat.not_lt.2 ht, if_false]

end

/-- A copy that has stayed too long is dropped with the reason of its port: under its hold window, or not (R103, R248). -/
theorem sojournDrop_held {ci : Nat} (h : heldCopy s (s.copy ci) = true) :
    sojournDrop ci s = dropCopyEnd ci 33 0 (portCount (s.copy ci).port 61 1 s) := by simp only [sojournDrop, h, if_true]

theorem sojournDrop_queued {ci : Nat} (h : heldCopy s (s.copy ci) = false) :
    sojournDrop ci s = dropCopyEnd ci 20 0
      (queueStat (s.copy ci).port (s.copy ci).queue (fun x => { x with sojourn := x.sojourn + 1 }) s) := by
  simp only [sojournDrop, h, Bool.false_eq_true, if_false]

end

/-- Settles O42: with its guard met, each event does what that branch of its meaning says. -/
theorem trafficManagerEvents : Obligations.TrafficManagerEvents := by
  refine ⟨?starts, ?preempts, ?waits, ?resumesOpen, ?resumesClosing, ?stomped, ?sent, ?overrun, ?recirculated, ?toCpu, ?gateSet,
    ?gateHold, ?gateRelease, ?gateConfig, ?sojournPosted, ?sojourn, ?holdPosted, ?hold⟩
  case starts =>
    exact fun _ _ _ _ _ _ _ s hp hs hu hb hr hc hm he hq => (exec_schedulerDecision hp s).trans (congrArg _
      ((schedulerDecision_chooses hs hu hb hr).trans (chooseAndStart_starts hc hm he hq)))
  case preempts =>
    exact fun _ _ ci n _ s hp hs hu hb he hk ha hr hc hw => (exec_schedulerDecision hp s).trans (congrArg _
      (schedulerDecision_preempts hs hu hb he (preemptNow_cuts hb hk hr hc) (preemptCopy_sending ci n _)
        (preemptCopy_remainder ci n ha) hw))
  case waits =>
    exact fun _ _ _ _ s hp hs hu hb he => (exec_schedulerDecision hp s).trans (congrArg _ (schedulerDecision_waits hs hu hb he))
  case resumesOpen =>
    exact fun _ _ _ _ s hp hs hu hb hr he hd ht => (exec_schedulerDecision hp s).trans (congrArg _
      ((schedulerDecision_resumes hs hu hb hr he hd).trans (resume_open ht)))
  case resumesClosing =>
    exact fun _ _ _ _ _ s hp hs hu hb hr he hd ht => (exec_schedulerDecision hp s).trans (congrArg _
      ((schedulerDecision_resumes hs hu hb hr he hd).trans (resume_closing ht)))
  case stomped =>
    exact fun _ _ _ s hp hb hs hl => (exec_transmitComplete hp s).trans (congrArg _ (transmitComplete_stomped hb hs hl))
  case sent =>
    intro p _ _ s hp hb hs hl ho
    refine (exec_transmitComplete hp s).trans (congrArg _ ((transmitComplete_sent hb hs rfl).trans ?_))
    rw [if_neg hl]
    rcases ho with h | rfl
    · exact if_pos h
    · rfl
  case overrun =>
    intro p _ _ s hp hb hs hc hl h
    refine (exec_transmitComplete hp s).trans (congrArg _ ((transmitComplete_sent hb hs rfl).trans ?_))
    rw [if_pos h, if_pos ⟨hc, hl⟩]
  case recirculated =>
    intro p _ _ s hp hb hs hl hlo hhi
    refine (exec_transmitComplete hp s).trans (congrArg _ ((transmitComplete_sent hb hs rfl).trans ?_))
    rw [if_neg hl]
    exact (if_neg (Nat.not_lt.2 hlo)).trans (if_pos hhi)
  case toCpu =>
    intro _ _ s hb hs hl
    refine (exec_transmitComplete (by decide) s).trans (congrArg _ ((transmitComplete_sent hb hs rfl).trans ?_))
    rw [if_neg hl]
    rfl
  case gateSet => exact fun _ _ _ _ _ s hp hn ho he => (exec_gateEvent hp hn s).trans (congrArg _ (gateTo_set ho he))
  case gateHold => exact fun _ _ _ _ _ s hp hn ho he => (exec_gateEvent hp hn s).trans (congrArg _ (gateTo_hold ho he))
  case gateRelease => exact fun _ _ _ _ _ s hp hn ho he => (exec_gateEvent hp hn s).trans (congrArg _ (gateTo_release ho he))
  case gateConfig =>
    exact fun p ns _ _ s hp hn hl ht => (need_of (by simp [hp, hn]) ..).trans
      (congrArg (fun v => Host.Outcome.next (gateTo p (clockNs s ns) ns v)) (gateChange_due hl ht))
  case sojournPosted => exact fun _ => rfl
  case sojourn =>
    intro ci s ho hh
    rw [sojournDiscard, ho]
    exact sojournDrop_queued hh
  case holdPosted => exact fun _ _ hp => need_of (decide_eq_true hp) ..
  case hold =>
    rintro p ci s ho hh rfl
    rw [holdSojourn, ho]
    exact sojournDrop_held hh

end Sys2Proof.Machine

/-! What each event does of the front-panel ports: flow control received and sent, the PFC watchdog, preemption verification, the
hold window, folded counters, and received frames (R92 to R107). -/

namespace Sys2Proof.Machine

section
variable {port prio ns at_ : Nat} {q : Port} {s : State}

theorem port_of_find (h : s.ports.find port = some q) : s.port port = q := congrArg (Option.getD · ({} : Port)) h

theorem pfcReceive_up (vec : Nat) (times : List Nat) (hf : s.ports.find port = some q) (hu : q.up = true) :
    pfcReceive port vec times at_ s = eachDo ((bitsOf vec 8).filter fun p => bit q.pfcMask p)
      (fun p => modPort port (loadPause s.tm.expressTc at_ p (nth times p % 65536)))
      (countAt port at_ s.buf.nextPkt (pfcCounts s.tm.expressTc vec q) s) := by
  simp only [pfcReceive, hf, hu, Bool.not_true, Bool.false_eq_true, if_false]

/-- A PAUSE frame at a port that honours PAUSE: it stands for all eight priorities (R92). -/
theorem pauseReceive_honoured (time : Nat) (hf : s.ports.find port = some q) (hu : q.up = true) (hp : bit q.flags 1 = true) :
    pauseReceive port time at_ s = eachDo [0, 1, 2, 3, 4, 5, 6, 7]
      (fun p => modPort port (loadPause s.tm.expressTc at_ p (time % 65536)))
      (countAt port at_ s.buf.nextPkt
        ([(22, 1)] ++ if pauseIgnored s.tm.expressTc 0xFF 0xFF q then [(31, 1)] else []) s) := by
  simp only [pauseReceive, hf, hu, hp, Bool.not_true, Bool.false_eq_true, if_false, if_true]
  rfl

theorem pauseReceive_ignored (time : Nat) (hf : s.ports.find port = some q) (hu : q.up = true) (hp : bit q.flags 1 = false) :
    pauseReceive port time at_ s = countAt port at_ s.buf.nextPkt [(22, 1), (31, 1)] s := by
  have ignored : pauseIgnored s.tm.expressTc 0 0 q = true := by simp [pauseIgnored, bitsOf, bit]
  simp only [pauseReceive, hf, hu, hp, ignored, Bool.not_true, Bool.false_eq_true, if_false, if_true]
  rfl

theorem controlOctets_down (h : (s.port port).up = false) : controlOctets port at_ s = s := by
  rw [controlOctets, h]; rfl

theorem pfcReceive_down (vec : Nat) (times : List Nat) (h : (s.port port).up = false) :
    pfcReceive port vec times at_ s = s := by
  unfold pfcReceive
  split
  · rfl
  · next q hf =>
    rw [port_of_find hf] at h
    simp only [h, Bool.not_false, if_true]

theorem pauseReceive_down (time : Nat) (h : (s.port port).up = false) : pauseReceive port time at_ s = s := by
  unfold pauseReceive
  split
  · rfl
  · next q hf =>
    rw [port_of_find hf] at h
    simp only [h, Bool.not_false, if_true]

theorem exec_pfcFrameReceive (vec : Nat) (times : List Nat) (hp : port < 768) (s : State) :
    exec (.pfcFrameReceive port vec times ns) s =
      .next (pfcReceive port vec times (nowNs s ns) (controlOctets port (nowNs s ns) s)) := need_of (decide_eq_true hp) ..

theorem exec_pauseFrameReceive (time : Nat) (hp : port < 768) (s : State) :
    exec (.pauseFrameReceive port time ns) s =
      .next (pauseReceive port time (nowNs s ns) (controlOctets port (nowNs s ns) s)) := need_of (decide_eq_true hp) ..

/-- An honoured priority of no express class and not tripped takes its pause time (R92, R104). -/
theorem loadPause_honoured {e a p time : Nat} (hm : bit (pauseMask q) p = true) (he : p ≠ e) (hw : bit q.wdTrip p = false)
    (ht : time ≠ 0) :
    loadPause e a p time q = { q with
      pauseLast := q.pauseLast.set p (a / 1000), pause := q.pause.set p time, pauseAt := q.pauseAt.set p a
      pauseFrom := if nth q.pause p = 0 then q.pauseFrom.set p (a / 1000) else q.pauseFrom } := by
  simp only [loadPause, hm, beq_eq_false_iff_ne.2 he, hw, ht, Bool.not_true, Bool.or_self, Bool.false_eq_true, if_false]

theorem loadPause_ignored {e a p time : Nat} (h : bit (pauseMask q) p = false ∨ p = e) : loadPause e a p time q = q := by
  have skip : (!bit (pauseMask q) p || p == e) = true := by rcases h with h | h <;> simp [h]
  rw [loadPause, if_pos skip]

theorem pauseExpire_over (ha : nth (s.port port).pause prio ≠ 0)
    (ht : nth (s.port port).pause prio * 512000 ≤ (nowNs s ns - nth (s.port port).pauseAt prio) * portRate s port) :
    pauseExpire port prio ns s = modPort port (fun q => { q with pause := q.pause.set prio 0 }) s := by
  rw [pauseExpire, if_pos]
  simp [pauseOver, ha, ht]

theorem flowFree_of (ha : s.ports.has port = true) (hu : (s.port port).up = true) (hb : (s.tmPort port).sending = none) :
    flowFree s port = true := by simp [flowFree, ha, hu, hb]

theorem pfcFrameSend_due (hf : flowFree s port = true) (hd : (s.port port).pfcDue = true) :
    pfcFrameSend port s = sendFlow port s := by rw [pfcFrameSend, hf, hd]; rfl

theorem pfcResend_due (hf : flowFree s port = true) (hx : (s.port port).xoffSet ≠ 0 ∨ (s.port port).pauseOn = true)
    (ht : (s.port port).pfcBeat + 8 ≤ s.beat) : pfcResend port s = sendFlow port s := by
  have holds : ((s.port port).xoffSet != 0 || (s.port port).pauseOn) = true := by simpa using hx
  simp only [pfcResend, hf, holds, decide_eq_true ht, Bool.and_self, if_true]

theorem watchdogTrip_due (ha : s.ports.has port = true) (hw : (s.port port).wd ≠ 0) (hm : bit (s.port port).pfcMask prio = true)
    (ht : bit (s.port port).wdTrip prio = false) (hp : nth (s.port port).pause prio ≠ 0)
    (hd : nth (s.port port).pauseFrom prio + (s.port port).wd ≤ s.beat) :
    watchdogTrip port prio s = tellWatchdog port prio true
      (eachDo (queuedAt (modPort port (fun q => { q with wdTrip := setBit q.wdTrip prio true }) s) port (2 ^ prio))
        (fun ci s => dropCopyEnd ci 22 0 (portCount port 62 1 (portCount port (65 + prio) 1 s)))
        (modPort port (fun q => { q with wdTrip := setBit q.wdTrip prio true }) s)) := by
  simp only [watchdogTrip, ha, bne_iff_ne.2 hw, hm, ht, bne_iff_ne.2 hp, decide_eq_true hd, Bool.not_false, Bool.and_self,
    if_true]

theorem watchdogRestore_due (ht : bit (s.port port).wdTrip prio = true)
    (hd : nth (s.port port).pauseLast prio + (s.port port).restore ≤ s.beat) :
    watchdogRestore port prio s = unTrip port prio s := by
  simp only [watchdogRestore, ht, decide_eq_true hd, Bool.and_self, if_true]

/-- The third timeout of a verification fails it; an earlier one sends the verify mPacket again (R101). -/
theorem execMmVerifyTimeout_due (hp : port < 768) (hs : (s.port port).mmStatus = 1)
    (ht : (s.port port).mmBeat + 1000 * (s.port port).verifyMs ≤ s.beat) :
    exec (.mmVerifyTimeout port) s = .next (modPort port (fun q => if 2 ≤ q.mmTries then { q with mmTries := 3, mmStatus := 3 }
      else { q with mmTries := q.mmTries + 1, mmStatus := 1, mmBeat := s.beat, mmSmd := (smdVerify, 0) }) s) := by
  refine (need_of (decide_eq_true hp) ..).trans (congrArg _ ?_)
  rw [if_pos (by simp [hs, ht])]
  congr 1
  funext q
  by_cases h : 2 ≤ q.mmTries
  · simp [h]
  · simp [h, Nat.min_eq_right (show q.mmTries + 1 ≤ 3 by omega), sendVerify]

/-- The hold window ends with the frames it held flushed (R103). -/
theorem holdExpire_due {d : Nat} (hs : (s.port port).holdStart = some d) (hu : (s.port port).up = false)
    (ht : d + (s.port port).hold ≤ s.beat) :
    holdExpire port s = raiseEvent 0x0404 (le 2 port) (modPort port (fun q => { q with holdStart := none })
      (eachDo (queuedAt s port 0xFF) (fun ci s => dropCopyEnd ci 34 0 (portCount port 60 1 s)) s)) := by
  simp only [holdExpire, hs, hu, decide_eq_true ht, Bool.not_false, Bool.and_self, if_true, flushQueues]

theorem halfRangeFold_due {i : Nat} (hi : i < 64) (hb : bit ((s.port port).counts.get 0 i) 47 = true) :
    halfRangeFold port i s = modPort port (fun q => { q with
      counts := q.counts.upd 0 i fun v => v - 2 ^ 47, accs := q.accs.upd 0 i fun v => (v + 2 ^ 47) % 2 ^ 64 }) s := by
  simp only [halfRangeFold, hb, decide_eq_true hi, Bool.and_self, if_true]

end

/-! A frame whose last byte comes (R94, R97 to R101). -/

section
variable {port arrived ns : Nat} {q : Port} {frame : Bytes} {codeErr : Bool} {s : State}

/-- What a codeword error in a frame leaves before the frame is looked at (R98). -/
def codewordSeen (port : Nat) (frame : Bytes) (arrived : Nat) (codeErr : Bool) (ns : Nat) (s : State) : State :=
  if codeErr then countAt port (arrivalEnd s port frame.length arrived ns) s.buf.nextPkt [(20, 1)] (codeword port s) else s

theorem exec_frameReceive (mm : MmKind) (hp : port < 768) (hn : ns < 1000) (s : State) :
    exec (.frameReceive port frame arrived codeErr mm ns) s = .next (frameReceive port frame arrived codeErr mm ns s) :=
  need_of (by simp [hp, hn]) ..

theorem frameReceive_idle (mm : MmKind) (h : (s.port port).up = false ∨ dataUp s = false) :
    frameReceive port frame arrived codeErr mm ns s = s := by
  unfold frameReceive
  split
  · rfl
  · next q hf =>
    rw [port_of_find hf] at h
    exact if_pos (by simpa using h)

theorem frameReceive_badAssembly (hf : s.ports.find port = some q) (hu : q.up = true) (hd : dataUp s = true) :
    frameReceive port frame arrived codeErr .badAssembly ns s = portCount port 58 1 s := by
  simp only [frameReceive, hf, hu, hd, Bool.not_true, Bool.or_self, Bool.false_eq_true, if_false]

theorem frameReceive_verify (hf : s.ports.find port = some q) (hu : q.up = true) (hd : dataUp s = true) :
    frameReceive port frame arrived codeErr .verify ns s = modPort port (fun q => { q with mmSmd := (smdRespond, 0) }) s := by
  simp only [frameReceive, hf, hu, hd, Bool.not_true, Bool.or_self, Bool.false_eq_true, if_false]

/-- A whole frame at an up port, with its codeword error counted first: under 64 bytes, a good MAC control frame, a damaged one
under 128 bytes, or one that is queued. -/
theorem frameReceive_whole {u : State} (hf : s.ports.find port = some q) (hu : q.up = true) (hd : dataUp s = true)
    (hc : u = codewordSeen port frame arrived codeErr ns s) :
    frameReceive port frame arrived codeErr .whole ns s =
      if frame.length < 64 then
        countAt port (arrivalEnd s port frame.length arrived ns) s.buf.nextPkt [(if fcsOk frame then 17 else 18, 1)] u
      else if rdBe frame 12 2 = 0x8808 ∧ fcsOk frame = true ∧ codeErr = false ∧ frame.length ≤ q.max then
        controlFrame port frame (arrivalEnd s port frame.length arrived ns) u
      else if fcsOk frame = false ∧ frame.length < 128 ∧ frame.length ≤ q.max then
        countAt port (arrivalEnd s port frame.length arrived ns) s.buf.nextPkt
          (receivedCounts q.max frame (fcsOk frame) (fcsOk frame && !codeErr)) u
      else queueFrame port q.max frame arrived (fcsOk frame && !codeErr) ns
        (countAt port (arrivalEnd s port frame.length arrived ns) s.buf.nextPkt
          (receivedCounts q.max frame (fcsOk frame) (fcsOk frame && !codeErr)) u) := by
  subst hc
  simp only [frameReceive, codewordSeen, hf, hu, hd, Bool.not_true, Bool.or_self, Bool.false_eq_true, if_false, Bool.and_eq_true,
    decide_eq_true_eq, Bool.not_eq_true', and_assoc]

/-- A frame for which the octet's ingress FIFO has no room is counted and not queued (R30, R97). -/
theorem queueFrame_overflow {max : Nat} {ok : Bool} {u : State} (hu : u = arriveUpTo (nowNs s ns) (port / 8) s)
    (ht : 65536 < fifoTaken u (port / 8) + (frame.take max).length) :
    queueFrame port max frame arrived ok ns s =
      countAt port (arrivalEnd u port frame.length arrived ns) u.buf.nextPkt [(21, 1)] u := by
  subst hu
  simp only [queueFrame, ht, if_true]

end

/-- Settles O50: with its guard met, each event does what that branch of its meaning says. -/
theorem portFrameEvents : Obligations.PortFrameEvents := by
  refine ⟨?pfc, ?pfcDown, ?paused, ?pauseIgnored, ?pauseDown, ?load, ?loadIgnored, ?expires, ?sends, ?resends, ?tripPosted, ?trips,
    ?restorePosted, ?restores, ?verified, ?verifyTimeout, ?holdPosted, ?holdEnds, ?folds, ?badAssembly, ?verify, ?undersized,
    ?control, ?queued, ?damaged, ?idle, ?overflow⟩
  case pfc =>
    rintro _ vec _ times _ _ s hp rfl hf hu
    exact (exec_pfcFrameReceive vec times hp s).trans (congrArg _ (pfcReceive_up vec times hf hu))
  case pfcDown =>
    intro _ vec _ times s hp hu
    rw [exec_pfcFrameReceive vec times hp s, controlOctets_down hu, pfcReceive_down vec times hu]
  case paused =>
    rintro _ time _ _ _ s hp rfl hf hu hb
    exact (exec_pauseFrameReceive time hp s).trans (congrArg _ (pauseReceive_honoured time hf hu hb))
  case pauseIgnored =>
    rintro _ time _ _ _ s hp rfl hf hu hb
    exact (exec_pauseFrameReceive time hp s).trans (congrArg _ (pauseReceive_ignored time hf hu hb))
  case pauseDown =>
    intro _ time _ s hp hu
    rw [exec_pauseFrameReceive time hp s, controlOctets_down hu, pauseReceive_down time hu]
  case load => exact fun _ _ _ _ _ hm he hw ht => loadPause_honoured hm he hw ht
  case loadIgnored => exact fun _ _ _ _ _ h => loadPause_ignored h
  case expires =>
    exact fun _ _ _ _ hp hq ha ht => (need_of (by simp [hp, hq]) ..).trans (congrArg _ (pauseExpire_over ha ht))
  case sends =>
    rintro _ _ _ hp ha hu hb hd rfl
    exact (need_of (decide_eq_true hp) ..).trans (congrArg _ (pfcFrameSend_due (flowFree_of ha hu hb) hd))
  case resends =>
    rintro _ _ _ hp ha hu hb hx ht rfl
    exact (need_of (decide_eq_true hp) ..).trans (congrArg _ (pfcResend_due (flowFree_of ha hu hb) hx ht))
  case tripPosted => exact fun _ _ _ hp hq => need_of (by simp [hp, hq]) ..
  case trips => exact fun _ _ _ ha hw hm ht hp hd => watchdogTrip_due ha hw hm ht hp hd
  case restorePosted => exact fun _ _ _ hp hq => need_of (by simp [hp, hq]) ..
  case restores => exact fun _ _ _ ht hd => watchdogRestore_due ht hd
  case verified => exact fun _ _ hp hs => (need_of (decide_eq_true hp) ..).trans (congrArg _ (if_pos (by simp [hs])))
  case verifyTimeout => exact fun _ _ hp hs ht => execMmVerifyTimeout_due hp hs ht
  case holdPosted => exact fun _ _ hp => need_of (decide_eq_true hp) ..
  case holdEnds => exact fun _ _ _ hs hu ht => holdExpire_due hs hu ht
  case folds =>
    exact fun _ _ _ hp hi hb => (need_of (by simp [hp, hi]) ..).trans (congrArg _ (halfRangeFold_due hi hb))
  case badAssembly =>
    exact fun _ _ _ _ _ _ s hp hn hf hu hd => (exec_frameReceive _ hp hn s).trans (congrArg _ (frameReceive_badAssembly hf hu hd))
  case verify =>
    exact fun _ _ _ _ _ _ s hp hn hf hu hd => (exec_frameReceive _ hp hn s).trans (congrArg _ (frameReceive_verify hf hu hd))
  case undersized =>
    intro _ _ _ _ _ _ _ s hp hn hf hu hd hc hl
    rw [exec_frameReceive _ hp hn s, frameReceive_whole hf hu hd hc, if_pos hl]
  case control =>
    intro _ _ _ _ _ _ _ s hp hn hf hu hd hc hl ht ho he hm
    rw [exec_frameReceive _ hp hn s, frameReceive_whole hf hu hd hc, if_neg (Nat.not_lt.2 hl), if_pos ⟨ht, ho, he, hm⟩]
  case queued =>
    intro _ _ _ _ _ _ _ s hp hn hf hu hd hc hl hk hr
    rw [exec_frameReceive _ hp hn s, frameReceive_whole hf hu hd hc, if_neg (Nat.not_lt.2 hl), if_neg hk, if_neg hr]
  case damaged =>
    intro _ _ _ _ _ _ _ s hp hn hf hu hd hc hl ho hs hm
    rw [exec_frameReceive _ hp hn s, frameReceive_whole hf hu hd hc, if_neg (Nat.not_lt.2 hl), if_neg (by simp [ho]),
      if_pos ⟨ho, hs, hm⟩, ho]
    rfl
  case idle => exact fun _ _ _ _ _ mm s hp hn h => (exec_frameReceive mm hp hn s).trans (congrArg _ (frameReceive_idle mm h))
  case overflow => exact fun _ _ _ _ _ _ _ _ hu ht => queueFrame_overflow hu ht

end Sys2Proof.Machine

/-! What the events of a slice's slots, of Lantern's exports and of the stopped beat's collector do (R29, R115, R337 to R349,
R457). -/

namespace Sys2Proof.Machine

section
variable {sl ns : Nat} {s u v w : State}

theorem exec_ingressSlot (h : sl < 32) (s : State) : exec (.ingressSlot sl ns) s = .next (ingressSlot sl ns s) :=
  need_of (decide_eq_true h) ..

theorem ingressSlot_unserved (h : sliceServed s sl = false) : ingressSlot sl ns s = s := by
  rw [ingressSlot, h]; rfl

/-- An admission that cannot be made holds the slot (R115). -/
theorem ingressSlot_held (h : sliceServed s sl = true) (hw : w = admitWaiting sl ns (s.arb sl).waiting.length s)
    (hl : (w.arb sl).waiting.isEmpty = false) : ingressSlot sl ns s = w := by
  subst hw
  simp only [ingressSlot, h, hl, Bool.not_true, Bool.not_false, Bool.false_eq_true, if_false, if_true]

/-- With no admission left, the slot runs the packet that it takes, if there is one (R29). -/
theorem ingressSlot_runs {i : Nat} (h : sliceServed s sl = true) (hw : w = admitWaiting sl ns (s.arb sl).waiting.length s)
    (hl : (w.arb sl).waiting = []) (ht : takeSlot sl ns w = (some i, u)) :
    ingressSlot sl ns s = ingressRun i ns (stamp i ns u) := by
  subst hw
  simp only [ingressSlot, h, hl, ht, List.isEmpty_nil, Bool.not_true, Bool.false_eq_true, if_false]

theorem ingressSlot_rests (h : sliceServed s sl = true) (hw : w = admitWaiting sl ns (s.arb sl).waiting.length s)
    (hl : (w.arb sl).waiting = []) (ht : takeSlot sl ns w = (none, u)) : ingressSlot sl ns s = u := by
  subst hw
  simp only [ingressSlot, h, hl, ht, List.isEmpty_nil, Bool.not_true, Bool.false_eq_true, if_false]

theorem takeSlot_front {o i : Nat} {l : List Nat}
    (hv : v = eachDo [3 * sl, 3 * sl + 1, 3 * sl + 2] (arriveUpTo (nowNs w ns)) w) (hu : (v.arb sl).used < slotsPerBeat v)
    (ho : nextOctet v sl = some o) (hr : ¬ ((v.arb sl).used % 512 = 511 ∧ (nextOther v sl).isSome = true))
    (hf : v.buf.fifo.get [] (3 * sl + o) = i :: l) :
    takeSlot sl ns w = (some i, xoffRefresh (modArb sl (fun a => { a with octet := o, used := a.used + 1, front := a.front + 1 })
      (v.modBuf fun b => { b with fifo := b.fifo.put (3 * sl + o) l }))) := by
  subst hv
  simp only [takeSlot, Nat.not_le.2 hu, ho, hf, Bool.and_eq_true, decide_eq_true_eq, hr, if_false]

/-- Another source has the slot where no octet has a frame for it, or the slot is reserved (R29). -/
theorem takeSlot_other {o i : Nat} {l : List Nat}
    (hv : v = eachDo [3 * sl, 3 * sl + 1, 3 * sl + 2] (arriveUpTo (nowNs w ns)) w) (hu : (v.arb sl).used < slotsPerBeat v)
    (hn : nextOctet v sl = none ∨ (v.arb sl).used % 512 = 511) (ho : nextOther v sl = some o)
    (hf : v.buf.inj.get [] (5 * sl + o) = i :: l) :
    takeSlot sl ns w = (some i, modArb sl (fun a => { a with other := o, used := a.used + 1, others := a.others + 1 })
      (v.modBuf fun b => { b with inj := b.inj.put (5 * sl + o) l })) := by
  subst hv
  rcases hn with hn | hn
  · simp only [takeSlot, Nat.not_le.2 hu, hn, ho, hf, ite_self, if_false]
  · simp only [takeSlot, Nat.not_le.2 hu, hn, ho, hf, decide_true, Option.isSome_some, Bool.and_self, if_false, if_true]

theorem takeSlot_none (hv : v = eachDo [3 * sl, 3 * sl + 1, 3 * sl + 2] (arriveUpTo (nowNs w ns)) w)
    (h : slotsPerBeat v ≤ (v.arb sl).used ∨ (nextOctet v sl = none ∧ nextOther v sl = none)) :
    takeSlot sl ns w = (none, v) := by
  subst hv
  rcases h with h | ⟨hn, ho⟩
  · simp only [takeSlot, h, if_true]
  · simp only [takeSlot, hn, ho, ite_self]

end

section
variable {pkt arrived ns n : Nat} {s : State}

/-- More bytes of a packet have arrived, and none is taken back. -/
def moreArrived (pkt arrived : Nat) (s : State) : State :=
  modPkt pkt (fun k => { k with arrived := max k.arrived (min arrived k.bytes.length) }) s

theorem parseResume_waits (h : s.buf.parsing.find pkt = some n) (ha : ((moreArrived pkt arrived s).pkt pkt).arrived < n) :
    parseResume pkt arrived ns s = moreArrived pkt arrived s := by
  unfold moreArrived at *
  simp only [parseResume, h, ha, if_true]

theorem parseResume_goes (h : s.buf.parsing.find pkt = some n) (ha : n ≤ ((moreArrived pkt arrived s).pkt pkt).arrived) :
    parseResume pkt arrived ns s = ingressRun pkt ns (moreArrived pkt arrived s) := by
  unfold moreArrived at *
  simp only [parseResume, h, Nat.not_lt.2 ha, if_false]

end

section
variable {i : Nat} {bs : Bytes} {l : List (Nat × Bytes)} {s u : State}

theorem ipfixFlush_due {stream sl : Nat} (hk : (s.stream stream).kind = 3) (hr : (s.builder stream sl).recs ≠ [])
    (ht : (s.builder stream sl).since + (s.stream stream).flush ≤ s.beat) : ipfixFlush stream sl s = sendMessage stream sl s := by
  rw [ipfixFlush, if_pos]
  simp [hk, hr, ht]

theorem ipfixRefresh_due {stream sl : Nat} (hk : (s.stream stream).kind = 3) (hr : (s.builder stream sl).tmpl ≠ 0)
    (ht : (s.builder stream sl).tmpl - 1 + (s.stream stream).refresh ≤ s.time.sec) :
    ipfixRefresh stream sl s = sendTemplates stream sl s := by
  rw [ipfixRefresh, if_pos]
  simp [hk, hr, ht]

/-- The record at the front of Lantern's queue is written at the stream's position in its ring, which moves on, with the next
sequence number (R337). -/
def recordWritten (i : Nat) (bs : Bytes) (f : Bytes → State → State) (s : State) : State :=
  streamCount i 0 1 (modStream i (fun x => { x with wr := x.wr + 64 }) (moverBytes 5 64 (f (takeSeq i bs s).1 (takeSeq i bs s).2)))

@[simp] theorem bmeOf_modLantern (f : Lantern → Lantern) (s : State) (pf : Nat) : bmeOf (s.modLantern f) pf = bmeOf s pf := rfl

/-- The front record of a ring in host memory is lost where the ring is gone or cannot be written, dropped where the ring is full
under STOP, and written otherwise (R337, R349). -/
theorem lanternWrite_host (hq : s.lantern.queue = (i, bs) :: l) (hu : u = s.modLantern fun q => { q with queue := l })
    (hk : (u.stream i).kind = 2) :
    lanternWrite s =
      if (u.stream i).dead = true ∨ bmeOf s 0 = false then lanternLost i (streamCount i 3 1 u)
      else if streamFull (u.stream i) (2 ^ (u.stream i).k) = true then streamDropFull i u
      else recordWritten i bs (hostWrite 0 ((u.stream i).addr + (u.stream i).wr % 2 ^ (u.stream i).k)) u := by
  subst hu
  simp only [lanternWrite, hq, hk, bmeOf_modLantern, Bool.or_eq_true, Bool.not_eq_true', recordWritten]

/-- The same of a ring in a region of module memory, lost where its bytes are (R337, R349). -/
theorem lanternWrite_region {r : Region} (hq : s.lantern.queue = (i, bs) :: l)
    (hu : u = s.modLantern fun q => { q with queue := l }) (hr : r = u.mem.regions.get {} (u.stream i).region)
    (hk : (u.stream i).kind = 1) :
    lanternWrite s =
      if rangeLost u (r.base + (u.stream i).wr % max 1 r.size) 64 = true then lanternLost i (streamCount i 2 1 u)
      else if streamFull (u.stream i) r.size = true then streamDropFull i u
      else recordWritten i bs (ringWriteLas r.base r.size (u.stream i).wr) u := by
  subst hr hu
  simp only [lanternWrite, hq, hk, recordWritten]

end

/-- Settles O51: with its guard met, each event does what that branch of its meaning says. -/
theorem ingressAndExportEvents : Obligations.IngressAndExportEvents := by
  refine ⟨?front, ?other, ?nothing, ?held, ?unserved, ?parseWaits, ?parseGoes, ?flushes, ?refreshes, ?ringServed, ?hostWritten,
    ?hostFull, ?hostLost, ?regionLost, ?regionFull, ?regionWritten, ?collector⟩
  case front =>
    exact fun _ _ _ _ _ _ _ s hs h hw hl hv hu ho hr hf => (exec_ingressSlot hs s).trans (congrArg _
      (ingressSlot_runs h hw hl (takeSlot_front hv hu ho hr hf)))
  case other =>
    exact fun _ _ _ _ _ _ _ s hs h hw hl hv hu hn ho hf => (exec_ingressSlot hs s).trans (congrArg _
      (ingressSlot_runs h hw hl (takeSlot_other hv hu hn ho hf)))
  case nothing =>
    exact fun _ _ _ _ s hs h hw hl hv hn => (exec_ingressSlot hs s).trans (congrArg _
      (ingressSlot_rests h hw hl (takeSlot_none hv hn)))
  case held => exact fun _ _ _ s hs h hw hl => (exec_ingressSlot hs s).trans (congrArg _ (ingressSlot_held h hw hl))
  case unserved => exact fun _ _ s hs h => (exec_ingressSlot hs s).trans (congrArg _ (ingressSlot_unserved h))
  case parseWaits => exact fun _ _ _ _ _ h ha => congrArg Host.Outcome.next (parseResume_waits h ha)
  case parseGoes => exact fun _ _ _ _ _ h ha => congrArg Host.Outcome.next (parseResume_goes h ha)
  case flushes =>
    exact fun _ _ _ hs hl hk hr ht => (need_of (by simp [hs, hl]) ..).trans (congrArg _ (ipfixFlush_due hk hr ht))
  case refreshes =>
    exact fun _ _ _ hs hl hk hr ht => (need_of (by simp [hs, hl]) ..).trans (congrArg _ (ipfixRefresh_due hk hr ht))
  case ringServed => exact fun _ h => congrArg Host.Outcome.next (if_pos h)
  case hostWritten =>
    intro _ _ _ _ hq hk hd hb hf
    rw [lanternWrite_host hq rfl hk, if_neg (by simpa [hd] using hb), if_neg (Bool.eq_false_iff.1 hf)]
    rfl
  case hostFull =>
    intro _ _ _ _ hq hk hd hb hf
    rw [lanternWrite_host hq rfl hk, if_neg (by simpa [hd] using hb), if_pos hf]
  case hostLost =>
    intro _ _ _ _ hq hk h
    rw [lanternWrite_host hq rfl hk, if_pos h]
  case regionLost =>
    intro _ _ _ _ hq hk h
    rw [lanternWrite_region hq rfl rfl hk, if_pos h]
  case regionFull =>
    intro _ _ _ _ hq hk h hf
    rw [lanternWrite_region hq rfl rfl hk, if_neg (Bool.eq_false_iff.1 h), if_pos hf]
  case regionWritten =>
    intro _ _ _ _ hq hk h hf
    rw [lanternWrite_region hq rfl rfl hk, if_neg (Bool.eq_false_iff.1 h), if_neg (Bool.eq_false_iff.1 hf)]
    rfl
  case collector => exact fun _ _ hp hb => congrArg Host.Outcome.next (if_pos (by rw [hp, hb]; rfl))

end Sys2Proof.Machine

/-! What a LANE command that passes its checks does (R57 to R84). -/

namespace Sys2Proof.Machine

section
variable {s : State} {p : Bytes}

theorem laneCheck_ok (hl : laneArg p < 768) : (laneCheck p).1 = true := decide_eq_true hl

/-- A payload whose one check is of the lane goes on where it names one. -/
theorem laneChecks_ok {v : Verdict} (hl : laneArg p < 768) : checks [laneCheck p] v = v :=
  checks_ok (List.forall_mem_singleton.2 (laneCheck_ok hl))

/-- LOOPBACK with code 0 leaves LOOPBACK (R79). -/
theorem laneLoopback_leaves {c : Cmd} {h : HostAnswer} (hl : laneArg p < 768) (h0 : rd p 2 1 = 0) :
    laneLoopbackSpec.run c p h s = replyNow (if (s.lane (laneArg p)).state = 9 then
      enterState (laneArg p) 0 (modLane (laneArg p) (fun x => { x with loopback := 0 }) s) else s) [] := by
  refine (checks_ok (by simp [laneCheck_ok hl, h0])).trans ((if_pos (by simp [h0])).trans ?_)
  simp only [beq_iff_eq]

/-- LOOPBACK with another code enters it, where the lane is DISABLED or its port administratively down, and nothing holds
it (R79). -/
theorem laneLoopback_enters {c : Cmd} {h : HostAnswer} (hl : laneArg p < 768) (h1 : 1 ≤ rd p 2 1) (h4 : rd p 2 1 ≤ 4)
    (hh : (s.lane (laneArg p)).held = [])
    (hs : (s.lane (laneArg p)).state = 0 ∨ ∃ q, portOfLane s (laneArg p) = some q ∧ (s.port q).admin = false) :
    laneLoopbackSpec.run c p h s = replyNow (enterLoopback (laneArg p) (rd p 2 1) s) [] := by
  refine (checks_ok (by simp [laneCheck_ok hl, h4])).trans ((if_neg (by simp; omega)).trans (require_ok ?_))
  rcases hs with hs | ⟨q, hq, ha⟩
  · simp [hs, hh]
  · simp [hq, ha, hh]

/-- QUIET_TLV answers for the port of the lane (R77). -/
theorem laneQuietTlv_run {c : Cmd} {h : HostAnswer} (hl : laneArg p < 768) (hp : (portOfLane s (laneArg p)).isSome = true) :
    laneQuietTlvSpec.run c p h s = replyNow s (quietTlv s (quietLane s (laneArg p))) := by
  obtain ⟨q, hq⟩ := Option.isSome_iff_exists.1 hp
  refine (laneChecks_ok hl).trans ?_
  simp only [quietLane, hq, Option.getD_some]

end

/-- Settles O16: the checks are the ranges of each request table, then the states that the command asks for. -/
theorem laneCommands : Obligations.LaneCommands := by
  refine ⟨?config, ?enable, ?disable, ?status, ?getCoeff, ?setCoeff, ?retrain, ?leavesLoopback, ?entersLoopback, ?prbs, ?eye,
    ?counters, ?trainLog, ?quietTlv, ?quietNoPeer, ?quietPeer, ?quietConfig⟩
  case config =>
    intro m h s c p hr e hl hm hw hf hk hb ht ht' hn hn' hx
    refine acceptAs_run hr e (checks_ok (List.forall_mem_cons.2 ⟨laneCheck_ok hl, List.forall_mem_cons.2
      ⟨?width, by simp [hf, hk, hb, ht, ht', hn, hn', hx]⟩⟩))
    cases hp : portOfLane s (laneArg p) with
    | none => simp [hm]
    | some q => simp [hm, hw q hp]
  case enable =>
    exact fun _ _ _ _ _ hr e hl hs hm hh =>
      acceptAs_run hr e ((laneChecks_ok hl).trans (require_ok (by rw [hh, hs]; simp [hm])))
  case disable => exact fun _ _ _ _ _ hr e hl => acceptAs_run hr e (laneChecks_ok hl)
  case status => exact fun _ _ _ _ _ hr e hl => acceptAs_run hr e (laneChecks_ok hl)
  case getCoeff => exact fun _ _ _ _ _ hr e hl => acceptAs_run hr e (laneChecks_ok hl)
  case setCoeff =>
    exact fun _ _ _ _ _ hr e hl ht hj hc hs =>
      acceptAs_run hr e ((checks_ok (by simp [laneCheck_ok hl, ht, hj, hc])).trans (require_ok (by simpa using hs)))
  case retrain => exact fun _ _ _ _ _ hr e hl hs => acceptAs_run hr e ((laneChecks_ok hl).trans (require_ok (by simp [hs])))
  case leavesLoopback => exact fun _ _ _ _ _ hr e hl h0 => acceptAs_run hr e (laneLoopback_leaves hl h0)
  case entersLoopback =>
    exact fun _ _ _ _ _ hr e hl h1 h4 hh hs => acceptAs_run hr e (laneLoopback_enters hl h1 h4 hh hs)
  case prbs =>
    exact fun _ _ _ _ _ hr e hl hk hc hs =>
      acceptAs_run hr e ((checks_ok (by simp [laneCheck_ok hl, hk, hc])).trans (require_ok (by simpa using hs)))
  case eye => exact fun _ _ _ _ _ hr e hl hs => acceptAs_run hr e ((laneChecks_ok hl).trans (require_ok (by simpa using hs)))
  case counters => exact fun _ _ _ _ _ hr e hl => acceptAs_run hr e (laneChecks_ok hl)
  case trainLog => exact fun _ _ _ _ _ hr e hl => acceptAs_run hr e (laneChecks_ok hl)
  case quietTlv => exact fun _ _ _ _ _ hr e hl hp => acceptAs_run hr e (laneQuietTlv_run hl hp)
  case quietNoPeer =>
    exact fun _ _ _ _ _ hr e hl hn =>
      acceptAs_run hr e ((checks_ok (by simp [laneCheck_ok hl, hn])).trans (by rw [hn]; rfl))
  case quietPeer =>
    exact fun _ _ _ _ _ hr e hl hn =>
      acceptAs_run hr e ((checks_ok (by simp [laneCheck_ok hl, hn])).trans (by rw [hn]; rfl))
  case quietConfig =>
    exact fun _ _ _ _ _ hr e hl hi => acceptAs_run hr e (checks_ok (by simp [laneCheck_ok hl, hi]))

end Sys2Proof.Machine

/-! What each event of bring-up does to a lane (R60 to R70): energy, AN, training requests and the limits, one lemma per case. -/

namespace Sys2Proof.Machine

section
variable {lane : Nat} {s : State}

/-- The lowest lane of an auto-negotiating port begins AN (R60, R63). -/
theorem anEnergy_lowest (h : quietLane s lane = lane) : anEnergy lane s = openSession lane (enterState lane 2 s) :=
  if_pos (by simp [h])

theorem anEnergy_follows (h : quietLane s lane ≠ lane) (ht : [3, 4, 5, 6].contains (s.lane (quietLane s lane)).state = true) :
    anEnergy lane s = enterTrain lane s := (if_neg (by simpa using h)).trans (if_pos ht)

theorem anEnergy_waits (h : quietLane s lane ≠ lane) (ht : [3, 4, 5, 6].contains (s.lane (quietLane s lane)).state = false) :
    anEnergy lane s = modLane lane (fun x => { x with energy := true }) s :=
  (if_neg (by simpa using h)).trans (if_neg (Bool.eq_false_iff.1 ht))

/-- Energy at a lane in RX_DETECT that waits out no backoff, where its port auto-negotiates (R60, R61). -/
theorem exec_laneEnergyDetect_an (hl : lane < 768) (hs : (s.lane lane).state = 1) (hw : (s.lane lane).waiting = false)
    (hf : bit (s.lane lane).flags 0 = true) : exec (.laneEnergyDetect lane) s = .next (anEnergy lane s) :=
  (need_next_of_pos (decide_eq_true hl) (by simp [hs, hw]) ..).trans (congrArg _ (if_pos hf))

theorem exec_laneEnergyDetect_train (hl : lane < 768) (hs : (s.lane lane).state = 1) (hw : (s.lane lane).waiting = false)
    (hf : bit (s.lane lane).flags 0 = false) : exec (.laneEnergyDetect lane) s = .next (enterTrain lane s) :=
  (need_next_of_pos (decide_eq_true hl) (by simp [hs, hw]) ..).trans (congrArg _ (if_neg (Bool.eq_false_iff.1 hf)))

/-- Energy at a lane in BLIND or RELINK. -/
theorem exec_laneEnergyDetect_lock (hl : lane < 768) (hs : (s.lane lane).state = 7 ∨ (s.lane lane).state = 8) :
    exec (.laneEnergyDetect lane) s =
      .next (enterState lane 4 (modLane lane (fun y => { y with blind := (s.lane lane).state == 7 }) s)) := by
  have past : ((s.lane lane).state == 1 && !(s.lane lane).waiting) = false := by rcases hs with hs | hs <;> simp [hs]
  exact (need_next_of_neg (decide_eq_true hl) (Bool.eq_false_iff.1 past) ..).trans (next_of_pos (by simpa using hs) ..)

theorem exec_anResolved_common {mode : Nat} {page : AnPage} (hl : lane < 768) (hs : (s.lane lane).state = 2)
    (hm : anMode (anAdvert s lane) page = some mode) :
    exec (.anResolved lane page) s =
      .next (anResolve lane mode (anAdvert s lane) page (modLane lane (fun x => { x with page := some page }) s)) :=
  (need_next_of_pos (decide_eq_true hl) (by simp [hs]) ..).trans (by simp only [hm])

/-- With no technology in common AN fails (R63). -/
theorem exec_anResolved_none {page : AnPage} (hl : lane < 768) (hs : (s.lane lane).state = 2)
    (hm : anMode (anAdvert s lane) page = none) :
    exec (.anResolved lane page) s = .next (bringUpFail lane 4 7 (modLane lane (fun x => { x with page := some page }) s)) :=
  (need_next_of_pos (decide_eq_true hl) (by simp [hs]) ..).trans (by simp only [hm])

theorem exec_partnerTrainingRequest (hl : lane < 768) (req : TrainReq) (s : State) :
    exec (.partnerTrainingRequest lane req) s = .next (trainingRequest lane req s) := need_of (decide_eq_true hl) ..

section
variable {t : TrainSession} (hs : (s.lane lane).state = 3) (ht : (s.lane lane).session = some t)
include hs ht

/-- A step of a tap asked for while no request is open (R65, Table 2.8). -/
theorem trainingRequest_step (ho : t.open_ = false) (tap : Nat) (up : Bool) :
    trainingRequest lane (.step tap up) s = answerTaps lane (tapAnswer (s.lane lane).mode (s.lane lane).set.taps
      ((s.lane lane).set.taps.set tap ((s.lane lane).set.taps.getD tap 0 + if up then 1 else -1))
      (decide (5 ≤ tap) || (decide (tap < 2) && decide ((s.lane lane).mode ≤ 3)))) s := by
  simp only [trainingRequest, hs, ht, ho, bne_self_eq_false, Bool.false_eq_true, if_false]

theorem trainingRequest_preset (ho : t.open_ = false) (taps : List Int) :
    trainingRequest lane (.preset taps) s = answerTaps lane (tapAnswer (s.lane lane).mode (s.lane lane).set.taps taps
      (decide ((s.lane lane).mode ≤ 3) && (decide (taps.getD 0 0 ≠ 0) || decide (taps.getD 1 0 ≠ 0)))) s := by
  simp only [trainingRequest, hs, ht, ho, bne_self_eq_false, Bool.false_eq_true, if_false]

theorem trainingRequest_undefinedPreset (ho : t.open_ = false) :
    trainingRequest lane .undefinedPreset s = countAnswer lane 3 s := by
  simp only [trainingRequest, hs, ht, ho, bne_self_eq_false, Bool.false_eq_true, if_false]

theorem trainingRequest_overlapping :
    trainingRequest lane .overlapping s = trainFault lane 1 (countAnswer lane 4 (modLane lane (fun x => { x with
      session := x.session.map fun t => { t with open_ := true, violation := 1 } }) s)) := by
  simp only [trainingRequest, hs, ht, bne_self_eq_false, Bool.false_eq_true, if_false]

theorem trainingRequest_hold :
    trainingRequest lane .hold s = modLane lane (fun x => { x with
      session := x.session.map fun t => { t with open_ := false } }) s := by
  simp only [trainingRequest, hs, ht, bne_self_eq_false, Bool.false_eq_true, if_false]

theorem trainingRequest_badFrame :
    trainingRequest lane .badFrame s = if nth t.counts 5 < 1000 then countAnswer lane 5 s else bringUpFail lane 2 5 s := by
  simp only [trainingRequest, hs, ht, bne_self_eq_false, Bool.false_eq_true, if_false]

end

/-- Method 1 begins BLIND again when LOCK fails (R61). -/
theorem lockFail_blind (v row : Nat) (hm : (s.lane lane).method = 1) :
    lockFail lane v row s = enterBlind lane (modLane lane (fun x => { x with lastFault := v })
      (closeSession lane 2 v (trainFault lane v (laneCount lane 4 1 (countAnswer lane row s))))) := if_pos (by simp [hm])

theorem lockFail_other (v row : Nat) (hm : (s.lane lane).method ≠ 1) : lockFail lane v row s = bringUpFail lane v row s :=
  if_neg (by simpa using hm)

theorem exec_lockLimitExpire_due (hl : lane < 768) (hs : (s.lane lane).state = 4)
    (ht : timeCome s ((s.lane lane).stateBeat + 50000) = true) :
    exec (.lockLimitExpire lane) s = .next (lockFail lane 7 10 s) :=
  need_next_of_pos (decide_eq_true hl) (by simp [hs, inStateFor, ht]) ..

/-- What BLIND and RELINK come to at their limits: BLIND again under method 1, else RX_DETECT (R61). -/
theorem relinkGiveUp_eq (l : Nat) (s : State) :
    relinkGiveUp l s = if (s.lane l).method = 1 then enterBlind l s else enterRxDetect l s := by
  simp only [relinkGiveUp, beq_iff_eq]

theorem exec_blindLimitExpire_due (hl : lane < 768) (hs : (s.lane lane).state = 7)
    (ht : timeCome s ((s.lane lane).stateBeat + 1000 * (s.lane lane).blindLimit) = true) :
    exec (.blindLimitExpire lane) s = .next (relinkGiveUp lane s) :=
  need_next_of_pos (decide_eq_true hl) (by simp [hs, inStateFor, ht]) ..

end

/-- Settles O30: with its guard met, each event is that case of its meaning. -/
theorem laneBringUp : Obligations.LaneBringUp := by
  refine ⟨?energyLowest, ?energyFollows, ?energyNoted, ?energyTrains, ?energyLocks, ?anCommon, ?anNone, ?stepUp, ?stepDown,
    ?preset, ?undefinedPreset, ?overlapping, ?hold, ?badFrame, ?badFrameAborts, ?ready, ?readyWaits, ?locked, ?lockedWaits,
    ?matched, ?matchedWaits, ?mismatch, ?deskew, ?trainLimit, ?lockLimit, ?lockLimitBlind, ?capexLimit, ?blindAgain,
    ?blindEnds, ?relinkWindow, ?relinkLimit, ?backoff⟩
  case energyLowest =>
    exact fun _ _ hl hs hw hf hq => (exec_laneEnergyDetect_an hl hs hw hf).trans (congrArg _ (anEnergy_lowest hq))
  case energyFollows =>
    exact fun _ _ hl hs hw hf hq ht => (exec_laneEnergyDetect_an hl hs hw hf).trans (congrArg _ (anEnergy_follows hq ht))
  case energyNoted =>
    exact fun _ _ hl hs hw hf hq ht => (exec_laneEnergyDetect_an hl hs hw hf).trans (congrArg _ (anEnergy_waits hq ht))
  case energyTrains => exact fun _ _ hl hs hw hf => exec_laneEnergyDetect_train hl hs hw hf
  case energyLocks => exact fun _ _ hl hs => exec_laneEnergyDetect_lock hl hs
  case anCommon => exact fun _ _ _ _ hl hs hm => exec_anResolved_common hl hs hm
  case anNone => exact fun _ _ _ hl hs hm => exec_anResolved_none hl hs hm
  case stepUp =>
    exact fun _ tap _ s hl hs ht ho =>
      (exec_partnerTrainingRequest hl _ s).trans (congrArg _ (trainingRequest_step hs ht ho tap true))
  case stepDown =>
    exact fun _ tap _ s hl hs ht ho =>
      (exec_partnerTrainingRequest hl _ s).trans (congrArg _ (trainingRequest_step hs ht ho tap false))
  case preset =>
    exact fun _ taps _ s hl hs ht ho =>
      (exec_partnerTrainingRequest hl _ s).trans (congrArg _ (trainingRequest_preset hs ht ho taps))
  case undefinedPreset =>
    exact fun _ _ s hl hs ht ho =>
      (exec_partnerTrainingRequest hl _ s).trans (congrArg _ (trainingRequest_undefinedPreset hs ht ho))
  case overlapping =>
    exact fun _ _ s hl hs ht => (exec_partnerTrainingRequest hl _ s).trans (congrArg _ (trainingRequest_overlapping hs ht))
  case hold =>
    exact fun _ _ s hl hs ht => (exec_partnerTrainingRequest hl _ s).trans (congrArg _ (trainingRequest_hold hs ht))
  case badFrame =>
    exact fun _ _ s hl hs ht hn => (exec_partnerTrainingRequest hl _ s).trans
      (congrArg _ ((trainingRequest_badFrame hs ht).trans (if_pos hn)))
  case badFrameAborts =>
    exact fun _ _ s hl hs ht hn => (exec_partnerTrainingRequest hl _ s).trans
      (congrArg _ ((trainingRequest_badFrame hs ht).trans (if_neg (Nat.not_lt.2 hn))))
  case ready =>
    rintro lane _ s hl hs rfl hg
    exact (need_next_of_neg (decide_eq_true hl) (by simp [hs]) ..).trans (next_of_pos hg ..)
  case readyWaits =>
    rintro lane _ s hl hs rfl hg
    exact (need_next_of_neg (decide_eq_true hl) (by simp [hs]) ..).trans (next_of_neg (Bool.eq_false_iff.1 hg) ..)
  case locked =>
    rintro lane _ s hl hs rfl hg
    exact (need_next_of_neg (decide_eq_true hl) (by simp [hs]) ..).trans (next_of_pos hg ..)
  case lockedWaits =>
    rintro lane _ s hl hs rfl hg
    exact (need_next_of_neg (decide_eq_true hl) (by simp [hs]) ..).trans (next_of_neg (Bool.eq_false_iff.1 hg) ..)
  case matched =>
    exact fun _ _ hl hs hg => (need_next_of_neg (decide_eq_true hl) (by simp [hs]) ..).trans (next_of_pos hg ..)
  case matchedWaits =>
    exact fun _ _ hl hs hg =>
      (need_next_of_neg (decide_eq_true hl) (by simp [hs]) ..).trans (next_of_neg (Bool.eq_false_iff.1 hg) ..)
  case mismatch => exact fun _ _ hl hs => need_next_of_neg (decide_eq_true hl) (by simp [hs]) ..
  case deskew => exact fun _ _ hl hs => need_next_of_neg (decide_eq_true hl) (by simp [hs]) ..
  case trainLimit => exact fun _ _ hl hs ht => need_next_of_pos (decide_eq_true hl) (by simp [hs, inStateFor, ht]) ..
  case lockLimit =>
    exact fun _ _ hl hs ht hm => (exec_lockLimitExpire_due hl hs ht).trans (congrArg _ (lockFail_other 7 10 hm))
  case lockLimitBlind =>
    exact fun _ _ hl hs ht hm => (exec_lockLimitExpire_due hl hs ht).trans (congrArg _ (lockFail_blind 7 10 hm))
  case capexLimit => exact fun _ _ _ hl hs ht => need_next_of_pos (decide_eq_true hl) (by simp [hs, inStateFor, ht]) ..
  case blindAgain =>
    exact fun lane s hl hs ht hm => (exec_blindLimitExpire_due hl hs ht).trans
      (congrArg _ ((relinkGiveUp_eq lane s).trans (if_pos hm)))
  case blindEnds =>
    exact fun lane s hl hs ht hm => (exec_blindLimitExpire_due hl hs ht).trans
      (congrArg _ ((relinkGiveUp_eq lane s).trans (if_neg hm)))
  case relinkWindow =>
    exact fun lane s hl hs ht => (need_next_of_pos (decide_eq_true hl) (by simp [hs, inStateFor, ht]) ..).trans
      (congrArg _ (relinkGiveUp_eq lane s))
  case relinkLimit =>
    exact fun lane s hl hs hr ht => (need_next_of_pos (decide_eq_true hl) (by simp [hs, hr, inStateFor, ht]) ..).trans
      (congrArg _ (relinkGiveUp_eq lane s))
  case backoff => exact fun _ _ hl hs hw ht => need_next_of_pos (decide_eq_true hl) (by simp [hs, hw, inStateFor, ht]) ..

end Sys2Proof.Machine

/-! An ACTIVE lane that loses its link, and Directional Quiet (R68 to R78, R89). -/

namespace Sys2Proof.Machine

section
variable {lane reason : Nat} {s u : State}

/-- Only loss of signal, of CDR lock and of FEC alignment lead to RELINK (R70). -/
theorem relinks_otherReason (x : Lane) (h : [1, 2, 3].contains reason = false) : relinks x reason = false := by
  rw [relinks, h, Bool.and_false]

/-- An ACTIVE lane that may relink loses its link: `u` is the state with the loss of signal counted, where it is one (R70,
R71, R82). -/
theorem loseLink_relinks (hs : (s.lane lane).state = 6)
    (hu : (if reason == 1 || reason == 9 then laneCount lane 3 1 s else s) = u) (hr : relinks (u.lane lane) reason = true) :
    loseLink lane reason s = modLane lane (fun x => { x with relink := true, set := relinkSet x })
      (leaveActive lane reason 8 (laneCount lane 5 1 u)) := by
  subst hu
  exact (if_neg (by simp [hs])).trans (if_pos hr)

theorem loseLink_drops (hs : (s.lane lane).state = 6)
    (hu : (if reason == 1 || reason == 9 then laneCount lane 3 1 s else s) = u) (hr : relinks (u.lane lane) reason = false) :
    loseLink lane reason s = modLane lane (fun x => { x with relink := false }) (leaveActive lane reason 1 u) := by
  subst hu
  exact (if_neg (by simp [hs])).trans (if_neg (Bool.eq_false_iff.1 hr))

/-- Loss of signal at a lane that is not in AN, with its energy no longer noted in `u`. -/
theorem exec_losDetect_active (hl : lane < 768) (hu : modLane lane (fun x => { x with energy := false }) s = u)
    (hs : (u.lane lane).state = 6) : exec (.losDetect lane) s = .next (loseLink lane 1 u) := by
  subst hu
  exact need_next_of_neg (decide_eq_true hl) (by rw [hs]; decide) ..

end

/-- Settles O31: with its guard met, each event is that case of its meaning. -/
theorem laneActiveAndQuiet : Obligations.LaneActiveAndQuiet := by
  refine ⟨?losInAn, ?losRelinks, ?losDrops, ?cdrRelinks, ?cdrDrops, ?fecRelinks, ?fecDrops, ?hiSer, ?hiSerOff, ?trainingSeen,
    ?trainingSeenActive, ?rsFault, ?knownGood, ?idlePosted, ?quietEnters, ?wakes, ?wakeDone, ?refresh, ?partnerSleep,
    ?partnerRefresh, ?partnerWake, ?refreshMissed, ?lpiReceived, ?lpiSent⟩
  case losInAn =>
    rintro lane _ s hl rfl hs
    exact need_next_of_pos (decide_eq_true hl) (by simp only [hs]; rfl) ..
  case losRelinks =>
    exact fun _ _ _ hl hu hs hr => (exec_losDetect_active hl hu hs).trans (congrArg _ (loseLink_relinks hs rfl hr))
  case losDrops =>
    exact fun _ _ _ hl hu hs hr => (exec_losDetect_active hl hu hs).trans (congrArg _ (loseLink_drops hs rfl hr))
  case cdrRelinks =>
    exact fun _ _ hl hs hr => (need_of (decide_eq_true hl) ..).trans (congrArg _ (loseLink_relinks hs rfl hr))
  case cdrDrops =>
    exact fun _ _ hl hs hr => (need_of (decide_eq_true hl) ..).trans (congrArg _ (loseLink_drops hs rfl hr))
  case fecRelinks =>
    exact fun _ _ hl hs hr => (need_of (decide_eq_true hl) ..).trans (congrArg _ (loseLink_relinks hs rfl hr))
  case fecDrops =>
    exact fun _ _ hl hs hr => (need_of (decide_eq_true hl) ..).trans (congrArg _ (loseLink_drops hs rfl hr))
  case hiSer =>
    exact fun _ _ hl hs hf => (need_next_of_pos (decide_eq_true hl) hf ..).trans
      (congrArg _ (loseLink_drops hs rfl (relinks_otherReason _ rfl)))
  case hiSerOff => exact fun _ _ hl hf => need_next_of_neg (decide_eq_true hl) (Bool.eq_false_iff.1 hf) ..
  case trainingSeen => exact fun _ _ hl hs => need_next_of_pos (decide_eq_true hl) (by simpa using hs) ..
  case trainingSeenActive =>
    exact fun _ _ hl hs => (need_next_of_neg (decide_eq_true hl) (by simp [hs]) ..).trans
      ((next_of_pos (by simp [hs]) ..).trans (congrArg _ (loseLink_drops hs rfl (relinks_otherReason _ rfl))))
  case rsFault => exact fun _ _ _ _ hp => need_of (decide_eq_true hp) ..
  case knownGood => exact fun _ _ _ hl hs hb => need_next_of_pos (decide_eq_true hl) (by simp [hs, hb]) ..
  case idlePosted => exact fun _ _ hp => need_of (decide_eq_true hp) ..
  case quietEnters => exact fun _ _ h => if_pos h
  case wakes => exact fun _ _ hp ht hq hb => need_next_of_pos (decide_eq_true hp) (by simp [ht, hq, hb]) ..
  case wakeDone => exact fun _ _ hp ht hb => need_next_of_pos (decide_eq_true hp) (by simp [ht, hb]) ..
  case refresh => exact fun _ _ hp ht hb => need_next_of_pos (decide_eq_true hp) (by simp [ht, hb]) ..
  case partnerSleep => exact fun _ _ hp hr => need_next_of_pos (decide_eq_true hp) hr ..
  case partnerRefresh => exact fun _ _ hp hr => need_next_of_pos (decide_eq_true hp) hr ..
  case partnerWake => exact fun _ _ hp => need_of (decide_eq_true hp) ..
  case refreshMissed => exact fun _ _ hp hr hb => need_next_of_pos (decide_eq_true hp) (by simp [hr, hb]) ..
  case lpiReceived => exact fun _ _ _ hp he => need_next_of_pos (decide_eq_true hp) he ..
  case lpiSent => exact fun _ _ _ hp he hx => need_next_of_pos (decide_eq_true hp) (by simp [he, hx]) ..

end Sys2Proof.Machine

/-! The modes and settings after reset (R60, R162, R183, R240, R265, R295, R327, R328, R330, R336, R351, R404). -/

namespace Sys2Proof.Machine

/-- No range of tenants has a flag after reset, in the beat in progress or the one before (R328). -/
theorem tenantFlag_reset (b t : Nat) : tenantFlag State.reset b t = false := by
  by_cases h : b = State.reset.beat <;> simp only [tenantFlag, h, if_true, if_false] <;> rfl

/-- Settles O59: each group of records is empty after reset, so that every record reads as its default. -/
theorem modesAfterReset : Obligations.ModesAfterReset := by
  refine ⟨?lanes, rfl, ?mailboxes, rfl, rfl, ?policies, rfl, rfl, ?streams, ?sampling, tenantFlag_reset, rfl, rfl, rfl, rfl,
    rfl, rfl, rfl⟩
  case lanes => exact fun _ _ => ⟨rfl, rfl⟩
  case mailboxes => exact fun _ _ => rfl
  case policies => exact fun _ _ => rfl
  case streams => exact fun _ _ => rfl
  case sampling => exact fun _ _ => rfl

end Sys2Proof.Machine

/-! What every step keeps (R35, R124, R443, R475), and which rule bank is ACTIVE after each command (R127, R128). -/

namespace Sys2Proof.Machine

/-- A boundary keeps the invariant while the beat runs, and while it is stopped nothing of it moves. -/
theorem exec_beatBoundary_keepsInv (inp : BeatInput) {s t : State} (i : Inv s) (h : exec (.beatBoundary inp) s = .next t) :
    Inv t := by
  cases hr : beatRuns s with
  | true =>
    obtain ⟨_, _, _, _, keeps⟩ := beatBoundary_step inp s
    cases (exec_beatBoundary_runs inp hr).symm.trans h
    exact keeps i
  | false =>
    obtain ⟨u, e, m⟩ := exec_beatBoundary_stopped inp hr
    cases e.symm.trans h
    exact m.inv i

/-- The invariant is kept by every command: the boundary, the resets, and all others, which change the state mildly. -/
theorem exec_keepsInv {c : Instr} {s t : State} (i : Inv s) (h : exec c s = .next t) : Inv t := by
  by_cases hb : ∃ inp, c = .beatBoundary inp
  · obtain ⟨inp, rfl⟩ := hb
    exact exec_beatBoundary_keepsInv inp i h
  · rcases exec_mild_or_wiped (fun inp e => hb ⟨inp, e⟩) h with m | ⟨w, -⟩
    · exact m.inv i
    · exact w.inv i

/-- The invariant does not speak of the queue. -/
theorem inv_setPending {s : State} (i : Inv s) (l : List Instr) : Inv { s with pending := l } := i

theorem step_nil {s : State} (h : s.pending = []) : step s = .next s := by rw [step, h]

theorem step_cons {s : State} {c : Instr} {rest : List Instr} (h : s.pending = c :: rest) :
    step s = exec c { s with pending := rest } := by rw [step, h]

/-- Settles O4: an empty queue leaves the state, and a command taken from its front keeps the invariant. -/
theorem stepKeepsInvariant : Obligations.StepKeepsInvariant := by
  intro s t i h
  cases q : s.pending with
  | nil =>
    cases (step_nil q).symm.trans h
    exact i
  | cons c rest => exact exec_keepsInv (inv_setPending i rest) ((step_cons q).symm.trans h)

/-- Settles O8: P5 switches the banks where a switch is posted, and nothing else but a reset changes which is ACTIVE. -/
theorem ruleBankSwitchesAtBoundary : Obligations.RuleBankSwitchesAtBoundary := by
  refine ⟨fun inp s h => ?boundary, fun i s t hb h => ?other⟩
  case boundary => exact ⟨_, exec_beatBoundary_runs inp h, beatBoundary_active inp s⟩
  case other =>
    refine (exec_mild_or_wiped hb h).imp Mild.active fun ⟨w, hr⟩ => ?_
    rw [w.rules]
    exact ⟨rfl, hr⟩

/-- After reset bank 0 is ACTIVE and bank 1 is not (R124). -/
theorem oneActive_reset : oneActive State.reset.rules := .inl ⟨rfl, rfl, by decide, by decide⟩

/-- Settles O3: closed facts about the state after reset, BLANK among them by log entry 43. -/
theorem resetMeetsInvariant : Obligations.ResetMeetsInvariant :=
  ⟨⟨oneActive_reset, by decide, by decide, by decide, by decide⟩, rfl, rfl, rfl, rfl, rfl, rfl, rfl, rfl, rfl⟩

end Sys2Proof.Machine

/-! What Ember moves, self-checks and rule drains do (R129, R131, R499 to R502). -/

namespace Sys2Proof.Machine

/-- The selectors switch where the Ember and a slice are MOVING and the slice's configuration is loaded (R499, R501). -/
theorem emberSwitch_loaded {s : State} (hm : (s.slice 32).st = 1) (hp : (s.slice 32).peer < 32)
    (hl : (s.slice (s.slice 32).peer).loaded = true) :
    emberSwitch s = if (s.slice (s.slice 32).peer).releasing then switchHome (s.slice 32).peer s
      else switchToEmber (s.slice 32).peer s := if_pos (by simp [hm, hp, hl])

section
variable {i code : Nat} {s : State}

/-- No slice's number is that of the Ember (R498). -/
theorem slice_beq_ember (hi : i < 32) : (i == 32) = false := beq_false_of_ne (Nat.ne_of_lt hi)

/-- The check of a slice, not of the Ember, ends well: the slice returns to the state before it (R502). -/
theorem selfCheckDone_passes (hi : i < 32) (hc : (s.slice i).st = 4) :
    selfCheckDone i 0 s = raiseEvent 0x1002 (le 1 i ++ le 1 1 ++ zeros 2 ++ le 4 0) (setSlice i (s.slice i).prev 2
      (modSlice i (fun x => { x with check := 1, passed := true })
        (s.modBoot fun b => { b with emberCheck := b.emberCheck && i != 32 }))) := by
  refine (if_neg (by simp [hc])).trans ?_
  simp only [slice_beq_ember hi, Bool.false_and, Bool.and_false, Bool.or_true, beq_self_eq_true, if_true,
    Bool.false_eq_true, if_false]

/-- The check of a slice, not of the Ember, fails: it is detected (R502). -/
theorem selfCheckDone_fails (hi : i < 32) (hc : (s.slice i).st = 4) (hf : code ≠ 0) :
    selfCheckDone i code s = raiseEvent 0x1002 (le 1 i ++ le 1 2 ++ zeros 2 ++ le 4 code) (detect (99 + i) code 0 []
      (setSlice i (s.slice i).prev 2 (modSlice i (fun x => { x with check := 2 })
        (s.modBoot fun b => { b with emberCheck := b.emberCheck && i != 32 })))) := by
  have bad : (code == 0) = false := beq_false_of_ne hf
  refine (if_neg (by simp [hc])).trans ?_
  simp only [slice_beq_ember hi, bad, Bool.false_and, Bool.or_false, Bool.false_eq_true, if_false]

end

/-- Settles O38: with its guard met, each event is that case of its meaning; the switch and the drains by their equations
(log entries 76, 197). -/
theorem sliceAndRuleEvents : Obligations.SliceAndRuleEvents := by
  refine ⟨?loaded, ?switchPosted, ?toEmber, ?home, ?passes, ?fails, ?drainPosted, ?drained, ?stuckPosted, ?stuck⟩
  case loaded => exact fun _ hm => next_of_pos (by simp [hm]) ..
  case switchPosted => exact fun _ => rfl
  case toEmber => exact fun _ hm hp hl hr => (emberSwitch_loaded hm hp hl).trans (if_neg (Bool.eq_false_iff.1 hr))
  case home => exact fun _ hm hp hl hr => (emberSwitch_loaded hm hp hl).trans (if_pos hr)
  case passes =>
    exact fun _ _ hi hc => (need_of (decide_eq_true (by omega)) ..).trans (congrArg _ (selfCheckDone_passes hi hc))
  case fails =>
    exact fun _ _ _ hi hc hf => (need_of (decide_eq_true (by omega)) ..).trans (congrArg _ (selfCheckDone_fails hi hc hf))
  case drainPosted => exact fun _ => rfl
  case drained => exact fun _ hd hs hb hn => if_pos (by simp [hd, hs, hb, hn])
  case stuckPosted => exact fun _ => rfl
  case stuck => exact fun _ hd hs hn hb => if_pos (by simp [hd, hs, hn, hb])

end Sys2Proof.Machine

/-! What the table DMA does (R174 to R177, R395): a channel that GO starts, its stops, and its last records of a READ. -/

namespace Sys2Proof.Machine

theorem bit_lor_two_pow_self (w i : Nat) : bit (Nat.lor w (2 ^ i)) i = true := by
  have h : Nat.testBit (w ||| 2 ^ i) i = true := by rw [Nat.testBit_or, Nat.testBit_two_pow_self, Bool.or_true]
  rw [Nat.testBit_eq_decide_div_mod_eq] at h
  exact beq_iff_eq.2 (of_decide_eq_true h)

section
variable {c v : Nat} {h : HostAnswer} {s : State}

/-- TDC_CTRL of a channel that does not run takes a written value, and a cleared LOCK releases its lock (Table 5.10). -/
def tdcCtrlTaken (c v : Nat) (s : State) : State :=
  modTdcOf c (fun y => if bit v 0 then { y with ctrl := Nat.land v 0x00FF0F1F }
    else { y with ctrl := Nat.land v 0x00FF0F1F, locked := false, lockDue := false }) s

/-- A channel's status as GO leaves it (Table 5.9). -/
def tdcCleared (c : Nat) (s : State) : State :=
  modTdcOf c (fun x => { x with code := 0, moved := 0, staged := 0, fail := 0, abort := false }) s

/-- A channel that GO started runs with the records that it took (R174, R175). -/
def tdcRuns (c : Nat) (recs : List Bytes) (s : State) : State :=
  post 0 evTdcGo (le 1 c) [] (modTdcOf c (fun x => { x with
      go := true, lockDue := bit (s.tdcOf c).ctrl 0 && (s.tdcOf c).table == 0, goBeat := s.beat, recs := recs })
    (s.modPend fun l => l.filter fun w => !(w.kind == evTdcGo && rd w.req 0 1 == c)))

theorem tdcOf_tdcCleared : (tdcCleared c s).tdcOf c =
    { s.tdcOf c with code := 0, moved := 0, staged := 0, fail := 0, abort := false } := tdcOf_modTdcOf_self ..

/-- TDC_GO of a channel that does not run starts it with the value written. -/
theorem exec_tdcGo (value : Nat) (h : HostAnswer) (hc : c < 4) (hu : hostUp s = true) (hg : (s.tdcOf c).go = false) :
    exec (.tdcGo c value h) s = .next (tdcStart c h (tdcCtrlTaken c (Nat.lor value (2 ^ 31)) s)) := by
  refine (need_of (decide_eq_true hc) ..).trans (congrArg _ ?_)
  simp only [tdcCtrlWrite, tdcCtrlTaken, hu, hg, bit_lor_two_pow_self, Bool.not_true, Bool.false_eq_true, if_false, if_true]

/-- What the start tests of the channel is the same before and after its status is cleared. -/
theorem tdcRefusal_tdcCleared : tdcRefusal ((tdcCleared c s).tdcOf c) = tdcRefusal (s.tdcOf c) := by
  rw [tdcOf_tdcCleared]; rfl

theorem tdcStart_refused (hr : tdcRefusal ((tdcCleared c s).tdcOf c) ≠ 0) :
    tdcStart c h s = tdcStop c (tdcRefusal ((tdcCleared c s).tdcOf c)) 0 (tdcCleared c s) := by
  rw [tdcRefusal_tdcCleared] at hr ⊢
  exact if_pos (bne_iff_ne.2 hr)

/-- Without Bus Master Enable an operation that is not refused stops with code 6 (R395). -/
theorem tdcStart_noBme (hr : tdcRefusal ((tdcCleared c s).tdcOf c) = 0) (hb : bmeOf s 0 = false) :
    tdcStart c h s = tdcStop c 6 0 (tdcCleared c s) := by
  rw [tdcRefusal_tdcCleared] at hr
  exact (if_neg (by simp [hr])).trans (if_pos (congrArg (!·) hb))

/-- Bus Master Enable is set: a READ or FLUSH runs at once, another operation with its records, or it stops with code 4 where the
host does not give them (R174, R176). -/
def tdcTakes (c : Nat) (h : HostAnswer) (s : State) : State :=
  if (s.tdcOf c).op = 0 ∨ (s.tdcOf c).op = 4 then tdcRuns c [] s
  else match h with
    | .data bytes => tdcRuns c ((List.range (s.tdcOf c).count).map fun i => part bytes (32 * i) 32) s
    | _ => detect 409 c 0 [] (tdcStop c 4 0 s)

theorem tdcStart_takes (hr : tdcRefusal ((tdcCleared c s).tdcOf c) = 0) (hb : bmeOf s 0 = true) :
    tdcStart c h s = tdcTakes c h (tdcCleared c s) := by
  rw [tdcRefusal_tdcCleared] at hr
  refine (if_neg (by simp [hr])).trans ((if_neg (ne_true_of_eq_false (congrArg (!·) hb))).trans ?_)
  simp only [tdcTakes, tdcRuns, tdcOf_tdcCleared, Bool.or_eq_true, beq_iff_eq]
  cases h <;> rfl

theorem tdcTakes_none (h : HostAnswer) (ho : (s.tdcOf c).op = 0 ∨ (s.tdcOf c).op = 4) : tdcTakes c h s = tdcRuns c [] s :=
  if_pos ho

theorem tdcTakes_data (bytes : Bytes) (h0 : (s.tdcOf c).op ≠ 0) (h4 : (s.tdcOf c).op ≠ 4) :
    tdcTakes c (.data bytes) s = tdcRuns c ((List.range (s.tdcOf c).count).map fun i => part bytes (32 * i) 32) s :=
  if_neg (not_or.2 ⟨h0, h4⟩)

theorem tdcTakes_failed (hf : h = .urca ∨ h = .timeout) (h0 : (s.tdcOf c).op ≠ 0) (h4 : (s.tdcOf c).op ≠ 4) :
    tdcTakes c h s = detect 409 c 0 [] (tdcStop c 4 0 s) := by
  rcases hf with rfl | rfl <;> exact if_neg (not_or.2 ⟨h0, h4⟩)

@[simp] theorem tdcOf_markSet (r b : Nat) : (markSet r b s).tdcOf c = s.tdcOf c := rfl

/-- The interrupt cause of a channel leaves the channels. -/
@[simp] theorem tdcOf_tdcIrq (d : Nat) : (tdcIrq d s).tdcOf c = s.tdcOf c := by
  unfold tdcIrq whenDo
  split <;> rfl

/-- A channel that has completed its records runs no more (R176). -/
theorem tdcFinish_go : ((tdcFinish c s).tdcOf c).go = false := by
  rw [tdcFinish, tdcOf_tdcIrq, tdcOf_markSet, tdcOf_modTdcOf_self]

variable {pre : Tables}

/-- The last records of a READ go to host memory, and the channel is DONE (R174, R176). -/
theorem tdcMove_lastRead (ho : (s.tdcOf c).op = 0) (hm : (s.tdcOf c).moved ≤ (s.tdcOf c).count)
    (hn : (s.tdcOf c).count ≤ (s.tdcOf c).moved + 256) :
    tdcMove pre c s = tdcFinish c (modTdcOf c (fun y => { y with moved := (s.tdcOf c).count })
      (eachDo (List.range ((s.tdcOf c).count - (s.tdcOf c).moved)) (fun i =>
        hostWrite 0 ((s.tdcOf c).addr + 32 * ((s.tdcOf c).moved + i)) (recordAt pre (s.tdcOf c).table
          ((quadsOf (s.tdcOf c).mask).headD 0) ((s.tdcOf c).start + (s.tdcOf c).moved + i))) s)) := by
  have all : min 256 ((s.tdcOf c).count - (s.tdcOf c).moved) = (s.tdcOf c).count - (s.tdcOf c).moved := by omega
  simp only [tdcMove, ho, beq_self_eq_true, all, Nat.add_sub_cancel' hm, tdcOf_modTdcOf_self, if_true]

/-- A running channel that waits for no lock moves its records; if that ends its operation, no ABORT stops it. -/
theorem tdcStep_finishes (hg : (s.tdcOf c).go = true) (ho : (s.tdcOf c).op = 0) (hd : (s.tdcOf c).lockDue = false)
    (hl : (s.tdcOf c).locked = false ∨ (s.tdcOf c).lockAt ≠ s.beat) (he : ((tdcMove pre c s).tdcOf c).go = false) :
    tdcStep pre c s = tdcMove pre c s := by
  have free : ((s.tdcOf c).locked && (s.tdcOf c).lockAt == s.beat) = false := by
    rcases hl with h | h
    · rw [h]; rfl
    · rw [beq_false_of_ne h]; exact Bool.and_false _
  simp [tdcStep, hg, ho, hd, free, he]

/-- A lock held for its time is released, and its channel stops with code 5 and tells it (R175). -/
theorem tdcLockTimeout_due (hl : (s.tdcOf c).locked = true) (ht : (s.tdcOf c).lockAt + (s.tdcOf c).lockBeats ≤ s.beat) :
    tdcLockTimeout c s = raiseEvent 0x0702 (le 1 c)
      (tdcStop c 5 (s.tdcOf c).moved (modTdcOf c (fun x => { x with locked := false }) s)) := if_pos (by simp [hl, ht])

end

/-- Settles O44: a start is that of the channel with its status cleared, and the last records of a READ end it before ABORT could
(log entries 82, 197, 218). -/
theorem tableDmaEvents : Obligations.TableDmaEvents := by
  refine ⟨?refused, ?noBme, ?runs, ?takes, ?fails, ?abort, ?unlock, ?hostError, ?donePosted, ?done, ?lockPosted, ?lock⟩
  case refused =>
    rintro c value _ _ h s hc hu hg rfl rfl hr
    exact (exec_tdcGo value h hc hu hg).trans (congrArg _ (tdcStart_refused hr))
  case noBme =>
    rintro c value _ _ h s hc hu hg rfl rfl hr hb
    exact (exec_tdcGo value h hc hu hg).trans (congrArg _ (tdcStart_noBme hr hb))
  case runs =>
    rintro c value _ _ h s hc hu hg rfl rfl hr hb ho
    exact (exec_tdcGo value h hc hu hg).trans (congrArg _ ((tdcStart_takes hr hb).trans (tdcTakes_none h ho)))
  case takes =>
    rintro c value _ _ bytes s hc hu hg rfl rfl hr hb h0 h4
    exact (exec_tdcGo value _ hc hu hg).trans (congrArg _ ((tdcStart_takes hr hb).trans (tdcTakes_data bytes h0 h4)))
  case fails =>
    rintro c value _ _ h s hc hu hg rfl rfl hr hb h0 h4 hf
    exact (exec_tdcGo value h hc hu hg).trans (congrArg _ ((tdcStart_takes hr hb).trans (tdcTakes_failed hf h0 h4)))
  case abort => exact fun _ _ hc hu hg => (need_of (decide_eq_true hc) ..).trans (next_whenDo (by simp [hu, hg]) rfl)
  case unlock => exact fun _ _ hc hu => (need_of (decide_eq_true hc) ..).trans (next_whenDo hu rfl)
  case hostError => exact fun _ _ hc hg => (need_of (decide_eq_true hc) ..).trans (next_whenDo hg rfl)
  case donePosted => exact fun _ _ hc => need_of (decide_eq_true hc) ..
  case done =>
    rintro c pre _ s hg ho hd hl hm hn rfl
    have last := tdcMove_lastRead (pre := pre) ho hm hn
    exact (tdcStep_finishes hg ho hd hl (last ▸ tdcFinish_go)).trans last
  case lockPosted => exact fun _ _ hc => need_of (decide_eq_true hc) ..
  case lock => exact fun _ _ hl ht => tdcLockTimeout_due hl ht

end Sys2Proof.Machine

/-! What ageing, flap damping, deferrals, next-hop quarantine and block moves do (R165 to R175, R194). -/

namespace Sys2Proof.Machine

section
variable {q : Nat} {s : State}

/-- The sweep of a quadrant has moved on by one at this boundary (R172). -/
def sweepMoved (q : Nat) (s : State) : State :=
  modQuad q (fun x => { x with sweep := ((s.quad q).sweep + 1) % 263168, lastVisit := s.beat + 1 }) s

/-- The visit of a boundary that the quadrant has not seen: of a locked bucket it is deferred (R172, R175). -/
theorem ageingVisit_due (hv : visiting s.tab s.beat = true) (hn : (s.quad q).lastVisit ≠ s.beat + 1) :
    ageingVisit q s = if (s.quad q).sweep < 262144 ∧ bucketLocked s q (s.quad q).sweep = true then
      defer q (.visit (s.quad q).sweep) (sweepMoved q s) else ageVisit q (s.quad q).sweep (sweepMoved q s) := by
  refine (if_pos (by simp [hv, hn])).trans ?_
  simp only [Bool.and_eq_true, decide_eq_true_eq]
  rfl

variable {key a : Nat}

/-- A key of a quadrant is no longer listed as frozen (R170). -/
def thawed (q key : Nat) (s : State) : State := modQuad q (fun x => { x with frozen := x.frozen.del key }) s

/-- Where a key lies does not depend on the quadrants' records beside the one looked at (R152). -/
theorem emtFind_modQuad (i : Nat) (f : Quad → Quad) (x : Quad) (typ : Nat) :
    emtFind (modQuad i f s).tab x typ key = emtFind s.tab x typ key := rfl

/-- A freeze that has run out is released, and told, where its entry still stands (R170). -/
theorem flapRelease_told {pos : Nat} {e : EmtEntry} (hf : (s.quad q).frozen.find key = some a)
    (ha : a + s.tab.dampHold ≤ s.beat) (he : emtFind s.tab ((thawed q key s).quad q) 1 key = some (pos, e)) :
    flapRelease q key s = notify 6 q key e.result e.result
      (modQuad q (fun x => { x with emt := x.emt.put pos { e with frozen := false } }) (thawed q key s)) := by
  rw [thawed] at he
  simp only [flapRelease, thawed, hf, Nat.not_lt.2 ha, if_false, emtFind_modQuad, he]

theorem flapRelease_gone (hf : (s.quad q).frozen.find key = some a) (ha : a + s.tab.dampHold ≤ s.beat)
    (he : emtFind s.tab ((thawed q key s).quad q) 1 key = none) : flapRelease q key s = thawed q key s := by
  rw [thawed] at he
  simp only [flapRelease, thawed, hf, Nat.not_lt.2 ha, if_false, emtFind_modQuad, he]

/-- A lone deferral whose lock is gone is applied where there is room for it (R168, R175). -/
theorem releaseDeferred_one {room : Nat} {d : Deferral} (hq : (s.quad q).queue = [d]) (hl : stillLocked s q d = false)
    (hr : 0 < room) :
    releaseDeferred q room s = deferredApply q d (modQuad q (fun y => { y with queue := y.queue.erase d }) s) := by
  have due : ((s.quad q).queue.filter fun d => !stillLocked s q d).take room = [d] := by
    rw [hq, List.filter_cons_of_pos (by simp [hl]), List.filter_nil, List.take_of_length_le hr]
  simp only [releaseDeferred, due, eachDo, List.foldl_cons, List.foldl_nil]

variable {i d m : Nat}

theorem nhQuarantineEnd_over (hn : (s.tab.nh.get {} i).quarantine = some (d, m)) (ht : d + max m s.tm.s + 16 ≤ s.beat) :
    nhQuarantineEnd i s = s.modTab fun t => { t with nh := t.nh.del i } := by
  simp only [nhQuarantineEnd, hn, ht, if_true]

theorem nhQuarantineEnd_stays (hn : (s.tab.nh.get {} i).quarantine = some (d, m)) (ht : s.beat < d + max m s.tm.s + 16) :
    nhQuarantineEnd i s = s.modTab fun t => { t with
      nh := t.nh.upd {} i fun e => { e with quarantine := some (d, max m s.tm.s) } } := by
  simp only [nhQuarantineEnd, hn, Nat.not_le.2 ht, if_false]

/-- One entry of a block move: position `i` from the far end goes one place, with its shadow (R194). -/
def moveOne (q : Nat) (m : BlockMove) (i : Nat) (s : State) : State :=
  ternCopy q (if m.down then m.start + m.done + i - 1 else m.start + m.count - 1 - m.done - i + 1)
    ((s.quad q).tern.find (if m.down then m.start + m.done + i else m.start + m.count - 1 - m.done - i))
    ((s.quad q).shadow.find (if m.down then m.start + m.done + i else m.start + m.count - 1 - m.done - i)) s

/-- The last step of a block move copies what is left, opens the hole, and tells it (R194). -/
theorem ternMoveStep_last {m : BlockMove} (hm : (s.quad q).move = some m) (hl : m.count ≤ m.done + 64) :
    ternMoveStep q s = raiseEvent 0x0704 (le 1 q ++ zeros 3 ++ le 4 m.start ++ le 4 m.count)
      (modQuad q (fun x => { x with move := none })
        (ternPut q (if m.down then m.start + m.count - 1 else m.start) m.hole false
          (eachDo (List.range (m.count - m.done)) (moveOne q m) s))) := by
  have all : min 64 (m.count - m.done) = m.count - m.done := by omega
  have ends : ¬ m.done + (m.count - m.done) < m.count := by omega
  have dst (i : Nat) : (if m.down then (if m.down then m.start + m.done + i else m.start + m.count - 1 - m.done - i) - 1
      else (if m.down then m.start + m.done + i else m.start + m.count - 1 - m.done - i) + 1) =
      if m.down then m.start + m.done + i - 1 else m.start + m.count - 1 - m.done - i + 1 := by
    cases m.down <;> rfl
  simp only [ternMoveStep, hm, all, ends, dst, if_false]
  rfl

end

/-- Settles O43: each event only posts (log entry 197), and its effect at the boundary is that case of its meaning. -/
theorem learningAndAgeingEvents : Obligations.LearningAndAgeingEvents := by
  refine ⟨?agePosted, ?aged, ?deferred, ?releasePosted, ?released, ?releasedGone, ?windowPosted, ?window, ?deferralPosted,
    ?deferral, ?nhPosted, ?nhOver, ?nhStays, ?movePosted, ?moved⟩
  case agePosted => exact fun _ _ hq => need_of (decide_eq_true hq) ..
  case aged =>
    refine fun _ _ hv hn hb => (ageingVisit_due hv hn).trans (if_neg fun ⟨hlt, hlock⟩ => ?_)
    rcases hb with h | h
    · exact Nat.not_lt.2 h hlt
    · exact Bool.eq_false_iff.1 h hlock
  case deferred => exact fun _ _ hv hn hs hl => (ageingVisit_due hv hn).trans (if_pos ⟨hs, hl⟩)
  case releasePosted => exact fun _ _ _ hq => need_of (decide_eq_true hq) ..
  case released => exact fun _ _ _ _ _ _ hf ha he => flapRelease_told hf ha he
  case releasedGone => exact fun _ _ _ _ hf ha he => flapRelease_gone hf ha he
  case windowPosted => exact fun _ _ _ hq => need_of (decide_eq_true hq) ..
  case window => exact fun _ _ _ => rfl
  case deferralPosted => exact fun _ _ hq => need_of (decide_eq_true hq) ..
  case deferral => exact fun _ _ _ _ hq hl hr => releaseDeferred_one hq hl hr
  case nhPosted => exact fun _ _ hi => need_of (decide_eq_true hi) ..
  case nhOver => exact fun _ _ _ _ hn ht => nhQuarantineEnd_over hn ht
  case nhStays => exact fun _ _ _ _ hn ht => nhQuarantineEnd_stays hn ht
  case movePosted => exact fun _ _ hq => need_of (decide_eq_true hq) ..
  case moved =>
    rintro q m _ s hm hl rfl
    exact ternMoveStep_last hm hl

end Sys2Proof.Machine

/-! Matching and winning among the entries of a ternary group (R187). -/

namespace Sys2Proof.Machine

/-- Induction over a list from its end: core's `List.rec` on the reversed list. -/
theorem snoc_induction {α : Type} {motive : List α → Prop} (nil : motive [])
    (snoc : ∀ l a, motive l → motive (l ++ [a])) (l : List α) : motive l := by
  have reversed (r : List α) : motive r.reverse := by
    induction r with
    | nil => exact nil
    | cons a r ih => exact List.reverse_cons ▸ snoc r.reverse a ih
  exact List.reverse_reverse l ▸ reversed l.reverse

/-- A masked key equals a value under the mask exactly where the two agree at every compared bit. -/
theorem land_mask_eq_iff {key value mask : Nat} (h : Nat.land value mask = value) :
    Nat.land key mask = value ↔ ∀ b, mask.testBit b = true → key.testBit b = value.testBit b := by
  constructor
  · rintro rfl b hb
    exact ((Nat.testBit_and key mask b).trans (by rw [hb, Bool.and_true])).symm
  · intro agree
    have same_bits (b : Nat) : (key &&& mask).testBit b = (value &&& mask).testBit b := by
      rw [Nat.testBit_and, Nat.testBit_and]
      cases hb : mask.testBit b with
      | false => rw [Bool.and_false, Bool.and_false]
      | true => rw [agree b hb]
    exact (Nat.eq_of_testBit_eq same_bits).trans h

/-- An entry whose VALUE lies under its MASK matches by its bank and by the bits that its MASK compares (R186, R187). -/
theorem ternMatch_iff {bank key : Nat} {e : TernEntry} (h : Nat.land e.value e.mask = e.value) :
    ternMatch bank key e = true ↔
      bit e.banks bank = true ∧ ∀ b, e.mask.testBit b = true → key.testBit b = e.value.testBit b := by
  rw [ternMatch, Bool.and_eq_true, beq_iff_eq, land_mask_eq_iff h]

section
variable {bank key : Nat} {l : List (Nat × TernEntry)} {e : Nat × TernEntry} {x : TernEntry}

/-- A last entry that does not match changes nothing. -/
theorem ternWinner_snoc_unmatched (h : ternMatch bank key e.2 = false) :
    ternWinner bank key (l ++ [e]) = ternWinner bank key l := by
  simp [ternWinner, List.foldl_append, h]

/-- A matching last entry wins where nothing won before it. -/
theorem ternWinner_snoc_first (h : ternMatch bank key e.2 = true) (hw : ternWinner bank key l = none) :
    ternWinner bank key (l ++ [e]) = some e.2 := by
  rw [ternWinner] at hw ⊢
  rw [List.foldl_append, hw]
  simp [h]

/-- A matching last entry wins over an earlier winner exactly where its PRIORITY is higher. -/
theorem ternWinner_snoc_second (h : ternMatch bank key e.2 = true) (hw : ternWinner bank key l = some x) :
    ternWinner bank key (l ++ [e]) = if x.prio < e.2.prio then some e.2 else some x := by
  rw [ternWinner] at hw ⊢
  rw [List.foldl_append, hw]
  simp [h]

/-- Nothing wins only where nothing matches. -/
theorem unmatched_of_ternWinner_none (hw : ternWinner bank key l = none) :
    ∀ e ∈ l, ternMatch bank key e.2 = false := by
  induction l using snoc_induction with
  | nil => exact fun _ he => absurd he List.not_mem_nil
  | snoc l e ih =>
    cases he : ternMatch bank key e.2 with
    | false =>
      rw [ternWinner_snoc_unmatched he] at hw
      exact List.forall_mem_append.2 ⟨ih hw, List.forall_mem_singleton.2 he⟩
    | true =>
      exfalso
      cases hl : ternWinner bank key l with
      | none => simp [ternWinner_snoc_first he hl] at hw
      | some x =>
        rw [ternWinner_snoc_second he hl] at hw
        split at hw <;> cases hw

/-- What R187 asks of the entry `x` at position `i`: it is a matching entry of the list, and every matching entry has a
lower PRIORITY, or the same PRIORITY and no lower position. -/
def TernWins (bank key : Nat) (l : List (Nat × TernEntry)) (i : Nat) (x : TernEntry) : Prop :=
  (i, x) ∈ l ∧ ternMatch bank key x = true ∧
    ∀ e ∈ l, ternMatch bank key e.2 = true → e.2.prio < x.prio ∨ (e.2.prio = x.prio ∧ i ≤ e.1)

variable {i : Nat}

/-- An earlier winner stays the winner where the last entry, if it matches, comes behind it. -/
theorem TernWins.snoc_kept (w : TernWins bank key l i x)
    (h : ternMatch bank key e.2 = true → e.2.prio < x.prio ∨ (e.2.prio = x.prio ∧ i ≤ e.1)) :
    TernWins bank key (l ++ [e]) i x := by
  obtain ⟨mem, hit, best⟩ := w
  exact ⟨List.mem_append_left _ mem, hit, List.forall_mem_append.2 ⟨best, List.forall_mem_singleton.2 h⟩⟩

/-- A matching last entry wins where every matching entry before it has a lower PRIORITY. -/
theorem ternWins_last (he : ternMatch bank key e.2 = true)
    (h : ∀ d ∈ l, ternMatch bank key d.2 = true → d.2.prio < e.2.prio) : TernWins bank key (l ++ [e]) e.1 e.2 :=
  ⟨List.mem_append_right _ List.mem_cons_self, he, List.forall_mem_append.2
    ⟨fun d hd hit => .inl (h d hd hit), List.forall_mem_singleton.2 fun _ => .inr ⟨rfl, Nat.le_refl _⟩⟩⟩

/-- In a list that rises in position the entry that the lookup keeps wins as R187 asks. -/
theorem ternWins_of_ternWinner_some (rising : l.Pairwise fun a b => a.1 < b.1) (hw : ternWinner bank key l = some x) :
    ∃ i, TernWins bank key l i x := by
  induction l using snoc_induction generalizing x with
  | nil => cases hw
  | snoc l e ih =>
    obtain ⟨risingBefore, -, before⟩ := List.pairwise_append.1 rising
    cases he : ternMatch bank key e.2 with
    | false =>
      obtain ⟨i, w⟩ := ih risingBefore (ternWinner_snoc_unmatched he ▸ hw)
      exact ⟨i, w.snoc_kept fun hit => absurd hit (Bool.eq_false_iff.1 he)⟩
    | true =>
      cases hl : ternWinner bank key l with
      | none =>
        obtain rfl : e.2 = x := Option.some.inj ((ternWinner_snoc_first he hl).symm.trans hw)
        have none_before := unmatched_of_ternWinner_none hl
        exact ⟨e.1, ternWins_last he fun d hd hit => absurd hit (Bool.eq_false_iff.1 (none_before d hd))⟩
      | some y =>
        obtain ⟨i, w⟩ := ih risingBefore hl
        have ⟨mem, _, best⟩ := w
        rw [ternWinner_snoc_second he hl] at hw
        split at hw
        case isTrue higher =>
          obtain rfl := Option.some.inj hw
          refine ⟨e.1, ternWins_last he fun d hd hit => ?_⟩
          have := best d hd hit
          omega
        case isFalse no_higher =>
          obtain rfl := Option.some.inj hw
          have behind : i < e.1 := before (i, y) mem e List.mem_cons_self
          exact ⟨i, w.snoc_kept fun _ => by omega⟩

end

/-- A lookup in a defined group answers the action of the winner among the group's entries, or MISS_ACTION; 0xFFFF names
none (R185, R187). -/
theorem ternLookup_action {t : Tables} {l : C4Lookup} {g : TernGroup} (q bank key : Nat) (s : State)
    (hg : t.groups.find l.group = some g) :
    (ternLookup t q bank key l s).1 =
      let a := match ternWinner bank key ((t.quads.get {} q).tern.filter fun e => inGroup g e.1) with
        | some e => e.action
        | none => l.miss
      if a = 0xFFFF then none else some a := by
  rw [ternLookup, hg] <;> rfl

/-- Settles O53: matching bit by bit, the winner by induction over the listed entries from the last one back, and the
action of a lookup (R187). -/
theorem ternaryEntryMatchesAndWins : Obligations.TernaryEntryMatchesAndWins := by
  refine ⟨fun _ _ _ under => ternMatch_iff under, fun bank key l rising => ?winner,
    fun _ q bank key _ s _ hg => ternLookup_action q bank key s hg, fun _ _ _ _ hv hm _ _ hb => ?same⟩
  case winner =>
    cases hw : ternWinner bank key l with
    | none => exact unmatched_of_ternWinner_none hw
    | some x => exact ternWins_of_ternWinner_some rising hw
  case same => rw [ternMatch, ternMatch, hv, hm, hb]

end Sys2Proof.Machine

/-! What each event does of the crossing fabric and the resequencers: arriving cells, skips, planes, late cells and the audit
(R226 to R237). -/

namespace Sys2Proof.Machine

section
variable {pkt slice ns ci key seq plane q cell : Nat} {l : List Nat} {s u : State}

/-- What the arrival of the first cell leaves before the frame is placed: its copies are stamped, and its packet queues
nothing more toward the quadrant (R230; log entry 114). -/
def firstCellIn (pkt slice ns : Nat) (cs : List Nat) (s : State) : State :=
  modPkt pkt (fun k => { k with queued := k.queued.del (quadOfSlice slice), failed := [] })
    (eachDo cs (fun ci => modCopy ci fun c => { c with arrive := (s.beat, ns), stages := [clockNanos s ns] }) s)

/-- The copies of a packet that are still crossing toward a slice (R230). -/
def crossingCopies (s : State) (pkt slice : Nat) : List Nat :=
  (unreleased s pkt slice).filter fun ci => (s.copy ci).stage = .crossing

/-- A window that holds fewer than 8,192 frames has room (R230). -/
theorem windowFull_room (h : (waitingFrames s slice).length < 8192) : windowFull slice ns s = s := if_pos h

theorem placeFrame_late (h : seqAhead (s.strm key).expected seq < 0) :
    placeFrame pkt slice key seq ns s = dropLate slice pkt ns s := if_pos h

/-- The next frame of a stream is released, EXPECTED moves on, and what waited for it drains (R230). -/
theorem placeFrame_next (h : seqAhead (s.strm key).expected seq = 0)
    (hu : u = modStrm key (fun x => { x with expected := (x.expected + 1) % 65536 }) (releaseFrame slice pkt ns s)) :
    placeFrame pkt slice key seq ns s = drainStream slice key ns ((waitingFrames u slice).length + 1) u := by
  subst hu
  exact (if_neg (by rw [h]; decide)).trans (if_pos h)

/-- A frame ahead of EXPECTED waits, and the high-water mark follows the number that wait (R230, R236). -/
theorem placeFrame_ahead (h : 0 < seqAhead (s.strm key).expected seq)
    (hu : u = eachDo (unreleased s pkt slice) (fun ci => modCopy ci fun c => { c with stage := .waiting }) s) :
    placeFrame pkt slice key seq ns s =
      modReseq slice (fun r => { r with high := max r.high (waitingFrames u slice).length }) u := by
  subst hu
  exact (if_neg (Int.not_lt.2 (Int.le_of_lt h))).trans (if_neg (Int.ne_of_gt h))

/-- The first cell of a frame at a slice that works: express frames are released, those of another epoch are dropped, and
the others are placed in their stream, where one ahead of EXPECTED needs room in the window (R230, R232). -/
theorem cellArrive_served (hc : crossingCopies s pkt slice = ci :: l) (hs : sliceServed s slice = true)
    (hu : u = firstCellIn pkt slice ns (ci :: l) s) :
    cellArrive pkt slice ns s =
      if (u.copy ci).express = true then eachDo (ci :: l) (releaseCopy ns) u
      else if (u.copy ci).epoch ≠ (u.strm (copyStream u (u.copy ci))).epoch then dropLate slice pkt ns u
      else placeFrame pkt slice (copyStream u (u.copy ci)) (u.copy ci).seq ns
        (if 0 < seqAhead (u.strm (copyStream u (u.copy ci))).expected (u.copy ci).seq then windowFull slice ns u else u) := by
  subst hu
  unfold crossingCopies firstCellIn at *
  simp only [cellArrive, hc, hs, Bool.not_true, Bool.false_eq_true, if_false, bne_iff_ne]

theorem cellArrive_express (hc : crossingCopies s pkt slice = ci :: l) (hs : sliceServed s slice = true)
    (hu : u = firstCellIn pkt slice ns (ci :: l) s) (he : (u.copy ci).express = true) :
    cellArrive pkt slice ns s = eachDo (ci :: l) (releaseCopy ns) u := (cellArrive_served hc hs hu).trans (if_pos he)

theorem cellArrive_otherEpoch (hc : crossingCopies s pkt slice = ci :: l) (hs : sliceServed s slice = true)
    (hu : u = firstCellIn pkt slice ns (ci :: l) s) (he : (u.copy ci).express = false)
    (ho : (u.copy ci).epoch ≠ (u.strm (copyStream u (u.copy ci))).epoch) :
    cellArrive pkt slice ns s = dropLate slice pkt ns u :=
  (cellArrive_served hc hs hu).trans ((if_neg (Bool.eq_false_iff.1 he)).trans (if_pos ho))

/-- A frame of the epoch in force is placed in its stream, where the window need not be moved for it (R230). -/
theorem cellArrive_placed (hc : crossingCopies s pkt slice = ci :: l) (hs : sliceServed s slice = true)
    (hu : u = firstCellIn pkt slice ns (ci :: l) s) (he : (u.copy ci).express = false)
    (ho : (u.copy ci).epoch = (u.strm (copyStream u (u.copy ci))).epoch)
    (hw : 0 < seqAhead (u.strm (copyStream u (u.copy ci))).expected (u.copy ci).seq →
      (waitingFrames u slice).length < 8192) :
    cellArrive pkt slice ns s = placeFrame pkt slice (copyStream u (u.copy ci)) (u.copy ci).seq ns u := by
  have room : (if 0 < seqAhead (u.strm (copyStream u (u.copy ci))).expected (u.copy ci).seq then
      windowFull slice ns u else u) = u := by
    split
    case isTrue ahead => exact windowFull_room (hw ahead)
    case isFalse => rfl
  refine (cellArrive_served hc hs hu).trans ((if_neg (Bool.eq_false_iff.1 he)).trans ((if_neg (not_not_intro ho)).trans ?_))
  rw [room]

/-- Packets that crossing back-pressure held go on after an arrival (R228). -/
theorem exec_cellArriveResequencer (hl : slice < 32) (h : cellArrive pkt slice ns s = u) :
    exec (.cellArriveResequencer pkt slice ns) s = .next (drainWaiting ns u) :=
  (need_of (decide_eq_true hl) ..).trans (congrArg (fun v => Host.Outcome.next (drainWaiting ns v)) h)

/-- A stream whose oldest waiting frame is 32 beats old skips to its lowest waiting number (R231). -/
theorem reseqTimeout_due {e : Nat × Copy} {r : List (Nat × Copy)}
    (hw : ((waitingFrames s slice).filter fun e => copyStream s e.2 == key) = e :: r) (ha : e.2.arrive.1 + 32 ≤ s.beat) :
    reseqTimeout slice key s = skipTo slice key (r.foldl (fun m e =>
      if seqAhead (s.strm key).expected e.2.seq < seqAhead (s.strm key).expected m then e.2.seq else m) e.2.seq) 0 s := by
  simp only [reseqTimeout, hw, ha, if_true]

/-- What every audit that waits is answered: the verdict, the free cells, each pool's occupancy and the cells held (R237). -/
def auditResult (s : State) (bad : Bool) : Bytes :=
  le 1 (b2n bad) ++ zeros 3 ++ le 4 (freeCellCount s) ++ (s.buf.pools.map (·.o)).flatMap (le 4) ++ le 4 s.buf.held.length

/-- Every audit that waits is answered, and none waits any more (R237). -/
def auditsAnswered (bad : Bool) (s : State) : State :=
  eachDo s.buf.audits (fun o => answerOk o.1 (auditResult s bad)) (s.modBuf fun b => { b with audits := [] })

theorem auditComplete_agrees (ha : s.buf.audits ≠ []) (h : total (s.buf.pools.map (·.o)) = s.buf.held.length) :
    auditComplete s = auditsAnswered false s := by
  simp only [auditComplete, auditsAnswered, auditResult, List.isEmpty_iff, ha, h, if_false, ne_eq, not_true_eq_false,
    decide_false, Bool.false_eq_true]

/-- A count that disagrees with the pools raises BUF_LEAK, source 383 (R237). -/
theorem auditComplete_leak (ha : s.buf.audits ≠ []) (h : total (s.buf.pools.map (·.o)) ≠ s.buf.held.length) :
    auditComplete s = detect 383 0 0 [] (auditsAnswered true s) := by
  simp only [auditComplete, auditsAnswered, auditResult, List.isEmpty_iff, ha, h, if_false, if_true, ne_eq,
    not_false_eq_true, decide_true]

/-- A bad cell is replayed and counted until its 16th replay has failed; then its plane fails (R227). -/
theorem crossingCellCrcFail_eq
    (hu : modPkt pkt (fun k => { k with failed := k.failed.upd 0 (512 * plane + cell) (· + 1) }) s = u) :
    crossingCellCrcFail plane q pkt cell s =
      if 16 < (u.pkt pkt).failed.get 0 (512 * plane + cell) then planeFail plane q u
      else detect (373 + plane) q 0 [] (modPlane plane (fun p => { p with replays := p.replays + 1 }) u) := by
  subst hu
  rfl

theorem plane_and_quadrant (hp : plane < 4) (hq : q < 4) : (decide (plane < 4) && decide (q < 4)) = true := by simp [hp, hq]

theorem exec_crossingCellCrcFail (hp : plane < 4) (hq : q < 4) (s : State) :
    exec (.crossingCellCrcFail plane q pkt cell) s = .next (crossingCellCrcFail plane q pkt cell s) :=
  need_of (plane_and_quadrant hp hq) ..

/-- A plane in service fails: it leaves service and is told, and its cells are resent while another is in service (R227,
R228). -/
theorem planeFail_inService (hs : (s.buf.planes.getD plane {}).st ≠ 1)
    (hu : planeEvent plane (detect (377 + plane) q 0 [] (modPlane plane (fun p => { p with st := 1, trained := false }) s)) = u) :
    planeFail plane q s = if (planesUp u).isEmpty then u else eachDo u.buf.pkts (resendCells plane) u := by
  subst hu
  exact if_neg hs

/-- Two changes of a copy that agree on its record are one change. -/
theorem modCopy_congr {f g : Copy → Copy} (h : f (s.copy ci) = g (s.copy ci)) : modCopy ci f s = modCopy ci g s := by
  have same : s.buf.copies.upd {} ci f = s.buf.copies.upd {} ci g := congrArg (s.buf.copies.put ci) h
  unfold modCopy
  simp only [State.modBuf, same]

end

/-- Settles O41: with its guard met, each event does what that branch of its meaning says; skips and the audit only post (log
entry 197), and their effects at the boundary follow by their equations. -/
theorem fabricEvents : Obligations.FabricEvents := by
  refine ⟨?auditPosted, ?auditAgrees, ?auditLeak, ?replayed, ?replaysSpent, ?planeFails, ?planeResends, ?retrained, ?express,
    ?otherEpoch, ?next, ?ahead, ?late, ?skipPosted, ?skips, ?cutReady⟩
  case auditPosted => exact fun _ => rfl
  case auditAgrees => exact fun _ ha h => auditComplete_agrees ha h
  case auditLeak => exact fun _ ha h => auditComplete_leak ha h
  case replayed =>
    exact fun _ _ _ _ _ s hp hq hu hn => (exec_crossingCellCrcFail hp hq s).trans (congrArg _
      ((crossingCellCrcFail_eq hu).trans (if_neg (Nat.not_lt.2 hn))))
  case replaysSpent =>
    exact fun _ _ _ _ _ s hp hq hu hn => (exec_crossingCellCrcFail hp hq s).trans (congrArg _
      ((crossingCellCrcFail_eq hu).trans (if_pos hn)))
  case planeFails => exact fun _ _ _ _ hp hq hs => need_next_of_neg (plane_and_quadrant hp hq) hs ..
  case planeResends => exact fun _ _ _ _ hs hu => planeFail_inService hs hu
  case retrained => exact fun _ _ hp => need_of (decide_eq_true hp) ..
  case express =>
    exact fun _ _ _ _ _ _ _ hl hc hs hu he => exec_cellArriveResequencer hl (cellArrive_express hc hs hu he)
  case otherEpoch =>
    exact fun _ _ _ _ _ _ _ hl hc hs hu he ho => exec_cellArriveResequencer hl (cellArrive_otherEpoch hc hs hu he ho)
  case next =>
    exact fun _ _ _ _ _ _ _ hl hc hs hu he ho hd => exec_cellArriveResequencer hl
      ((cellArrive_placed hc hs hu he ho fun ahead => absurd hd (Int.ne_of_gt ahead)).trans (placeFrame_next hd rfl))
  case ahead =>
    exact fun _ _ _ _ _ _ _ hl hc hs hu he ho hd hw => exec_cellArriveResequencer hl
      ((cellArrive_placed hc hs hu he ho fun _ => hw).trans (placeFrame_ahead hd rfl))
  case late =>
    exact fun _ _ _ _ _ _ _ hl hc hs hu he ho hd => exec_cellArriveResequencer hl
      ((cellArrive_placed hc hs hu he ho fun ahead => absurd hd (Int.not_lt.2 (Int.le_of_lt ahead))).trans
        (placeFrame_late hd))
  case skipPosted => exact fun _ _ _ hl ht => need_of (by simp [hl, ht]) ..
  case skips => exact fun _ _ _ _ _ hw ha => reseqTimeout_due hw ha
  case cutReady =>
    exact fun _ _ _ hq hc hm => congrArg Host.Outcome.next (modCopy_congr (if_pos (by simp [hq, hc, hm])))

end Sys2Proof.Machine

/-! The Merkle tree of a minute (R291): where it splits, that fuel beyond the number of leaves changes nothing, and that an
inclusion proof leads to the root. -/

namespace Sys2Proof.Machine

/-- The largest of the first `w` powers of two that is below `n`: what `splitPoint` has found after `w` of its tries. -/
def splitAmong (w n : Nat) : Nat := (List.range w).foldl (fun k i => if 2 ^ i < n then 2 ^ i else k) 1

theorem splitPoint_eq (n : Nat) : splitPoint n = splitAmong 32 n := rfl

theorem splitAmong_succ (w n : Nat) : splitAmong (w + 1) n = if 2 ^ w < n then 2 ^ w else splitAmong w n := by
  simp [splitAmong, List.range_succ]

theorem splitAmong_bounds {n : Nat} (h : 1 < n) (w : Nat) : 0 < splitAmong w n ∧ splitAmong w n < n := by
  induction w with
  | zero => exact ⟨Nat.one_pos, h⟩
  | succ w ih =>
    rw [splitAmong_succ]
    split
    case isTrue below => exact ⟨Nat.two_pow_pos w, below⟩
    case isFalse => exact ih

theorem splitAmong_eq_two_pow {n i w : Nat} (hw : i < w) (h : 2 ^ i < n) (hn : n ≤ 2 ^ (i + 1)) :
    splitAmong w n = 2 ^ i := by
  induction w with
  | zero => exact absurd hw (Nat.not_lt_zero i)
  | succ w ih =>
    rw [splitAmong_succ]
    rcases Nat.lt_succ_iff_lt_or_eq.1 hw with hiw | rfl
    · have large : n ≤ 2 ^ w := Nat.le_trans hn (Nat.pow_le_pow_right Nat.two_pos hiw)
      rw [if_neg (Nat.not_lt.2 large), ih hiw]
    · rw [if_pos h]

theorem splitPoint_pos {n : Nat} (h : 1 < n) : 0 < splitPoint n := by
  rw [splitPoint_eq]
  exact (splitAmong_bounds h 32).1

theorem splitPoint_lt {n : Nat} (h : 1 < n) : splitPoint n < n := by
  rw [splitPoint_eq]
  exact (splitAmong_bounds h 32).2

/-- A tree of `n` leaves splits at the largest power of two below `n` (RFC 9162, Section 2.1.1). -/
theorem splitPoint_eq_two_pow {n i : Nat} (hi : i < 32) (h : 2 ^ i < n) (hn : n ≤ 2 ^ (i + 1)) : splitPoint n = 2 ^ i := by
  rw [splitPoint_eq, splitAmong_eq_two_pow hi h hn]

section
variable {fuel m : Nat} {l : List Bytes}

@[simp] theorem merkleRoot_nil (fuel : Nat) : merkleRoot fuel [] = sha256 [] := by cases fuel <;> rfl

@[simp] theorem merkleRoot_singleton (fuel : Nat) (x : Bytes) : merkleRoot fuel [x] = sha256 (le 1 0 ++ x) := by
  cases fuel <;> rfl

theorem merkleRoot_succ (fuel : Nat) (h : 1 < l.length) :
    merkleRoot (fuel + 1) l = sha256 (le 1 1 ++ merkleRoot fuel (l.take (splitPoint l.length)) ++
      merkleRoot fuel (l.drop (splitPoint l.length))) := by
  match l, h with
  | _ :: _ :: _, _ => rfl

/-- A list that splits has leaves on both sides, each side fewer than the whole. -/
theorem length_sides (h : 1 < l.length) :
    (l.take (splitPoint l.length)).length = splitPoint l.length ∧
      (l.drop (splitPoint l.length)).length = l.length - splitPoint l.length ∧
      (l.take (splitPoint l.length)).length < l.length ∧ (l.drop (splitPoint l.length)).length < l.length := by
  have pos := splitPoint_pos h
  have lt := splitPoint_lt h
  rw [List.length_take, List.length_drop]
  omega

/-- A list that does not split has the same root for any fuel. -/
theorem merkleRoot_fuel_of_length_le_one (h : l.length ≤ 1) (f g : Nat) : merkleRoot f l = merkleRoot g l := by
  match l, h with
  | [], _ => rw [merkleRoot_nil, merkleRoot_nil]
  | [x], _ => rw [merkleRoot_singleton, merkleRoot_singleton]

/-- Any fuel of at least the number of leaves gives the same root. -/
theorem merkleRoot_fuel {f g : Nat} (hf : l.length ≤ f) (hg : l.length ≤ g) : merkleRoot f l = merkleRoot g l := by
  induction f generalizing g l with
  | zero => exact merkleRoot_fuel_of_length_le_one (by omega) ..
  | succ f ih =>
    rcases Nat.lt_or_ge 1 l.length with h | h
    · obtain ⟨g, rfl⟩ := Nat.exists_eq_add_one.2 (show 0 < g by omega)
      obtain ⟨-, -, left, right⟩ := length_sides h
      rw [merkleRoot_succ f h, merkleRoot_succ g h, ih (g := g) (by omega) (by omega), ih (g := g) (by omega) (by omega)]
    · exact merkleRoot_fuel_of_length_le_one h ..

/-- The root of a list that splits, from the roots of its two sides (RFC 9162, Section 2.1.1). -/
theorem merkleRoot_split (h : 1 < l.length) :
    merkleRoot l.length l = sha256 (le 1 1 ++ merkleRoot (splitPoint l.length) (l.take (splitPoint l.length)) ++
      merkleRoot (l.length - splitPoint l.length) (l.drop (splitPoint l.length))) := by
  obtain ⟨taken, dropped, left, right⟩ := length_sides h
  rw [merkleRoot_fuel (Nat.le_refl l.length) (Nat.le_succ l.length), merkleRoot_succ _ h,
    merkleRoot_fuel (Nat.le_of_lt left) (Nat.le_of_eq taken), merkleRoot_fuel (Nat.le_of_lt right) (Nat.le_of_eq dropped)]

theorem merklePath_left (h : 1 < l.length) (hm : m < splitPoint l.length) :
    merklePath (fuel + 1) m l =
      merklePath fuel m (l.take (splitPoint l.length)) ++ [merkleRoot l.length (l.drop (splitPoint l.length))] := by
  rw [merklePath, if_neg (Nat.not_le.2 h)]
  exact if_pos hm

theorem merklePath_right (h : 1 < l.length) (hm : splitPoint l.length ≤ m) :
    merklePath (fuel + 1) m l = merklePath fuel (m - splitPoint l.length) (l.drop (splitPoint l.length)) ++
      [merkleRoot l.length (l.take (splitPoint l.length))] := by
  rw [merklePath, if_neg (Nat.not_le.2 h)]
  exact if_neg (Nat.not_lt.2 hm)

variable {n : Nat} {leaf sibling : Bytes} {path : List Bytes}

/-- The last node of a proof is the right sibling of the top when the leaf is left of the split. -/
theorem merkleFold_left (h : 1 < n) (hm : m < splitPoint n) :
    merkleFold (fuel + 1) n m leaf (path ++ [sibling]) =
      sha256 (le 1 1 ++ merkleFold fuel (splitPoint n) m leaf path ++ sibling) := by
  rw [merkleFold, if_neg (Nat.not_le.2 h), if_pos hm, List.dropLast_concat, List.getLastD_concat]

/-- The last node of a proof is the left sibling of the top when the leaf is right of the split. -/
theorem merkleFold_right (h : 1 < n) (hm : splitPoint n ≤ m) :
    merkleFold (fuel + 1) n m leaf (path ++ [sibling]) =
      sha256 (le 1 1 ++ sibling ++ merkleFold fuel (n - splitPoint n) (m - splitPoint n) leaf path) := by
  rw [merkleFold, if_neg (Nat.not_le.2 h), if_neg (Nat.not_lt.2 hm), List.dropLast_concat, List.getLastD_concat]

/-- The proof of a place folds to the root, by the sides: the leaf's side by induction, the other side by its root. -/
theorem merkleFold_merklePath (hl : l.length ≤ fuel) (hm : m < l.length) :
    merkleFold fuel l.length m (sha256 (le 1 0 ++ l.getD m [])) (merklePath fuel m l) = merkleRoot l.length l := by
  induction fuel generalizing m l with
  | zero => omega
  | succ fuel ih =>
    rcases Nat.lt_or_ge 1 l.length with h | h
    · obtain ⟨taken, dropped, left, right⟩ := length_sides h
      rw [merkleRoot_split h]
      rcases Nat.lt_or_ge m (splitPoint l.length) with hs | hs
      · have side := ih (l := l.take (splitPoint l.length)) (m := m) (by omega) (by omega)
        have leaf : (l.take (splitPoint l.length)).getD m [] = l.getD m [] := by simp [List.getD, hs]
        rw [taken, leaf] at side
        rw [merklePath_left h hs, merkleFold_left h hs, side, merkleRoot_fuel (Nat.le_of_lt right) (Nat.le_of_eq dropped)]
      · have side := ih (l := l.drop (splitPoint l.length)) (m := m - splitPoint l.length) (by omega) (by omega)
        have leaf : (l.drop (splitPoint l.length)).getD (m - splitPoint l.length) [] = l.getD m [] := by
          simp [List.getD, Nat.add_sub_cancel' hs]
        rw [dropped, leaf] at side
        rw [merklePath_right h hs, merkleFold_right h hs, side, merkleRoot_fuel (Nat.le_of_lt left) (Nat.le_of_eq taken)]
    · obtain ⟨x, rfl⟩ := List.length_eq_one_iff.1 (show l.length = 1 by omega)
      obtain rfl : m = 0 := by simpa using hm
      rw [List.length_singleton, merkleRoot_singleton]
      rfl

end

/-- Settles O57: the root's form from where it splits, and the proofs by induction on the fuel, one side of each
split at a time. -/
theorem inclusionProofsLeadToTheRoot : Obligations.InclusionProofsLeadToTheRoot := by
  refine ⟨merkleRoot_nil 0, merkleRoot_singleton 1, ?split, fun _ _ hm => merkleFold_merklePath (Nat.le_refl _) hm⟩
  case split =>
    intro l i hi h hn
    rw [merkleRoot_split (Nat.lt_of_le_of_lt Nat.one_le_two_pow h), splitPoint_eq_two_pow hi h hn]

end Sys2Proof.Machine

/-! What the events of the minute roll do (R281 to R293, R297): the clock past a minute's end, FLUSH, SCAN, TENANT, SIGN, and
the requests that mover channels apply. -/

namespace Sys2Proof.Machine

section
variable {s : State}

/-- The clock goes forward past the end of a minute the ledger measures, and that end is new (R281, R282). -/
theorem minuteCross_ends {before after : Nat}
    (hst : s.ledger.st = 1 ∨ (s.ledger.st = 2 ∧ openMinute s before ≤ s.ledger.stopMin)) (forward : before ≤ after)
    (past : openMinute s before < minuteIndex after) (unseen : endSeen s (openMinute s before) = false) :
    minuteCross before after s = endMinute (openMinute s before) s := by
  have measured : ¬ (s.ledger.st = 0 || (s.ledger.st = 2 && decide (s.ledger.stopMin < openMinute s before))) = true := by
    rcases hst with h | ⟨h, stop⟩
    · simp [h]
    · simp [h, stop]
  have notBack : ¬ (after < before && s.ledger.roll.step == 1 &&
      decide (minuteIndex after ≤ s.ledger.roll.minute)) = true := by
    simp [Nat.not_lt.2 forward]
  have ends : (openMinute s before < minuteIndex after && !endSeen s (openMinute s before)) = true := by
    simp [past, unseen]
  exact (if_neg measured).trans ((if_neg notBack).trans (if_pos ends))

/-- The roll starts at P8 once S_max + 16 beats have passed since the minute's end (R282). -/
theorem rollStart_due (h : s.ledger.roll.step = 1) (due : s.ledger.roll.e + s.ledger.roll.smax + 16 ≤ s.beat) :
    rollStart s = eachDo [0, 1, 2, 3] (rollQuad s.ledger.roll.minute true) (rejoinUnits (s.modLedger fun l => { l with
      opn := s.ledger.roll.minute + 1, roll := { s.ledger.roll with step := 2 } })) :=
  if_pos (by simp [h, due])

theorem onlyChanges_modLedger (f : Ledger → Ledger) (s : State) : onlyChanges [.ledger] s (s.modLedger f) := fun p hp => by
  cases p
  case ledger => exact absurd (List.mem_singleton_self _) hp
  all_goals rfl

/-- FLUSH ends with SCAN to come; the ledger's records, rows and rings stay (R283). -/
theorem exec_rollFlushDone (h : s.ledger.roll.step = 2)
    (flushed : (s.ledger.quads.any fun e => setsLeft s.ledger.roll.minute e.2 ||
      e.2.queue.any fun r => r.minute == s.ledger.roll.minute) = false) :
    ∃ f : Tab LQuad → Tab LQuad, exec .rollFlushDone s = .next (s.modLedger fun l => { l with
      quads := f l.quads
      roll := { l.roll with
        step := 3
        lostRate := min (total (s.ledger.quads.map fun e => nth e.2.lost (s.ledger.roll.minute % 2))) (2 ^ 32 - 1)
        histPos := nth l.written 0 } }) :=
  ⟨_, next_of_pos (by simp [h, flushed]) ..⟩

/-- The signed seal of the minute that rolls: its head, and the signature with 16 free bytes (R289, R292). -/
def sealBytes (s : State) : Bytes := sealHead s ++ slhSign s.ledger.key (sealHead s) (takeFreeBytes 16 s).1

/-- What SIGN leaves as it publishes the seal, before the ledger moves on to the next minute: the seal in its slot of every
seal area, and its event (R288, R292, R293). -/
def sealPublished (s : State) : State :=
  let first := s.ledger.lastSeal.isEmpty
  raiseEvent 0x0A01 (le 4 s.ledger.roll.minute ++ le 1 (sealFlags s) ++ zeros 3 ++
      le 8 (if first then 0 else s.ledger.seq) ++ le 4 s.ledger.slot)
    (writeSeal s.ledger.slot (sealBytes s) (takeFreeBytes 16 s).2)

/-- How the ledger moves on from a published seal to the next minute (R288, R289, R297). -/
def afterSeal (s : State) (l : Ledger) : Ledger :=
  { l with
    sealed := s.ledger.roll.minute + 1
    lastSeal := sealBytes s
    seq := (if s.ledger.lastSeal.isEmpty then 0 else s.ledger.seq) + 1
    slot := (s.ledger.slot + 1) % max 1 (nth l.rings 3)
    slots := l.slots.put s.ledger.slot s.ledger.roll.minute
    quads := l.quads.mapAll fun _ x => { x with kept := x.next }
    st := if l.st = 2 && decide (l.stopMin ≤ s.ledger.roll.minute) then 0 else l.st
    roll := { waiting := s.ledger.roll.waiting } }

theorem onlyChanges_modMem (f : Mem → Mem) (s : State) : onlyChanges [.mem] s (s.modMem f) := fun p hp => by
  cases p
  case mem => exact absurd (List.mem_singleton_self _) hp
  all_goals rfl

theorem onlyChanges_countAct (i n : Nat) (s : State) : onlyChanges [.power] s (countAct i n s) := fun p hp => by
  cases p
  case power => exact absurd (List.mem_singleton_self _) hp
  all_goals rfl

theorem onlyChanges_takeFreeBytes (n : Nat) (s : State) : onlyChanges [.freeCtr] s (takeFreeBytes n s).2 := fun p hp => by
  cases p
  case freeCtr => exact absurd (List.mem_singleton_self _) hp
  all_goals rfl

/-- A seal is written to the attached memory, and counts as mover bursts. -/
theorem onlyChanges_writeSeal (slot : Nat) (bs : Bytes) (s : State) : onlyChanges [.mem, .power] s (writeSeal slot bs s) :=
  onlyChanges_eachDo _ _ (fun p s => by
    refine onlyChanges_trans (onlyChanges_mono (onlyChanges_countAct 5 68 s) (by decide)) ?_
    exact onlyChanges_mono (onlyChanges_trans (onlyChanges_modMem _ _) (onlyChanges_modMem _ _)) (by decide)) s

theorem onlyChanges_sealPublished (s : State) : onlyChanges [.mem, .evt, .freeCtr, .power] s (sealPublished s) := by
  refine onlyChanges_trans ?_ (onlyChanges_mono (onlyChanges_raiseEvent _ _ _) (by decide))
  refine onlyChanges_trans ?_ (onlyChanges_mono (onlyChanges_writeSeal _ _ _) (by decide))
  exact onlyChanges_mono (onlyChanges_takeFreeBytes 16 s) (by decide)

/-- Publishing a seal does not itself touch the ledger. -/
theorem sealPublished_ledger (s : State) : (sealPublished s).ledger = s.ledger :=
  onlyChanges_sealPublished s .ledger (by decide)

/-- A part of the ledger that does not depend on the two minutes' facts is left by a change of those. -/
theorem modMinute_keeps {α : Type} (g : Ledger → α)
    (h : ∀ (l : Ledger) (e o : Minute), g { l with even := e, odd := o } = g l) (m : Nat) (f : Minute → Minute) (s : State) :
    g (modMinute m f s).ledger = g s.ledger := by
  simp only [modMinute, modLedger_ledger]
  split
  · exact h _ _ s.ledger.odd
  · exact h _ s.ledger.even _

/-- No activation waits for PUBLISH (R297). -/
theorem activateWaiting_nil (h : s.ledger.roll.waiting = []) : activateWaiting s = s := by
  rw [activateWaiting, h]

/-- The state after SIGN has ended, with no minute's end kept and no activation waiting. -/
def signEnded (s : State) : State :=
  (modMinute s.ledger.roll.minute (fun _ => {}) (sealPublished s)).modLedger (afterSeal s)

/-- SIGN ends where no handover runs, Ittas runs, and no other minute's end waits (R283, R292, R293, R297). -/
theorem rollSignDone_publishes (h : s.ledger.roll.step = 5) (hand : s.fw.hand = false) (run : s.boot.ittasRun = true)
    (halted : s.boot.halted = false) (last : s.ledger.endBeat = none) : rollSignDone s = signEnded s := by
  have noEnd : (signEnded s).ledger.endBeat = none := by
    rw [← last, ← sealPublished_ledger s]
    exact modMinute_keeps Ledger.endBeat (fun _ _ _ => rfl) ..
  refine (if_pos (by simp [h, hand, run, halted])).trans ?_
  split
  case h_1 e he => exact nomatch he.symm.trans noEnd
  case h_2 => rfl

theorem signEnded_slot : (signEnded s).ledger.slot = (s.ledger.slot + 1) % max 1 (nth s.ledger.rings 3) := by
  have rings := modMinute_keeps Ledger.rings (fun _ _ _ => rfl) s.ledger.roll.minute (fun _ => {}) (sealPublished s)
  rw [sealPublished_ledger] at rings
  exact congrArg (fun l => (s.ledger.slot + 1) % max 1 (nth l 3)) rings

theorem onlyChanges_signEnded (s : State) : onlyChanges [.ledger, .mem, .evt, .freeCtr, .power] s (signEnded s) := by
  refine onlyChanges_trans (onlyChanges_mono (onlyChanges_sealPublished s) (by decide)) ?_
  exact onlyChanges_mono (onlyChanges_trans (onlyChanges_modLedger _ _) (onlyChanges_modLedger _ _)) (by decide)

/-- The front request of a quadrant's queue is taken and applied; during FLUSH another set takes its place (R276, R283). -/
theorem flushFront_released {q : Nat} {r : FlushReq} {l : List FlushReq} (h : (s.lquad q).queue = r :: l)
    (released : r.released = true) :
    flushFront q s = ledgerTraffic [q] (applyFlush r (whenDo (s.ledger.roll.step == 2)
      (rollQuad s.ledger.roll.minute false q) (modLquad q (fun x => { x with queue := l }) s))) := by
  simp [flushFront, takeRequest, h, released]

theorem whenServed_turn {c : Nat} {f g : State → State} (turn : moverTurn s c (waitingPorts s c) = true) (h : f s = g s) :
    whenServed c f s = onChannel c g s := by
  rw [whenServed, if_pos turn, onChannel, onChannel, h]

end

/-- Settles O45: each event, with its guard met, takes that branch of its meaning; the start of the roll only posts (log
entry 197), and SIGN's publication is taken in two parts, what it writes and how the ledger moves on. -/
theorem ledgerRollEvents : Obligations.LedgerRollEvents := by
  refine ⟨?waits, ?kept, fun _ => rfl, fun _ => rollStart_due, ?flush, fun _ h => next_of_pos (by simp [h]) .., ?tenant,
    ?sign, ?apply⟩
  case waits =>
    intro s hst forward past unseen idle
    exact congrArg Host.Outcome.next ((minuteCross_ends hst forward past unseen).trans (if_pos idle))
  case kept =>
    intro s hst forward past unseen busy
    exact congrArg Host.Outcome.next ((minuteCross_ends hst forward past unseen).trans (if_neg busy))
  case flush =>
    intro s h flushed
    obtain ⟨f, hf⟩ := exec_rollFlushDone h flushed
    exact ⟨_, hf, rfl, onlyChanges_modLedger _ s, rfl, rfl, rfl⟩
  case tenant =>
    rintro u v s h rfl rfl
    exact next_of_pos (by simp [h]) ..
  case sign =>
    intro s h hand run halted last idle
    have roll : (signEnded s).ledger.roll = {} := congrArg (fun w => ({ waiting := w } : Roll)) idle
    have ends : exec .rollSignDone s = .next (signEnded s) := congrArg Host.Outcome.next
      ((congrArg activateWaiting (rollSignDone_publishes h hand run halted last)).trans (activateWaiting_nil idle))
    exact ⟨_, ends, rfl, roll, rfl, signEnded_slot, rfl, onlyChanges_signEnded s⟩
  case apply =>
    intro q r l s hq hr released turn
    exact (need_of (decide_eq_true hq) ..).trans
      (congrArg Host.Outcome.next (whenServed_turn turn (flushFront_released hr released)))

end Sys2Proof.Machine

/-! Where a LAS address lies (R303). -/

namespace Sys2Proof.Machine

section
variable {s : State} (h : 0 < (memUnits s).length)
include h

theorem unitOf_eq (a : Nat) : unitOf s a = a / 4096 % (memUnits s).length := by
  rw [unitOf, Nat.max_eq_right h]

theorem moduleAddr_eq (a : Nat) : moduleAddr s a = a / (4096 * (memUnits s).length) * 4096 + a % 4096 := by
  rw [moduleAddr, Nat.max_eq_right h]

/-- Addresses of one granule lie in one unit, as far apart there as in the LAS. -/
theorem sameGranule_sameUnit {a k : Nat} (hk : a % 4096 + k < 4096) :
    unitOf s (a + k) = unitOf s a ∧ moduleAddr s (a + k) = moduleAddr s a + k := by
  have granule : (a + k) / 4096 = a / 4096 := by omega
  have offset : (a + k) % 4096 = a % 4096 + k := by omega
  simp only [unitOf_eq h, moduleAddr_eq h, ← Nat.div_div_eq_div_mul, granule, offset, true_and, Nat.add_assoc]

/-- A LAS address is its granule's number and its offset there: the unit and the module address give both. -/
theorem eq_of_sameUnit_of_sameModuleAddr {a b : Nat} (hu : unitOf s a = unitOf s b) (hm : moduleAddr s a = moduleAddr s b) :
    a = b := by
  simp only [unitOf_eq h] at hu
  simp only [moduleAddr_eq h, ← Nat.div_div_eq_div_mul] at hm
  have quotient : a / 4096 / (memUnits s).length = b / 4096 / (memUnits s).length := by omega
  have granule : a / 4096 = b / 4096 := by
    rw [← Nat.div_add_mod (a / 4096) (memUnits s).length, quotient, hu, Nat.div_add_mod]
  omega

end

/-- Settles O54: an aligned block of 512, 256 or 128 bytes stays within its 4 KiB granule. -/
theorem ledgerAddressesFallInOneUnit : Obligations.LedgerAddressesFallInOneUnit := by
  refine fun s h => ⟨fun a => ⟨unitOf_eq h a, moduleAddr_eq h a⟩, ?block, fun _ _ => eq_of_sameUnit_of_sameModuleAddr h⟩
  case block =>
    intro size hs a k ha hk
    refine sameGranule_sameUnit h ?_
    simp only [List.mem_cons, List.not_mem_nil, or_false] at hs
    rcases hs with rfl | rfl | rfl <;> omega

end Sys2Proof.Machine

/-! What a mailbox command that passes its checks does: the MEM service. -/

namespace Sys2Proof.Machine

/-- A request that names one of the four memory ports goes on. -/
theorem memPortArg_ok {p : Bytes} {v : Verdict} (h : rd p 0 1 < 4) : memPortArg p v = v := checks_ok (by simp [h])

section
variable {s : State} {c : Cmd} {p : Bytes} {h : HostAnswer}

/-- MEM.ONLINE of a READY module of the layout starts its rebuild: a copy of the other module of its pair where that carries
reads, else zeroing (R311 to R313). -/
theorem memOnline_rebuilds (hp : rd p 0 1 < 4) (hs : (s.memPort (rd p 0 1)).st = 3)
    (hc : capMin s ≤ (s.memPort (rd p 0 1)).cap) (hr : memRole s (rd p 0 1) ≠ 0) :
    memOnlineSpec.run c p h s =
      if memRole s (rd p 0 1) != 1 && memReads s (Nat.xor (rd p 0 1) 1) then replyNow (memState (rd p 0 1) 4 32 s) []
      else replyNow (memState (rd p 0 1) 5 32 s) [] :=
  (memPortArg_ok hp).trans ((if_neg (by simp [hs])).trans ((if_pos (by simp [hs, hr])).trans (if_neg (Nat.not_lt.2 hc))))

end

/-- Settles O23: the port is in a state that the command asks for; a region of kind LEDGER waits for the boundary (log entry
226). -/
theorem memoryCommands : Obligations.MemoryCommands := by
  refine ⟨?status, ?layout, ?region, ?ledgerRegion, ?restart, ?resilver, ?zeroStriped, ?zeroPair, ?leavePair, ?leaveStriped,
    ?leaveRebuild, ?rate, ?captureFree, ?capture, ?captureAck, ?statsAll, ?stats⟩
  case status => exact fun _ _ _ _ _ hr e hp => acceptAs_run hr e (memPortArg_ok hp)
  case layout =>
    exact fun _ _ _ _ _ hr e hm hl hs hg hp =>
      acceptAs_run hr e ((checks_ok (by simp [hm, hl])).trans (require_ok (by rw [hs, hg, hp]; rfl)))
  case region =>
    exact fun _ _ _ _ _ hr e hk hl hu hn =>
      acceptAs_run hr e ((checks_ok hk).trans ((require_ok (by simp [hl, hu])).trans (if_neg hn)))
  case ledgerRegion =>
    exact fun _ _ _ _ _ hr e hk hl hu hn =>
      acceptAs_run hr e ((checks_ok hk).trans ((require_ok (by simp [hl, hu])).trans (if_pos hn)))
  case restart =>
    exact fun _ _ _ _ _ hr e hp hs => acceptAs_run hr e ((memPortArg_ok hp).trans (if_pos (by simpa using hs)))
  case resilver =>
    exact fun _ _ _ _ _ hr e hp hs hc hl hq =>
      acceptAs_run hr e ((memOnline_rebuilds hp hs hc (by omega)).trans
        (if_pos (by rw [hq, Bool.and_true]; exact bne_iff_ne.2 (by omega))))
  case zeroStriped =>
    exact fun _ _ _ _ _ hr e hp hs hc hl =>
      acceptAs_run hr e ((memOnline_rebuilds hp hs hc (by omega)).trans (if_neg (by simp [hl])))
  case zeroPair =>
    exact fun _ _ _ _ _ hr e hp hs hc hl hq =>
      acceptAs_run hr e ((memOnline_rebuilds hp hs hc (by omega)).trans
        (if_neg (by rw [hq, Bool.and_false]; exact Bool.false_ne_true)))
  case leavePair =>
    exact fun _ _ _ _ _ hr e hp hn hs hl hq =>
      acceptAs_run hr e ((memPortArg_ok hp).trans ((if_neg (by simp [hn])).trans (if_pos (by rw [hs, hq]; simp [hl]))))
  case leaveStriped =>
    exact fun _ _ _ _ _ hr e hp hn hs hl hg hu =>
      acceptAs_run hr e ((memPortArg_ok hp).trans ((if_neg (by simp [hn])).trans ((if_neg (by simp [hl])).trans
        (if_pos (by rw [hs, hl, hg, hu]; rfl)))))
  case leaveRebuild =>
    intro m h s c p hr e hp hn hs
    have away : (s.memPort (rd p 0 1)).st ≠ 6 := by omega
    exact acceptAs_run hr e ((memPortArg_ok hp).trans ((if_neg (by simp [hn])).trans ((if_neg (by simp [away])).trans
      ((if_neg (by simp [away])).trans (if_pos (by simpa using hs))))))
  case rate => exact fun _ _ _ _ _ hr e hl hu => acceptAs_run hr e (checks_ok (by simp [hl, hu]))
  case captureFree =>
    exact fun _ _ _ _ _ hr e hf hi => acceptAs_run hr e ((if_pos hf).trans (checks_ok (by simpa using hi)))
  case capture => exact fun _ _ _ _ _ hr e hf hk => acceptAs_run hr e ((if_neg hf).trans (checks_ok hk))
  case captureAck =>
    intro m h s c p k hr e hf hl hu
    refine acceptAs_run hr e ?_
    simp only [memCaptureAckSpec, hf]
    exact checks_ok (by simp [hl, hu])
  case statsAll => exact fun _ _ _ _ _ hr e hi => acceptAs_run hr e (if_pos hi)
  case stats =>
    exact fun _ _ _ _ _ hr e hp => acceptAs_run hr e ((if_neg (by omega)).trans (memPortArg_ok hp))

end Sys2Proof.Machine

/-! What the memory mover does (R316, R320 to R323): a chain's start, its stops and its end, and a descriptor's turn. -/

namespace Sys2Proof.Machine

section
variable {c code addr : Nat} {s : State}

/-- A host channel that GO starts stands at the first descriptor of its chain (R320). -/
def xdcBegun (c : Nat) (s : State) : State :=
  modXdcOf c (fun x => { x with go := true, code := 0, fin := 0, fetched := 0, next := x.desc, cur := x.desc }) s

/-- XDC_GO of a channel that neither runs nor is halted starts it, with the interrupt enable written (R320, R322). -/
theorem exec_xdcGo {value : Nat} (hc : c < 8) (hu : hostUp s = true) (ha : bit (Nat.lor value (2 ^ 31)) 30 = false) :
    exec (.xdcGo c value) s =
      .next (xdcStart c (modXdcOf c (fun x => { x with irq := bit (Nat.lor value (2 ^ 31)) 0 }) s)) := by
  refine (need_of (decide_eq_true hc) ..).trans (congrArg _ ?_)
  simp only [xdcCtrlWrite, hu, ha, bit_lor_two_pow_self, Bool.not_true, Bool.false_eq_true, if_false, if_true]

/-- A chain starts with Bus Master Enable and an aligned descriptor; else its channel stops at once (R320, R323). -/
theorem xdcStart_idle (hc : 6 ≤ c) (hg : (s.xdcOf c).go = false) (hh : (s.xdcOf c).halted = false) :
    xdcStart c s = if !bmeOf s 0 then xdcStop c 6 0 0 (xdcBegun c s)
      else if (s.xdcOf c).desc % 64 != 0 then xdcStop c 1 0 0 (xdcBegun c s) else xdcBegun c s :=
  if_neg (by simp [hg, hh, hc])

theorem xdcStart_begins (hc : 6 ≤ c) (hg : (s.xdcOf c).go = false) (hh : (s.xdcOf c).halted = false)
    (hb : bmeOf s 0 = true) (hd : (s.xdcOf c).desc % 64 = 0) : xdcStart c s = xdcBegun c s := by
  rw [xdcStart_idle hc hg hh, hb, hd]; rfl

theorem xdcStart_noBme (hc : 6 ≤ c) (hg : (s.xdcOf c).go = false) (hh : (s.xdcOf c).halted = false)
    (hb : bmeOf s 0 = false) : xdcStart c s = xdcStop c 6 0 0 (xdcBegun c s) := by
  rw [xdcStart_idle hc hg hh, hb]; rfl

theorem xdcStart_unaligned (hc : 6 ≤ c) (hg : (s.xdcOf c).go = false) (hh : (s.xdcOf c).halted = false)
    (hb : bmeOf s 0 = true) (hd : (s.xdcOf c).desc % 64 ≠ 0) : xdcStart c s = xdcStop c 1 0 0 (xdcBegun c s) := by
  rw [xdcStart_idle hc hg hh, hb]
  exact if_pos (bne_iff_ne.2 hd)

theorem onlyChanges_modXdcOf (f : Xdc → Xdc) : onlyChanges [.xdc] s (modXdcOf c f s) := fun p hp => by
  cases p
  case xdc => exact absurd (List.mem_singleton_self _) hp
  all_goals rfl

/-- Software clears ERROR, and with it HALTED; DONE is not written (R322, R17). -/
theorem xdcStatusWrite_error (hu : hostUp s = true) (he : (s.xdcOf c).err = true)
    (hb : clearsBit s (xdcStatusReg c) 2 1 = true) :
    ∃ f, xdcStatusWrite c 2 s = modXdcOf c f s ∧ f (s.xdcOf c) = { s.xdcOf c with err := false, halted := false } := by
  refine ⟨_, if_pos hu, ?_⟩
  have done : clearsBit s (xdcStatusReg c) 2 0 = false := rfl
  simp only [he, hb, done, Bool.not_true, Bool.not_false, Bool.and_false, Bool.and_true]

/-- A running channel stops with one of the codes that an access can meet (R301, R309, R321). -/
theorem exec_moverChannelStop (hc : c < 8) (hg : (s.xdcOf c).go = true) (hk : [3, 4, 5].contains code = true) :
    exec (.moverChannelStop c code addr) s = .next (xdcStop c code addr (readPort s (unitOf s addr))
      (if code = 4 then memLosing (readPort s (unitOf s addr)) 18 (memCount (readPort s (unitOf s addr)) 4 1 s)
        else if code = 5 then poisonTell (readPort s (unitOf s addr)) (moduleAddr s addr) s else s)) :=
  need_next_of_pos (decide_eq_true hc) (by rw [hg, hk]; rfl) ..

/-- The chain of a running channel goes on: its last descriptor named a next one, or none has been fetched yet (R320). -/
theorem chainGoesOn (hg : (s.xdcOf c).go = true) (hn : (s.xdcOf c).next ≠ 0 ∨ (s.xdcOf c).fetched = 0) :
    ¬ (!(s.xdcOf c).go || ((s.xdcOf c).next == 0 && decide (0 < (s.xdcOf c).fetched))) = true := by
  rcases hn with h | h <;> simp [hg, h]

end

/-- Settles O47: GO, the stops and the fetch of a descriptor by their equations; the rest is the case of each meaning whose
guard is met (log entry 227: a descriptor is served as a whole at its turn). -/
theorem moverEvents : Obligations.MoverEvents := by
  refine ⟨?begins, ?noBme, ?unaligned, ?abort, ?errorClear, ?chainDone, ?hostFails, ?silent, ?poisoned, ?tooMany,
    ?noDescriptor, ?served, fun _ _ _ _ _ _ => rfl, ?carriedOut, ?movesNothing⟩
  case begins =>
    rintro c value _ s hc hu ha h6 hg hh rfl hb hd
    refine (exec_xdcGo hc hu ha).trans (congrArg _ (xdcStart_begins h6 ?_ ?_ hb ?_)) <;> simpa
  case noBme =>
    rintro c value _ s hc hu ha h6 hg hh rfl hb
    refine (exec_xdcGo hc hu ha).trans (congrArg _ (xdcStart_noBme h6 ?_ ?_ hb)) <;> simpa
  case unaligned =>
    rintro c value _ s hc hu ha h6 hg hh rfl hb hd
    refine (exec_xdcGo hc hu ha).trans (congrArg _ (xdcStart_unaligned h6 ?_ ?_ hb ?_)) <;> simpa
  case abort =>
    exact fun _ _ hc hu hg h6 => (need_next_of_pos (decide_eq_true hc) hu ..).trans (next_of_pos (by simp [hg, h6]) ..)
  case errorClear =>
    intro c s hc hu he hb
    obtain ⟨f, written, cleared⟩ := xdcStatusWrite_error hu he hb
    have record : (modXdcOf c f s).xdcOf c = { s.xdcOf c with err := false, halted := false } :=
      (xdcOf_modXdcOf_self ..).trans cleared
    exact ⟨_, (need_of (decide_eq_true hc) ..).trans (congrArg _ written),
      congrArg Xdc.err record, congrArg Xdc.halted record,
      (congrArg Xdc.go record).trans rfl, fun _ hk => xdcOf_modXdcOf_ne f s hk, onlyChanges_modXdcOf f⟩
  case chainDone =>
    exact fun _ _ hc hg hn hf => need_next_of_pos (decide_eq_true hc) (by simp [hg, hn, hf]) ..
  case hostFails => exact fun _ _ _ hc hg => exec_moverChannelStop hc hg rfl
  case silent => exact fun _ _ _ hc hg => exec_moverChannelStop hc hg rfl
  case poisoned => exact fun _ _ _ hc hg => exec_moverChannelStop hc hg rfl
  case tooMany =>
    exact fun _ _ _ _ _ hc hg hn hf =>
      (need_next_of_neg (decide_eq_true hc) (chainGoesOn hg hn) ..).trans (next_of_pos hf ..)
  case noDescriptor =>
    rintro c _ table data s hc hg hn hf (rfl | rfl) <;>
      exact (need_next_of_neg (decide_eq_true hc) (chainGoesOn hg hn) ..).trans (next_of_neg (Nat.not_le.2 hf) ..)
  case served =>
    exact fun _ _ _ _ _ hc hg hn hf ht => (need_next_of_neg (decide_eq_true hc) (chainGoesOn hg hn) ..).trans
      ((next_of_neg (Nat.not_le.2 hf) ..).trans (next_of_pos ht ..))
  case carriedOut => exact fun _ _ _ _ hi => if_neg (by simp [hi])
  case movesNothing => exact fun _ _ _ _ hn ho => by simp [moverOp, hn, ho]

end Sys2Proof.Machine

/-! What the memory ports do (R298 to R313): bring-up, loss, poison, and the capture records that channel 4 writes. -/

namespace Sys2Proof.Machine

section
variable {p : Nat} {s : State}

/-- A module in service starts to leave it (R309). -/
theorem memLosing_inService {reason : Nat} (hs : [2, 3, 4, 5, 6].contains (s.memPort p).st = true)
    (hl : (s.memPort p).losing = none) : memLosing p reason s = modMemPort p (fun m => { m with losing := some reason }) s :=
  if_pos (by rw [hs, hl]; rfl)

/-- A module not in service has no loss to take. -/
theorem memLosing_outOfService {reason : Nat} (hs : [2, 3, 4, 5, 6].contains (s.memPort p).st = false) :
    memLosing p reason s = s := if_neg (by rw [hs]; exact Bool.false_ne_true)

/-- The link of a port that trains comes up (R298, R300). -/
theorem exec_memLinkL0 {rate width : Nat} {cxl : Bool} (hp : p < 4) (hs : (s.memPort p).st = 1)
    (hr : (s.memPort p).perst = true) :
    exec (.memLinkL0 p rate width cxl) s = .next (
      if cxl && (rate == 32 || rate == 16) && (width == 8 || width == 4) then
        memState p 2 0 (modMemPort p (fun m => { m with rate := rate, width := width }) s)
      else memState p 8 1 (modMemPort p (fun m => { m with rate := rate, width := width }) s)) :=
  need_next_of_pos (decide_eq_true hp) (by rw [hs, hr]; rfl) ..

/-- The module that a port enumerates answers, or does not (R299, R300). -/
theorem exec_memEnumerationDone {i : MemIdent} (hp : p < 4) (hs : (s.memPort p).st = 2) :
    exec (.memEnumerationDone p i) s = .next (
      if identFault i == 0 then memState p 3 0 (modMemPort p (fun m => { m with cap := capacityOf i.capacity }) s)
      else memState p 8 (identFault i) s) :=
  need_next_of_pos (decide_eq_true hp) (by rw [hs]; rfl) ..

/-- The absence of a module in service is noted, and its loss left to the boundary (R309). -/
theorem memAbsent_inService (hs : [2, 3, 4, 5, 6].contains (s.memPort p).st = true) (hl : (s.memPort p).losing = none) :
    memAbsent p s =
      modMemPort p (fun m => { m with losing := some 17 }) (modMemPort p (fun m => { m with present := false }) s) := by
  have stays : ¬ [7, 9].contains (s.memPort p).st = true := by
    simp only [List.contains_iff_mem, List.mem_cons, List.not_mem_nil, or_false] at hs ⊢
    omega
  rw [memAbsent, memLosing_inService (by simpa using hs) (by simpa using hl)]
  exact if_neg (by simpa using stays)

/-- A module that was lost or taken out is gone (R300). -/
theorem memAbsent_left (hs : (s.memPort p).st = 7 ∨ (s.memPort p).st = 9) :
    memAbsent p s = memState p 0 0 (modMemPort p (fun m => { m with present := false }) s) := by
  have out : [2, 3, 4, 5, 6].contains (s.memPort p).st = false := by rcases hs with h | h <;> rw [h] <;> rfl
  rw [memAbsent, memLosing_outOfService (by simpa using out)]
  exact if_pos (by simpa using hs)

theorem onlyChanges_modMemPort (f : MemPort → MemPort) : onlyChanges [.mem] s (modMemPort p f s) := onlyChanges_modMem _ s

/-- The first other module of a port's unit that has the data of a poisoned read: it carries reads, and is not viral (R301,
R305). -/
abbrev poisonPartner (s : State) (p : Nat) : Option Nat :=
  ((unitPorts s ((memUnits s).findIdx fun l => l.contains p)).filter (· != p)).find?
    fun q => memReads s q && !(s.memPort q).viral

theorem poisonRead_repairs {a q : Nat} (reader : PoisonReader) (hr : memReads s p = true) (hq : poisonPartner s p = some q) :
    poisonRead p a reader s = poisonRepair p q a s := by
  refine (if_neg (by simp [hr])).trans ?_
  unfold poisonPartner at hq
  rw [hq]

/-- What a poisoned read of module address `a` at port `p`, which no other module can repair, does to its reader (R301, R304,
R305, R321). -/
def poisonBorne (p a : Nat) (s : State) : PoisonReader → State
  | .mover ch => xdcStop ch 5 (lasOf s p a / 256 * 256) p (poisonTell p a s)
  | .ledger q => poisonLost q (lasOf s p a) (poisonTell p a s)
  | .sealGet => modMemPort p (fun m => { m with poison := a / 256 :: m.poison.filter (· != a / 256) }) s

theorem poisonRead_borne {a : Nat} (reader : PoisonReader) (hr : memReads s p = true) (hq : poisonPartner s p = none) :
    poisonRead p a reader s = poisonBorne p a s reader := by
  refine (if_neg (by simp [hr])).trans ?_
  unfold poisonPartner at hq
  rw [hq]
  cases reader <;> rfl

/-- A poisoned read by a reader that exists. -/
theorem exec_memPoisonRead {a : Nat} (reader : PoisonReader) (hp : p < 4) (hk : ∀ k, reader = .ledger k → k < 4)
    (hc : ∀ c, reader = .mover c → c < 8) : exec (.memPoisonRead p a reader) s = .next (poisonRead p a reader s) := by
  cases reader with
  | ledger k => exact need_of (by simp [hp, hk k rfl]) ..
  | mover c => exact need_of (by simp [hp, hc c rfl]) ..
  | sealGet => exact need_of (by simp [hp]) ..

theorem memOfflineReached_stopped {o : Nat} (hl : (s.memPort p).leaving = some o) (hs : (s.memPort p).stopped = true) :
    memOfflineReached p s = answerOk o [] (memState p 9 32 (modMemPort p (fun m => { m with leaving := none }) s)) := by
  rw [memOfflineReached, hl]
  exact if_pos hs

end

section
variable {s : State}

/-- The attached memory but for its ports' records: what a write to the LAS leaves. -/
def memRest (s : State) : Mem := { s.mem with ports := [] }

theorem eachDo_memRest {α : Type} {f : α → State → State} (h : ∀ a s, memRest (f a s) = memRest s) (l : List α)
    (s : State) : memRest (eachDo l f s) = memRest s := by
  induction l generalizing s with
  | nil => rfl
  | cons a l ih => exact (ih (f a s)).trans (h a s)

theorem lasBurst_memRest (a : Nat) (bs : Bytes) (s : State) : memRest (lasBurst a bs s) = memRest s := by
  refine eachDo_memRest (fun p s => ?_) _ _
  rfl

theorem lasWrite_memRest (a : Nat) (bs : Bytes) (s : State) : memRest (lasWrite a bs s) = memRest s :=
  eachDo_memRest (fun _ => lasBurst_memRest _ _) _ s

theorem ringWriteLas_memRest (base size off : Nat) (bs : Bytes) (s : State) :
    memRest (ringWriteLas base size off bs s) = memRest s := by
  unfold ringWriteLas
  split
  · rfl
  · exact (lasWrite_memRest ..).trans (lasWrite_memRest ..)

/-- A write to the LAS changes the modules, and counts as mover bursts. -/
theorem onlyChanges_lasWrite (a : Nat) (bs : Bytes) (s : State) : onlyChanges [.mem, .power] s (lasWrite a bs s) := by
  refine onlyChanges_eachDo _ _ (fun _ s => ?_) s
  refine onlyChanges_trans (onlyChanges_mono (onlyChanges_countAct 5 1 s) (by decide))
    (onlyChanges_eachDo _ _ (fun _ s => ?_) _)
  exact onlyChanges_mono (onlyChanges_trans (onlyChanges_modMemPort _) (onlyChanges_modMemPort _)) (by decide)

theorem onlyChanges_ringWriteLas (base size off : Nat) (bs : Bytes) (s : State) :
    onlyChanges [.mem, .power] s (ringWriteLas base size off bs s) := by
  unfold ringWriteLas
  split
  · exact onlyChanges_refl _ s
  · exact onlyChanges_trans (onlyChanges_lasWrite _ _ _) (onlyChanges_lasWrite _ _ _)

/-- A capture record: its header with the binding's sequence number, the captured length and whether it was cut, then the
frame's first bytes (R308). -/
def captureRecord (c : Capture) (header frame : Bytes) : Bytes :=
  le 4 c.seq ++ part header 4 2 ++ le 2 (min frame.length c.snap) ++ part header 8 24 ++
    le 1 (rd header 32 1 + b2n (decide (c.snap < frame.length))) ++ part header 33 31 ++ part frame 0 c.snap

/-- The front record of a quadrant's queue has been taken out and stands in its capture's ring (R308, R317). -/
def captureStored (q : Nat) (l : List (Nat × Bytes × Bytes)) (c : Capture) (header frame : Bytes) (s : State) : State :=
  ringWriteLas (s.mem.regions.get {} c.region).base (s.mem.regions.get {} c.region).size c.wr (captureRecord c header frame)
    (s.modMem fun m => { m with capq := m.capq.put q l })

/-- Channel 4 writes the front record of a bound capture that does not stop when full, where no unit is lost (R308, R323). -/
theorem captureWrite_writes {q id : Nat} {header frame : Bytes} {l : List (Nat × Bytes × Bytes)} {c : Capture}
    (hq : s.mem.capq.get [] q = (id, header, frame) :: l) (hc : s.mem.captures.find id = some c)
    (hl : rangeLost s ((s.mem.regions.get {} c.region).base + c.wr % max 1 (s.mem.regions.get {} c.region).size)
      (64 + c.snap) = false)
    (hs : c.stop = false) :
    captureWrite q s = moverBytes 4 (64 + c.snap) ((captureStored q l c header frame s).modMem fun m => { m with
      captures := m.captures.put id { c with seq := (c.seq + 1) % 2 ^ 32, wr := c.wr + (64 + c.snap) } }) := by
  rw [captureWrite, hq]
  simp only [modMem_mem, hc]
  refine (if_neg (ne_true_of_eq_false hl)).trans (if_neg ?_)
  rw [hs]
  exact Bool.false_ne_true

theorem captureStored_capq {q : Nat} {l : List (Nat × Bytes × Bytes)} {c : Capture} {header frame : Bytes} :
    (captureStored q l c header frame s).mem.capq = s.mem.capq.put q l :=
  congrArg Mem.capq (ringWriteLas_memRest ..)

theorem onlyChanges_captureStored (q : Nat) (l : List (Nat × Bytes × Bytes)) (c : Capture) (header frame : Bytes)
    (s : State) : onlyChanges [.mem, .power] s (captureStored q l c header frame s) :=
  onlyChanges_trans (onlyChanges_mono (onlyChanges_modMem _ s) (by decide)) (onlyChanges_ringWriteLas _ _ _ _ _)

theorem onlyChanges_moverBytes (c n : Nat) (s : State) : onlyChanges [.xdc] s (moverBytes c n s) := onlyChanges_modXdcOf _

end

/-- Settles O46: each event, with its guard met, is that case of its meaning; a write to the LAS leaves what the captures are
bound to and what waits for them. -/
theorem memoryPortEvents : Obligations.MemoryPortEvents := by
  refine ⟨?present, ?release, ?link, ?linkBad, ?noLink, ?ready, ?unfit, ?linkDown, ?absent, ?gone, ?timeout, ?badCompletion,
    ?viral, ?health, ?repaired, ?mover, ?ledger, ?sealGet, ?resilvered, ?zeroed, ?zeroedAlone, ?offlinePosted,
    fun _ _ _ => memOfflineReached_stopped, ?capture, ?captured⟩
  case present => exact fun _ _ hp hs => need_next_of_pos (decide_eq_true hp) (by simpa using hs) ..
  case release =>
    exact fun _ _ hp hs hr ht => need_next_of_pos (decide_eq_true hp) (by rw [hs, hr, ht]; rfl) ..
  case link =>
    exact fun _ _ _ _ hp hs hr hg hw => (exec_memLinkL0 hp hs hr).trans (next_of_pos (by simp [hg, hw]) ..)
  case linkBad =>
    exact fun _ _ _ _ _ hp hs hr hn => (exec_memLinkL0 hp hs hr).trans (next_of_neg (ne_true_of_eq_false hn) ..)
  case noLink =>
    exact fun _ _ hp hs hr ht => need_next_of_pos (decide_eq_true hp) (by rw [hs, hr, ht]; rfl) ..
  case ready => exact fun _ _ _ hp hs hi => (exec_memEnumerationDone hp hs).trans (next_of_pos (beq_iff_eq.2 hi) ..)
  case unfit => exact fun _ _ _ hp hs hi => (exec_memEnumerationDone hp hs).trans (next_of_neg (by simpa using hi) ..)
  case linkDown =>
    exact fun _ _ hp hs hl => (need_of (decide_eq_true hp) ..).trans (congrArg _ (memLosing_inService hs hl))
  case absent =>
    intro p s hp hs hl
    refine ⟨_, (need_of (decide_eq_true hp) ..).trans (congrArg _ (memAbsent_inService hs hl)), by simp, fun q hq => ?_,
      onlyChanges_trans (onlyChanges_modMemPort _) (onlyChanges_modMemPort _)⟩
    rw [memPort_modMemPort_ne _ _ hq, memPort_modMemPort_ne _ _ hq]
  case gone => exact fun _ _ hp hs => (need_of (decide_eq_true hp) ..).trans (congrArg _ (memAbsent_left hs))
  case timeout => exact fun _ _ hp => need_of (decide_eq_true hp) ..
  case badCompletion => exact fun _ _ _ hp => need_of (decide_eq_true hp) ..
  case viral => exact fun _ _ hp => need_of (decide_eq_true hp) ..
  case health => exact fun _ _ _ hp => need_of (decide_eq_true hp) ..
  case repaired =>
    exact fun _ _ _ reader _ hp hk hc hr hq =>
      (exec_memPoisonRead reader hp hk hc).trans (congrArg _ (poisonRead_repairs reader hr hq))
  case mover =>
    intro p a ch s hp hc hr hq
    refine (exec_memPoisonRead (.mover ch) hp nofun ?_).trans (congrArg _ (poisonRead_borne (.mover ch) hr hq))
    rintro _ ⟨⟩
    exact hc
  case ledger =>
    intro p a q s hp hk hr hq
    refine (exec_memPoisonRead (.ledger q) hp ?_ nofun).trans (congrArg _ (poisonRead_borne (.ledger q) hr hq))
    rintro _ ⟨⟩
    exact hk
  case sealGet =>
    exact fun _ _ _ hp hr hq => (exec_memPoisonRead .sealGet hp nofun nofun).trans (congrArg _ (poisonRead_borne _ hr hq))
  case resilvered =>
    exact fun _ _ hp hs hl => need_next_of_pos (decide_eq_true hp) (by rw [hs, hl]; rfl) ..
  case zeroed =>
    intro p q s hp hs hl hq
    refine (need_next_of_pos (decide_eq_true hp) (by rw [hs, hl]; rfl) ..).trans ?_
    rw [hq]
  case zeroedAlone =>
    intro p s hp hs hl hq
    refine (need_next_of_pos (decide_eq_true hp) (by rw [hs, hl]; rfl) ..).trans ?_
    rw [hq]
  case offlinePosted => exact fun _ _ hp => need_of (decide_eq_true hp) ..
  case capture =>
    exact fun _ _ hq ht => (need_of (decide_eq_true hq) ..).trans (congrArg _ (whenServed_turn ht rfl))
  case captured =>
    intro q id header frame l c s hq hc hl hs
    rw [captureWrite_writes hq hc hl hs]
    refine ⟨Tab.find_put_self .., ?queue, ?frame⟩
    case queue => exact (congrArg (Tab.get · [] q) captureStored_capq).trans (Tab.get_put_self ..)
    case frame =>
      refine onlyChanges_trans (onlyChanges_mono (onlyChanges_captureStored q l c header frame s) (by decide)) ?_
      exact onlyChanges_trans (onlyChanges_mono (onlyChanges_modMem _ _) (by decide))
        (onlyChanges_mono (onlyChanges_moverBytes _ _ _) (by decide))

end Sys2Proof.Machine

/-! What the performance counters do (R343 to R347): control writes, event and counter writes, wraps, and latched reads. -/

namespace Sys2Proof.Machine

section
variable {value u n k : Nat} {x : PmcUnit} {s : State}

/-- A control write that the host makes sets VIEW and posts the actions (R345). -/
theorem gctrlWrite_up (hu : hostUp s = true) : gctrlWrite value s = s.modPmc fun p => { p with
    view := bit value 2, snap := p.snap || bit value 1, clear := p.clear || bit value 3, run := bit value 0,
    runDue := bit value 0 != p.running } := if_neg (by simp [hu])

/-- The offset of each of PMC_EVT0 to PMC_CNT7 is one that the write rule of these registers is for (R347). -/
theorem pmcWrite_guard (hu : hostUp s = true) (hn : n < 16) :
    (!hostUp s || (0x4430 + 4 * n) % 4 != 0 || decide (0x4430 + 4 * n < 0x4430) ||
      decide (0x4470 ≤ 0x4430 + 4 * n)) = false := by
  have aligned : (0x4430 + 4 * n) % 4 = 0 := by omega
  have above : ¬ 0x4430 + 4 * n < 0x4430 := by omega
  have below : ¬ 0x4470 ≤ 0x4430 + 4 * n := by omega
  simp [hu, aligned, above, below]

/-- While the counters run, a write to PMC_EVTn or PMC_CNTn is ignored and noted (R346). -/
theorem pmcWrite_running (hu : hostUp s = true) (hn : n < 16) (hr : s.pmc.running = true) :
    pmcWrite (0x4430 + 4 * n) value s = markSet 0x4408 2 (s.modPmc fun p => { p with ignored := true }) :=
  (if_neg (ne_true_of_eq_false (pmcWrite_guard hu hn))).trans (if_pos (by simp [hr]))

/-- With RUN clear and not pending, a write to an event register of a selected unit is taken (R346, R347). -/
theorem pmcWrite_event (hu : hostUp s = true) (hn : n < 8) (hr : s.pmc.run = false) (hg : s.pmc.running = false)
    (hd : s.pmc.runDue = false) (hs : s.pmc.sel < 40) :
    pmcWrite (0x4430 + 4 * n) value s =
      modUnit s.pmc.sel (fun x => { x with evt := x.evt.set n (Nat.land value 0xB0FF00FF) }) s := by
  have event : decide (0x4450 ≤ 0x4430 + 4 * n) = false := decide_eq_false (by omega)
  have place : (0x4430 + 4 * n - 0x4430) / 4 = n := by omega
  refine (if_neg (ne_true_of_eq_false (pmcWrite_guard hu (by omega)))).trans ?_
  simp only [event, place, hr, hg, hd, Nat.not_le.2 hs, Bool.or_self, Bool.false_and, Bool.false_eq_true, if_false]

/-- With RUN clear and not pending, and VIEW clear, a write to a counter of a selected unit is taken (R346, R347). -/
theorem pmcWrite_counter (hu : hostUp s = true) (hn : n < 8) (hr : s.pmc.run = false) (hg : s.pmc.running = false)
    (hd : s.pmc.runDue = false) (hv : s.pmc.view = false) (hs : s.pmc.sel < 40) :
    pmcWrite (0x4450 + 4 * n) value s =
      modUnit s.pmc.sel (fun x => { x with cnt := x.cnt.set n (value % 2 ^ 32) }) s := by
  have counter : decide (0x4450 ≤ 0x4450 + 4 * n) = true := decide_eq_true (by omega)
  have place : (0x4450 + 4 * n - 0x4450) / 4 = n := by omega
  have offset : 0x4450 + 4 * n = 0x4430 + 4 * (n + 8) := by omega
  have guard := pmcWrite_guard (n := n + 8) hu (by omega)
  rw [← offset] at guard
  refine (if_neg (ne_true_of_eq_false guard)).trans ?_
  simp only [counter, place, hr, hg, hd, hv, Nat.not_le.2 hs, Bool.or_self, Bool.and_false, Bool.false_eq_true, if_false,
    if_true]

/-- One more on a counter at its greatest value carries one out; only an unchained upper neighbour leaves an overflow (R344). -/
theorem addCounter_wraps (hc : nth x.cnt n = 2 ^ 32 - 1) : addCounter x n 1 =
    ({ x with cnt := x.cnt.set n 0, ovf := if !chained x (n + 1) then setBit x.ovf n true else x.ovf }, 1) := by
  simp [addCounter, hc]

/-- One more on a counter below its greatest value carries nothing. -/
theorem addCounter_fits (hc : nth x.cnt n < 2 ^ 32 - 1) :
    addCounter x n 1 = ({ x with cnt := x.cnt.set n (nth x.cnt n + 1) }, 0) := by
  have small : nth x.cnt n + 1 < 2 ^ 32 := by omega
  simp only [addCounter, Nat.div_eq_of_lt small, Nat.mod_eq_of_lt small, bne_self_eq_false, Bool.false_and,
    Bool.false_eq_true, if_false]

theorem carryUp_nothing : carryUp x n 0 k = x := by cases k <;> rfl

/-- A carry into a counter with room for it ends there. -/
theorem carryUp_fits (hc : nth x.cnt n < 2 ^ 32 - 1) :
    carryUp x n 1 (k + 1) = { x with cnt := x.cnt.set n (nth x.cnt n + 1) } := by
  simp only [carryUp, addCounter_fits hc, carryUp_nothing, ite_self, Nat.one_ne_zero, if_false]

/-- A carry out of a counter that none is chained to sets its PMC_OVF bit (R344). -/
theorem carryUp_overflows (hc : nth x.cnt n = 2 ^ 32 - 1) (hn : chained x (n + 1) = false) :
    carryUp x n 1 (k + 1) = { x with cnt := x.cnt.set n 0, ovf := setBit x.ovf n true } := by
  have still : chained { x with cnt := x.cnt.set n 0, ovf := setBit x.ovf n true } (n + 1) = false := hn
  simp only [carryUp, addCounter_wraps hc, hn, still, Bool.not_false, Bool.false_eq_true, Nat.one_ne_zero, if_false, if_true]

/-- A carry out of the lower counter of a chained pair goes to the upper one, and sets no PMC_OVF bit (R343, R344). -/
theorem carryUp_passes (hc : nth x.cnt n = 2 ^ 32 - 1) (hn : chained x (n + 1) = true) :
    carryUp x n 1 (k + 1) = carryUp { x with cnt := x.cnt.set n 0 } (n + 1) 1 k := by
  have still : chained { x with cnt := x.cnt.set n 0 } (n + 1) = true := hn
  simp only [carryUp, addCounter_wraps hc, hn, still, Bool.not_true, Bool.false_eq_true, Nat.one_ne_zero, if_false, if_true]

theorem nth_set_succ (l : List Nat) (n v : Nat) : nth (l.set n v) (n + 1) = nth l (n + 1) := by
  simp [nth, List.getD_eq_getElem?_getD]

/-- A running counter at its greatest value carries one into itself (R344). -/
theorem exec_pmcCounterWrap (hu : u < 40) (hn : n < 8) (hr : s.pmc.running = true)
    (hc : nth (s.punit u).cnt n = 2 ^ 32 - 1) :
    exec (.pmcCounterWrap u n) s = .next (putUnit u (carryUp (s.punit u) n 1 (8 - n)) s) :=
  (need_of (by simp [hu, hn]) ..).trans (next_of_pos (by simp [hr, hc]) ..)

end

/-- Settles O40: control, event and counter writes in the states that take them, a wrap as a carry that ends or goes one
counter up, and the latched reads. -/
theorem performanceCounterEvents : Obligations.PerformanceCounterEvents := by
  refine ⟨?snap, ?clear, ?run, ?counter, ?event, ?ignored, ?overflow, ?chain, ?cycles, ?snapBeat⟩
  case snap => exact fun _ _ hu => congrArg _ (gctrlWrite_up hu)
  case clear => exact fun _ _ hu => congrArg _ (gctrlWrite_up hu)
  case run => exact fun _ _ hu => congrArg _ (gctrlWrite_up hu)
  case counter => exact fun _ _ _ hu hn hr hg hd hv hs => congrArg _ (pmcWrite_counter hu hn hr hg hd hv hs)
  case event => exact fun _ _ _ hu hn hr hg hd hs => congrArg _ (pmcWrite_event hu hn hr hg hd hs)
  case ignored => exact fun _ _ _ hu hn hr => congrArg _ (pmcWrite_running hu hn hr)
  case overflow =>
    intro u n s hu hn hr hc hl
    obtain ⟨k, hk⟩ : ∃ k, 8 - n = k + 1 := ⟨7 - n, by omega⟩
    rw [exec_pmcCounterWrap hu hn hr hc, hk, carryUp_overflows hc hl]
  case chain =>
    intro u n s hu hn hr hc hl _ hf
    obtain ⟨k, hk⟩ : ∃ k, 8 - n = k + 1 + 1 := ⟨6 - n, by omega⟩
    have room : nth ((s.punit u).cnt.set n 0) (n + 1) < 2 ^ 32 - 1 := by rwa [nth_set_succ]
    rw [exec_pmcCounterWrap hu (by omega) hr hc, hk, carryUp_passes hc hl, carryUp_fits room, nth_set_succ]
  case cycles => exact fun _ hu => next_of_pos hu ..
  case snapBeat => exact fun _ hu => next_of_pos hu ..

end Sys2Proof.Machine

/-! What the host rings, the CPU-port MAC and the filters do (R377 to R393): register writes, delivery, fetches, failed reads and
commits. -/

namespace Sys2Proof.Machine

section
variable {r v value i ci ns : Nat} {s t : State}

/-- Replacing a ring's record depends on its image of that record alone. -/
theorem modRing_congr {f g : Ring → Ring} (h : f (s.ring r) = g (s.ring r)) : modRing r f s = modRing r g s :=
  congrArg (fun x => s.modHost fun k => { k with rings := s.host.rings.put r x }) h

theorem exec_hrqTailWrite (hr : r < 32) (hu : hostUp s = true) : exec (.hrqTailWrite r value) s = .next
    (if 2 ^ (s.ring r).size < postedOf ((modRing r (fun x => { x with tail := value % 65536 }) s).ring r)
      then stopRing r 1 0 (modRing r (fun x => { x with tail := value % 65536 }) s)
      else modRing r (fun x => { x with tail := value % 65536 }) s) := by
  refine (need_of (decide_eq_true hr) ..).trans (congrArg _ ?_)
  simp only [hrqTailWrite, hu, ring_modRing_self, Bool.not_true, Bool.false_eq_true, if_false]

/-- A ring with the fields of an HRQ_CTRL write taken; while it is enabled, SIZE and BUF_SIZE are not (R383). -/
def ringTaken (r v : Nat) (s : State) : State :=
  modRing r (fun x => { x with
    vec := some (fld v 29 24), irq := bit v 23
    size := if x.on then x.size else fld v 19 16
    buf := if x.on then x.buf else fld v 14 8 }) s

theorem ringTaken_disabled (ho : (s.ring r).on = false) : ringTaken r v s = modRing r (fun x => { x with
    vec := some (fld v 29 24), irq := bit v 23, size := fld v 19 16, buf := fld v 14 8 }) s :=
  modRing_congr (by simp only [ho, Bool.false_eq_true, if_false])

theorem ringTaken_enabled (ho : (s.ring r).on = true) :
    ringTaken r v s = modRing r (fun x => { x with vec := some (fld v 29 24), irq := bit v 23 }) s :=
  modRing_congr (by simp only [ho, if_true])

/-- What follows an HRQ_CTRL write to a ring whose record was `x`: causes that a clear IRQ_EN had hidden are told. -/
def tellHidden (r : Nat) (x : Ring) (s : State) : State :=
  if !x.irq && (x.half || x.stopped || x.frozen) then ringIrq r s else s

theorem tellHidden_none {x : Ring} (h : x.irq = true ∨ (x.half = false ∧ x.stopped = false ∧ x.frozen = false)) :
    tellHidden r x t = t := by
  refine if_neg ?_
  rcases h with irq | ⟨half, stopped, frozen⟩
  · simp [irq]
  · simp [half, stopped, frozen]

theorem tellHidden_some {x : Ring} (hi : x.irq = false) (h : x.half = true ∨ x.stopped = true ∨ x.frozen = true) :
    tellHidden r x t = ringIrq r t :=
  if_pos (by simpa [hi, or_assoc] using h)

/-- ENABLE written without RESET: a disabled ring whose settings are good is enabled, one whose settings are bad gets code 1, and
causes that had been hidden are told (R383). -/
theorem ringCtrlWrite_enable (hu : hostUp s = true) (hb : bit v 30 = false) (he : bit v 31 = true) :
    ringCtrlWrite r v s = tellHidden r (s.ring r)
      (if (s.ring r).on then ringTaken r v s
        else if ringSettingsOk r ((ringTaken r v s).ring r) then modRing r (fun x => { x with on := true }) (ringTaken r v s)
        else modRing r (fun x => { x with code := 1 }) (ringTaken r v s)) := by
  simp only [ringCtrlWrite, hu, hb, he, Bool.not_true, Bool.false_eq_true, if_false]
  rfl

theorem ringCtrlWrite_resets (hu : hostUp s = true) (hb : bit v 30 = true) : ringCtrlWrite r v s = resetRing r s := by
  simp only [ringCtrlWrite, hu, hb, Bool.not_true, Bool.false_eq_true, if_false, if_true]

theorem exec_hrqEnable (hr : r < 32) : exec (.hrqEnable r value) s = .next (ringCtrlWrite r (Nat.lor value (2 ^ 31)) s) :=
  need_of (decide_eq_true hr) ..

/-- HRQ_ENABLE of a disabled ring takes all its settings, and enables it where they are good (R383). -/
theorem exec_hrqEnable_disabled (hr : r < 32) (hu : hostUp s = true) (hv : v = Nat.lor value (2 ^ 31))
    (hb : bit v 30 = false) (ho : (s.ring r).on = false) :
    exec (.hrqEnable r value) s = .next (tellHidden r (s.ring r)
      (if ringSettingsOk r ((ringTaken r v s).ring r) then modRing r (fun x => { x with on := true }) (ringTaken r v s)
        else modRing r (fun x => { x with code := 1 }) (ringTaken r v s))) := by
  subst hv
  rw [exec_hrqEnable hr, ringCtrlWrite_enable hu hb (bit_lor_two_pow_self ..), if_neg (ne_true_of_eq_false ho)]

/-- HRQ_ENABLE of an enabled ring changes its vector and IRQ_EN alone (R383). -/
theorem exec_hrqEnable_enabled (hr : r < 32) (hu : hostUp s = true) (hv : v = Nat.lor value (2 ^ 31))
    (hb : bit v 30 = false) (ho : (s.ring r).on = true) :
    exec (.hrqEnable r value) s = .next (tellHidden r (s.ring r)
      (modRing r (fun x => { x with vec := some (fld v 29 24), irq := bit v 23 }) s)) := by
  subst hv
  rw [exec_hrqEnable hr, ringCtrlWrite_enable hu hb (bit_lor_two_pow_self ..), if_pos ho, ringTaken_enabled ho]

/-- An interval that is due makes the vector of a ring with IRQ_EN pending (R392). -/
theorem hrqInterval_due (hd : completeDue s (s.ring r) = true) (hi : (s.ring r).irq = true) :
    hrqInterval r s = s.modHost fun h => { h with pba1 := setBit h.pba1 (ringVec s r) true } :=
  (if_pos hd).trans (if_pos hi)

/-- A frame whose descriptors are all posted is written to a live ring, and the copy ends as sent (R386). -/
theorem rxDeliver_written {byPattern : Bool} {bs : Bytes} (hl : ringLive (s.ring r) = true) (hb : (s.ring r).buf ≠ 0)
    (hp : ceilDiv ((s.copy ci).out.take ((s.copy ci).out.length - 4)).length (256 * (s.ring r).buf) ≤ postedOf (s.ring r)) :
    rxDeliver r (.data bs) byPattern i ci ns s = sentCopyEnd ci (s.copy ci).out.length ns
      (rxWrite r bs ((s.copy ci).out.take ((s.copy ci).out.length - 4)) (s.pkt (s.copy ci).pkt) byPattern i
        (macPop (s.copy ci).out.length s)) :=
  (if_neg (by simp [hl, hb])).trans (if_neg (Nat.not_lt.2 hp))

/-- A frame that finds fewer descriptors posted than it needs is dropped and counted (R387). -/
theorem rxDeliver_dry {byPattern : Bool} {bs : Bytes} (hl : ringLive (s.ring r) = true) (hb : (s.ring r).buf ≠ 0)
    (hp : postedOf (s.ring r) < ceilDiv ((s.copy ci).out.take ((s.copy ci).out.length - 4)).length (256 * (s.ring r).buf)) :
    rxDeliver r (.data bs) byPattern i ci ns s =
      dropCopyEnd ci 35 ns (ringCount r 2 1 (macPop (s.copy ci).out.length s)) :=
  (if_neg (by simp [hl, hb])).trans (if_pos hp)

/-- A frame for a ring that is not live is dropped and counted, whatever the descriptors (R387, R393). -/
theorem rxDeliver_off {byPattern : Bool} {descs : HostAnswer} (h : ringLive (s.ring r) = false ∨ (s.ring r).buf = 0) :
    rxDeliver r descs byPattern i ci ns s =
      dropCopyEnd ci 35 ns (ringCount r 3 1 (macPop (s.copy ci).out.length s)) :=
  if_pos (by simpa using h)

/-- The first pattern filter that matches the front frame of the MAC drops it or chooses its ring (R377, R378). -/
theorem rxFrameDeliver_pattern {descs : HostAnswer} {l : List Nat} (hm : s.host.mac = ci :: l)
    (hp : patternOf s ((s.copy ci).out.take ((s.copy ci).out.length - 4)) = some i) :
    rxFrameDeliver ns descs s =
      if bit (rd (s.host.pattern.get [] i) 130 1) 0 then dropCopyEnd ci 3 ns (macPop (s.copy ci).out.length (countHit i s))
      else rxDeliver (rd (s.host.pattern.get [] i) 131 1 % 16) descs true i ci ns (countHit i s) := by
  simp only [rxFrameDeliver, hm, hp]

/-- Without a matching pattern filter, the first matching steering filter chooses the ring (R377, R379). -/
theorem rxFrameDeliver_steer {descs : HostAnswer} {l : List Nat} (hm : s.host.mac = ci :: l)
    (hp : patternOf s ((s.copy ci).out.take ((s.copy ci).out.length - 4)) = none)
    (hs : steerOf s (s.pkt (s.copy ci).pkt) = some i) :
    rxFrameDeliver ns descs s = rxDeliver (rd (s.host.steer.get [] i) 6 1 % 16) descs false i ci ns s := by
  simp only [rxFrameDeliver, hm, hp, hs]

/-- A frame that no filter matches goes to ring 0 (R377). -/
theorem rxFrameDeliver_default {descs : HostAnswer} {l : List Nat} (hm : s.host.mac = ci :: l)
    (hp : patternOf s ((s.copy ci).out.take ((s.copy ci).out.length - 4)) = none)
    (hs : steerOf s (s.pkt (s.copy ci).pkt) = none) :
    rxFrameDeliver ns descs s = rxDeliver 0 descs false 0xFF ci ns s := by
  simp only [rxFrameDeliver, hm, hp, hs]

/-- A free MAC looks at the first ready TX ring first (R390). -/
theorem txFrameFetch_ready {d data : HostAnswer} {descs : List HostAnswer} {l : List Nat} (hd : dataUp s = true)
    (hh : macHeld s = false) (hr : txReady s = r :: l) :
    txFrameFetch (d :: descs) data s = txLook data ((r, d) :: l.zip descs) s := by
  simp only [txFrameFetch, hd, hh, hr, List.zip_cons_cons, Bool.not_true, Bool.or_self, Bool.false_eq_true, if_false]

/-- A failed read of a live ring stops it; on a TX ring the frame counts as an error (R393). -/
theorem exec_hostReadFail {timeout : Bool} (hr : r < 32) (hl : ringLive (s.ring r) = true) :
    exec (.hostReadFail r timeout) s = .next (detect 408 r 0 []
      (if 16 ≤ r then ringCount r 2 1 (stopRing r (if timeout then 3 else 4) 0 s)
        else stopRing r (if timeout then 3 else 4) 0 s)) :=
  need_next_of_neg (decide_eq_true hr) (by simp [hl]) ..

theorem filterPlace_steer (hi : i < 64) : filterPlace (0x1000 + 8 * i + 4) = some (false, i, 4) := by
  have inside : (decide (0x1000 ≤ 0x1000 + 8 * i + 4) && decide (0x1000 + 8 * i + 4 < 0x1200)) = true := by
    simp only [Bool.and_eq_true, decide_eq_true_eq]; omega
  refine (if_pos inside).trans ?_
  simp only [Option.some.injEq, Prod.mk.injEq, true_and]; omega

theorem filterPlace_pattern (hi : i < 32) : filterPlace (0x2000 + 256 * i + 128) = some (true, i, 128) := by
  have outside : ¬ (decide (0x1000 ≤ 0x2000 + 256 * i + 128) && decide (0x2000 + 256 * i + 128 < 0x1200)) = true := by
    simp only [Bool.and_eq_true, decide_eq_true_eq]; omega
  have inside : (decide (0x2000 ≤ 0x2000 + 256 * i + 128) && decide (0x2000 + 256 * i + 128 < 0x4000)) = true := by
    simp only [Bool.and_eq_true, decide_eq_true_eq]; omega
  refine ((if_neg outside).trans (if_pos inside)).trans ?_
  simp only [Option.some.injEq, Prod.mk.injEq, true_and]; omega

/-- Holding the bytes of a filter leaves the marks. -/
theorem filterHold_commits (pat : Bool) (byte : Nat) : (filterHold pat i byte value s).host.commits = s.host.commits := by
  simp only [filterHold]
  split
  · split <;> rfl
  · rfl

/-- The last word of a filter that is not marked yet is held and marks it (R380). -/
theorem filterWrite_marks {offset : Nat} {pat : Bool} (hu : hostUp s = true) (ha : offset % 4 = 0)
    (hp : filterPlace offset = some (pat, i, if pat then 128 else 4))
    (hc : s.host.commits.contains (if pat then 64 + i else i) = false) :
    filterWrite offset value s = (filterHold pat i (if pat then 128 else 4) value s).modHost fun h =>
      { h with commits := h.commits ++ [if pat then 64 + i else i] } := by
  simp only [filterWrite, hu, ha, hp, filterHold_commits, hc, bne_self_eq_false, Bool.not_true, Bool.not_false, Bool.or_self,
    Bool.and_self, Bool.false_eq_true, decide_true, if_false, if_true]

/-- A marked steering filter is taken over at the boundary (R380). -/
theorem filterCommits_steer (hi : i < 64) (hc : s.host.commits = [i]) : filterCommits s =
    s.modHost fun h => { h with steer := h.steer.put i (part (h.steerHeld.get [] i) 0 8), commits := [] } := by
  simp only [filterCommits, State.modHost, hc, List.foldl_cons, List.foldl_nil, Nat.not_le.2 hi, if_false]

/-- A marked pattern filter is taken over at the boundary, and HITS keeps its count (R378, R380). -/
theorem filterCommits_pattern (hc : s.host.commits = [64 + i]) : filterCommits s = s.modHost fun h => { h with
    commits := [], pattern := h.pattern.upd [] i fun b => part (h.patternHeld.get [] i) 0 132 ++ part b 132 124 } := by
  simp only [filterCommits, State.modHost, hc, List.foldl_cons, List.foldl_nil, Nat.le_add_right, if_true,
    Nat.add_sub_cancel_left]

end

/-- Settles O48: register writes, delivery and fetches by their equations, with each guard met; a stopped TX ring writes its code
back (log entry 143), and a RESET is at once but for RESETTING (log entry 144). -/
theorem hostRingEvents : Obligations.HostRingEvents := by
  refine ⟨?tailMoves, ?tailStops, ?reset, ?enableGood, ?enableBad, ?enableReset, ?enableAgain, ?enableTells, ?interval,
    ?patternDrops, ?defaultWritten, ?defaultOff, ?byPattern, ?bySteer, ?written, ?dry, ?off, ?txHands, ?txStops, ?txFails,
    ?rxReadFails, ?txReadFails, ?steerWrite, ?patternWrite, ?steerCommit, ?patternCommit, ?fold⟩
  case tailMoves =>
    intro r value s hr hu hp
    rw [exec_hrqTailWrite hr hu, if_neg (Nat.not_lt.2 hp)]
  case tailStops =>
    intro r value s hr hu hp
    rw [exec_hrqTailWrite hr hu, if_pos hp]
  case reset => exact fun _ _ hr hu => need_next_of_pos (decide_eq_true hr) hu ..
  case enableGood =>
    intro r value v s hr hu hv hb ho hn hg
    rw [exec_hrqEnable_disabled hr hu hv hb ho, tellHidden_none hn, ringTaken_disabled ho, if_pos hg]
  case enableBad =>
    intro r value v s hr hu hv hb ho hn hg
    rw [exec_hrqEnable_disabled hr hu hv hb ho, tellHidden_none hn, ringTaken_disabled ho, if_neg (ne_true_of_eq_false hg)]
  case enableReset =>
    intro r value s hr hu hb
    rw [exec_hrqEnable hr, ringCtrlWrite_resets hu hb]
  case enableAgain =>
    intro r value v s hr hu hv hb ho hn
    rw [exec_hrqEnable_enabled hr hu hv hb ho, tellHidden_none hn]
  case enableTells =>
    intro r value v s hr hu hv hb ho hi hh hg
    rw [exec_hrqEnable_disabled hr hu hv hb ho, tellHidden_some hi hh, ringTaken_disabled ho, if_pos hg]
  case interval => exact fun _ _ hr hd hi => (need_of (decide_eq_true hr) ..).trans (congrArg _ (hrqInterval_due hd hi))
  case patternDrops =>
    exact fun _ _ _ _ _ _ hm hp hb => congrArg _ ((rxFrameDeliver_pattern hm hp).trans (if_pos hb))
  case defaultWritten =>
    exact fun _ _ _ _ _ hm hp hs hl hb hn => congrArg _ ((rxFrameDeliver_default hm hp hs).trans (rxDeliver_written hl hb hn))
  case defaultOff =>
    exact fun _ _ _ _ _ hm hp hs hl => congrArg _ ((rxFrameDeliver_default hm hp hs).trans (rxDeliver_off (.inl hl)))
  case byPattern =>
    exact fun _ _ _ _ _ _ hm hp hb => congrArg _ ((rxFrameDeliver_pattern hm hp).trans (if_neg (ne_true_of_eq_false hb)))
  case bySteer => exact fun _ _ _ _ _ _ hm hp hs => congrArg _ (rxFrameDeliver_steer hm hp hs)
  case written => exact fun _ _ _ _ _ _ _ hl hb hn => rxDeliver_written hl hb hn
  case dry => exact fun _ _ _ _ _ _ _ hl hb hn => rxDeliver_dry hl hb hn
  case off => exact fun _ _ _ _ _ _ _ h => rxDeliver_off h
  case txHands =>
    intro r n len ds bs descs l s hd hh hr hf
    refine congrArg _ ((txFrameFetch_ready hd hh hr).trans ?_)
    simp only [txLook, hf]
  case txStops =>
    intro r code i ds data descs l s hd hh hr hf
    refine congrArg _ ((txFrameFetch_ready hd hh hr).trans ?_)
    simp only [txLook, hf, txStop]
  case txFails =>
    rintro r _ data descs l s hd hh hr (rfl | rfl) <;> exact congrArg _ (txFrameFetch_ready hd hh hr)
  case rxReadFails =>
    intro r timeout s hr hl h16
    rw [exec_hostReadFail hr hl, if_neg (Nat.not_le.2 h16)]
  case txReadFails =>
    intro r timeout s hr hl h16
    rw [exec_hostReadFail hr hl, if_pos h16]
  case steerWrite =>
    exact fun _ _ _ hu hi hc => congrArg _ (filterWrite_marks (pat := false) hu (by omega) (filterPlace_steer hi) hc)
  case patternWrite =>
    exact fun _ _ _ hu hi hc => congrArg _ (filterWrite_marks (pat := true) hu (by omega) (filterPlace_pattern hi) hc)
  case steerCommit => exact fun _ _ hi hc => filterCommits_steer hi hc
  case patternCommit => exact fun _ _ hc => filterCommits_pattern hc
  case fold =>
    exact fun _ _ _ hr hn hu hb => need_next_of_pos (by simp [hr, hn]) (by rw [hu, hb]; rfl) ..

end Sys2Proof.Machine

/-! Which command a step runs, and what no command changes: the queue, and the life cycle backwards (R443; log entry 2). -/

namespace Sys2Proof.Machine

/-- A boundary leaves the queue, and takes the life cycle nowhere back, while the beat runs and while it is stopped. -/
theorem exec_beatBoundary_leaves (inp : BeatInput) {s t : State} (h : exec (.beatBoundary inp) s = .next t) :
    t.pending = s.pending ∧ s.trust.lc ≤ t.trust.lc := by
  cases hr : beatRuns s with
  | true =>
    obtain ⟨_, queue, lifeCycle, _⟩ := beatBoundary_step inp s
    cases (exec_beatBoundary_runs inp hr).symm.trans h
    exact ⟨queue, lifeCycle⟩
  | false =>
    obtain ⟨u, e, m⟩ := exec_beatBoundary_stopped inp hr
    cases e.symm.trans h
    exact ⟨m.pending, m.lc⟩

/-- What every command leaves of the queue and the life cycle: a reset keeps both, and any other command changes the state
mildly. -/
theorem exec_leaves {i : Instr} {s t : State} (h : exec i s = .next t) :
    t.pending = s.pending ∧ s.trust.lc ≤ t.trust.lc := by
  by_cases hb : ∃ inp, i = .beatBoundary inp
  · obtain ⟨inp, rfl⟩ := hb
    exact exec_beatBoundary_leaves inp h
  · rcases exec_mild_or_wiped (fun inp e => hb ⟨inp, e⟩) h with m | ⟨w, -⟩
    · exact ⟨m.pending, m.lc⟩
    · exact ⟨w.pending, Nat.le_of_eq w.lc.symm⟩

/-- Settles O6: no command, a boundary and a reset included, takes the life cycle back. -/
theorem lifeCycleNeverGoesBack : Obligations.LifeCycleNeverGoesBack := fun _ _ _ h => (exec_leaves h).2

/-- Settles O5: every command leaves the queue. -/
theorem execLeavesQueue : Obligations.ExecLeavesQueue := fun _ _ _ h => (exec_leaves h).1

/-- Settles O1: by the two equations of `step`. -/
theorem stepRunsFrontOfQueue : Obligations.StepRunsFrontOfQueue := ⟨fun _ _ _ h => step_cons h, fun _ h => step_nil h⟩

end Sys2Proof.Machine

/-! Acceptance and refusal of the mailbox commands, by their own rows and by COMMAND_ACCEPT (R406 to R410, R425). -/

namespace Sys2Proof.Machine

/-- COMMAND_ACCEPT takes up a ready command as the command's own row does. -/
theorem commandAccept_ready {op : Nat} {sp : CmdSpec} {m : Nat} {s : State} {c : Cmd} (k : specOf op = some sp)
    (h : ready op sp m s c = true) (a : HostAnswer) : exec (.commandAccept m a) s = acceptAs op sp m a s := by
  obtain ⟨hm, waits, rfl, serves, elig, _, _⟩ := ready_iff h
  refine (need_of (decide_eq_true hm) ..).trans (Eq.trans ?_ (need_of (decide_eq_true hm) ..).symm)
  simp only [acceptAny, waits, serves, elig, k, beq_self_eq_true, Bool.and_self, if_true]

/-- A ready command's row and COMMAND_ACCEPT answer alike. -/
theorem exec_ready {r : CommandRow} (hr : isCommand r) {m : Nat} {s : State} {c : Cmd} (h : ready r.2.1 r.2.2 m s c = true)
    {a : HostAnswer} {o : Outc} (k : acceptAs r.2.1 r.2.2 m a s = o) :
    exec (r.1 m a) s = o ∧ exec (.commandAccept m a) s = o := by
  obtain ⟨row, index⟩ := isCommand_fits hr
  exact ⟨(row ..).trans k, (commandAccept_ready index h a).trans k⟩

/-- An answer leaves the mailbox registers. -/
@[simp] theorem answer_box (order status detail : Nat) (payload : Bytes) (s : State) (m : Nat) :
    (answer order status detail payload s).box m = s.box m := by
  unfold answer; split <;> rfl

/-- Acceptance shows its beat in MBX_ACCEPT_BEAT (R408). -/
theorem afterAccept_box (c : Cmd) (t : State) (reply : Option (Nat × Bytes)) :
    (afterAccept c t reply).box c.m = { t.box c.m with accept := t.beat % 2 ^ 32 } := by
  have marked : (markAccepted c t).box c.m = { t.box c.m with accept := t.beat % 2 ^ 32 } := box_modBox_self ..
  cases reply with
  | none => exact marked
  | some r => exact (answer_box ..).trans marked

/-- Settles O10: the row and COMMAND_ACCEPT both run the checks of the opcode index. -/
theorem mailboxCommandTaken : Obligations.MailboxCommandTaken := by
  intro r hr m a s t c reply h k
  obtain ⟨row, accept⟩ := exec_ready hr h (acceptAs_ready h k)
  exact ⟨row, accept, afterAccept_box c t reply⟩

theorem commandAccept_empty {m : Nat} {s : State} (hm : m < 16) (h : waitingIn s m = none) (a : HostAnswer) :
    exec (.commandAccept m a) s = .next s := by
  refine (need_of (decide_eq_true hm) ..).trans (congrArg _ ?_)
  simp only [acceptAny, h]

/-- A command with a good header and an opcode of no row is refused as unknown (R410, R413). -/
theorem commandAccept_unknown {m : Nat} {s : State} {c : Cmd} (hm : m < 16) (waits : waitingIn s m = some c)
    (unknown : specOf c.op = none) (serves : serving s = true) (elig : eligible s c = true) (good : headerFault s m none = 0)
    (a : HostAnswer) : exec (.commandAccept m a) s = .next (answer c.order 2 0 [] (protocol m 5 0 s)) := by
  obtain ⟨rfl, -⟩ := waitingIn_m waits
  refine (need_of (decide_eq_true hm) ..).trans (congrArg _ ?_)
  have decision : decideCmd s c none a = .refuse 2 0 := by simp [decideCmd, good]
  simp only [acceptAny, waits, serves, elig, unknown, Bool.and_self, if_true, takeUp, decision]
  rfl

/-- Settles O11: what refuses is the row's own check, an empty mailbox, or the index. -/
theorem mailboxCommandRefused : Obligations.MailboxCommandRefused := by
  refine ⟨?refused, ?refusedWith, ?empty, ?unknown⟩
  case refused => exact fun _ hr _ _ _ _ _ _ h k => exec_ready hr h (acceptAs_refused h k)
  case refusedWith => exact fun _ hr _ _ _ _ _ _ h k => exec_ready hr h (acceptAs_refusedWith h k)
  case empty =>
    intro r hr m a s hm hw
    obtain ⟨row, -⟩ := isCommand_fits hr
    exact ⟨(row ..).trans (acceptAs_empty hm hw), commandAccept_empty hm hw a⟩
  case unknown => exact fun _ a _ _ hm hw hu hs he hg => commandAccept_unknown hm hw hu hs he hg a

end Sys2Proof.Machine

/-! What a mailbox command that passes its checks does: the SYS and DIAG services. -/

namespace Sys2Proof.Machine

/-- Settles O12: EVENT_RING takes effect at acceptance (log entry 48), and RESET of the core asks for its key. -/
theorem systemCommands : Obligations.SystemCommands := by
  refine ⟨?eventRing, ?eventMask, ?info, ?status, ?restart, ?coreReset, ?bootLog⟩
  case eventRing =>
    exact fun _ _ _ _ _ hr e ha hn => acceptAs_run hr e (checks_ok (by simpa [ha] using hn))
  case eventMask => exact fun _ _ _ _ _ hr e => acceptAs_run hr e rfl
  case info => exact fun _ _ _ _ _ hr e => acceptAs_run hr e rfl
  case status => exact fun _ _ _ _ _ hr e => acceptAs_run hr e rfl
  case restart => exact fun _ _ _ _ _ hr e hl => acceptAs_run hr e (if_pos (by simp [hl]))
  case coreReset =>
    exact fun _ _ _ _ _ hr e hl hk hs => acceptAs_run hr e ((if_neg (by simp [hl])).trans ((if_pos (by simp [hl])).trans
      ((require_ok (by simp [hk])).trans (require_not hs))))
  case bootLog => exact fun _ _ _ _ _ hr e he => acceptAs_run hr e (hostReady_ok he)

/-- DIAG.PROTO_LOG answers the log as it stood before it was cleared (R423). -/
theorem diagProtoLog_run {c : Cmd} {p : Bytes} {h : HostAnswer} {s : State} :
    diagProtoLogSpec.run c p h s = replyNow
      (if bit (rd p 0 1) 0 then s.modMbx fun b => { b with log := [], logCount := 0 } else s)
      (le 4 s.mbx.logCount ++ s.mbx.log.flatMap protoBytes) := rfl

/-- Settles O28: of the three only DELAY checks a field. -/
theorem diagnosticCommands : Obligations.DiagnosticCommands := by
  refine ⟨?echo, ?delay, ?protoLog, ?protoLogClear⟩
  case echo => exact fun _ _ _ _ _ hr e => acceptAs_run hr e rfl
  case delay => exact fun _ _ _ _ _ hr e hl hu => acceptAs_run hr e (checks_ok (by simp [hl, hu]))
  case protoLog => exact fun _ _ _ _ _ hr e hb => acceptAs_run hr e (diagProtoLog_run.trans (by rw [hb]; rfl))
  case protoLogClear => exact fun _ _ _ _ _ hr e hb => acceptAs_run hr e (diagProtoLog_run.trans (by rw [hb]; rfl))

end Sys2Proof.Machine

/-! What a mailbox command that passes its checks does: the FW service (R434 to R440, R493). -/

namespace Sys2Proof.Machine

section
variable {s : State} {c : Cmd} {p bs : Bytes} {h : HostAnswer}

/-- The other slot is in a state in which FW.STAGE loads a chunk (R438). -/
theorem stageable (hs : s.fw.st = 0 ∨ s.fw.st = 1 ∨ s.fw.st = 4) : (s.fw.st == 0 || s.fw.st == 1 || s.fw.st == 4) = true := by
  rcases hs with hs | hs | hs <;> simp [hs]

/-- FW.STAGE of the next chunk, its bytes read from host memory (R438, R439). -/
theorem fwStage_run (hs : s.fw.st = 0 ∨ s.fw.st = 1 ∨ s.fw.st = 4) (ho : rd p 0 4 = nextChunk s) (hl : 1 ≤ rd p 4 4)
    (hu : rd p 4 4 ≤ 1048576) (he : rd p 0 4 + rd p 4 4 ≤ 3145728) (hb : bmeOf s 0 = true) :
    fwStageSpec.run c p (.data bs) s =
      let got := (if s.fw.st = 1 then s.fw.staged else []) ++ part bs 0 (rd p 4 4)
      let done := bit (rd p 16 1) 0
      replyNow (s.modFw fun f => { f with
        st := if done then 2 else 1, staged := if done then [] else got, other := if done then got else []
        flashed := 0, checkDue := false }) [] :=
  (require_ok (stageable hs)).trans ((checks_ok (by rw [ho] at he; simp [ho, hl, hu, he])).trans (withHost_ok hb))

/-- FW.VERIFY of an image whose header gives the number of bytes staged (R435, R448; log entry 152). -/
theorem fwVerify_run (hs : s.fw.st = 2) (hl : imageLen s.fw.other = s.fw.other.length) :
    fwVerifySpec.run c p h s = .accept
      (if imageFault s s.fw.other = 0 then s.modFw fun f => { f with st := 3 }
        else s.modFw fun f => { f with st := 0, other := [] })
      (if imageFault s s.fw.other = 0 then some (0, le 1 0 ++ le 1 (b2n (stateFormatOk s s.fw.other)))
        else some (0x0202, le 1 (imageFault s s.fw.other) ++ le 1 0)) := by
  refine (require_ok (by simp [hs])).trans ?_
  by_cases hf : imageFault s s.fw.other = 0
  · simp [hl, hf, replyNow]
  · simp [hl, hf]

/-- FW.ACTIVATE's first two checks: the other slot is WRITTEN and above the version floor (R436, R440). -/
theorem fwActivate_run (hs : s.fw.st = 4) (hr : inRecovery s = false) (hv : s.trust.floor ≤ rd s.fw.other 6 1) :
    fwActivateSpec.run c p h s =
      if bit (rd p 0 1) 1 then replyNow (writeDesc (otherSlot s) s) (activateBytes s 0)
      else require (stateFormatOk s s.fw.other) 0x0204
        (if rolling s && s.ledger.roll.handed then
          replyLater (s.modLedger fun l => { l with
            roll := { l.roll with waiting := l.roll.waiting ++ [2 * c.order + b2n (bit (rd p 0 1) 0)] } })
         else replyLater (startHandover c.order (bit (rd p 0 1) 0) s)) :=
  (require_ok (by simp [hs])).trans ((require_ok (decide_eq_true hv)).trans (if_neg (by simp [hr])))

/-- FW.ACTIVATE on the boot ROM takes a VERIFIED image too (R493). -/
theorem fwActivate_run_recovery (hs : s.fw.st = 3 ∨ s.fw.st = 4) (hr : inRecovery s = true)
    (hv : s.trust.floor ≤ rd s.fw.other 6 1) : fwActivateSpec.run c p h s = activateRecovery s := by
  have held : (s.fw.st == 4 || (inRecovery s && s.fw.st == 3)) = true := by rcases hs with hs | hs <;> simp [hs, hr]
  exact (require_ok held).trans ((require_ok (decide_eq_true hv)).trans (if_pos hr))

theorem modFw_congr {f g : Fw → Fw} {s : State} (h : f s.fw = g s.fw) : s.modFw f = s.modFw g :=
  congrArg (fun x => { s with fw := x }) h

end

/-- Settles O13: the other slot is in a state that the command asks for (R438). -/
theorem firmwareCommands : Obligations.FirmwareCommands := by
  refine ⟨?status, ?stage, ?stageLast, ?verify, ?activateNext, ?activate, ?activateWaits, ?activateRecovery, ?abort,
    ?abortErases⟩
  case status => exact fun _ _ _ _ _ hr e => acceptAs_run hr e rfl
  case stage =>
    exact fun _ _ _ _ _ hr e hs ho hl hu hn hk he =>
      acceptAs_run hr e ((fwStage_run hs ho hl hu hn he).trans (by rw [hk]; rfl))
  case stageLast =>
    exact fun _ _ _ _ _ hr e hs ho hl hu hn hk he =>
      acceptAs_run hr e ((fwStage_run hs ho hl hu hn he).trans (by rw [hk]; rfl))
  case verify => exact fun _ _ _ _ _ hr e hs hl => acceptAs_run hr e (fwVerify_run hs hl)
  case activateNext =>
    exact fun _ _ _ _ _ hr e hs hn hv hb => acceptAs_run hr e ((fwActivate_run hs hn hv).trans (if_pos hb))
  case activate =>
    exact fun _ _ _ _ _ hr e hs hn hv hb hf hw => acceptAs_run hr e ((fwActivate_run hs hn hv).trans
      ((if_neg (by simp [hb])).trans ((require_ok hf).trans (if_neg (by simp [hw])))))
  case activateWaits =>
    exact fun _ _ _ _ _ hr e hs hn hv hb hf hw => acceptAs_run hr e ((fwActivate_run hs hn hv).trans
      ((if_neg (by simp [hb])).trans ((require_ok hf).trans (if_pos hw))))
  case activateRecovery =>
    exact fun _ _ _ _ _ hr e hs hn hv => acceptAs_run hr e (fwActivate_run_recovery hs hn hv)
  case abort =>
    intro m h s c p hr e hs
    have early : ¬ 3 ≤ s.fw.st := by omega
    refine acceptAs_run hr e ((require_ok (by rcases hs with hs | hs <;> simp [hs])).trans ?_)
    exact congrArg (replyNow · []) (modFw_congr (by rw [if_neg early]))
  case abortErases =>
    intro m h s c p hr e hs
    refine acceptAs_run hr e ((require_ok (bne_iff_ne.2 (by omega))).trans ?_)
    exact congrArg (replyNow · []) (modFw_congr (by rw [if_pos hs]))

end Sys2Proof.Machine

/-! What the commands of the TRUST service do, and the rule of LC_ADVANCE (R426 to R431, R443, R445, R446). -/

namespace Sys2Proof.Machine

section
variable {s : State} {c : Cmd} {p bs : Bytes} {m : Nat} {h : HostAnswer}

/-- TRUST.IDENTITY may write the certificate to host memory first (Table 15.14). -/
theorem trustIdentity_run (hb : bit (rd p 0 1) 0 = false ∨ bmeOf s 0 = true) :
    trustIdentitySpec.run c p h s =
      replyNow (if bit (rd p 0 1) 0 then hostWrite 0 (rd p 8 8) (ownCert s) s else s)
        (ownRecord s ++ le 4 (ownCert s).length) := by
  cases k : bit (rd p 0 1) 0 with
  | false => exact (if_neg (by simp [k])).trans rfl
  | true =>
    rcases hb with hb | hb
    · exact absurd (k.symm.trans hb) (by decide)
    · exact (if_pos k).trans ((hostReady_ok hb).trans rfl)

/-- Phase 1 of TRUST.PROVISION, GENERATE, is for a device in BLANK (R430). -/
theorem trustProvision_generates (hs : s.trust.lc = 0) (h1 : rd p 0 1 = 1) :
    trustProvisionSpec.run c p h s = trustGenerate s :=
  (checks_ok (by simp [h1])).trans ((require_ok (by simp [hs, h1])).trans (if_pos (by simp [h1])))

/-- Phase 2, INSTALL, asks for seeds that GENERATE took (R430). -/
theorem trustProvision_installs (hs : s.trust.lc = 0) (h2 : rd p 0 1 = 2) (hl : rd p 4 4 = 7984) (hk : s.trust.heldSeeds ≠ []) :
    trustProvisionSpec.run c p h s = trustInstall h s :=
  (checks_ok (by simp [h2, hl])).trans ((require_ok (by simp [hs, h2, hk])).trans (if_neg (by simp [h2])))

/-- A certificate that checks is installed (R430). -/
theorem trustInstall_ok (he : bmeOf s 0 = true) (hf : certFault (part bs 0 7984) (publicOf s.trust.heldSeeds) = 0) :
    trustInstall (.data bs) s = replyNow (lcStep 1 (s.modTrust fun t => { t with
      seeds := t.heldSeeds, heldSeeds := [], cert := part bs 0 7984, certDue := true, session := false })) (le 1 0) :=
  (withHost_ok he).trans (if_neg (by simp [hf]))

/-- One that does not is refused with the number of its first failed check (R406, R430). -/
theorem trustInstall_bad (he : bmeOf s 0 = true) (hf : certFault (part bs 0 7984) (publicOf s.trust.heldSeeds) ≠ 0) :
    trustInstall (.data bs) s = .refuseWith 0x0302 (le 1 (certFault (part bs 0 7984) (publicOf s.trust.heldSeeds))) :=
  (withHost_ok he).trans (if_pos (bne_iff_ne.2 hf))

/-- A condition that fails refuses. -/
theorem require_fails {b : Bool} {n : Nat} {v : Verdict} (hb : b = false) : require b n v = .refuse n 0 := by
  subst hb; rfl

/-- TRUST.LC_ADVANCE from PROVISIONED to FIELD asks for the device's KEY_ID (R446). -/
theorem trustLcAdvance_run (hs : s.trust.lc = 1) (ht : rd p 0 1 = 2) :
    trustLcAdvanceSpec.run c p h s = require (part p 8 8 == deviceKeyId s) stTrustConfirm
      (replyNow (lcStep 2 (s.modTrust fun t => { t with tokenOpen := false, session := false })) []) :=
  require_ok (by simp [hs, ht])

theorem trustLcAdvance_otherState (hn : ¬ (s.trust.lc = 1 ∧ rd p 0 1 = 2)) :
    trustLcAdvanceSpec.run c p h s = .refuse stTrustState 0 :=
  require_fails (by simpa using hn)

/-- A RETURN token for this device is noted, in FIELD (R445). -/
theorem trustReturn_run (hs : s.trust.lc = 2) (hl : rd p 8 4 = 7984) (he : bmeOf s 0 = true) :
    trustReturnSpec.run c p (.data bs) s = require (tokenOk s 3 (part bs 0 7984)) 0x0303
      (replyNow (s.modTrust fun x => { x with ret := some (sha256 (part bs 0 7984), s.beat) }) []) :=
  (checks_ok (by simp [hl])).trans ((require_ok (by simp [hs])).trans (withHost_ok he))

/-- CONSENT names the noted token (R445). -/
theorem trustConsent_run {b : Nat} (hn : returnNow s = some (part p 0 32, b)) (hl : s.ledger.st = 0) (hs : s.trust.lc = 2) :
    trustConsentSpec.run c p h s = require (part p 32 8 == deviceKeyId s) stTrustConfirm
      (replyNow (lcStep 3 ((s.modLedger fun l => { l with key := [], lastSeal := [] }).modTrust fun x =>
        { x with ret := none })) []) := by
  simp only [trustConsentSpec, hn, hl, hs, beq_self_eq_true, Bool.true_and, Bool.and_self]
  rfl


/-- A ready command whose last check is a condition: accepted where it holds, else refused with its status. -/
theorem acceptAs_require {op status : Nat} {sp : CmdSpec} {a : HostAnswer} {t : State} {out : Bytes} {b : Bool} {q : Prop}
    [Decidable q] (hr : ready op sp m s c = true) (e : p = payload s m) (hq : b = true ↔ q)
    (k : sp.run c p a s = require b status (replyNow t out)) :
    acceptAs op sp m a s = .next (if q then afterAccept c t (some (0, out))
      else answer c.order status 0 [] (refusalViolation m status 0 s)) := by
  by_cases h : q
  · rw [if_pos h]
    exact acceptAs_run hr e (k.trans (require_ok (hq.2 h)))
  · rw [if_neg h]
    subst e
    exact acceptAs_refused hr (k.trans (require_fails (Bool.eq_false_iff.2 (mt hq.1 h))))

end

/-- Settles O14: the last check of ADVANCE, RETURN and CONSENT is the confirmation, that of INSTALL the certificate. -/
theorem trustCommands : Obligations.TrustCommands := by
  refine ⟨?identity, ?identityCert, ?generate, ?install, ?attest, ?lcStatus, ?lcAdvance, ?returns, ?consent⟩
  case identity =>
    exact fun _ _ _ _ _ hr e hb => acceptAs_run hr e ((trustIdentity_run (.inl hb)).trans (by rw [hb]; rfl))
  case identityCert =>
    exact fun _ _ _ _ _ hr e hb he => acceptAs_run hr e ((trustIdentity_run (.inr he)).trans (by rw [hb]; rfl))
  case generate => exact fun _ _ _ _ _ hr e hs h1 => acceptAs_run hr e (trustProvision_generates hs h1)
  case install =>
    intro m bs s c p hr e hs h2 hl hk he
    have run := trustProvision_installs (c := c) (h := .data bs) hs h2 hl hk
    split
    case isTrue hf => exact acceptAs_run hr e (run.trans (trustInstall_ok he hf))
    case isFalse hf =>
      subst e
      exact acceptAs_refusedWith hr (run.trans (trustInstall_bad he hf))
  case attest =>
    exact fun _ _ _ _ _ hr e hs he => acceptAs_run hr e ((require_ok (bne_iff_ne.2 hs)).trans (hostReady_ok he))
  case lcStatus => exact fun _ _ _ _ _ hr e => acceptAs_run hr e rfl
  case lcAdvance => exact fun _ _ _ _ _ hr e hs ht => acceptAs_require hr e beq_iff_eq (trustLcAdvance_run hs ht)
  case returns => exact fun _ _ _ _ _ hr e hs hl he => acceptAs_require hr e Iff.rfl (trustReturn_run hs hl he)
  case consent =>
    intro m a s c p hr e hn hl hs
    obtain ⟨b, hn⟩ := hn
    exact acceptAs_require hr e beq_iff_eq (trustConsent_run hn hl hs)

/-- An answer is kept with its command. -/
theorem onlyChanges_answer (order status detail : Nat) (payload : Bytes) (s : State) :
    onlyChanges [.mbx] s (answer order status detail payload s) := by
  unfold answer
  split
  · exact onlyChanges_refl _ s
  · exact onlyChanges_modMbx _ s

@[simp] theorem answer_trust (order status detail : Nat) (payload : Bytes) (s : State) :
    (answer order status detail payload s).trust = s.trust :=
  onlyChanges_answer order status detail payload s .trust (by decide)

/-- Acceptance is noted in the mailboxes. -/
@[simp] theorem afterAccept_trust (c : Cmd) (t : State) (reply : Option (Nat × Bytes)) :
    (afterAccept c t reply).trust = t.trust := by
  cases reply with
  | none => rfl
  | some r => exact answer_trust ..

@[simp] theorem raiseEvent_trust (code : Nat) (params : Bytes) (s : State) : (raiseEvent code params s).trust = s.trust :=
  onlyChanges_raiseEvent code params s .trust (by decide)

/-- Settles O55: FIELD follows on PROVISIONED with the device's KEY_ID, and a refusal shows no violation. -/
theorem lifeCycleAdvanceRule : Obligations.LifeCycleAdvanceRule := by
  intro m a s c hr
  refine ⟨fun hs ht hk => ?advanced, fun hs ht hk => ?otherKey, fun hn => ?otherState⟩
  case advanced =>
    have run := acceptAs_require hr rfl beq_iff_eq (trustLcAdvance_run (c := c) (h := a) hs ht)
    rw [if_pos hk, lcStep, modTrust_trust, hs] at run
    exact ⟨run, by simp⟩
  case otherKey =>
    have run := acceptAs_require hr rfl beq_iff_eq (trustLcAdvance_run (c := c) (h := a) hs ht)
    rw [if_neg hk] at run
    exact ⟨run, onlyChanges_answer _ _ _ _ s⟩
  case otherState => exact ⟨acceptAs_refused hr (trustLcAdvance_otherState hn), onlyChanges_answer _ _ _ _ s⟩

end Sys2Proof.Machine

/-! What each transaction of the health port answers and writes (R483, R485; log entries 42 and 171). -/

namespace Sys2Proof.Machine

section
variable {s : State}

theorem healthOut_up (h : healthUp s = true) (bs : Bytes) : healthOut bs s = s.modOut fun o => { o with health := bs } := by
  rw [healthOut, h]; rfl

theorem healthOut_down (h : healthUp s = false) (bs : Bytes) : healthOut bs s = s.modOut fun o => { o with health := [] } := by
  rw [healthOut, h]; rfl

/-- A read of a port that is up answers its bytes. -/
theorem next_healthOut {bs bytes : Bytes} (h : healthUp s = true) (e : bs = bytes) :
    (.next (healthOut bs s) : Outc) = .next (s.modOut fun o => { o with health := bytes }) :=
  congrArg _ (e ▸ healthOut_up h bs)

end

/-- Settles O33: each read is `healthOut` of its bytes of the snapshot. -/
theorem healthPortReads : Obligations.HealthPortReads := by
  refine ⟨?version, ?versionDown, ?summary, ?tmax, ?tmaxSensor, ?tmaxNone, ?power, ?meas, ?est, ?flow, ?faults, ?sensor,
    ?extLevel, ?snapshot, ?extWrite, ?extIgnored⟩
  case version => exact fun _ h => next_healthOut h rfl
  case versionDown => exact fun _ h => congrArg _ (healthOut_down h _)
  case summary => exact fun _ h => next_healthOut h rfl
  case tmax => exact fun _ h => next_healthOut h rfl
  case tmaxSensor => exact fun _ _ _ hv h => next_healthOut h (by rw [hv])
  case tmaxNone => exact fun _ hv h => next_healthOut h (by rw [hv])
  case power => exact fun _ h => next_healthOut h rfl
  case meas => exact fun _ h => next_healthOut h rfl
  case est => exact fun _ h => next_healthOut h rfl
  case flow => exact fun _ h => next_healthOut h rfl
  case faults => exact fun _ h => next_healthOut h rfl
  case sensor => exact fun _ _ hi h => (need_of (decide_eq_true hi) ..).trans (next_healthOut h rfl)
  case extLevel => exact fun _ h => next_healthOut h rfl
  case snapshot => exact fun _ => rfl
  case extWrite => exact fun _ _ h hl => next_of_pos (by simp [h, hl]) ..
  case extIgnored => exact fun _ _ hl => next_of_neg (by simp [Nat.not_lt.2 hl]) ..

end Sys2Proof.Machine

/-! What the events of firmware, certificate, return and deep debug do (R430, R438, R441, R444, R445). -/

namespace Sys2Proof.Machine

section
variable {s : State}

theorem flashWriteDone_ok (hs : s.fw.st = 3) (offset : Nat) : flashWriteDone true offset s =
    raiseEvent 0x0201 (le 1 (otherSlot s) ++ zeros 3 ++ le 4 (rd s.fw.other 12 4)) (s.modFw fun f => { f with
      st := 4, slots := f.slots.set (otherSlot s) f.other, flashed := f.other.length }) := by
  simp [flashWriteDone, hs]

theorem flashWriteDone_failed (hs : s.fw.st = 3) (offset : Nat) : flashWriteDone false offset s =
    detect 447 offset 0 [] (raiseEvent 0x0202 (le 1 (otherSlot s) ++ zeros 3 ++ le 4 offset) (s.modFw fun f => { f with
      st := 0, other := [], slots := f.slots.set (otherSlot s) [] })) := by
  simp [flashWriteDone, hs]

/-- A handover step that ends within the window's 180 ms (R441). -/
theorem handoverStep_inTime {us : Nat} (hh : s.fw.hand = true) (ht : s.fw.us + us ≤ 180000) (ok : Bool) :
    handoverStep ok us s =
      if !ok then handoverBack (if s.fw.step = 3 then 3 else 2) s
      else if s.fw.step < 5 then s.modFw fun f => { f with step := f.step + 1, us := s.fw.us + us }
      else handoverDone (s.fw.us + us) s :=
  (if_neg (by simp [hh])).trans (if_neg (Nat.not_lt.2 ht))

/-- The other slot is read and checked while Ittas runs and the slot is free (R438). -/
theorem otherSlotCheck_due (hd : s.fw.checkDue = true) (hs : s.fw.st = 0) (hr : s.boot.ittasRun = true) :
    otherSlotCheck s = s.modFw fun f => { f with
      checkDue := false, st := if imageFault s (slotImage s (otherSlot s)) = 0 then 4 else 0
      other := if imageFault s (slotImage s (otherSlot s)) = 0 then slotImage s (otherSlot s) else [] } := by
  simp [otherSlotCheck, hd, hs, hr]

theorem returnExpire_some {d : Bytes} {b : Nat} (h : s.trust.ret = some (d, b)) :
    returnExpire s = if b + returnBeats ≤ s.beat then s.modTrust fun x => { x with ret := none } else s := by
  rw [returnExpire, h]

/-- In PROVISIONED a token opens Ittas core debug where it is a DEBUG token for this device (R444). -/
theorem exec_debugTokenShift {token : Bytes} (hg : s.boot.pwrgood = true) (hs : s.trust.lc = 1) :
    exec (.debugTokenShift token) s = .next (if tokenOk s 4 token then
      openSessionOf 1 (s.modTrust fun t => { t with tokenOpen := true }) else s) := by
  have guard : (s.boot.pwrgood && s.trust.lc == 1 && tokenOk s 4 token) = tokenOk s 4 token := by simp [hg, hs]
  by_cases ok : tokenOk s 4 token = true
  · rw [if_pos ok]
    exact next_of_pos (guard.trans ok) ..
  · rw [if_neg ok]
    exact next_of_neg (fun k => ok (guard.symm.trans k)) ..

end

/-- Settles O36: with its guard met, each event is its meaning. -/
theorem firmwareAndTrustEvents : Obligations.FirmwareAndTrustEvents := by
  refine ⟨?written, ?writeFails, ?step, ?lastStep, ?stepFails, ?timer, ?otherSlot, ?cert, ?lapses, ?lasts, ?debug, ?token⟩
  case written => exact fun _ _ hs => congrArg _ (flashWriteDone_ok hs _)
  case writeFails => exact fun _ _ hs => congrArg _ (flashWriteDone_failed hs _)
  case step => exact fun _ _ hh ht hn => congrArg _ ((handoverStep_inTime hh ht true).trans (if_pos hn))
  case lastStep => exact fun _ _ hh ht hn => congrArg _ ((handoverStep_inTime hh ht true).trans (if_neg (Nat.not_lt.2 hn)))
  case stepFails => exact fun _ _ hh ht => congrArg _ (handoverStep_inTime hh ht false)
  case timer => exact fun _ hh ht => next_of_pos (by simp [hh, ht]) ..
  case otherSlot => exact fun _ hd hs hr => congrArg _ (otherSlotCheck_due hd hs hr)
  case cert => exact fun _ hd => next_of_pos hd ..
  case lapses => exact fun _ _ _ h hb => congrArg _ ((returnExpire_some h).trans (if_pos hb))
  case lasts => exact fun _ _ _ h hb => congrArg _ ((returnExpire_some h).trans (if_neg (Nat.not_le.2 hb)))
  case debug => exact fun _ _ hk hg ha => need_next_of_pos (by simpa using hk) (by simp [hg, ha]) ..
  case token => exact fun _ _ hg hs => exec_debugTokenShift hg hs

end Sys2Proof.Machine

/-! What the events of the mailbox protocol and of the event ring do (R400 to R405, R408, R412 to R414, R418, R419), and which
events the mask discards (R421). -/

namespace Sys2Proof.Machine

theorem modEvt_congr {f g : Evt → Evt} {s : State} (h : f s.evt = g s.evt) : s.modEvt f = s.modEvt g :=
  congrArg (fun x => { s with evt := x }) h

theorem modBox_congr {m : Nat} {f g : Mbx → Mbx} {s : State} (h : f (s.box m) = g (s.box m)) : modBox m f s = modBox m g s :=
  congrArg (fun x => s.modMbx fun b => { b with box := b.box.put m x }) h

section
variable {m value offset : Nat} {bytes : Bytes} {s : State}

/-- A doorbell on a mailbox that is not BUSY, outside a handover window (R404). -/
theorem doorbell_taken (hb : bit value 0 = true) (hu : hostUp s = true) (hs : (s.box m).st ≠ 1) (hh : s.fw.hand = false) :
    doorbell m value s = (modBox m (fun x => { x with
      st := 1, valid := false, opcode := leOf (request s m 2 2) * 65536 + leOf (request s m 0 2), door := s.beat % 2 ^ 32,
      accept := 0xFFFFFFFF }) s).modMbx fun b => { b with
        next := b.next + 1
        cmds := b.cmds ++ [{ order := b.next, m := m, op := leOf (request s m 0 2), tag := leOf (request s m 2 2)
                             flags := leOf (request s m 8 1), door := s.beat }] } :=
  (if_neg (by simp [hb, hu])).trans ((if_neg (by simp [hs])).trans (if_neg (by simp [modBox, hh])))

/-- A doorbell on a BUSY mailbox is a violation of kind 1 (R405, R413). -/
theorem doorbell_busy (hb : bit value 0 = true) (hu : hostUp s = true) (hs : (s.box m).st = 1) :
    doorbell m value s = protocol m 1 0 (noteDiscard m (markSet (statusReg m) 8
      (modBox m (fun x => { x with overrun := true, overrunCnt := satAdd 32 x.overrunCnt 1 }) s))) :=
  (if_neg (by simp [hb, hu])).trans (if_pos (beq_iff_eq.2 hs))

/-- Bytes within one request area of a mailbox that is not BUSY land (R400). -/
theorem areaWrite_lands (hu : hostUp s = true) (hn : bytes ≠ []) (ha : (offset / 0x1000) % 2 = 0)
    (hl : (offset + bytes.length - 1) / 0x1000 = offset / 0x1000) (hs : (s.box (offset / 0x2000)).st ≠ 1) :
    areaWrite offset bytes s = s.modMbx fun b => { b with area := b.area.writeN offset bytes } := by
  simp [areaWrite, hu, hn, ha, hl, hs]

/-- Bytes for a response area, or across areas, are a violation of kind 3 (R400, R413). -/
theorem areaWrite_outside (hu : hostUp s = true) (hn : bytes ≠ [])
    (ha : (offset / 0x1000) % 2 = 1 ∨ (offset + bytes.length - 1) / 0x1000 ≠ offset / 0x1000) :
    areaWrite offset bytes s = protocol (offset / 0x2000) 3 0 s :=
  (if_neg (by simp [hu, hn])).trans (if_pos (by simpa using ha))

/-- Bytes for the request area of a BUSY mailbox are a violation of kind 2 (R402, R413). -/
theorem areaWrite_busy (hu : hostUp s = true) (hn : bytes ≠ []) (ha : (offset / 0x1000) % 2 = 0)
    (hl : (offset + bytes.length - 1) / 0x1000 = offset / 0x1000) (hs : (s.box (offset / 0x2000)).st = 1) :
    areaWrite offset bytes s = protocol (offset / 0x2000) 2 0 (noteDiscard (offset / 0x2000)
      (markSet (statusReg (offset / 0x2000)) 9 (modBox (offset / 0x2000) (fun x => { x with
        discarded := true, overrunCnt := satAdd 32 x.overrunCnt 1 }) s))) :=
  (if_neg (by simp [hu, hn])).trans ((if_neg (by simp [ha, hl])).trans (if_pos (beq_iff_eq.2 hs)))

theorem exec_mbxDoorbell (hm : m < 16) : exec (.mbxDoorbell m value) s = .next (doorbell m value s) :=
  need_of (decide_eq_true hm) ..

theorem exec_areaWrite (ho : offset + bytes.length ≤ 0x20000) :
    exec (.mailboxAreaWrite offset bytes) s = .next (areaWrite offset bytes s) := need_of (decide_eq_true ho) ..

end

section
variable {e : Event} {l : List Event} {s : State}

theorem hostWrite_evt (pf a : Nat) (bytes : Bytes) (s : State) : (hostWrite pf a bytes s).evt = s.evt := by
  unfold hostWrite; split <;> rfl

theorem irqCause_evt (c : Nat) (s : State) : (irqCause c s).evt = s.evt := rfl

/-- An entry written leaves how far the event at the front has come. -/
theorem putEntry_part (code flags beat : Nat) (params : Bytes) (s : State) :
    (putEntry code flags beat params s).evt.part = s.evt.part := by
  simp only [putEntry, irqCause_evt, modEvt_evt, hostWrite_evt]

/-- EV_SYS_EVENTS_LOST comes first, before the next event is begun (R419). -/
theorem ringStep_lost (hr : ringReady s = true) (hh : s.evt.held = e :: l) (hl : s.evt.lostSince ≠ 0) (hp : s.evt.part = 0) :
    ringStep s = (putEntry 0x0102 0 s.beat (le 4 s.evt.lostSince) s).modEvt fun v => { v with lostSince := 0 } := by
  simp only [ringStep, hr, hh, hp, decide_eq_true hl]
  rfl

/-- Else the next part of the event at the front is written (R418). -/
theorem ringStep_part (hr : ringReady s = true) (hh : s.evt.held = e :: l) (hl : s.evt.lostSince = 0) :
    ringStep s =
      (putEntry e.code (if s.evt.part == 0 then 0 else 1) e.beat (e.params.drop (48 * s.evt.part)) s).modEvt fun v =>
        if s.evt.part + 1 < eventEntries e then { v with part := s.evt.part + 1 } else { v with part := 0, held := l } := by
  simp only [ringStep, hr, hh, hl, Bool.not_true, Bool.false_eq_true, if_false, ne_eq, not_true, decide_false, Bool.false_and]
  exact modEvt_congr (by rw [putEntry_part])

end

section
variable {m status detail : Nat} {payload : Bytes} {c : Cmd} {s : State}

/-- The reply of the command whose turn it is leaves with the command; whether it is posted depends on the guard (R408, R412). -/
theorem responsePost_due (hc : readyReply s m = some c) (hp : c.reply = some (status, detail, payload)) (hs : serving s = true) :
    responsePost m s =
      let t := resetWait c (s.modMbx fun b => { b with cmds := b.cmds.filter fun d => d.order != c.order })
      if c.late then modBox m (fun x => { x with lateCnt := satAdd 32 x.lateCnt 1 }) t
      else postResponse m c.op c.tag c.flags status detail (if c.note then 5 else 0)
        (if c.accepted then c.acceptBeat else allOnes64) payload (drainRing t) := by
  simp only [responsePost, hc, hp, hs]
  rfl

theorem exec_responsePost (hm : m < 16) : exec (.responsePost m) s = .next (responsePost m s) :=
  need_of (decide_eq_true hm) ..

/-- The guard of a BUSY mailbox posts ST_TIMEOUT (R412). -/
theorem guardExpire_due (hc : running s m = some c) (hs : (s.box m).st = 1) (ht : timeCome s (guardEnd (s.box m) c) = true) :
    guardExpire m s = detect (416 + m) c.op 0 [] ((markSet (statusReg m) 10 (modBox m (fun x => { x with guarded := true })
      (postResponse m c.op c.tag c.flags 9 0 (if c.note then 5 else 0) (if c.accepted then c.acceptBeat else allOnes64) []
        s))).modMbx fun b => { b with
          cmds := b.cmds.map fun d => if d.order == c.order then { d with late := true } else d }) := by
  simp only [guardExpire, hc, hs, ht]
  rfl

/-- Clearing RESP_VALID of a mailbox that is DONE makes it IDLE (R404). -/
theorem statusWrite_done {value : Nat} (hu : hostUp s = true) (hv : (s.box m).valid = true) (hs : (s.box m).st = 2)
    (hc : clearsBit s (statusReg m) value 3 = true) : statusWrite m value s = modBox m (fun x => { x with
      valid := false, st := 0
      overrun := x.overrun && !clearsBit s (statusReg m) value 8
      discarded := x.discarded && !clearsBit s (statusReg m) value 9
      guarded := x.guarded && !clearsBit s (statusReg m) value 10 }) s :=
  (if_neg (by simp [hu])).trans (modBox_congr (by simp [hv, hs, hc]))

end

/-- Settles O39: with its operand and guard met, each event does what that branch of its meaning says. -/
theorem mailboxEvents : Obligations.MailboxEvents := by
  refine ⟨?doorbell, ?doorbellBusy, ?lands, ?outside, ?busy, ?part, ?lastPart, ?lost, ?posted, ?late, ?guard, ?cleared,
    ?tail, ?tailPast, ?overrunCnt, ?lateCnt, ?evtLost⟩
  case doorbell =>
    exact fun _ _ _ hm hu hb hs hh => (exec_mbxDoorbell hm).trans (congrArg _ (doorbell_taken hb hu hs hh))
  case doorbellBusy => exact fun _ _ _ hm hu hb hs => (exec_mbxDoorbell hm).trans (congrArg _ (doorbell_busy hb hu hs))
  case lands =>
    intro offset bytes s ho hu hn ha hl hs
    obtain ⟨inside, outside, -⟩ := writtenAt_writeN s.mbx.area offset bytes
    exact ⟨_, (exec_areaWrite ho).trans (congrArg _ (areaWrite_lands hu hn ha hl hs)), inside, outside, rfl⟩
  case outside => exact fun _ _ _ ho hu hn ha => (exec_areaWrite ho).trans (congrArg _ (areaWrite_outside hu hn ha))
  case busy => exact fun _ _ _ ho hu hn ha hl hs => (exec_areaWrite ho).trans (congrArg _ (areaWrite_busy hu hn ha hl hs))
  case part =>
    exact fun _ _ _ hr hh hl hp => congrArg _ ((ringStep_part hr hh hl).trans (modEvt_congr (if_pos hp)))
  case lastPart =>
    exact fun _ _ _ hr hh hl hp => congrArg _ ((ringStep_part hr hh hl).trans (modEvt_congr (if_neg (Nat.not_lt.2 hp))))
  case lost => exact fun _ _ _ hr hh hl hp => congrArg _ (ringStep_lost hr hh hl hp)
  case posted =>
    exact fun _ _ _ _ _ _ hm hc hp hs hl =>
      (exec_responsePost hm).trans (congrArg _ ((responsePost_due hc hp hs).trans (if_neg (by simp [hl]))))
  case late =>
    exact fun _ _ _ _ _ _ hm hc hp hs hl =>
      (exec_responsePost hm).trans (congrArg _ ((responsePost_due hc hp hs).trans (if_pos hl)))
  case guard =>
    exact fun _ _ _ hm hc hs ht => (need_of (decide_eq_true hm) ..).trans (congrArg _ (guardExpire_due hc hs ht))
  case cleared =>
    intro m value s hm hu hv hs hc
    exact ⟨_, (need_of (decide_eq_true hm) ..).trans (congrArg _ (statusWrite_done hu hv hs hc)), rfl,
      fun n hn => box_modBox_ne _ s hn, box_modBox_self ..⟩
  case tail => exact fun _ _ hu hv => congrArg _ ((if_neg (by simp [hu])).trans (if_pos hv))
  case tailPast => exact fun _ _ hu hv => congrArg _ ((if_neg (by simp [hu])).trans (if_neg (Nat.not_le.2 hv)))
  case overrunCnt => exact fun _ _ hm hu => need_next_of_pos (decide_eq_true hm) hu ..
  case lateCnt => exact fun _ _ hm hu => need_next_of_pos (decide_eq_true hm) hu ..
  case evtLost => exact fun _ hu => next_of_pos hu ..

section
variable {code : Nat} {s : State}

/-- A masked event of a service other than SYS is discarded (R421). -/
theorem raiseEvent_masked (hm : bit s.evt.mask (code / 256) = true) (hc : code / 256 ≠ 1) (p : Bytes) :
    raiseEvent code p s = s := by
  simp [raiseEvent, hm, hc]

/-- An event that is not masked is lost in RECOVERY, gathered at a boundary, and else reaches the engine (R420, R421, R493). -/
theorem raiseEvent_unmasked (h : bit s.evt.mask (code / 256) = false ∨ code / 256 = 1) (p : Bytes) :
    raiseEvent code p s =
      if inRecovery s then s
      else if s.evt.gather then s.modEvt fun v => { v with batch := v.batch ++ [{ code := code, beat := s.beat, params := p }] }
      else reachEngine { code := code, beat := s.beat, params := p } s := by
  have passes : (bit s.evt.mask (code / 256) && decide (code / 256 ≠ 1)) = false := by rcases h with h | h <;> simp [h]
  simp only [raiseEvent, passes]
  rfl

theorem bit_zero (i : Nat) : bit 0 i = false := by simp [bit]

theorem reachEngine_held {e : Event} {t : State} (h : eventRoom t.evt.held e = true) :
    reachEngine e t = t.modEvt fun v => { v with held := v.held ++ [e] } := if_pos h

theorem reachEngine_lost {e : Event} {t : State} (h : eventRoom t.evt.held e = false) :
    reachEngine e t = t.modEvt fun v => { v with lost := satAdd 32 v.lost 1, lostSince := v.lostSince + 1 } :=
  if_neg (by simp [h])

/-- The engine does not look at the mask. -/
theorem reachEngine_modMask (e : Event) (n : Nat) (s : State) :
    reachEngine e (s.modEvt fun v => { v with mask := n }) = (reachEngine e s).modEvt fun v => { v with mask := n } := by
  have same : eventRoom (s.modEvt fun v => { v with mask := n }).evt.held e = eventRoom s.evt.held e := rfl
  cases room : eventRoom s.evt.held e with
  | true => rw [reachEngine_held room, reachEngine_held (same.trans room)]; rfl
  | false => rw [reachEngine_lost room, reachEngine_lost (same.trans room)]; rfl

/-- An unmasked event goes the way that it would go with nothing masked (R421). -/
theorem raiseEvent_maskCleared (h : bit s.evt.mask (code / 256) = false ∨ code / 256 = 1) (p : Bytes) :
    raiseEvent code p (s.modEvt fun v => { v with mask := 0 }) = (raiseEvent code p s).modEvt fun v => { v with mask := 0 } := by
  rw [raiseEvent_unmasked h, raiseEvent_unmasked (.inl (bit_zero _))]
  have stage : inRecovery (s.modEvt fun v => { v with mask := 0 }) = inRecovery s := rfl
  rw [stage, modEvt_evt]
  dsimp only
  split
  · rfl
  · split
    · rfl
    · exact reachEngine_modMask ..

end

/-- Settles O56: a masked event is dropped before the engine, and an unmasked one does not meet the mask. -/
theorem maskedEventsAreDiscarded : Obligations.MaskedEventsAreDiscarded := by
  refine ⟨?sets, ?masked, ?unmasked, ?lost, rfl⟩
  case sets => exact fun _ _ _ _ hr => acceptAs_run hr rfl rfl
  case masked => exact fun _ p _ hm hc => raiseEvent_masked hm hc p
  case unmasked =>
    intro code p s h
    rw [raiseEvent_maskCleared h]
    exact ⟨rfl, rfl, rfl⟩
  case lost => exact fun _ _ _ hr hh hl hp => congrArg _ (ringStep_lost hr hh hl hp)

end Sys2Proof.Machine

/-! What power, reset, the boot stages and a restart of Ittas leave (R437, R438, R465, R489 to R495, R512; Table 18.5). -/

namespace Sys2Proof.Machine

theorem modBoot_congr {f g : Boot → Boot} {s : State} (h : f s.boot = g s.boot) : s.modBoot f = s.modBoot g :=
  congrArg (fun x => { s with boot := x }) h

section
variable {s : State}

/-- PERST_N with STRAP[1] clear resets the host interface (R489, R494). -/
theorem perstAssert_hot (hp : s.boot.perstHigh = true) (hg : s.boot.pwrgood = true) (hb : bit s.boot.straps 1 = false) :
    perstAssert s = hotReset (s.modBoot fun b => { b with perstHigh := false }) :=
  (if_neg (by simp [hp, hg])).trans (if_neg (by simp [hb]))

/-- PERST_N with STRAP[1] set resets the core, but for a stopped device and in stage 1 (R489, R494; log entry 187). -/
theorem perstAssert_core (hp : s.boot.perstHigh = true) (hg : s.boot.pwrgood = true) (hb : bit s.boot.straps 1 = true)
    (hs : s.boot.stopped = false) (h1 : s.boot.stage ≠ 1) :
    perstAssert s = coreReset 3 (s.modBoot fun b => { b with perstHigh := false }) :=
  (if_neg (by simp [hp, hg])).trans ((if_pos hb).trans (if_neg (by simp [hs, h1])))

theorem bootStage_one {ms : Nat} (hg : s.boot.pwrgood = true) (hs : s.boot.stage = 1) :
    bootStage ms s = bootLog 1 0 0 0 ((s.modBoot fun b => { b with ms := ms }).modBoot fun b => { b with stage := 2 }) := by
  simp [bootStage, hg, hs]

theorem bootStage_two {ms : Nat} (hg : s.boot.pwrgood = true) (hs : s.boot.stage = 2) :
    bootStage ms s = stageRom (s.modBoot fun b => { b with ms := ms }) := by
  simp [bootStage, hg, hs]

theorem bootStage_three {ms : Nat} (hg : s.boot.pwrgood = true) (hs : s.boot.stage = 3) :
    bootStage ms s = stageIttas (s.modBoot fun b => { b with ms := ms }) := by
  simp [bootStage, hg, hs]

theorem bootStage_four {ms : Nat} (hg : s.boot.pwrgood = true) (hs : s.boot.stage = 4) :
    bootStage ms s = bootLog 4 0 s.fw.slot 0
      ((s.modBoot fun b => { b with ms := ms }).modBoot fun b => { b with stage := 5 }) := by
  simp [bootStage, hg, hs]

theorem bootStage_five {ms : Nat} (hg : s.boot.pwrgood = true) (hs : s.boot.stage = 5) :
    bootStage ms s = stageInit (s.modBoot fun b => { b with ms := ms }) := by
  simp [bootStage, hg, hs]

/-- STRAP[0] asks for RECOVERY (R489, R493). -/
theorem stageRom_strapped (hb : bit s.boot.straps 0 = true) :
    stageRom s = enterRecovery (bootLog 2 0 (preferredSlot s) 0 s) := if_pos hb

@[simp] theorem bootSlot_stage (slot : Nat) (s : State) : (bootSlot slot s).boot.stage = 3 := rfl
@[simp] theorem enterRecovery_stage (s : State) : (enterRecovery s).boot.stage = 15 := rfl

/-- With STRAP[0] clear the first of the two images that passes boots, the preferred one first; else RECOVERY (R437, R493). -/
theorem stageRom_stage (hb : bit s.boot.straps 0 = false) : (stageRom s).boot.stage =
    if imageFault s (slotImage s (preferredSlot s)) = 0 ∨ imageFault s (slotImage s (1 - preferredSlot s)) = 0 then 3
    else 15 := by
  unfold stageRom
  by_cases h0 : imageFault s (slotImage s (preferredSlot s)) = 0
  · simp [hb, h0]
  · by_cases h1 : imageFault s (slotImage s (1 - preferredSlot s)) = 0
    · simp [hb, h0, h1]
    · simp [hb, h0, h1]

/-- With STRAP[2] clear stage 5 makes no auto ports: it ends in READY with WICK armed, and a log entry and an event tell it
(R465, R491). -/
theorem stageInit_ready (hb : bit s.boot.straps 2 = false) : ∃ e : Evt, stageInit s = (bootLog 6 0 s.fw.slot 0
    (((bootLog 5 0 s.fw.slot 0 s).modBoot fun b => { b with stage := 6, dpReady := true, emberCheck := true }).modWick fun w =>
      { w with armed := true, kicked := s.beat })).modEvt fun _ => e := by
  unfold stageInit
  dsimp only
  rw [if_neg (by simp [bootLog, hb])]
  exact raiseEvent_evt ..

/-- A restart that is due, with its response posted where SYS.RESET announced it, and not the fourth automatic one within
600 s (R495). -/
theorem ittasRestart_due {measured : Bool} (hd : s.boot.ittasDue = true) (ht : timeCome s s.boot.dueAt = true)
    (hg : s.boot.pwrgood = true)
    (hr : s.boot.auto = true ∨ (s.mbx.cmds.any fun c => c.reply.isSome && c.op == 0x0112) = false)
    (hn : s.boot.auto = true → (recentRestarts s).length < 3) :
    ittasRestart measured s =
      let u := s.modBoot fun b => { b with autoBeats := if b.auto then s.beat :: recentRestarts s else b.autoBeats }
      if measured then stopIttas u
      else if s.fw.st == 4 && decide (s.trust.floor ≤ rd s.fw.other 6 1) then stopIttas (bootOther u)
      else coreReset 6 u := by
  have due : ¬ (!s.boot.ittasDue || !timeCome s s.boot.dueAt || !s.boot.pwrgood ||
      (!s.boot.auto && (s.mbx.cmds.any fun c => c.reply.isSome && c.op == 0x0112))) = true := by
    rcases hr with hr | hr <;> simp only [hd, ht, hg, hr] <;> simp
  have few : ¬ (s.boot.auto && decide (3 ≤ (recentRestarts s).length)) = true := by simpa using hn
  exact (if_neg due).trans (if_neg few)

/-- An automatic restart is noted with its beat. -/
theorem modBoot_autoBeats (ha : s.boot.auto = true) :
    (s.modBoot fun b => { b with autoBeats := if b.auto then s.beat :: recentRestarts s else b.autoBeats }) =
      s.modBoot fun b => { b with autoBeats := s.beat :: recentRestarts s } := modBoot_congr (by rw [if_pos ha])

/-- One that was asked for is not. -/
theorem modBoot_autoBeats_asked (ha : s.boot.auto = false) :
    (s.modBoot fun b => { b with autoBeats := if b.auto then s.beat :: recentRestarts s else b.autoBeats }) = s :=
  modBoot_congr (g := id) (congrArg (fun l => { s.boot with autoBeats := l }) (if_neg (by simp [ha])))

/-- The fourth automatic restart within 600 s is not made (R495). -/
theorem ittasRestart_fourth {measured : Bool} (hd : s.boot.ittasDue = true) (ht : timeCome s s.boot.dueAt = true)
    (hg : s.boot.pwrgood = true) (ha : s.boot.auto = true) (hn : 3 ≤ (recentRestarts s).length) :
    ittasRestart measured s = s.modBoot fun b => { b with ittasDue := false } :=
  (if_neg (by simp [hd, ht, hg, ha])).trans (if_pos (by simp [ha, hn]))

/-- The state in which Ittas runs again, before the collector and the host are told (R465, R495). -/
def ittasBack (imported : Bool) (s : State) : State :=
  let u := s.modBoot fun b => { b with ittasRun := true, halted := false, restarting := false }
  let v := if imported then u else u.modPorts fun t => t.mapAll fun _ q => { q with accs := [] }
  (causeEnd 433 0 v).modWick fun w => { w with armed := w.armed || v.boot.dpReady, expired := false, kicked := v.beat }

theorem onlyChanges_modSrc (i : Nat) (f : Src → Src) (s : State) : onlyChanges [.fault] s (modSrc i f s) := fun p hp => by
  cases p
  case fault => exact absurd (List.mem_singleton_self _) hp
  all_goals rfl

theorem onlyChanges_post (order kind : Nat) (req data : Bytes) (s : State) :
    onlyChanges [.pend] s (post order kind req data s) := fun p hp => by
  cases p
  case pend => exact absurd (List.mem_singleton_self _) hp
  all_goals rfl

/-- The safe states held for the Ittas sources end, and the clearing of four latches is posted (R466, R495). -/
def restartCleared (s : State) : State :=
  eachDo [433, 434, 435, 436] (fun i s => post 0 0x13428 (le 4 (i + 0x30000)) [] (post 0 0x13424 (le 4 (i + 0x30000)) [] s))
    (eachDo ((List.range 21).map (416 + ·)) (fun i s =>
      if safeHeld s i then modSrc i (fun r => { r with safe := [] }) s else s) s)

theorem ittasRestarted_eq {imported : Bool} (h : s.boot.restarting = true) :
    ittasRestarted imported s =
      let u := restartCleared (ittasBack imported s)
      raiseEvent 0x0107 (le 1 u.boot.haltCause ++ le 1 (b2n imported) ++ le 1 (recentRestarts u).length) u := by
  simp only [ittasRestarted, ittasBack, restartCleared, h, Bool.not_true, Bool.false_eq_true, if_false]

theorem onlyChanges_restartCleared (s : State) : onlyChanges [.fault, .pend] s (restartCleared s) := by
  refine onlyChanges_trans (onlyChanges_eachDo _ _ (fun i u => ?safeState) s) (onlyChanges_eachDo _ _ (fun i u => ?clear) _)
  case safeState =>
    split
    · exact onlyChanges_mono (onlyChanges_modSrc _ _ u) (by decide)
    · exact onlyChanges_refl _ u
  case clear =>
    exact onlyChanges_mono (onlyChanges_trans (onlyChanges_post _ _ _ _ u) (onlyChanges_post _ _ _ _ _)) (by decide)

/-- Neither clearing the faults nor the event touches what a restart has set going again. -/
theorem ittasRestarted_tells {imported : Bool} (h : s.boot.restarting = true) :
    onlyChanges [.fault, .pend, .evt] (ittasBack imported s) (ittasRestarted imported s) := by
  rw [ittasRestarted_eq h]
  exact onlyChanges_trans (onlyChanges_mono (onlyChanges_restartCleared _) (by decide))
    (onlyChanges_mono (onlyChanges_raiseEvent _ _ _) (by decide))

theorem ittasBack_boot (imported : Bool) :
    (ittasBack imported s).boot = { s.boot with ittasRun := true, halted := false, restarting := false } := by
  cases imported <;> rfl

theorem ittasBack_wick (imported : Bool) : (ittasBack imported s).wick = { s.wick with
    armed := s.wick.armed || s.boot.dpReady, expired := false, kicked := s.beat } := by
  cases imported <;> rfl

end

/-- Settles O37: a reset leaves `afterReset`, each stage its own branch, and a restart ends as `ittasBack`. -/
theorem startUpEvents : Obligations.StartUpEvents := by
  refine ⟨?fall, ?rise, ?coreReset, ?hot, ?core, ?deassert, ?one, ?strapped, ?two, ?three, ?four, ?five, ?restart, ?asked,
    ?bootsOther, ?resets, ?fourth, ?done⟩
  case fall =>
    intro s hg
    refine ⟨_, next_of_pos hg .., ?_⟩
    and_intros <;> rfl
  case rise => exact fun _ _ hg => next_of_neg (by simp [hg]) ..
  case coreReset =>
    intro s hd ht hp
    obtain ⟨m, mem⟩ := ledgerToBytes_mem s
    refine ⟨_, next_of_pos (by simp only [hd, ht, hp]; decide) .., ?_⟩
    rw [coreReset, mem]
    and_intros <;> rfl
  case hot => exact fun _ hp hg hb => congrArg Host.Outcome.next (perstAssert_hot hp hg hb)
  case core => exact fun _ hp hg hb hs h1 => congrArg Host.Outcome.next (perstAssert_core hp hg hb hs h1)
  case deassert => exact fun _ => rfl
  case one => exact fun _ _ hg hs => congrArg Host.Outcome.next (bootStage_one hg hs)
  case strapped => exact fun _ _ hg hs hb => congrArg Host.Outcome.next ((bootStage_two hg hs).trans (stageRom_strapped hb))
  case two =>
    intro ms s hg hs hb
    refine ⟨_, rfl, ?_⟩
    rw [bootStage_two hg hs]
    exact stageRom_stage (s := s.modBoot fun b => { b with ms := ms }) hb
  case three => exact fun _ _ hg hs => congrArg Host.Outcome.next (bootStage_three hg hs)
  case four => exact fun _ _ hg hs => congrArg Host.Outcome.next (bootStage_four hg hs)
  case five =>
    intro ms s hg hs hb
    obtain ⟨e, ready⟩ := stageInit_ready (s := s.modBoot fun b => { b with ms := ms }) hb
    refine ⟨_, congrArg Host.Outcome.next ((bootStage_five hg hs).trans ready), ?_⟩
    and_intros <;> rfl
  case restart =>
    intro s hd ht hg ha hn
    refine congrArg Host.Outcome.next ((ittasRestart_due hd ht hg (.inl ha) fun _ => hn).trans ?_)
    rw [modBoot_autoBeats ha]
    rfl
  case asked =>
    intro s hd ht hg ha hr
    have never (k : s.boot.auto = true) : (recentRestarts s).length < 3 := absurd (k.symm.trans ha) (by decide)
    refine congrArg Host.Outcome.next ((ittasRestart_due hd ht hg (.inr hr) never).trans ?_)
    rw [modBoot_autoBeats_asked ha]
    rfl
  case bootsOther =>
    intro s hd ht hg ha hn hs hv
    refine congrArg Host.Outcome.next ((ittasRestart_due hd ht hg (.inl ha) fun _ => hn).trans ?_)
    rw [modBoot_autoBeats ha]
    exact (if_neg Bool.false_ne_true).trans (if_pos (by simp [hs, hv]))
  case resets =>
    intro s hd ht hg ha hn hv
    refine congrArg Host.Outcome.next ((ittasRestart_due hd ht hg (.inl ha) fun _ => hn).trans ?_)
    rw [modBoot_autoBeats ha]
    exact (if_neg Bool.false_ne_true).trans (if_neg (by rcases hv with hv | hv <;> simp [hv]))
  case fourth => exact fun _ _ hd ht hg ha hn => congrArg Host.Outcome.next (ittasRestart_fourth hd ht hg ha hn)
  case done =>
    intro imported s hr
    have tells := ittasRestarted_tells (imported := imported) hr
    have boot := (tells .boot (by decide)).trans (ittasBack_boot imported)
    have wick := (tells .wick (by decide)).trans (ittasBack_wick imported)
    exact ⟨_, rfl, congrArg Boot.ittasRun boot, congrArg Boot.halted boot, congrArg Boot.restarting boot,
      congrArg Wick.expired wick, congrArg Wick.kicked wick⟩

end Sys2Proof.Machine
